-- ==== Sys2Proof/Word.lean ====
section
/-!
DEFINITION. The plain values of the model: bytes, 32-bit register words, table records held as
one bit vector (byte 0 least significant), bit fields of numbers, little-endian byte strings.
-/

namespace Sys2Proof

/-- One byte of a payload. -/
abbrev Byte := BitVec 8

/-- One management register word (R49: every access is one aligned 32-bit word). -/
abbrev Word := BitVec 32

/-- One table entry or truss record of at most 128 bytes. Byte 0 is least significant. -/
abbrev Rec := BitVec 1024

/-- Bits `hi` down to `lo` of `x`. -/
def bits (x hi lo : Nat) : Nat := (x >>> lo) % 2 ^ (hi + 1 - lo)

/-- One bit of `x`. -/
def bit (x k : Nat) : Bool := x.testBit k

/-- The mask of bits `hi` down to `lo`. -/
def maskOf (hi lo : Nat) : Word := BitVec.ofNat 32 ((2 ^ (hi + 1 - lo) - 1) * 2 ^ lo)

/-- A field of a register: the register's offset within its block, and the bit range. -/
structure Fld where
  reg : Nat
  hi : Nat
  lo : Nat
  deriving DecidableEq, Repr

/-- The value of field `f` in the word `w`. -/
def Fld.get (f : Fld) (w : Word) : Nat := bits w.toNat f.hi f.lo

/-- The word `w` with field `f` set to `v` (cut to the field's width). -/
def Fld.set (f : Fld) (w : Word) (v : Nat) : Word :=
  (w &&& ~~~ maskOf f.hi f.lo) ||| ((BitVec.ofNat 32 (v % 2 ^ (f.hi + 1 - f.lo))) <<< f.lo)

/-- The number that a list of bytes spells, least significant byte first. -/
def leNat : List Byte → Nat
  | [] => 0
  | b :: bs => b.toNat + 256 * leNat bs

/-- `v` as `n` bytes, least significant byte first. -/
def leBytes : Nat → Nat → List Byte
  | 0, _ => []
  | n + 1, v => BitVec.ofNat 8 v :: leBytes n (v / 256)

/-- The number that a list of bytes spells, most significant byte first. -/
def beNat (bs : List Byte) : Nat := bs.foldl (fun a b => a * 256 + b.toNat) 0

/-- `v` as `n` bytes, most significant byte first. -/
def beBytes (n v : Nat) : List Byte := (leBytes n v).reverse

/-- The little-endian number in `size` bytes at offset `off` of a byte string; absent bytes read 0. -/
def bytesAt (bs : List Byte) (off size : Nat) : Nat := leNat ((bs.drop off).take size)

/-- The big-endian number in `size` bytes at offset `off` (network order). -/
def beAt (bs : List Byte) (off size : Nat) : Nat := beNat ((bs.drop off).take size)

/-- A byte string cut or padded with zero bytes to `n` bytes. -/
def fitBytes (n : Nat) (bs : List Byte) : List Byte := (bs ++ List.replicate (n - bs.length) 0).take n

/-- The record that a byte string spells. -/
def Rec.ofBytes (bs : List Byte) : Rec := BitVec.ofNat 1024 (leNat bs)

/-- The unsigned number in `size` bytes at byte offset `off`. -/
def Rec.u (r : Rec) (off size : Nat) : Nat := bits r.toNat (8 * (off + size) - 1) (8 * off)

/-- Bits `hi` down to `lo` of the number that starts at byte offset `off`. -/
def Rec.f (r : Rec) (off hi lo : Nat) : Nat := bits r.toNat (8 * off + hi) (8 * off + lo)

/-- The record with `size` bytes at offset `off` replaced by the number `v`. -/
def Rec.put (r : Rec) (off size v : Nat) : Rec :=
  let m : Rec := BitVec.ofNat 1024 (2 ^ (8 * size) - 1)
  (r &&& ~~~ (m <<< (8 * off))) ||| (BitVec.ofNat 1024 (v % 2 ^ (8 * size)) <<< (8 * off))

/-- The record with bits `hi` down to `lo` of the number at byte offset `off` replaced. -/
def Rec.putF (r : Rec) (off hi lo v : Nat) : Rec :=
  let m : Rec := BitVec.ofNat 1024 (2 ^ (hi + 1 - lo) - 1)
  (r &&& ~~~ (m <<< (8 * off + lo))) |||
    (BitVec.ofNat 1024 (v % 2 ^ (hi + 1 - lo)) <<< (8 * off + lo))

/-- The first `n` bytes of a record. -/
def Rec.bytes (r : Rec) (n : Nat) : List Byte := leBytes n r.toNat

/-- `v` read as a two's-complement number of `w` bits. -/
def signed (w v : Nat) : Int := if 2 ^ (w - 1) ≤ v then (v : Int) - 2 ^ w else v

/-- The two's-complement form of `i` in `w` bits. -/
def unsigned (w : Nat) (i : Int) : Nat := (i % (2 ^ w : Int)).toNat

/-- `i` kept within `lo` and `hi`. -/
def clampI (lo hi i : Int) : Int := if i < lo then lo else if hi < i then hi else i

/-- `a` is not after `b` in serial-number order of `w` bits. -/
def serialLe (w a b : Nat) : Bool := ((b + 2 ^ w - a % 2 ^ w) % 2 ^ w) < 2 ^ (w - 1)

/-- The first index below `n` at which `p` holds. -/
def findIdx (p : Nat → Bool) (n : Nat) : Option Nat := (List.range n).find? p

end Sys2Proof
end

