-- ==== Sys2Proof/Machine/RegNames.lean ====
section
/-!
DEFINITION. The register names and bit fields of the manual, block by block (R48, R49): offsets from
the start of the block's copy for the blocks that repeat (SLOT, BATTEN, ETH, T1S, BAR0 of an endpoint), management
addresses for the others.
-/

namespace Sys2Proof

/-! the DEVICE block (02) -/

def DEVICE_ID : Nat := 0x0
def DEVICE_ID_PART : Fld := ⟨DEVICE_ID,31,16⟩
def DEVICE_ID_CODE : Fld := ⟨DEVICE_ID,15,8⟩
def DEVICE_ID_SIL_MAJOR : Fld := ⟨DEVICE_ID,7,4⟩
def DEVICE_ID_SIL_MINOR : Fld := ⟨DEVICE_ID,3,0⟩
def DEVICE_SERIAL_LO : Nat := 0x4
def DEVICE_SERIAL_HI : Nat := 0x8
def DEVICE_FW_VER : Nat := 0xC
def DEVICE_FW_VER_MAJOR : Fld := ⟨DEVICE_FW_VER,31,24⟩
def DEVICE_FW_VER_MINOR : Fld := ⟨DEVICE_FW_VER,23,16⟩
def DEVICE_FW_VER_BUILD : Fld := ⟨DEVICE_FW_VER,15,0⟩
def DEVICE_TRUSS_VER : Nat := 0x10
def DEVICE_MODE : Nat := 0x14
def DEVICE_MODE_ROLE_B : Fld := ⟨DEVICE_MODE,15,12⟩
def DEVICE_MODE_ROLE_A : Fld := ⟨DEVICE_MODE,11,8⟩
def DEVICE_MODE_PSTATE : Fld := ⟨DEVICE_MODE,6,4⟩
def DEVICE_MODE_MODE : Fld := ⟨DEVICE_MODE,2,0⟩
def DEVICE_STREAM_LO : Nat := 0x18
def DEVICE_STREAM_HI : Nat := 0x1C
def DEVICE_SCRATCH : Nat := 0x20
def DEVICE_BUSERR_CNT : Nat := 0x28
def DEVICE_GUARD_CNT : Nat := 0x30
def DEVICE_SNAPMISS_CNT : Nat := 0x34
def DEVICE_DISAGREE_CNT : Nat := 0x38
def DEVICE_BUSERR_ADDR : Nat := 0x2C
def DEVICE_BUSERR_ADDR_CAUSE : Fld := ⟨DEVICE_BUSERR_ADDR,31,28⟩
def DEVICE_BUSERR_ADDR_ADDR : Fld := ⟨DEVICE_BUSERR_ADDR,27,0⟩
def DEVICE_DUMP_CTL : Nat := 0x40
def DEVICE_DUMP_CTL_START : Fld := ⟨DEVICE_DUMP_CTL,31,31⟩
def DEVICE_DUMP_CTL_ABORT : Fld := ⟨DEVICE_DUMP_CTL,30,30⟩
def DEVICE_DUMP_CTL_SCOPE : Fld := ⟨DEVICE_DUMP_CTL,15,0⟩
def DEVICE_DUMP_STAT : Nat := 0x44
def DEVICE_DUMP_STAT_RUNNING : Fld := ⟨DEVICE_DUMP_STAT,31,31⟩
def DEVICE_DUMP_STAT_DONE : Fld := ⟨DEVICE_DUMP_STAT,30,30⟩
def DEVICE_DUMP_STAT_ABORTED : Fld := ⟨DEVICE_DUMP_STAT,29,29⟩
def DEVICE_DUMP_STAT_SECTIONS : Fld := ⟨DEVICE_DUMP_STAT,23,0⟩

/-! the FLUE block (R441) -/

def FLUE_SUMMARY : Nat := 0x10000
def FLUE_SUMMARY_CAUSED : Fld := ⟨FLUE_SUMMARY,27,16⟩
def FLUE_SUMMARY_LIVE : Fld := ⟨FLUE_SUMMARY,11,0⟩
def FLUE_SEL : Nat := 0x10010
def FLUE_SEL_INDEX : Fld := ⟨FLUE_SEL,10,0⟩
def FLUE_SRC_STAT : Nat := 0x10014
def FLUE_SRC_STAT_CLASS : Fld := ⟨FLUE_SRC_STAT,31,30⟩
def FLUE_SRC_STAT_LIVE : Fld := ⟨FLUE_SRC_STAT,29,29⟩
def FLUE_SRC_STAT_CAUSE : Fld := ⟨FLUE_SRC_STAT,28,28⟩
def FLUE_SRC_STAT_RAIL : Fld := ⟨FLUE_SRC_STAT,27,27⟩
def FLUE_SRC_STAT_COUNT : Fld := ⟨FLUE_SRC_STAT,15,0⟩
def FLUE_SRC_FIRST_LO : Nat := 0x10018
def FLUE_SRC_FIRST_HI : Nat := 0x1001C
def FLUE_SRC_LAST_LO : Nat := 0x10020
def FLUE_SRC_LAST_HI : Nat := 0x10024
def FLUE_FORCE : Nat := 0x10030
def FLUE_FORCE_PULSE : Fld := ⟨FLUE_FORCE,31,31⟩
def FLUE_FORCE_RAIL : Fld := ⟨FLUE_FORCE,30,30⟩
def FLUE_FORCE_INDEX : Fld := ⟨FLUE_FORCE,10,0⟩
def FLUE_SAFE_CNT : Nat := 0x10040
def FLUE_LAST_SAFE : Nat := 0x10044
def FLUE_LAST_SAFE_REASON : Fld := ⟨FLUE_LAST_SAFE,31,28⟩
def FLUE_LAST_SAFE_HOLD : Fld := ⟨FLUE_LAST_SAFE,27,24⟩
def FLUE_LAST_SAFE_HOLDS : Fld := ⟨FLUE_LAST_SAFE,23,20⟩
def FLUE_LAST_SAFE_SOURCE : Fld := ⟨FLUE_LAST_SAFE,10,0⟩
def FLUE_LAST_SAFE_TS_LO : Nat := 0x10048
def FLUE_LAST_SAFE_TS_HI : Nat := 0x1004C
def FLUE_ALIVE : Nat := 0x10050
def FLUE_ALIVE_RUNNING : Fld := ⟨FLUE_ALIVE,31,31⟩
def FLUE_ALIVE_P : Fld := ⟨FLUE_ALIVE,1,1⟩
def FLUE_ALIVE_Q : Fld := ⟨FLUE_ALIVE,0,0⟩
def FLUE_CAUSE (k : Nat) : Nat := 0x10100 + 0x4 * k
def FLUE_LIVE (k : Nat) : Nat := 0x10200 + 0x4 * k

/-! the POWER and MODE block (R473) -/

def PWR_STAT : Nat := 0x20000
def PWR_STAT_WARN : Fld := ⟨PWR_STAT,31,31⟩
def PWR_STAT_LOW_SUPPLY : Fld := ⟨PWR_STAT,30,30⟩
def PWR_STAT_WARN_LONG : Fld := ⟨PWR_STAT,29,29⟩
def PWR_STAT_BROWN_N : Fld := ⟨PWR_STAT,28,28⟩
def PWR_STAT_PGOOD : Fld := ⟨PWR_STAT,27,24⟩
def PWR_STAT_PWR_EN : Fld := ⟨PWR_STAT,19,16⟩
def PWR_STAT_CAUSE : Fld := ⟨PWR_STAT,7,0⟩
def PWR_OVERRIDE : Nat := 0x20004
def PWR_OVERRIDE_NO_IDLE : Fld := ⟨PWR_OVERRIDE,2,2⟩
def PWR_OVERRIDE_NO_SLEEP : Fld := ⟨PWR_OVERRIDE,1,1⟩
def PWR_OVERRIDE_HOLD_DVFS : Fld := ⟨PWR_OVERRIDE,0,0⟩
def PWR_DVFS : Nat := 0x20008
def PWR_DVFS_REFUSED : Fld := ⟨PWR_DVFS,31,31⟩
def PWR_DVFS_MIN : Fld := ⟨PWR_DVFS,25,24⟩
def PWR_DVFS_CUR : Fld := ⟨PWR_DVFS,17,16⟩
def PWR_DVFS_REQ : Fld := ⟨PWR_DVFS,9,8⟩
def PWR_AVS : Nat := 0x2000C
def PWR_AVS_VMAX : Fld := ⟨PWR_AVS,25,16⟩
def PWR_AVS_VMIN : Fld := ⟨PWR_AVS,9,0⟩
def PWR_VOLT : Nat := 0x20010
def PWR_VOLT_VOLT_B : Fld := ⟨PWR_VOLT,25,16⟩
def PWR_VOLT_VOLT_A : Fld := ⟨PWR_VOLT,9,0⟩
def PWR_TEMP : Nat := 0x20014
def PWR_TEMP_EAVES : Fld := ⟨PWR_TEMP,23,16⟩
def PWR_TEMP_PLANE_B : Fld := ⟨PWR_TEMP,15,8⟩
def PWR_TEMP_PLANE_A : Fld := ⟨PWR_TEMP,7,0⟩
def PWR_SEQ_REFUSE_CNT : Nat := 0x20018
def PWR_WARN_CNT : Nat := 0x2001C
def PWR_LAST_WARN : Nat := 0x20020
def PWR_AUTH_CNT : Nat := 0x20024
def PWR_PAD_HELD : Nat := 0x20028
def PWR_PAD_HELD_COURSES : Fld := ⟨PWR_PAD_HELD,15,0⟩
def PWR_PAD_RELEASE : Nat := 0x2002C
def PWR_PAD_RELEASE_COURSES : Fld := ⟨PWR_PAD_RELEASE,15,0⟩
def PWR_ALARM_LO : Nat := 0x20040
def PWR_ALARM_HI : Nat := 0x20044
def PWR_ALARM_STAT : Nat := 0x20048
def PWR_ALARM_STAT_FIRED : Fld := ⟨PWR_ALARM_STAT,1,1⟩
def PWR_ALARM_STAT_BUSY : Fld := ⟨PWR_ALARM_STAT,0,0⟩

/-! the TIME block (R406) -/

def TIME_NOW_LO : Nat := 0x30000
def TIME_NOW_HI : Nat := 0x30004
def TIME_BASE_LO : Nat := 0x30008
def TIME_BASE_HI : Nat := 0x3000C
def TIME_STAT : Nat := 0x30010
def TIME_STAT_TQ : Fld := ⟨TIME_STAT,31,30⟩
def TIME_STAT_SRC : Fld := ⟨TIME_STAT,29,28⟩
def TIME_STAT_CAL_VALID : Fld := ⟨TIME_STAT,27,27⟩
def TIME_STAT_UTC_OFFSET : Fld := ⟨TIME_STAT,7,0⟩
def TIME_ERR : Nat := 0x30014
def TIME_FREQ : Nat := 0x30018
def TIME_SLEW : Nat := 0x3001C
def TIME_STEP_SUM_LO : Nat := 0x30020
def TIME_STEP_SUM_HI : Nat := 0x30024
def TIME_LAST_STEP_LO : Nat := 0x30028
def TIME_LAST_STEP_HI : Nat := 0x3002C
def TIME_TICK_LO : Nat := 0x30030
def TIME_TICK_HI : Nat := 0x30034
def TIME_PPS_STATUS : Nat := 0x30040
def TIME_PPS_STATUS_STEPPED : Fld := ⟨TIME_PPS_STATUS,31,31⟩
def TIME_PPS_STATUS_OUT_EN : Fld := ⟨TIME_PPS_STATUS,30,30⟩
def TIME_PPS_STATUS_TQ : Fld := ⟨TIME_PPS_STATUS,29,28⟩
def TIME_PPS_STATUS_SEQ : Fld := ⟨TIME_PPS_STATUS,15,0⟩
def TIME_PPS_STEP_SEQ : Nat := 0x30044
def TIME_PPS_STEP_SEQ_SEQ : Fld := ⟨TIME_PPS_STEP_SEQ,15,0⟩
def TIME_PPS_IN_LO : Nat := 0x30048
def TIME_PPS_IN_HI : Nat := 0x3004C
def TIME_PPS_IN_CNT : Nat := 0x30050
def TIME_PPS_IN_BAD : Nat := 0x30054
def TIME_CAL_SEC_LO : Nat := 0x30060
def TIME_CAL_SEC_HI : Nat := 0x30064
def TIME_CAL_FRAC : Nat := 0x30068
def TIME_CAL_FRAC_FRAC : Fld := ⟨TIME_CAL_FRAC,14,0⟩
def TIME_CAL_TRIM : Nat := 0x3006C
def TIME_CAL_TRIM_PPB : Fld := ⟨TIME_CAL_TRIM,15,0⟩
def TIME_CAL_SETAT_LO : Nat := 0x30070
def TIME_CAL_SETAT_HI : Nat := 0x30074
def TIME_CAL_ERR : Nat := 0x30078
def TIME_CAL_STAT : Nat := 0x3007C
def TIME_CAL_STAT_VALID : Fld := ⟨TIME_CAL_STAT,1,1⟩
def TIME_CAL_STAT_BUSY : Fld := ⟨TIME_CAL_STAT,0,0⟩
def TIME_MOTION0 : Nat := 0x30080
def TIME_MOTION1 : Nat := 0x30084
def TIME_GPTP_OFS : Nat := 0x30090
def TIME_GPTP_PDELAY : Nat := 0x30094

/-! the KILN block (R346) -/

def KILN_LC : Nat := 0x40000
def KILN_LC_STATE : Fld := ⟨KILN_LC,31,28⟩
def KILN_LC_FUSED : Fld := ⟨KILN_LC,7,4⟩
def KILN_LC_REVOKED : Fld := ⟨KILN_LC,3,0⟩
def KILN_LC_CMD : Nat := 0x40004
def KILN_LC_CMD_ARM : Fld := ⟨KILN_LC_CMD,31,31⟩
def KILN_LC_CMD_DISARM : Fld := ⟨KILN_LC_CMD,30,30⟩
def KILN_LC_CMD_TARGET : Fld := ⟨KILN_LC_CMD,27,24⟩
def KILN_LC_CMD_CONFIRM : Fld := ⟨KILN_LC_CMD,15,0⟩
def KILN_LC_STAT : Nat := 0x40008
def KILN_LC_STAT_ARMED : Fld := ⟨KILN_LC_STAT,31,31⟩
def KILN_LC_STAT_TARGET : Fld := ⟨KILN_LC_STAT,27,24⟩
def KILN_LC_STAT_RESULT : Fld := ⟨KILN_LC_STAT,3,0⟩
def KILN_REVOKE : Nat := 0x40010
def KILN_REVOKE_GO : Fld := ⟨KILN_REVOKE,31,31⟩
def KILN_REVOKE_SLOT : Fld := ⟨KILN_REVOKE,1,0⟩
def KILN_PROV_CMD : Nat := 0x40020
def KILN_PROV_CMD_CMD : Fld := ⟨KILN_PROV_CMD,2,0⟩
def KILN_PROV_STAT : Nat := 0x40024
def KILN_PROV_STAT_PENDING : Fld := ⟨KILN_PROV_STAT,31,31⟩
def KILN_PROV_STAT_STATUS : Fld := ⟨KILN_PROV_STAT,3,0⟩
def KILN_PROV_DATA (k : Nat) : Nat := 0x40080 + 0x4 * k
def KILN_SLOT_SEL : Nat := 0x40100
def KILN_SLOT_SEL_HANDLE : Fld := ⟨KILN_SLOT_SEL,9,0⟩
def KILN_SLOT_ATTR : Nat := 0x40104
def KILN_SLOT_ATTR_STATE : Fld := ⟨KILN_SLOT_ATTR,31,28⟩
def KILN_SLOT_ATTR_ALG : Fld := ⟨KILN_SLOT_ATTR,27,26⟩
def KILN_SLOT_ATTR_USAGE : Fld := ⟨KILN_SLOT_ATTR,25,20⟩
def KILN_SLOT_ATTR_KIND : Fld := ⟨KILN_SLOT_ATTR,19,17⟩
def KILN_SLOT_ATTR_INTERNAL : Fld := ⟨KILN_SLOT_ATTR,16,16⟩
def KILN_SLOT_ATTR_TENANT : Fld := ⟨KILN_SLOT_ATTR,11,0⟩
def KILN_DESTROY : Nat := 0x40110
def KILN_DESTROY_GO : Fld := ⟨KILN_DESTROY,31,31⟩
def KILN_DESTROY_HANDLE : Fld := ⟨KILN_DESTROY,9,0⟩
def KILN_TAMPER : Nat := 0x40120
def KILN_TAMPER_LATCHED : Fld := ⟨KILN_TAMPER,31,31⟩
def KILN_TAMPER_SOURCE : Fld := ⟨KILN_TAMPER,20,16⟩

/-! the RIDGE block (R308) -/

def RIDGE_EP_SEL : Nat := 0x80000
def RIDGE_EP_SEL_EP : Fld := ⟨RIDGE_EP_SEL,2,0⟩
def RIDGE_EP_STAT : Nat := 0x80004
def RIDGE_EP_STAT_UP : Fld := ⟨RIDGE_EP_STAT,31,31⟩
def RIDGE_EP_STAT_GROUPED : Fld := ⟨RIDGE_EP_STAT,30,30⟩
def RIDGE_EP_STAT_PARTNER : Fld := ⟨RIDGE_EP_STAT,26,24⟩
def RIDGE_EP_STAT_GEN : Fld := ⟨RIDGE_EP_STAT,7,0⟩
def RIDGE_EP_RESTARTS : Nat := 0x80008
def RIDGE_ERRADDR_LO : Nat := 0x80010
def RIDGE_ERRADDR_HI : Nat := 0x80014
def RIDGE_ERRADDR_HI_CAUSE : Fld := ⟨RIDGE_ERRADDR_HI,31,28⟩
def RIDGE_ERRADDR_HI_EP : Fld := ⟨RIDGE_ERRADDR_HI,26,24⟩
def RIDGE_ERRADDR_HI_CLASS : Fld := ⟨RIDGE_ERRADDR_HI,19,16⟩
def RIDGE_ERRADDR_HI_TENANT : Fld := ⟨RIDGE_ERRADDR_HI,11,0⟩
def RIDGE_ERR_CNT : Nat := 0x80018
def RIDGE_HCRC_CNT : Nat := 0x80020
def RIDGE_CRC_CNT : Nat := 0x80024
def RIDGE_REJECT_CNT : Nat := 0x80028
def RIDGE_DUP_CNT : Nat := 0x8002C
def RIDGE_CLASS_CNT : Nat := 0x80030
def RIDGE_SEMA_SEL : Nat := 0x80040
def RIDGE_SEMA_SEL_INDEX : Fld := ⟨RIDGE_SEMA_SEL,5,0⟩
def RIDGE_SEMA_STAT : Nat := 0x80044
def RIDGE_SEMA_STAT_HELD : Fld := ⟨RIDGE_SEMA_STAT,31,31⟩
def RIDGE_SEMA_STAT_GROUP : Fld := ⟨RIDGE_SEMA_STAT,27,27⟩
def RIDGE_SEMA_STAT_EP : Fld := ⟨RIDGE_SEMA_STAT,26,24⟩
def RIDGE_SEMA_STAT_TENANT : Fld := ⟨RIDGE_SEMA_STAT,11,0⟩

/-! CAN slot registers, offsets from the slot base (R96) -/

def SLOT_CTL : Nat := 0x0
def SLOT_CTL_RESTART : Fld := ⟨SLOT_CTL,31,31⟩
def SLOT_CTL_PERSONALITY : Fld := ⟨SLOT_CTL,27,24⟩
def SLOT_CTL_OPMODE : Fld := ⟨SLOT_CTL,9,8⟩
def SLOT_CTL_ENABLE : Fld := ⟨SLOT_CTL,0,0⟩
def SLOT_STAT : Nat := 0x4
def SLOT_STAT_STATE : Fld := ⟨SLOT_STAT,31,28⟩
def SLOT_STAT_CONF : Fld := ⟨SLOT_STAT,25,24⟩
def SLOT_STAT_ALONE : Fld := ⟨SLOT_STAT,23,23⟩
def SLOT_STAT_WARN : Fld := ⟨SLOT_STAT,22,22⟩
def SLOT_STAT_TX_ACTIVE : Fld := ⟨SLOT_STAT,21,21⟩
def SLOT_STAT_RATE_IDX : Fld := ⟨SLOT_STAT,18,16⟩
def SLOT_STAT_RECOV : Fld := ⟨SLOT_STAT,15,8⟩
def SLOT_STAT_GEN : Fld := ⟨SLOT_STAT,7,0⟩
def SLOT_NBT : Nat := 0x10
def SLOT_NBT_BRP : Fld := ⟨SLOT_NBT,31,24⟩
def SLOT_NBT_SEG1 : Fld := ⟨SLOT_NBT,23,16⟩
def SLOT_NBT_SEG2 : Fld := ⟨SLOT_NBT,14,8⟩
def SLOT_NBT_SJW : Fld := ⟨SLOT_NBT,6,0⟩
def SLOT_DBT : Nat := 0x14
def SLOT_DBT_BRP : Fld := ⟨SLOT_DBT,31,24⟩
def SLOT_DBT_SEG1 : Fld := ⟨SLOT_DBT,23,16⟩
def SLOT_DBT_SEG2 : Fld := ⟨SLOT_DBT,14,8⟩
def SLOT_DBT_SJW : Fld := ⟨SLOT_DBT,6,0⟩
def SLOT_XBT : Nat := 0x1C
def SLOT_XBT_BRP : Fld := ⟨SLOT_XBT,31,24⟩
def SLOT_XBT_SEG1 : Fld := ⟨SLOT_XBT,23,16⟩
def SLOT_XBT_SEG2 : Fld := ⟨SLOT_XBT,14,8⟩
def SLOT_XBT_SJW : Fld := ⟨SLOT_XBT,6,0⟩
def SLOT_TDC : Nat := 0x18
def SLOT_TDC_TDC_EN : Fld := ⟨SLOT_TDC,31,31⟩
def SLOT_TDC_TDCV : Fld := ⟨SLOT_TDC,22,16⟩
def SLOT_TDC_TDCO_XL : Fld := ⟨SLOT_TDC,14,8⟩
def SLOT_TDC_TDCO_FD : Fld := ⟨SLOT_TDC,6,0⟩
def SLOT_DETECT : Nat := 0x20
def SLOT_DETECT_ENABLE : Fld := ⟨SLOT_DETECT,31,31⟩
def SLOT_DETECT_DWELL : Fld := ⟨SLOT_DETECT,23,16⟩
def SLOT_DETECT_CAND_MASK : Fld := ⟨SLOT_DETECT,7,0⟩
def SLOT_CAND (k : Nat) : Nat := 0x40 + 0x4 * k
def SLOT_FILT : Nat := 0x24
def SLOT_FILT_BASE : Fld := ⟨SLOT_FILT,31,16⟩
def SLOT_FILT_COUNT : Fld := ⟨SLOT_FILT,12,0⟩
def SLOT_FE_IDX : Nat := 0x28
def SLOT_FE_IDX_WRITE : Fld := ⟨SLOT_FE_IDX,31,31⟩
def SLOT_FE_IDX_READ : Fld := ⟨SLOT_FE_IDX,30,30⟩
def SLOT_FE_IDX_FE_ERR : Fld := ⟨SLOT_FE_IDX,29,29⟩
def SLOT_FE_IDX_IDX : Fld := ⟨SLOT_FE_IDX,11,0⟩
def SLOT_FE_DATA (k : Nat) : Nat := 0x30 + 0x4 * k
def SLOT_RXMB_SEL : Nat := 0x100
def SLOT_RXMB_SEL_MB : Fld := ⟨SLOT_RXMB_SEL,5,0⟩
def SLOT_RXMB_NEW_LO : Nat := 0x104
def SLOT_RXMB_NEW_HI : Nat := 0x108
def SLOT_TX_CFG : Nat := 0x8
def SLOT_TX_CFG_REPLACE_EN : Fld := ⟨SLOT_TX_CFG,31,31⟩
def SLOT_TX_CFG_PAD : Fld := ⟨SLOT_TX_CFG,23,16⟩
def SLOT_TX_CFG_RETRY_LIMIT : Fld := ⟨SLOT_TX_CFG,4,0⟩
def SLOT_TX_CANCEL : Nat := 0xC
def SLOT_TX_PEND : Nat := 0x88
def SLOT_TXLAST : Nat := 0x8C
def SLOT_TXLAST_CAUSE : Fld := ⟨SLOT_TXLAST,31,29⟩
def SLOT_TXLAST_ID : Fld := ⟨SLOT_TXLAST,28,0⟩
def SLOT_ERRCNT : Nat := 0x80
def SLOT_ERRCNT_TEC : Fld := ⟨SLOT_ERRCNT,24,16⟩
def SLOT_ERRCNT_REC : Fld := ⟨SLOT_ERRCNT,7,0⟩
def SLOT_ERRFLAG : Nat := 0x84
def SLOT_ERRFLAG_TIMING : Fld := ⟨SLOT_ERRFLAG,11,11⟩
def SLOT_ERRFLAG_RATE : Fld := ⟨SLOT_ERRFLAG,10,10⟩
def SLOT_ERRFLAG_ALONE : Fld := ⟨SLOT_ERRFLAG,9,9⟩
def SLOT_ERRFLAG_BUSOFF : Fld := ⟨SLOT_ERRFLAG,8,8⟩
def SLOT_ERRFLAG_PASSIVE : Fld := ⟨SLOT_ERRFLAG,7,7⟩
def SLOT_ERRFLAG_WARN : Fld := ⟨SLOT_ERRFLAG,6,6⟩
def SLOT_ERRFLAG_PXE : Fld := ⟨SLOT_ERRFLAG,5,5⟩
def SLOT_ERRFLAG_BIT : Fld := ⟨SLOT_ERRFLAG,4,4⟩
def SLOT_ERRFLAG_STUFF : Fld := ⟨SLOT_ERRFLAG,3,3⟩
def SLOT_ERRFLAG_FORM : Fld := ⟨SLOT_ERRFLAG,2,2⟩
def SLOT_ERRFLAG_CRC : Fld := ⟨SLOT_ERRFLAG,1,1⟩
def SLOT_ERRFLAG_ACK : Fld := ⟨SLOT_ERRFLAG,0,0⟩
def SLOT_XL : Nat := 0x2C
def SLOT_XL_PWM_EN : Fld := ⟨SLOT_XL,31,31⟩
def SLOT_XL_PWMO : Fld := ⟨SLOT_XL,21,16⟩
def SLOT_XL_PWML : Fld := ⟨SLOT_XL,13,8⟩
def SLOT_XL_PWMS : Fld := ⟨SLOT_XL,5,0⟩
def SLOT_RX_OK : Nat := 0x90
def SLOT_TX_OK : Nat := 0x94
def SLOT_RX_NOMATCH : Nat := 0x98
def SLOT_RX_REJECT : Nat := 0x9C
def SLOT_TXDROP_RETRY : Nat := 0xA0
def SLOT_TXDROP_AGE : Nat := 0xA4
def SLOT_TXDROP_OVFL : Nat := 0xA8
def SLOT_TXDROP_CANCEL : Nat := 0xAC
def SLOT_TXDROP_OTHER : Nat := 0xB0
def SLOT_BUSOFF_CNT : Nat := 0xB4
def SLOT_PXE_CNT : Nat := 0xB8
def SLOT_DETECT_CNT : Nat := 0xBC
def SLOT_MB_LOCKTO : Nat := 0xC0
def SLOT_MB_STATUS : Nat := 0x200
def SLOT_MB_STATUS_VALID : Fld := ⟨SLOT_MB_STATUS,31,31⟩
def SLOT_MB_STATUS_LOCKED : Fld := ⟨SLOT_MB_STATUS,30,30⟩
def SLOT_MB_STATUS_OVERWRITTEN : Fld := ⟨SLOT_MB_STATUS,29,29⟩
def SLOT_MB_STATUS_SHADOW : Fld := ⟨SLOT_MB_STATUS,28,28⟩
def SLOT_MB_STATUS_TRUNC : Fld := ⟨SLOT_MB_STATUS,27,27⟩
def SLOT_MB_STATUS_MB : Fld := ⟨SLOT_MB_STATUS,21,16⟩
def SLOT_MB_STATUS_LEN : Fld := ⟨SLOT_MB_STATUS,11,0⟩
def SLOT_MB_ID : Nat := 0x204
def SLOT_MB_ID_ID : Fld := ⟨SLOT_MB_ID,28,0⟩
def SLOT_MB_FMT : Nat := 0x208
def SLOT_MB_FMT_IDE : Fld := ⟨SLOT_MB_FMT,31,31⟩
def SLOT_MB_FMT_RMT : Fld := ⟨SLOT_MB_FMT,30,30⟩
def SLOT_MB_FMT_FDF : Fld := ⟨SLOT_MB_FMT,29,29⟩
def SLOT_MB_FMT_XLF : Fld := ⟨SLOT_MB_FMT,28,28⟩
def SLOT_MB_FMT_BRS : Fld := ⟨SLOT_MB_FMT,27,27⟩
def SLOT_MB_FMT_ESI : Fld := ⟨SLOT_MB_FMT,26,26⟩
def SLOT_MB_FMT_SEC : Fld := ⟨SLOT_MB_FMT,25,25⟩
def SLOT_MB_FMT_SDT : Fld := ⟨SLOT_MB_FMT,23,16⟩
def SLOT_MB_FMT_VCID : Fld := ⟨SLOT_MB_FMT,15,8⟩
def SLOT_MB_FMT_DLC : Fld := ⟨SLOT_MB_FMT,3,0⟩
def SLOT_MB_AF : Nat := 0x20C
def SLOT_MB_TS_LO : Nat := 0x210
def SLOT_MB_TS_HI : Nat := 0x214
def SLOT_MB_DATA (k : Nat) : Nat := 0x218 + 0x4 * k

/-! slow-slot registers, offsets from the slot base (05) -/

def SLOT_SB_CFG : Nat := 0x8
def SLOT_SB_CFG_DATABITS : Fld := ⟨SLOT_SB_CFG,31,30⟩
def SLOT_SB_CFG_PARITY : Fld := ⟨SLOT_SB_CFG,29,28⟩
def SLOT_SB_CFG_STOP2 : Fld := ⟨SLOT_SB_CFG,27,27⟩
def SLOT_SB_CFG_CHECK : Fld := ⟨SLOT_SB_CFG,26,24⟩
def SLOT_SB_CFG_BAUD_DIV : Fld := ⟨SLOT_SB_CFG,20,0⟩
def SLOT_SB_FRAME : Nat := 0xC
def SLOT_SB_FRAME_GAP : Fld := ⟨SLOT_SB_FRAME,31,24⟩
def SLOT_SB_FRAME_MAXLEN : Fld := ⟨SLOT_SB_FRAME,23,12⟩
def SLOT_SB_FRAME_BOUNDARY : Fld := ⟨SLOT_SB_FRAME,11,10⟩
def SLOT_SB_FRAME_DELIM : Fld := ⟨SLOT_SB_FRAME,7,0⟩
def SLOT_PK_CTL : Nat := 0x1C
def SLOT_PK_CTL_FLUSH : Fld := ⟨SLOT_PK_CTL,31,31⟩
def SLOT_PK_CTL_FLUSH_PEND : Fld := ⟨SLOT_PK_CTL,30,30⟩
def SLOT_PK_COUNT : Nat := 0x20
def SLOT_PK_COUNT_LEVEL : Fld := ⟨SLOT_PK_COUNT,4,0⟩
def SLOT_LIN_CFG : Nat := 0x10
def SLOT_LIN_CFG_COMMANDER : Fld := ⟨SLOT_LIN_CFG,31,31⟩
def SLOT_LIN_CFG_BREAK_LEN : Fld := ⟨SLOT_LIN_CFG,12,8⟩
def SLOT_LIN_CFG_BDEL_LEN : Fld := ⟨SLOT_LIN_CFG,2,0⟩
def SLOT_LIN_SCHED : Nat := 0x14
def SLOT_LIN_SCHED_GOSLEEP : Fld := ⟨SLOT_LIN_SCHED,31,31⟩
def SLOT_LIN_SCHED_WAKE : Fld := ⟨SLOT_LIN_SCHED,30,30⟩
def SLOT_LIN_SCHED_ASLEEP : Fld := ⟨SLOT_LIN_SCHED,29,29⟩
def SLOT_LIN_SCHED_REQ : Fld := ⟨SLOT_LIN_SCHED,23,20⟩
def SLOT_LIN_SCHED_CUR : Fld := ⟨SLOT_LIN_SCHED,19,16⟩
def SLOT_LIN_SCHED_ENTRY : Fld := ⟨SLOT_LIN_SCHED,15,8⟩
def SLOT_SB_TX : Nat := 0x18
def SLOT_SB_TX_RETRY_LIMIT : Fld := ⟨SLOT_SB_TX,4,0⟩
def SLOT_SB_ERRFLAG : Nat := 0x84
def SLOT_SB_ERRFLAG_TIMING : Fld := ⟨SLOT_SB_ERRFLAG,11,11⟩
def SLOT_SB_ERRFLAG_PACKER : Fld := ⟨SLOT_SB_ERRFLAG,8,8⟩
def SLOT_SB_ERRFLAG_MARKERR : Fld := ⟨SLOT_SB_ERRFLAG,7,7⟩
def SLOT_SB_ERRFLAG_LONG : Fld := ⟨SLOT_SB_ERRFLAG,6,6⟩
def SLOT_SB_ERRFLAG_COLL : Fld := ⟨SLOT_SB_ERRFLAG,5,5⟩
def SLOT_SB_ERRFLAG_NORESP : Fld := ⟨SLOT_SB_ERRFLAG,4,4⟩
def SLOT_SB_ERRFLAG_SYNC : Fld := ⟨SLOT_SB_ERRFLAG,3,3⟩
def SLOT_SB_ERRFLAG_CHECK : Fld := ⟨SLOT_SB_ERRFLAG,2,2⟩
def SLOT_SB_ERRFLAG_PARITY : Fld := ⟨SLOT_SB_ERRFLAG,1,1⟩
def SLOT_SB_ERRFLAG_FRAMING : Fld := ⟨SLOT_SB_ERRFLAG,0,0⟩
def SLOT_SB_RXERR : Nat := 0x9C
def SLOT_SB_COLL : Nat := 0xAC
def SLOT_SB_NORESP : Nat := 0xB4

/-! batten chain registers (R497) -/

def BT_CTL : Nat := 0x0
def BT_CTL_RESTART : Fld := ⟨BT_CTL,31,31⟩
def BT_CTL_ENABLE : Fld := ⟨BT_CTL,0,0⟩
def BT_STAT : Nat := 0x4
def BT_STAT_STATE : Fld := ⟨BT_STAT,31,28⟩
def BT_STAT_BREAK_POS : Fld := ⟨BT_STAT,23,16⟩
def BT_STAT_GEN : Fld := ⟨BT_STAT,15,8⟩
def BT_STAT_INT : Fld := ⟨BT_STAT,4,4⟩
def BT_STAT_BUSY : Fld := ⟨BT_STAT,0,0⟩
def BT_CFG : Nat := 0x8
def BT_CFG_LEN : Fld := ⟨BT_CFG,31,24⟩
def BT_CFG_BUS_FILT : Fld := ⟨BT_CFG,20,16⟩
def BT_CFG_FS_UNITS : Fld := ⟨BT_CFG,14,8⟩
def BT_SWEEP : Nat := 0xC
def BT_SWEEP_MS : Fld := ⟨BT_SWEEP,9,0⟩
def BT_SWEEP_CNT : Nat := 0x10
def BT_BREAK_CNT : Nat := 0x14
def BT_CRC_ERR : Nat := 0x18
def BT_LAST_TS_LO : Nat := 0x20
def BT_LAST_TS_HI : Nat := 0x24
def BT_MAP (k : Nat) : Nat := 0x200 + 0x4 * k
def BT_MAP_PORT (k : Nat) : Fld := ⟨BT_MAP k, 8, 0⟩
def BT_OVR (k : Nat) : Nat := 0x400 + 0x4 * k
def BT_OVR_OVR_EN (k : Nat) : Fld := ⟨BT_OVR k, 31, 31⟩
def BT_OVR_MODE (k : Nat) : Fld := ⟨BT_OVR k, 2, 0⟩
def BT_RES (k : Nat) (w : Nat) : Nat := 0x800 + 0x40 * k + 0x4 * w

/-! the NETSLEEP block (R496) -/

def NS_READY_LO : Nat := 0x190000
def NS_READY_HI : Nat := 0x190004
def NS_NOT_READY : Nat := 0x190008
def NS_NOT_READY_COUNT : Fld := ⟨NS_NOT_READY,6,0⟩
def NS_SEL : Nat := 0x190010
def NS_SEL_NET : Fld := ⟨NS_SEL,5,0⟩
def NS_NET_CFG : Nat := 0x190014
def NS_NET_CFG_VALID : Fld := ⟨NS_NET_CFG,31,31⟩
def NS_NET_CFG_EXCLUDE : Fld := ⟨NS_NET_CFG,30,30⟩
def NS_NET_CFG_LIN_SLEEP : Fld := ⟨NS_NET_CFG,29,29⟩
def NS_NET_CFG_J1939 : Fld := ⟨NS_NET_CFG,28,28⟩
def NS_NET_CFG_QUIET_S : Fld := ⟨NS_NET_CFG,5,0⟩
def NS_NET_STAT : Nat := 0x190018
def NS_NET_STAT_READY : Fld := ⟨NS_NET_STAT,31,31⟩
def NS_NET_STAT_QUIET_LEFT : Fld := ⟨NS_NET_STAT,15,0⟩
def NS_LAST_KA_LO : Nat := 0x19001C
def NS_LAST_KA_HI : Nat := 0x190020
def NS_OTHER_MS : Nat := 0x190024
def NS_KA_CNT : Nat := 0x190028
def NS_HOLD (k : Nat) : Nat := 0x190040 + 0x10 * k
def NS_HOLD_VALID (k : Nat) : Fld := ⟨NS_HOLD k, 31, 31⟩
def NS_HOLD_LOGGED (k : Nat) : Fld := ⟨NS_HOLD k, 30, 30⟩
def NS_HOLD_KIND (k : Nat) : Fld := ⟨NS_HOLD k, 26, 24⟩
def NS_HOLD_TENANT (k : Nat) : Fld := ⟨NS_HOLD k, 11, 0⟩
def NS_HOLD_MS (k : Nat) : Nat := 0x190044 + 0x10 * k
def NS_HOLD_ID_LO (k : Nat) : Nat := 0x190048 + 0x10 * k
def NS_HOLD_ID_HI (k : Nat) : Nat := 0x19004C + 0x10 * k
def NS_WAKE_CFG : Nat := 0x190100
def NS_WAKE_CFG_WAKEC_EN : Fld := ⟨NS_WAKE_CFG,31,16⟩
def NS_WAKE_CFG_WAKEC_FILT : Fld := ⟨NS_WAKE_CFG,9,0⟩
def NS_WAKEN_CFG : Nat := 0x190104
def NS_WAKEN_CFG_WAKEN_FILT : Fld := ⟨NS_WAKEN_CFG,9,0⟩
def NS_WAKE_PINS : Nat := 0x190108
def NS_WAKE_PINS_WAKE_N : Fld := ⟨NS_WAKE_PINS,31,31⟩
def NS_WAKE_PINS_WAKE_C : Fld := ⟨NS_WAKE_PINS,15,0⟩
def NS_WAKE_EXTRA : Nat := 0x19010C

/-! Ethernet port registers (06) -/

def ETH_CTL : Nat := 0x0
def ETH_CTL_RESTART : Fld := ⟨ETH_CTL,31,31⟩
def ETH_CTL_ENABLE : Fld := ⟨ETH_CTL,0,0⟩
def ETH_STAT : Nat := 0x4
def ETH_STAT_LINK : Fld := ⟨ETH_STAT,31,31⟩
def ETH_STAT_PCS_LOCK : Fld := ⟨ETH_STAT,30,30⟩
def ETH_STAT_HI_BER : Fld := ⟨ETH_STAT,29,29⟩
def ETH_STAT_SPEED : Fld := ⟨ETH_STAT,27,24⟩
def ETH_STAT_TXTS_VALID : Fld := ⟨ETH_STAT,23,23⟩
def ETH_STAT_GEN : Fld := ⟨ETH_STAT,7,0⟩
def ETH_MODE : Nat := 0x8
def ETH_MODE_PCS : Fld := ⟨ETH_MODE,31,28⟩
def ETH_MODE_FORCE_SPEED : Fld := ⟨ETH_MODE,27,24⟩
def ETH_MODE_MAXFRM : Fld := ⟨ETH_MODE,13,0⟩
def ETH_TS_LAT : Nat := 0xC
def ETH_TS_LAT_TX_LAT : Fld := ⟨ETH_TS_LAT,31,16⟩
def ETH_TS_LAT_RX_LAT : Fld := ⟨ETH_TS_LAT,15,0⟩
def ETH_PHY : Nat := 0x10
def ETH_PHY_MDIO_BUS : Fld := ⟨ETH_PHY,31,31⟩
def ETH_PHY_PHY_ADDR : Fld := ⟨ETH_PHY,28,24⟩
def ETH_PHY_INT_SEL : Fld := ⟨ETH_PHY,3,0⟩
def ETH_MDIO_CMD : Nat := 0x14
def ETH_MDIO_CMD_START : Fld := ⟨ETH_MDIO_CMD,31,31⟩
def ETH_MDIO_CMD_C45 : Fld := ⟨ETH_MDIO_CMD,30,30⟩
def ETH_MDIO_CMD_OP : Fld := ⟨ETH_MDIO_CMD,29,28⟩
def ETH_MDIO_CMD_REG : Fld := ⟨ETH_MDIO_CMD,20,16⟩
def ETH_MDIO_CMD_DATA : Fld := ⟨ETH_MDIO_CMD,15,0⟩
def ETH_MDIO_RES : Nat := 0x18
def ETH_MDIO_RES_DONE : Fld := ⟨ETH_MDIO_RES,31,31⟩
def ETH_MDIO_RES_BUSY : Fld := ⟨ETH_MDIO_RES,30,30⟩
def ETH_MDIO_RES_DATA : Fld := ⟨ETH_MDIO_RES,15,0⟩
def ETH_ERRFLAG : Nat := 0x1C
def ETH_ERRFLAG_PHY_INT : Fld := ⟨ETH_ERRFLAG,5,5⟩
def ETH_ERRFLAG_TXTS_LOST : Fld := ⟨ETH_ERRFLAG,4,4⟩
def ETH_ERRFLAG_MDIO_BUSY : Fld := ⟨ETH_ERRFLAG,3,3⟩
def ETH_ERRFLAG_CONFIG : Fld := ⟨ETH_ERRFLAG,2,2⟩
def ETH_ERRFLAG_HI_BER : Fld := ⟨ETH_ERRFLAG,1,1⟩
def ETH_ERRFLAG_LINK_LOSS : Fld := ⟨ETH_ERRFLAG,0,0⟩
def ETH_TXTS_LO : Nat := 0x20
def ETH_TXTS_HI : Nat := 0x24
def ETH_TXTS_TAG : Nat := 0x28
def ETH_RX_OK : Nat := 0x80
def ETH_TX_OK : Nat := 0x84
def ETH_RX_FCS : Nat := 0x88
def ETH_RX_RUNT : Nat := 0x8C
def ETH_RX_OVERSIZE : Nat := 0x90
def ETH_RX_CTLDROP : Nat := 0x94
def ETH_RX_LOCAL : Nat := 0x98
def ETH_TXDROP_LINK : Nat := 0x9C
def ETH_TXDROP_OVFL : Nat := 0xA0
def ETH_LINK_DOWN_CNT : Nat := 0xA4
def ETH_RX_OCTETS_LO : Nat := 0xB0
def ETH_RX_OCTETS_HI : Nat := 0xB4
def ETH_TX_OCTETS_LO : Nat := 0xB8
def ETH_TX_OCTETS_HI : Nat := 0xBC
def ETH_LSA_LO (k : Nat) : Nat := 0x100 + 0x8 * k
def ETH_LSA_HI (k : Nat) : Nat := 0x104 + 0x8 * k
def ETH_LSA_HI_ADDR_HI (k : Nat) : Fld := ⟨ETH_LSA_HI k, 15, 0⟩
def ETH_GCL_IDX : Nat := 0x200
def ETH_GCL_IDX_READ : Fld := ⟨ETH_GCL_IDX,31,31⟩
def ETH_GCL_IDX_IDX : Fld := ⟨ETH_GCL_IDX,7,0⟩
def ETH_GCL_DATA0 : Nat := 0x204
def ETH_GCL_DATA1 : Nat := 0x208
def ETH_GCL_DATA1_GATES : Fld := ⟨ETH_GCL_DATA1,7,0⟩
def ETH_GATE_BASE_LO : Nat := 0x210
def ETH_GATE_BASE_HI : Nat := 0x214
def ETH_GATE_CYCLE : Nat := 0x218
def ETH_GATE_CTL : Nat := 0x21C
def ETH_GATE_CTL_ENABLE : Fld := ⟨ETH_GATE_CTL,31,31⟩
def ETH_GATE_CTL_COUNT : Fld := ⟨ETH_GATE_CTL,24,16⟩
def ETH_GATE_CTL_CUR : Fld := ⟨ETH_GATE_CTL,7,0⟩
def ETH_CBS (k : Nat) : Nat := 0x240 + 0x4 * k
def ETH_CBS_CBS_EN (k : Nat) : Fld := ⟨ETH_CBS k, 31, 31⟩
def ETH_CBS_IDLE_SLOPE (k : Nat) : Fld := ⟨ETH_CBS k, 23, 0⟩

/-! T1S port registers (05) -/

def T1S_CTL : Nat := 0x0
def T1S_CTL_RESTART : Fld := ⟨T1S_CTL,31,31⟩
def T1S_CTL_ENABLE : Fld := ⟨T1S_CTL,0,0⟩
def T1S_STAT : Nat := 0x4
def T1S_STAT_LINK : Fld := ⟨T1S_STAT,31,31⟩
def T1S_STAT_BEACON_OK : Fld := ⟨T1S_STAT,30,30⟩
def T1S_STAT_ED : Fld := ⟨T1S_STAT,29,29⟩
def T1S_STAT_GEN : Fld := ⟨T1S_STAT,7,0⟩
def T1S_PLCA_CFG : Nat := 0x8
def T1S_PLCA_CFG_NODE_COUNT : Fld := ⟨T1S_PLCA_CFG,15,8⟩
def T1S_PLCA_CFG_NODE_ID : Fld := ⟨T1S_PLCA_CFG,7,0⟩
def T1S_PLCA_TMR : Nat := 0xC
def T1S_PLCA_TMR_BURST_TMR : Fld := ⟨T1S_PLCA_TMR,23,16⟩
def T1S_PLCA_TMR_MAX_BC : Fld := ⟨T1S_PLCA_TMR,15,8⟩
def T1S_PLCA_TMR_TO_TIMER : Fld := ⟨T1S_PLCA_TMR,7,0⟩
def T1S_LINK_CFG : Nat := 0x10
def T1S_LINK_CFG_LINK_HOLD : Fld := ⟨T1S_LINK_CFG,7,0⟩
def T1S_RX_OK : Nat := 0x80
def T1S_TX_OK : Nat := 0x84
def T1S_RX_FCS : Nat := 0x88
def T1S_RX_RUNT : Nat := 0x8C
def T1S_COLL : Nat := 0x90
def T1S_TXDROP : Nat := 0x94
def T1S_BEACON_LOSS : Nat := 0x98
def T1S_LSA (k : Nat) (w : Nat) : Nat := 0x100 + 0x8 * k + 0x4 * w

/-! the SWITCH block (R196) -/

def SW_BUF_USED : Nat := 0x300000
def SW_BUF_USED_CELLS : Fld := ⟨SW_BUF_USED,16,0⟩
def SW_BUF_PEAK : Nat := 0x300004
def SW_BUF_PEAK_CELLS : Fld := ⟨SW_BUF_PEAK,16,0⟩
def SW_BUF_WM : Nat := 0x300008
def SW_BUF_WM_WM_EVENT : Fld := ⟨SW_BUF_WM,31,31⟩
def SW_BUF_WM_LEVEL : Fld := ⟨SW_BUF_WM,16,0⟩
def SW_Q_SEL : Nat := 0x300010
def SW_Q_SEL_PORT : Fld := ⟨SW_Q_SEL,16,8⟩
def SW_Q_SEL_CLASS : Fld := ⟨SW_Q_SEL,2,0⟩
def SW_Q_CFG : Nat := 0x300014
def SW_Q_CFG_ENABLED : Fld := ⟨SW_Q_CFG,31,31⟩
def SW_Q_CFG_ALPHA : Fld := ⟨SW_Q_CFG,3,0⟩
def SW_Q_LEVEL : Nat := 0x300018
def SW_Q_LEVEL_CELLS : Fld := ⟨SW_Q_LEVEL,16,0⟩
def SW_Q_PEAK : Nat := 0x30001C
def SW_Q_PEAK_WM_EVENT : Fld := ⟨SW_Q_PEAK,31,31⟩
def SW_Q_PEAK_CELLS : Fld := ⟨SW_Q_PEAK,16,0⟩
def SW_Q_WM : Nat := 0x300020
def SW_Q_WM_LEVEL : Fld := ⟨SW_Q_WM,16,0⟩
def SW_Q_DROP : Nat := 0x300024
def SW_Q_AGED : Nat := 0x300028
def SW_PORT_SEL : Nat := 0x300030
def SW_PORT_SEL_PORT : Fld := ⟨SW_PORT_SEL,8,0⟩
def SW_PORT_STAT : Nat := 0x300034
def SW_PORT_STAT_LINK : Fld := ⟨SW_PORT_STAT,31,31⟩
def SW_PORT_STAT_SPEED : Fld := ⟨SW_PORT_STAT,27,24⟩
def SW_PORT_STAT_LAG : Fld := ⟨SW_PORT_STAT,23,20⟩
def SW_PORT_STAT_ACTIVE : Fld := ⟨SW_PORT_STAT,19,19⟩
def SW_PORT_FLUSH : Nat := 0x300038
def SW_PORT_CHECK : Nat := 0x30003C
def SW_PORT_RSVD : Nat := 0x300040
def SW_PORT_FORMAT : Nat := 0x300044
def SW_PORT_GATE : Nat := 0x300048
def SW_PORT_NOLAG : Nat := 0x30004C
def SW_ASSIST_DONE : Nat := 0x300050
def SW_ASSIST_TIMEOUT : Nat := 0x300054
def SW_ASSIST_ABORT : Nat := 0x300058
def SW_ASSIST_REFUSED : Nat := 0x30005C
def SW_ASSIST_NOENTRY : Nat := 0x300060
def SW_TAP_CFG : Nat := 0x300080
def SW_TAP_CFG_ENABLE : Fld := ⟨SW_TAP_CFG,31,31⟩
def SW_TAP_CFG_SNAP : Fld := ⟨SW_TAP_CFG,23,16⟩
def SW_TAP_CFG_RING_LOG2 : Fld := ⟨SW_TAP_CFG,4,0⟩
def SW_TAP_RATE : Nat := 0x300084
def SW_TAP_HEAD_LO : Nat := 0x300088
def SW_TAP_HEAD_HI : Nat := 0x30008C
def SW_TAP_OVERWRITE : Nat := 0x300090
def SW_HOST_AGE : Nat := 0x3000A0
def SW_HOST_AGE_MS : Fld := ⟨SW_HOST_AGE,9,0⟩
def SW_HASH_SEED : Nat := 0x3000A4
def SW_LAG_SEL : Nat := 0x3000B0
def SW_LAG_SEL_LAG : Fld := ⟨SW_LAG_SEL,2,0⟩
def SW_LAG_MEMBERS : Nat := 0x3000B4
def SW_LAG_MEMBERS_PORTS : Fld := ⟨SW_LAG_MEMBERS,23,0⟩
def SW_LAG_ACTIVE : Nat := 0x3000B8
def SW_LAG_ACTIVE_PORTS : Fld := ⟨SW_LAG_ACTIVE,23,0⟩

/-! the TABLES block (R224) -/

def TBL_WIN_SEL (k : Nat) : Nat := 0x400000 + 0x100 * k
def TBL_WIN_SEL_TABLE (k : Nat) : Fld := ⟨TBL_WIN_SEL k, 4, 0⟩
def TBL_WIN_IDX (k : Nat) : Nat := 0x400004 + 0x100 * k
def TBL_WIN_IDX_IDX (k : Nat) : Fld := ⟨TBL_WIN_IDX k, 19, 0⟩
def TBL_WIN_CMD (k : Nat) : Nat := 0x400008 + 0x100 * k
def TBL_WIN_CMD_CMD (k : Nat) : Fld := ⟨TBL_WIN_CMD k, 2, 0⟩
def TBL_WIN_STAT (k : Nat) : Nat := 0x40000C + 0x100 * k
def TBL_WIN_STAT_PENDING (k : Nat) : Fld := ⟨TBL_WIN_STAT k, 31, 31⟩
def TBL_WIN_STAT_STATUS (k : Nat) : Fld := ⟨TBL_WIN_STAT k, 3, 0⟩
def TBL_WIN_DATA (k : Nat) (w : Nat) : Nat := 0x400040 + 0x100 * k + 0x4 * w
def TBL_AGE_TIME : Nat := 0x401000
def TBL_AGE_TIME_SECONDS : Fld := ⟨TBL_AGE_TIME,15,0⟩
def TBL_LEARN_VER : Nat := 0x401004
def TBL_MAC_USED : Nat := 0x401008
def TBL_MAC_USED_ENTRIES : Fld := ⟨TBL_MAC_USED,17,0⟩
def TBL_MAC_PEAK : Nat := 0x40100C
def TBL_MAC_PEAK_WM_EVENT : Fld := ⟨TBL_MAC_PEAK,31,31⟩
def TBL_MAC_PEAK_ENTRIES : Fld := ⟨TBL_MAC_PEAK,17,0⟩
def TBL_MAC_WM : Nat := 0x401010
def TBL_MAC_WM_LEVEL : Fld := ⟨TBL_MAC_WM,17,0⟩
def TBL_MAC_SEED : Nat := 0x401014
def TBL_LPM_SEED : Nat := 0x401018
def TBL_PORT_SEL : Nat := 0x401020
def TBL_PORT_SEL_PORT : Fld := ⟨TBL_PORT_SEL,8,0⟩
def TBL_PORT_LEARNED : Nat := 0x401024
def TBL_PORT_LEARNED_ENTRIES : Fld := ⟨TBL_PORT_LEARNED,17,0⟩
def TBL_PORT_LIMIT : Nat := 0x401028
def TBL_PORT_LIMIT_ACTION : Fld := ⟨TBL_PORT_LIMIT,31,31⟩
def TBL_PORT_LIMIT_LEARN_EN : Fld := ⟨TBL_PORT_LIMIT,30,30⟩
def TBL_PORT_LIMIT_LIMIT : Fld := ⟨TBL_PORT_LIMIT,17,0⟩
def TBL_PORT_LEARN_FAIL : Nat := 0x40102C
def TBL_PORT_MOVE : Nat := 0x401030
def TBL_ROUTE_INVALID : Nat := 0x401040
def TBL_VLAN_DROP : Nat := 0x401044
def TBL_SAME_PORT : Nat := 0x401048
def TBL_NO_DEST : Nat := 0x40104C
def TBL_L3_DROP : Nat := 0x401050
def TBL_SA_DISCARD : Nat := 0x401054
def TBL_LEARN_STATIC : Nat := 0x401058
def TBL_BUCKET_FULL : Nat := 0x40105C
def TBL_LEARN_DROP : Nat := 0x401060
def TBL_ECC_CORR : Nat := 0x401064
def TBL_REPAIRED : Nat := 0x401068
def TBL_LPM_SLOW : Nat := 0x40106C

/-! the THATCHER block (R250) -/

def THR_WIN_SEL (k : Nat) : Nat := 0x500000 + 0x100 * k
def THR_WIN_SEL_TABLE (k : Nat) : Fld := ⟨THR_WIN_SEL k, 4, 0⟩
def THR_WIN_IDX (k : Nat) : Nat := 0x500004 + 0x100 * k
def THR_WIN_IDX_IDX (k : Nat) : Fld := ⟨THR_WIN_IDX k, 16, 0⟩
def THR_WIN_CMD (k : Nat) : Nat := 0x500008 + 0x100 * k
def THR_WIN_CMD_CMD (k : Nat) : Fld := ⟨THR_WIN_CMD k, 2, 0⟩
def THR_WIN_STAT (k : Nat) : Nat := 0x50000C + 0x100 * k
def THR_WIN_STAT_PENDING (k : Nat) : Fld := ⟨THR_WIN_STAT k, 31, 31⟩
def THR_WIN_STAT_STATUS (k : Nat) : Fld := ⟨THR_WIN_STAT k, 3, 0⟩
def THR_WIN_DATA (k : Nat) (w : Nat) : Nat := 0x500040 + 0x100 * k + 0x4 * w
def THR_MODEL_LEVEL : Nat := 0x501000
def THR_MODEL_LEVEL_OPS : Fld := ⟨THR_MODEL_LEVEL,19,0⟩
def THR_MODEL_PEAK : Nat := 0x501004
def THR_MODEL_PEAK_WM_EVENT : Fld := ⟨THR_MODEL_PEAK,31,31⟩
def THR_MODEL_PEAK_OPS : Fld := ⟨THR_MODEL_PEAK,19,0⟩
def THR_MODEL_WM : Nat := 0x501008
def THR_MODEL_WM_LEVEL : Fld := ⟨THR_MODEL_WM,19,0⟩
def THR_OPS_LO : Nat := 0x501010
def THR_OPS_HI : Nat := 0x501014
def THR_PENDING : Nat := 0x501018
def THR_PENDING_COUNT : Fld := ⟨THR_PENDING,12,0⟩
def THR_RX_UNITS : Nat := 0x501040
def THR_RX_NOLAYOUT : Nat := 0x501044
def THR_RX_SHORT : Nat := 0x501048
def THR_SAT : Nat := 0x50104C
def THR_LUT_OOR : Nat := 0x501050
def THR_TIMEOUT : Nat := 0x501054
def THR_RECOVER : Nat := 0x501058
def THR_TX_PDU : Nat := 0x50105C
def THR_PROV_BUILT : Nat := 0x501060
def THR_PROV_DISCARD : Nat := 0x501064
def THR_RETRACT : Nat := 0x501068
def THR_AUTH_FAIL : Nat := 0x50106C
def THR_COMMIT_STALE : Nat := 0x501070
def THR_SET_ASIDE : Nat := 0x501074
def THR_HOST_DENIED : Nat := 0x501078
def THR_LOOP_STRIP : Nat := 0x50107C

/-! the TENANT and GOVERNOR block (R273) -/

def TEN_WIN_SEL (k : Nat) : Nat := 0x600000 + 0x100 * k
def TEN_WIN_SEL_TABLE (k : Nat) : Fld := ⟨TEN_WIN_SEL k, 4, 0⟩
def TEN_WIN_IDX (k : Nat) : Nat := 0x600004 + 0x100 * k
def TEN_WIN_IDX_IDX (k : Nat) : Fld := ⟨TEN_WIN_IDX k, 16, 0⟩
def TEN_WIN_CMD (k : Nat) : Nat := 0x600008 + 0x100 * k
def TEN_WIN_CMD_CMD (k : Nat) : Fld := ⟨TEN_WIN_CMD k, 3, 0⟩
def TEN_WIN_STAT (k : Nat) : Nat := 0x60000C + 0x100 * k
def TEN_WIN_STAT_PENDING (k : Nat) : Fld := ⟨TEN_WIN_STAT k, 31, 31⟩
def TEN_WIN_STAT_STATUS (k : Nat) : Fld := ⟨TEN_WIN_STAT k, 3, 0⟩
def TEN_WIN_DATA (k : Nat) (w : Nat) : Nat := 0x600080 + 0x100 * k + 0x4 * w
def TEN_BOUND : Nat := 0x601000
def TEN_BOUND_COUNT : Fld := ⟨TEN_BOUND,12,0⟩
def TEN_BOUND_PEAK : Nat := 0x601004
def TEN_BOUND_PEAK_WM_EVENT : Fld := ⟨TEN_BOUND_PEAK,31,31⟩
def TEN_BOUND_PEAK_COUNT : Fld := ⟨TEN_BOUND_PEAK,12,0⟩
def TEN_BOUND_WM : Nat := 0x601008
def TEN_BOUND_WM_LEVEL : Fld := ⟨TEN_BOUND_WM,12,0⟩
def TEN_BIND_FAIL : Nat := 0x60100C
def TEN_FREE_DROP : Nat := 0x601010
def GOV_WINDOW_LO : Nat := 0x601018
def GOV_WINDOW_HI : Nat := 0x60101C
def GOV_CONFLICT : Nat := 0x601020
def GOV_CONFLICT_EVENT : Fld := ⟨GOV_CONFLICT,31,31⟩
def GOV_CONFLICT_PORT : Fld := ⟨GOV_CONFLICT,8,0⟩
def GOV_CONFLICT_CNT : Nat := 0x601024
def GOV_CONFLICT_LAST : Nat := 0x601028
def GOV_CONFLICT_LAST_PORT : Fld := ⟨GOV_CONFLICT_LAST,31,23⟩
def GOV_CONFLICT_LAST_WINDOWS : Fld := ⟨GOV_CONFLICT_LAST,22,0⟩
def GOV_BABBLE : Nat := 0x601030
def GOV_BABBLE_EVENT : Fld := ⟨GOV_BABBLE,31,31⟩
def GOV_BABBLE_TENANT : Fld := ⟨GOV_BABBLE,11,0⟩
def GOV_BABBLE_CNT : Nat := 0x601034
def GOV_PROT_CNT : Nat := 0x601040
def GOV_PROT_LAST : Nat := 0x601044
def GOV_PROT_LAST_LOOP : Fld := ⟨GOV_PROT_LAST,31,28⟩
def GOV_PROT_LAST_RETURN : Fld := ⟨GOV_PROT_LAST,27,27⟩
def GOV_PROT_LAST_VALUE : Fld := ⟨GOV_PROT_LAST,15,0⟩

/-! the CIPHER block (R345) -/

def CPH_JOB_KEY (k : Nat) : Nat := 0x700000 + 0x200 * k
def CPH_JOB_KEY_RAND_IV (k : Nat) : Fld := ⟨CPH_JOB_KEY k, 31, 31⟩
def CPH_JOB_KEY_HANDLE (k : Nat) : Fld := ⟨CPH_JOB_KEY k, 9, 0⟩
def CPH_JOB_LEN (k : Nat) : Nat := 0x700004 + 0x200 * k
def CPH_JOB_LEN_TAG_LEN (k : Nat) : Fld := ⟨CPH_JOB_LEN k, 28, 24⟩
def CPH_JOB_LEN_AAD_LEN (k : Nat) : Fld := ⟨CPH_JOB_LEN k, 22, 16⟩
def CPH_JOB_LEN_TEXT_LEN (k : Nat) : Fld := ⟨CPH_JOB_LEN k, 8, 0⟩
def CPH_JOB_CMD (k : Nat) : Nat := 0x700008 + 0x200 * k
def CPH_JOB_CMD_CMD (k : Nat) : Fld := ⟨CPH_JOB_CMD k, 3, 0⟩
def CPH_JOB_STAT (k : Nat) : Nat := 0x70000C + 0x200 * k
def CPH_JOB_STAT_PENDING (k : Nat) : Fld := ⟨CPH_JOB_STAT k, 31, 31⟩
def CPH_JOB_STAT_STATUS (k : Nat) : Fld := ⟨CPH_JOB_STAT k, 3, 0⟩
def CPH_JOB_IV (k : Nat) (w : Nat) : Nat := 0x700010 + 0x200 * k + 0x4 * w
def CPH_JOB_TAG (k : Nat) (w : Nat) : Nat := 0x700020 + 0x200 * k + 0x4 * w
def CPH_JOB_DATA (k : Nat) (w : Nat) : Nat := 0x700040 + 0x200 * k + 0x4 * w
def CPH_SESS_CTL : Nat := 0x701000
def CPH_SESS_CTL_OPEN : Fld := ⟨CPH_SESS_CTL,31,31⟩
def CPH_SESS_CTL_SUBMIT : Fld := ⟨CPH_SESS_CTL,30,30⟩
def CPH_SESS_CTL_CLOSE : Fld := ⟨CPH_SESS_CTL,29,29⟩
def CPH_SESS_CTL_WKEY : Fld := ⟨CPH_SESS_CTL,3,0⟩
def CPH_SESS_REQ : Nat := 0x701004
def CPH_SESS_REQ_RIGHTS : Fld := ⟨CPH_SESS_REQ,31,24⟩
def CPH_SESS_REQ_LIFETIME : Fld := ⟨CPH_SESS_REQ,8,0⟩
def CPH_SESS_STAT : Nat := 0x701008
def CPH_SESS_STAT_PENDING : Fld := ⟨CPH_SESS_STAT,31,31⟩
def CPH_SESS_STAT_LIVE : Fld := ⟨CPH_SESS_STAT,30,30⟩
def CPH_SESS_STAT_STATUS : Fld := ⟨CPH_SESS_STAT,27,24⟩
def CPH_SESS_STAT_LOCK_S : Fld := ⟨CPH_SESS_STAT,11,0⟩
def CPH_SESS_CHAL (k : Nat) : Nat := 0x701010 + 0x4 * k
def CPH_SESS_SIG (k : Nat) : Nat := 0x701040 + 0x4 * k
def CPH_MS_RX_FAIL : Nat := 0x701100
def CPH_MS_UNPROT : Nat := 0x701104
def CPH_MS_PN_EXH : Nat := 0x701108
def CPH_SESS_FAIL : Nat := 0x70110C
def CPH_RAND_STAT : Nat := 0x701110
def CPH_RAND_STAT_READY : Fld := ⟨CPH_RAND_STAT,31,31⟩
def CPH_RAND_STAT_POOL : Fld := ⟨CPH_RAND_STAT,12,0⟩
def CPH_KSEL : Nat := 0x701200
def CPH_KSEL_HANDLE : Fld := ⟨CPH_KSEL,9,0⟩
def CPH_KSTAT : Nat := 0x701204
def CPH_KSTAT_STATE : Fld := ⟨CPH_KSTAT,31,28⟩
def CPH_KSTAT_USES_LEFT : Fld := ⟨CPH_KSTAT,23,0⟩
def CPH_KFV_RX_LO : Nat := 0x701208
def CPH_KFV_RX_HI : Nat := 0x70120C
def CPH_KFV_TX_LO : Nat := 0x701210
def CPH_KFV_TX_HI : Nat := 0x701214
def CPH_KPASS : Nat := 0x701218
def CPH_KFAIL : Nat := 0x70121C
def CPH_KREPLAY : Nat := 0x701220
def CPH_KTXFAIL : Nat := 0x701224

/-! the RICK block (R384) -/

def RICK_STAT : Nat := 0x800000
def RICK_STAT_STATE : Fld := ⟨RICK_STAT,31,28⟩
def RICK_STAT_UNCLEAN : Fld := ⟨RICK_STAT,27,27⟩
def RICK_STAT_GEOM_DIFF : Fld := ⟨RICK_STAT,26,26⟩
def RICK_STAT_INC_OPEN : Fld := ⟨RICK_STAT,25,25⟩
def RICK_RSEQ_LO : Nat := 0x800008
def RICK_RSEQ_HI : Nat := 0x80000C
def RICK_SEAL_LO : Nat := 0x800010
def RICK_SEAL_HI : Nat := 0x800014
def RICK_LEGAL_END_LO : Nat := 0x800018
def RICK_LEGAL_END_HI : Nat := 0x80001C
def RICK_LEGAL_FREED_LO : Nat := 0x800020
def RICK_LEGAL_FREED_HI : Nat := 0x800024
def RICK_ROLL_NEXT_LO : Nat := 0x800028
def RICK_ROLL_NEXT_HI : Nat := 0x80002C
def RICK_ROLL_OLDEST_LO : Nat := 0x800030
def RICK_ROLL_OLDEST_HI : Nat := 0x800034
def RICK_INC_STAT : Nat := 0x800038
def RICK_INC_STAT_LOCKED : Fld := ⟨RICK_INC_STAT,28,20⟩
def RICK_INC_STAT_HELD : Fld := ⟨RICK_INC_STAT,12,0⟩
def RICK_INC_NEXT : Nat := 0x80003C
def RICK_HEAD_PINNED : Nat := 0x800040
def RICK_HEAD_PINNED_GRANULES : Fld := ⟨RICK_HEAD_PINNED,16,0⟩
def RICK_HEAD_PEAK : Nat := 0x800044
def RICK_HEAD_PEAK_WM_EVENT : Fld := ⟨RICK_HEAD_PEAK,31,31⟩
def RICK_HEAD_PEAK_GRANULES : Fld := ⟨RICK_HEAD_PEAK,16,0⟩
def RICK_HEAD_WM : Nat := 0x800048
def RICK_HEAD_WM_LEVEL : Fld := ⟨RICK_HEAD_WM,16,0⟩
def RICK_HEAD_CREDIT : Nat := 0x80004C
def RICK_HEAD_CREDIT_GRANULES : Fld := ⟨RICK_HEAD_CREDIT,4,0⟩
def RICK_HEAD_GSEQ_LO : Nat := 0x800050
def RICK_HEAD_GSEQ_HI : Nat := 0x800054
def RICK_HEAD_LATE : Nat := 0x800080
def RICK_WARN_CNT : Nat := 0x800084
def RICK_INC_REFUSED : Nat := 0x800088
def RICK_EXPIRED : Nat := 0x80008C
def RICK_EXPORT_GONE : Nat := 0x800090
def RICK_SCRUB_REPAIR : Nat := 0x800094
def RICK_EXP_STAT (k : Nat) : Nat := 0x8000A0 + 0x10 * k
def RICK_EXP_STAT_OPEN (k : Nat) : Fld := ⟨RICK_EXP_STAT k, 31, 31⟩
def RICK_EXP_STAT_PRIORITY (k : Nat) : Fld := ⟨RICK_EXP_STAT k, 30, 30⟩
def RICK_EXP_STAT_TIER (k : Nat) : Fld := ⟨RICK_EXP_STAT k, 29, 28⟩
def RICK_EXP_STAT_TENANT (k : Nat) : Fld := ⟨RICK_EXP_STAT k, 11, 0⟩
def RICK_EXP_UNACKED (k : Nat) : Nat := 0x8000A4 + 0x10 * k
def RICK_EXP_UNACKED_BYTES (k : Nat) : Fld := ⟨RICK_EXP_UNACKED k, 24, 0⟩
def RICK_EXP_NEXT_LO (k : Nat) : Nat := 0x8000A8 + 0x10 * k
def RICK_EXP_NEXT_HI (k : Nat) : Nat := 0x8000AC + 0x10 * k
def RICK_SNAP (k : Nat) (w : Nat) : Nat := 0x800100 + 0x40 * k + 0x4 * w

/-! the TRUSS block (03) -/

def TRUSS_ACTIVE_VER : Nat := 0x900000
def TRUSS_OTHER_VER : Nat := 0x900004
def TRUSS_FLOOR : Nat := 0x900008
def TRUSS_STAGE_CTL : Nat := 0x900010
def TRUSS_STAGE_CTL_OPEN : Fld := ⟨TRUSS_STAGE_CTL,31,31⟩
def TRUSS_STAGE_CTL_VERIFY : Fld := ⟨TRUSS_STAGE_CTL,30,30⟩
def TRUSS_STAGE_CTL_DISCARD : Fld := ⟨TRUSS_STAGE_CTL,29,29⟩
def TRUSS_STAGE_CTL_FLOOR_COMMIT : Fld := ⟨TRUSS_STAGE_CTL,28,28⟩
def TRUSS_STAGE_STAT : Nat := 0x900014
def TRUSS_STAGE_STAT_STATE : Fld := ⟨TRUSS_STAGE_STAT,31,28⟩
def TRUSS_STAGE_STAT_ERROR : Fld := ⟨TRUSS_STAGE_STAT,27,24⟩
def TRUSS_STAGE_STAT_ACTIVE_INDEX : Fld := ⟨TRUSS_STAGE_STAT,0,0⟩
def TRUSS_STAGE_BYTES : Nat := 0x900018
def TRUSS_TURN_CTL : Nat := 0x900020
def TRUSS_TURN_CTL_START : Fld := ⟨TRUSS_TURN_CTL,31,31⟩
def TRUSS_TURN_CTL_ABORT : Fld := ⟨TRUSS_TURN_CTL,30,30⟩
def TRUSS_TURN_CTL_COLD_CARRY : Fld := ⟨TRUSS_TURN_CTL,0,0⟩
def TRUSS_CUT_AT_LO : Nat := 0x900024
def TRUSS_CUT_AT_HI : Nat := 0x900028
def TRUSS_TURN_STAT : Nat := 0x900030
def TRUSS_TURN_STAT_PHASE : Fld := ⟨TRUSS_TURN_STAT,31,28⟩
def TRUSS_TURN_STAT_RESULT : Fld := ⟨TRUSS_TURN_STAT,27,24⟩
def TRUSS_TURN_STAT_DETAIL : Fld := ⟨TRUSS_TURN_STAT,23,16⟩
def TRUSS_CUT_STREAM_LO : Nat := 0x900038
def TRUSS_CUT_STREAM_HI : Nat := 0x90003C
def TRUSS_CUT_DROP : Nat := 0x900040
def TRUSS_EARLY_DROP : Nat := 0x900044
def TRUSS_EARLY_CUT_LOSS : Nat := 0x900048

/-! the PLANE block (R442) -/

def PLANE_ROLE : Nat := 0xA00000
def PLANE_ROLE_ROLE_B : Fld := ⟨PLANE_ROLE,15,12⟩
def PLANE_ROLE_ROLE_A : Fld := ⟨PLANE_ROLE,11,8⟩
def PLANE_CTL : Nat := 0xA00004
def PLANE_CTL_REJOIN_A : Fld := ⟨PLANE_CTL,31,31⟩
def PLANE_CTL_REJOIN_B : Fld := ⟨PLANE_CTL,30,30⟩
def PLANE_A_STAT : Nat := 0xA00008
def PLANE_A_STAT_STAGE : Fld := ⟨PLANE_A_STAT,31,28⟩
def PLANE_A_STAT_LAST_FAIL : Fld := ⟨PLANE_A_STAT,27,24⟩
def PLANE_A_STAT_ATTEMPTS : Fld := ⟨PLANE_A_STAT,19,16⟩
def PLANE_A_STAT_PGEN : Fld := ⟨PLANE_A_STAT,15,0⟩
def PLANE_B_STAT : Nat := 0xA0000C
def PLANE_B_STAT_STAGE : Fld := ⟨PLANE_B_STAT,31,28⟩
def PLANE_B_STAT_LAST_FAIL : Fld := ⟨PLANE_B_STAT,27,24⟩
def PLANE_B_STAT_ATTEMPTS : Fld := ⟨PLANE_B_STAT,19,16⟩
def PLANE_B_STAT_PGEN : Fld := ⟨PLANE_B_STAT,15,0⟩
def PLANE_SEL_CFG : Nat := 0xA00010
def PLANE_SEL_CFG_DIGEST_ACTIVE : Fld := ⟨PLANE_SEL_CFG,31,31⟩
def PLANE_HOLD_LEVEL : Nat := 0xA00014
def PLANE_HOLD_LEVEL_BYTES : Fld := ⟨PLANE_HOLD_LEVEL,22,0⟩
def PLANE_HOLD_PEAK : Nat := 0xA00018
def PLANE_HOLD_PEAK_WM_EVENT : Fld := ⟨PLANE_HOLD_PEAK,31,31⟩
def PLANE_HOLD_PEAK_BYTES : Fld := ⟨PLANE_HOLD_PEAK,22,0⟩
def PLANE_HOLD_WM : Nat := 0xA0001C
def PLANE_HOLD_WM_LEVEL : Fld := ⟨PLANE_HOLD_WM,22,0⟩
def PLANE_LAG_PEAK : Nat := 0xA00020
def PLANE_LAG_PEAK_RESET : Fld := ⟨PLANE_LAG_PEAK,31,31⟩
def PLANE_LAG_PEAK_PEAK : Fld := ⟨PLANE_LAG_PEAK,15,0⟩
def PLANE_TAKEOVER_CNT : Nat := 0xA00030
def PLANE_DISCREP_CNT : Nat := 0xA00034
def PLANE_REJOIN_CNT : Nat := 0xA00038
def PLANE_REJOIN_FAIL_CNT : Nat := 0xA0003C
def PLANE_LAST_TAKEOVER_LO : Nat := 0xA00040
def PLANE_LAST_TAKEOVER_HI : Nat := 0xA00044
def PLANE_LAST_DISCREP : Nat := 0xA00048
def PLANE_LAST_DISCREP_PORT : Fld := ⟨PLANE_LAST_DISCREP,8,0⟩
def PLANE_LAST_DISCREP_OSEQ : Nat := 0xA0004C
def PURLIN_STAT (k : Nat) : Nat := 0xA08000 + 0x100 * k
def PURLIN_STAT_UP (k : Nat) : Fld := ⟨PURLIN_STAT k, 31, 31⟩
def PURLIN_STAT_LANES (k : Nat) : Fld := ⟨PURLIN_STAT k, 3, 0⟩
def PURLIN_REPLAY_CNT (k : Nat) : Nat := 0xA08004 + 0x100 * k
def PURLIN_COPY_BYTES_LO (k : Nat) : Nat := 0xA08008 + 0x100 * k
def PURLIN_COPY_BYTES_HI (k : Nat) : Nat := 0xA0800C + 0x100 * k
def PLANE_JSTAT (k : Nat) (w : Nat) : Nat := 0xA0F000 + 0x40 * k + 0x4 * w

/-! the battery-backed file (R57, R469) -/

def BBR_STATUS : Nat := 0xF01000
def BBR_STATUS_BUSY : Fld := ⟨BBR_STATUS,0,0⟩
def BBR_FORMAT : Nat := 0xF00800
def BBR_FORMAT_FORMAT : Fld := ⟨BBR_FORMAT,15,0⟩
def BBR_FLOOR : Nat := 0xF00804
def BBR_FLOOR_INV : Nat := 0xF00808
def BBR_RESET_STUCK : Nat := 0xF00810
def BBR_RESET_STUCK_COUNT : Fld := ⟨BBR_RESET_STUCK,31,16⟩
def BBR_RESET_STUCK_NEW : Fld := ⟨BBR_RESET_STUCK,0,0⟩
def BBR_RESET_STUCK_S_LO : Nat := 0xF00814
def BBR_RESET_STUCK_S_HI : Nat := 0xF00818
def BBR_TAMPER : Nat := 0xF00820
def BBR_TAMPER_LATCHED : Fld := ⟨BBR_TAMPER,31,31⟩
def BBR_TAMPER_SOURCE : Fld := ⟨BBR_TAMPER,20,16⟩
def BBR_TAMPER_S_LO : Nat := 0xF00824
def BBR_TAMPER_S_HI : Nat := 0xF00828
def BBR_SAFE_LO (k : Nat) : Nat := 0xF00830 + 0x8 * k
def BBR_SAFE_HI (k : Nat) : Nat := 0xF00834 + 0x8 * k
def BBR_SAFE_IDX : Nat := 0xF00850
def BBR_SAFE_IDX_LIMIT : Fld := ⟨BBR_SAFE_IDX,31,31⟩
def BBR_SAFE_IDX_COUNT : Fld := ⟨BBR_SAFE_IDX,2,0⟩
def BBR_WAKE : Nat := 0xF00860
def BBR_WAKE_SOURCE : Fld := ⟨BBR_WAKE,31,28⟩
def BBR_WAKE_INDEX : Fld := ⟨BBR_WAKE,15,0⟩
def BBR_WAKE_S_LO : Nat := 0xF00864
def BBR_WAKE_S_HI : Nat := 0xF00868
def BBR_PAD_HELD : Nat := 0xF00870
def BBR_PAD_HELD_COURSES : Fld := ⟨BBR_PAD_HELD,15,0⟩
def BBR_PAD_LEVEL (k : Nat) : Nat := 0xF00874 + 0x4 * k
def BBR_SLEEP_CNT_LO : Nat := 0xF00890
def BBR_SLEEP_CNT_HI : Nat := 0xF00894
def BBR_SLEEP_CAL_LO : Nat := 0xF00898
def BBR_SLEEP_CAL_HI : Nat := 0xF0089C
def BBR_SHUTDOWN : Nat := 0xF008A0
def BBR_SHUTDOWN_KIND : Fld := ⟨BBR_SHUTDOWN,3,0⟩
def BBR_KINDLE_CNT : Nat := 0xF008A4
def BBR_HOST (k : Nat) : Nat := 0xF00000 + 0x4 * k

/-! BAR0 of an endpoint (R307) -/

def EP_ID : Nat := 0x0
def EP_ID_PART : Fld := ⟨EP_ID,31,16⟩
def EP_ID_HALF : Fld := ⟨EP_ID,3,3⟩
def EP_ID_ENDPOINT : Fld := ⟨EP_ID,2,0⟩
def EP_CTL : Nat := 0x4
def EP_CTL_ENABLE : Fld := ⟨EP_CTL,0,0⟩
def EP_STAT : Nat := 0x8
def EP_STAT_UP : Fld := ⟨EP_STAT,31,31⟩
def EP_STAT_PAIR_A : Fld := ⟨EP_STAT,30,30⟩
def EP_STAT_PAIR_B : Fld := ⟨EP_STAT,29,29⟩
def EP_STAT_FIELD : Fld := ⟨EP_STAT,27,26⟩
def EP_STAT_ROLE_B : Fld := ⟨EP_STAT,23,20⟩
def EP_STAT_ROLE_A : Fld := ⟨EP_STAT,19,16⟩
def EP_STAT_GEN : Fld := ⟨EP_STAT,7,0⟩
def EP_DGEN : Nat := 0xC
def EP_QP_COUNT : Nat := 0x10
def EP_QP_COUNT_COUNT : Fld := ⟨EP_QP_COUNT,8,0⟩
def EP_BADACC : Nat := 0x14
def PROXY_ADDR (k : Nat) : Nat := 0x800 + 0x40 * k
def PROXY_ADDR_ADDR (k : Nat) : Fld := ⟨PROXY_ADDR k, 27, 0⟩
def PROXY_COUNT (k : Nat) : Nat := 0x804 + 0x40 * k
def PROXY_COUNT_COUNT (k : Nat) : Fld := ⟨PROXY_COUNT k, 10, 0⟩
def PROXY_CMD (k : Nat) : Nat := 0x808 + 0x40 * k
def PROXY_CMD_CMD (k : Nat) : Fld := ⟨PROXY_CMD k, 2, 0⟩
def PROXY_RESULT_LO (k : Nat) : Nat := 0x810 + 0x40 * k
def PROXY_RESULT_LO_STATUS (k : Nat) : Fld := ⟨PROXY_RESULT_LO k, 31, 28⟩
def PROXY_RESULT_LO_DONE (k : Nat) : Fld := ⟨PROXY_RESULT_LO k, 10, 0⟩
def PROXY_RESULT_HI (k : Nat) : Nat := 0x814 + 0x40 * k
def PROXY_FLAGS (k : Nat) : Nat := 0x818 + 0x40 * k
def PROXY_FLAGS_OVERRUN (k : Nat) : Fld := ⟨PROXY_FLAGS k, 0, 0⟩
def BULK_OFFSET (k : Nat) : Nat := 0xC00 + 0x10 * k
def BULK_CTL (k : Nat) : Nat := 0xC04 + 0x10 * k
def BULK_CTL_POST (k : Nat) : Fld := ⟨BULK_CTL k, 31, 31⟩
def BULK_CTL_FREE (k : Nat) : Fld := ⟨BULK_CTL k, 30, 30⟩
def BULK_CTL_REFUSED (k : Nat) : Fld := ⟨BULK_CTL k, 29, 29⟩
def BULK_CTL_KIND (k : Nat) : Fld := ⟨BULK_CTL k, 25, 24⟩
def BULK_CTL_LENGTH (k : Nat) : Fld := ⟨BULK_CTL k, 13, 0⟩
def PROXY_DATA (k : Nat) (w : Nat) : Nat := 0x8000 + 0x1000 * k + 0x4 * w
def QP_SQ_BASE_LO (k : Nat) : Nat := 0x10000 + 0x40 * k
def QP_SQ_BASE_HI (k : Nat) : Nat := 0x10004 + 0x40 * k
def QP_SQ_SIZE (k : Nat) : Nat := 0x10008 + 0x40 * k
def QP_SQ_SIZE_ENTRIES (k : Nat) : Fld := ⟨QP_SQ_SIZE k, 12, 0⟩
def QP_SQ_TAIL (k : Nat) : Nat := 0x1000C + 0x40 * k
def QP_SQ_TAIL_TAIL (k : Nat) : Fld := ⟨QP_SQ_TAIL k, 11, 0⟩
def QP_SQ_HEAD (k : Nat) : Nat := 0x10010 + 0x40 * k
def QP_SQ_HEAD_HEAD (k : Nat) : Fld := ⟨QP_SQ_HEAD k, 11, 0⟩
def QP_RQ_BASE_LO (k : Nat) : Nat := 0x10014 + 0x40 * k
def QP_RQ_BASE_HI (k : Nat) : Nat := 0x10018 + 0x40 * k
def QP_RQ_SIZE (k : Nat) : Nat := 0x1001C + 0x40 * k
def QP_RQ_SIZE_ENTRIES (k : Nat) : Fld := ⟨QP_RQ_SIZE k, 12, 0⟩
def QP_RQ_TAIL (k : Nat) : Nat := 0x10020 + 0x40 * k
def QP_RQ_TAIL_TAIL (k : Nat) : Fld := ⟨QP_RQ_TAIL k, 11, 0⟩
def QP_CQ_BASE_LO (k : Nat) : Nat := 0x10024 + 0x40 * k
def QP_CQ_BASE_HI (k : Nat) : Nat := 0x10028 + 0x40 * k
def QP_CQ_SIZE (k : Nat) : Nat := 0x1002C + 0x40 * k
def QP_CQ_SIZE_ENTRIES (k : Nat) : Fld := ⟨QP_CQ_SIZE k, 12, 0⟩
def QP_CQ_HEAD (k : Nat) : Nat := 0x10030 + 0x40 * k
def QP_CQ_HEAD_HEAD (k : Nat) : Fld := ⟨QP_CQ_HEAD k, 11, 0⟩
def QP_CTL (k : Nat) : Nat := 0x10034 + 0x40 * k
def QP_CTL_ENABLE (k : Nat) : Fld := ⟨QP_CTL k, 31, 31⟩
def QP_CTL_VECTOR (k : Nat) : Fld := ⟨QP_CTL k, 5, 0⟩
def QP_INFO (k : Nat) : Nat := 0x10038 + 0x40 * k
def QP_INFO_CLASSES (k : Nat) : Fld := ⟨QP_INFO k, 31, 16⟩
def QP_INFO_TENANT (k : Nat) : Fld := ⟨QP_INFO k, 11, 0⟩
def QP_RQ_DROP (k : Nat) : Nat := 0x1003C + 0x40 * k

end Sys2Proof
end

