-- ==== Sys2Proof/Machine/RegRows.lean ====
section
/-!
DEFINITION. What each register of the manual is: its place, the access codes of its fields (R50), its reset value
and its reset domain (R42). One row per register or register array; a bit in no mask is RO or reserved.
-/

namespace Sys2Proof

/-- The reset domains of R42, widest first. -/
inductive Dom where
  | vbat | cold | device | plane | port
  deriving DecidableEq, Repr

/-- One register or register array: offset, two dimensions (count and stride), the masks of its RW (or RWG, PW)
bits, of its single W1C bits, of its W1C counter fields (R52) and of its WO bits; whether it is guarded (RWG or ROG,
R58), posted (PW, R56), the low (1) or high (2) word of a SNAP pair (R61); its domain; its reset value. -/
structure RegRow where
  off : Nat
  n1 : Nat
  s1 : Nat
  n2 : Nat
  s2 : Nat
  rw : Nat
  w1c : Nat
  ctr : Nat
  wo : Nat
  guard : Bool
  pw : Bool
  snap : Nat
  dom : Dom
  rst : Nat
  deriving DecidableEq, Repr

def rowsDEVICE : List RegRow := [
  ⟨0x0, 1, 0x0, 1, 0x0, 0x0, 0x0, 0x0, 0x0, false, false, 0, .cold, 0x40960000⟩  /- DEVICE_ID -/,
  ⟨0x4, 1, 0x0, 1, 0x0, 0x0, 0x0, 0x0, 0x0, false, false, 1, .cold, 0x0⟩  /- DEVICE_SERIAL_LO -/,
  ⟨0x8, 1, 0x0, 1, 0x0, 0x0, 0x0, 0x0, 0x0, false, false, 2, .cold, 0x0⟩  /- DEVICE_SERIAL_HI -/,
  ⟨0xC, 1, 0x0, 1, 0x0, 0x0, 0x0, 0x0, 0x0, false, false, 0, .plane, 0x0⟩  /- DEVICE_FW_VER -/,
  ⟨0x10, 1, 0x0, 1, 0x0, 0x0, 0x0, 0x0, 0x0, false, false, 0, .plane, 0x0⟩  /- DEVICE_TRUSS_VER -/,
  ⟨0x14, 1, 0x0, 1, 0x0, 0x0, 0x0, 0x0, 0x0, false, false, 0, .device, 0x0⟩  /- DEVICE_MODE -/,
  ⟨0x18, 1, 0x0, 1, 0x0, 0x0, 0x0, 0x0, 0x0, false, false, 1, .device, 0x0⟩  /- DEVICE_STREAM_LO -/,
  ⟨0x1C, 1, 0x0, 1, 0x0, 0x0, 0x0, 0x0, 0x0, false, false, 2, .device, 0x0⟩  /- DEVICE_STREAM_HI -/,
  ⟨0x20, 1, 0x0, 1, 0x0, 0xFFFFFFFF, 0x0, 0x0, 0x0, false, false, 0, .device, 0x0⟩  /- DEVICE_SCRATCH -/,
  ⟨0x28, 1, 0x0, 1, 0x0, 0x0, 0x0, 0xFFFFFFFF, 0x0, false, false, 0, .device, 0x0⟩  /- DEVICE_BUSERR_CNT -/,
  ⟨0x2C, 1, 0x0, 1, 0x0, 0x0, 0x0, 0x0, 0x0, false, false, 0, .device, 0x0⟩  /- DEVICE_BUSERR_ADDR -/,
  ⟨0x30, 1, 0x0, 1, 0x0, 0x0, 0x0, 0xFFFFFFFF, 0x0, false, false, 0, .device, 0x0⟩  /- DEVICE_GUARD_CNT -/,
  ⟨0x34, 1, 0x0, 1, 0x0, 0x0, 0x0, 0xFFFFFFFF, 0x0, false, false, 0, .device, 0x0⟩  /- DEVICE_SNAPMISS_CNT -/,
  ⟨0x38, 1, 0x0, 1, 0x0, 0x0, 0x0, 0xFFFFFFFF, 0x0, false, false, 0, .device, 0x0⟩  /- DEVICE_DISAGREE_CNT -/,
  ⟨0x40, 1, 0x0, 1, 0x0, 0xFFFF, 0x0, 0x0, 0xC0000000, false, false, 0, .device, 0x1FF⟩  /- DEVICE_DUMP_CTL -/,
  ⟨0x44, 1, 0x0, 1, 0x0, 0x0, 0x60000000, 0x0, 0x0, false, false, 0, .device, 0x0⟩  /- DEVICE_DUMP_STAT -/]

def rowsFLUE : List RegRow := [
  ⟨0x10000, 1, 0x0, 1, 0x0, 0x0, 0x0, 0x0, 0x0, false, false, 0, .cold, 0x0⟩  /- FLUE_SUMMARY -/,
  ⟨0x10010, 1, 0x0, 1, 0x0, 0x7FF, 0x0, 0x0, 0x0, false, false, 0, .device, 0x0⟩  /- FLUE_SEL -/,
  ⟨0x10014, 1, 0x0, 1, 0x0, 0x0, 0x18000000, 0xFFFF, 0x0, false, false, 0, .cold, 0x0⟩  /- FLUE_SRC_STAT -/,
  ⟨0x10018, 1, 0x0, 1, 0x0, 0x0, 0x0, 0x0, 0x0, false, false, 1, .cold, 0x0⟩  /- FLUE_SRC_FIRST_LO -/,
  ⟨0x1001C, 1, 0x0, 1, 0x0, 0x0, 0x0, 0x0, 0x0, false, false, 2, .cold, 0x0⟩  /- FLUE_SRC_FIRST_HI -/,
  ⟨0x10020, 1, 0x0, 1, 0x0, 0x0, 0x0, 0x0, 0x0, false, false, 1, .cold, 0x0⟩  /- FLUE_SRC_LAST_LO -/,
  ⟨0x10024, 1, 0x0, 1, 0x0, 0x0, 0x0, 0x0, 0x0, false, false, 2, .cold, 0x0⟩  /- FLUE_SRC_LAST_HI -/,
  ⟨0x10030, 1, 0x0, 1, 0x0, 0x7FF, 0x0, 0x0, 0xC0000000, true, false, 0, .device, 0x0⟩  /- FLUE_FORCE -/,
  ⟨0x10040, 1, 0x0, 1, 0x0, 0x0, 0x0, 0xFFFFFFFF, 0x0, false, false, 0, .cold, 0x0⟩  /- FLUE_SAFE_CNT -/,
  ⟨0x10044, 1, 0x0, 1, 0x0, 0x0, 0x0, 0x0, 0x0, false, false, 0, .cold, 0x0⟩  /- FLUE_LAST_SAFE -/,
  ⟨0x10048, 1, 0x0, 1, 0x0, 0x0, 0x0, 0x0, 0x0, false, false, 1, .cold, 0x0⟩  /- FLUE_LAST_SAFE_TS_LO -/,
  ⟨0x1004C, 1, 0x0, 1, 0x0, 0x0, 0x0, 0x0, 0x0, false, false, 2, .cold, 0x0⟩  /- FLUE_LAST_SAFE_TS_HI -/,
  ⟨0x10050, 1, 0x0, 1, 0x0, 0x0, 0x0, 0x0, 0x0, false, false, 0, .device, 0x1⟩  /- FLUE_ALIVE -/,
  ⟨0x10100, 64, 0x4, 1, 0x0, 0x0, 0xFFFFFFFF, 0x0, 0x0, false, false, 0, .cold, 0x0⟩  /- FLUE_CAUSE -/,
  ⟨0x10200, 64, 0x4, 1, 0x0, 0x0, 0x0, 0x0, 0x0, false, false, 0, .cold, 0x0⟩  /- FLUE_LIVE -/]

def rowsPOWER : List RegRow := [
  ⟨0x20000, 1, 0x0, 1, 0x0, 0x0, 0x40000000, 0x0, 0x0, false, false, 0, .device, 0x10000000⟩  /- PWR_STAT -/,
  ⟨0x20004, 1, 0x0, 1, 0x0, 0x7, 0x0, 0x0, 0x0, true, false, 0, .device, 0x0⟩  /- PWR_OVERRIDE -/,
  ⟨0x20008, 1, 0x0, 1, 0x0, 0x300, 0x80000000, 0x0, 0x0, false, false, 0, .device, 0x30000⟩  /- PWR_DVFS -/,
  ⟨0x2000C, 1, 0x0, 1, 0x0, 0x3FF03FF, 0x0, 0x0, 0x0, false, false, 0, .device, 0x0⟩  /- PWR_AVS -/,
  ⟨0x20010, 1, 0x0, 1, 0x0, 0x0, 0x0, 0x0, 0x0, false, false, 0, .device, 0x0⟩  /- PWR_VOLT -/,
  ⟨0x20014, 1, 0x0, 1, 0x0, 0x0, 0x0, 0x0, 0x0, false, false, 0, .device, 0x0⟩  /- PWR_TEMP -/,
  ⟨0x20018, 1, 0x0, 1, 0x0, 0x0, 0x0, 0xFFFFFFFF, 0x0, false, false, 0, .device, 0x0⟩  /- PWR_SEQ_REFUSE_CNT -/,
  ⟨0x2001C, 1, 0x0, 1, 0x0, 0x0, 0x0, 0xFFFFFFFF, 0x0, false, false, 0, .cold, 0x0⟩  /- PWR_WARN_CNT -/,
  ⟨0x20020, 1, 0x0, 1, 0x0, 0x0, 0x0, 0x0, 0x0, false, false, 0, .cold, 0x0⟩  /- PWR_LAST_WARN -/,
  ⟨0x20024, 1, 0x0, 1, 0x0, 0x0, 0x0, 0xFFFFFFFF, 0x0, false, false, 0, .device, 0x0⟩  /- PWR_AUTH_CNT -/,
  ⟨0x20028, 1, 0x0, 1, 0x0, 0x0, 0x0, 0x0, 0x0, false, false, 0, .device, 0x0⟩  /- PWR_PAD_HELD -/,
  ⟨0x2002C, 1, 0x0, 1, 0x0, 0x0, 0x0, 0x0, 0xFFFF, false, false, 0, .device, 0x0⟩  /- PWR_PAD_RELEASE -/,
  ⟨0x20040, 1, 0x0, 1, 0x0, 0xFFFFFFFF, 0x0, 0x0, 0x0, false, true, 0, .vbat, 0x0⟩  /- PWR_ALARM_LO -/,
  ⟨0x20044, 1, 0x0, 1, 0x0, 0xFFFF, 0x0, 0x0, 0x0, false, true, 0, .vbat, 0x0⟩  /- PWR_ALARM_HI -/,
  ⟨0x20048, 1, 0x0, 1, 0x0, 0x0, 0x2, 0x0, 0x0, false, false, 0, .vbat, 0x0⟩  /- PWR_ALARM_STAT -/]

def rowsTIME0 : List RegRow := [
  ⟨0x30000, 1, 0x0, 1, 0x0, 0x0, 0x0, 0x0, 0x0, false, false, 1, .cold, 0x0⟩  /- TIME_NOW_LO -/,
  ⟨0x30004, 1, 0x0, 1, 0x0, 0x0, 0x0, 0x0, 0x0, false, false, 2, .cold, 0x0⟩  /- TIME_NOW_HI -/,
  ⟨0x30008, 1, 0x0, 1, 0x0, 0x0, 0x0, 0x0, 0x0, false, false, 1, .cold, 0x0⟩  /- TIME_BASE_LO -/,
  ⟨0x3000C, 1, 0x0, 1, 0x0, 0x0, 0x0, 0x0, 0x0, false, false, 2, .cold, 0x0⟩  /- TIME_BASE_HI -/,
  ⟨0x30010, 1, 0x0, 1, 0x0, 0x0, 0x0, 0x0, 0x0, false, false, 0, .device, 0x80000000⟩  /- TIME_STAT -/,
  ⟨0x30014, 1, 0x0, 1, 0x0, 0x0, 0x0, 0x0, 0x0, false, false, 0, .device, 0xFFFFFFFF⟩  /- TIME_ERR -/,
  ⟨0x30018, 1, 0x0, 1, 0x0, 0x0, 0x0, 0x0, 0x0, false, false, 0, .device, 0x0⟩  /- TIME_FREQ -/,
  ⟨0x3001C, 1, 0x0, 1, 0x0, 0x0, 0x0, 0x0, 0x0, false, false, 0, .device, 0x0⟩  /- TIME_SLEW -/,
  ⟨0x30020, 1, 0x0, 1, 0x0, 0x0, 0x0, 0x0, 0x0, false, false, 1, .cold, 0x0⟩  /- TIME_STEP_SUM_LO -/,
  ⟨0x30024, 1, 0x0, 1, 0x0, 0x0, 0x0, 0x0, 0x0, false, false, 2, .cold, 0x0⟩  /- TIME_STEP_SUM_HI -/,
  ⟨0x30028, 1, 0x0, 1, 0x0, 0x0, 0x0, 0x0, 0x0, false, false, 1, .cold, 0x0⟩  /- TIME_LAST_STEP_LO -/,
  ⟨0x3002C, 1, 0x0, 1, 0x0, 0x0, 0x0, 0x0, 0x0, false, false, 2, .cold, 0x0⟩  /- TIME_LAST_STEP_HI -/,
  ⟨0x30030, 1, 0x0, 1, 0x0, 0x0, 0x0, 0x0, 0x0, false, false, 1, .device, 0x0⟩  /- TIME_TICK_LO -/,
  ⟨0x30034, 1, 0x0, 1, 0x0, 0x0, 0x0, 0x0, 0x0, false, false, 2, .device, 0x0⟩  /- TIME_TICK_HI -/,
  ⟨0x30040, 1, 0x0, 1, 0x0, 0x0, 0x80000000, 0x0, 0x0, false, false, 0, .device, 0x0⟩  /- TIME_PPS_STATUS -/,
  ⟨0x30044, 1, 0x0, 1, 0x0, 0x0, 0x0, 0x0, 0x0, false, false, 0, .device, 0x0⟩  /- TIME_PPS_STEP_SEQ -/,
  ⟨0x30048, 1, 0x0, 1, 0x0, 0x0, 0x0, 0x0, 0x0, false, false, 1, .device, 0x0⟩  /- TIME_PPS_IN_LO -/,
  ⟨0x3004C, 1, 0x0, 1, 0x0, 0x0, 0x0, 0x0, 0x0, false, false, 2, .device, 0x0⟩  /- TIME_PPS_IN_HI -/,
  ⟨0x30050, 1, 0x0, 1, 0x0, 0x0, 0x0, 0xFFFFFFFF, 0x0, false, false, 0, .device, 0x0⟩  /- TIME_PPS_IN_CNT -/,
  ⟨0x30054, 1, 0x0, 1, 0x0, 0x0, 0x0, 0xFFFFFFFF, 0x0, false, false, 0, .device, 0x0⟩  /- TIME_PPS_IN_BAD -/,
  ⟨0x30060, 1, 0x0, 1, 0x0, 0x0, 0x0, 0x0, 0x0, false, false, 0, .vbat, 0x0⟩  /- TIME_CAL_SEC_LO -/,
  ⟨0x30064, 1, 0x0, 1, 0x0, 0x0, 0x0, 0x0, 0x0, false, false, 0, .vbat, 0x0⟩  /- TIME_CAL_SEC_HI -/,
  ⟨0x30068, 1, 0x0, 1, 0x0, 0x0, 0x0, 0x0, 0x0, false, false, 0, .vbat, 0x0⟩  /- TIME_CAL_FRAC -/,
  ⟨0x3006C, 1, 0x0, 1, 0x0, 0x0, 0x0, 0x0, 0x0, false, false, 0, .vbat, 0x0⟩  /- TIME_CAL_TRIM -/]

def rowsTIME1 : List RegRow := [
  ⟨0x30070, 1, 0x0, 1, 0x0, 0x0, 0x0, 0x0, 0x0, false, false, 0, .vbat, 0x0⟩  /- TIME_CAL_SETAT_LO -/,
  ⟨0x30074, 1, 0x0, 1, 0x0, 0x0, 0x0, 0x0, 0x0, false, false, 0, .vbat, 0x0⟩  /- TIME_CAL_SETAT_HI -/,
  ⟨0x30078, 1, 0x0, 1, 0x0, 0x0, 0x0, 0x0, 0x0, false, false, 0, .vbat, 0x0⟩  /- TIME_CAL_ERR -/,
  ⟨0x3007C, 1, 0x0, 1, 0x0, 0x0, 0x0, 0x0, 0x0, false, false, 0, .vbat, 0x0⟩  /- TIME_CAL_STAT -/,
  ⟨0x30080, 1, 0x0, 1, 0x0, 0x0, 0x0, 0x0, 0x0, false, false, 0, .cold, 0x0⟩  /- TIME_MOTION0 -/,
  ⟨0x30084, 1, 0x0, 1, 0x0, 0x0, 0x0, 0x0, 0x0, false, false, 0, .cold, 0x0⟩  /- TIME_MOTION1 -/,
  ⟨0x30090, 1, 0x0, 1, 0x0, 0x0, 0x0, 0x0, 0x0, false, false, 0, .device, 0x0⟩  /- TIME_GPTP_OFS -/,
  ⟨0x30094, 1, 0x0, 1, 0x0, 0x0, 0x0, 0x0, 0x0, false, false, 0, .device, 0x0⟩  /- TIME_GPTP_PDELAY -/]

/-- the TIME block (R406) -/
def rowsTIME : List RegRow := rowsTIME0 ++ rowsTIME1

def rowsKILN : List RegRow := [
  ⟨0x40000, 1, 0x0, 1, 0x0, 0x0, 0x0, 0x0, 0x0, true, false, 0, .plane, 0x0⟩  /- KILN_LC -/,
  ⟨0x40004, 1, 0x0, 1, 0x0, 0xF00FFFF, 0x0, 0x0, 0xC0000000, true, false, 0, .plane, 0x0⟩  /- KILN_LC_CMD -/,
  ⟨0x40008, 1, 0x0, 1, 0x0, 0x0, 0x0, 0x0, 0x0, true, false, 0, .plane, 0x0⟩  /- KILN_LC_STAT -/,
  ⟨0x40010, 1, 0x0, 1, 0x0, 0x3, 0x0, 0x0, 0x80000000, true, false, 0, .plane, 0x0⟩  /- KILN_REVOKE -/,
  ⟨0x40020, 1, 0x0, 1, 0x0, 0x0, 0x0, 0x0, 0x7, true, false, 0, .plane, 0x0⟩  /- KILN_PROV_CMD -/,
  ⟨0x40024, 1, 0x0, 1, 0x0, 0x0, 0x0, 0x0, 0x0, true, false, 0, .plane, 0x0⟩  /- KILN_PROV_STAT -/,
  ⟨0x40080, 32, 0x4, 1, 0x0, 0xFFFFFFFF, 0x0, 0x0, 0x0, true, false, 0, .plane, 0x0⟩  /- KILN_PROV_DATA -/,
  ⟨0x40100, 1, 0x0, 1, 0x0, 0x3FF, 0x0, 0x0, 0x0, true, false, 0, .plane, 0x0⟩  /- KILN_SLOT_SEL -/,
  ⟨0x40104, 1, 0x0, 1, 0x0, 0x0, 0x0, 0x0, 0x0, true, false, 0, .plane, 0x0⟩  /- KILN_SLOT_ATTR -/,
  ⟨0x40110, 1, 0x0, 1, 0x0, 0x3FF, 0x0, 0x0, 0x80000000, true, false, 0, .plane, 0x0⟩  /- KILN_DESTROY -/,
  ⟨0x40120, 1, 0x0, 1, 0x0, 0x80000000, 0x0, 0x0, 0x0, true, false, 0, .plane, 0x0⟩  /- KILN_TAMPER -/]

def rowsRIDGE : List RegRow := [
  ⟨0x80000, 1, 0x0, 1, 0x0, 0x7, 0x0, 0x0, 0x0, false, false, 0, .plane, 0x0⟩  /- RIDGE_EP_SEL -/,
  ⟨0x80004, 1, 0x0, 1, 0x0, 0x0, 0x0, 0x0, 0x0, false, false, 0, .plane, 0x0⟩  /- RIDGE_EP_STAT -/,
  ⟨0x80008, 1, 0x0, 1, 0x0, 0x0, 0x0, 0xFFFFFFFF, 0x0, false, false, 0, .plane, 0x0⟩  /- RIDGE_EP_RESTARTS -/,
  ⟨0x80010, 1, 0x0, 1, 0x0, 0x0, 0x0, 0x0, 0x0, false, false, 1, .plane, 0x0⟩  /- RIDGE_ERRADDR_LO -/,
  ⟨0x80014, 1, 0x0, 1, 0x0, 0x0, 0x0, 0x0, 0x0, false, false, 2, .plane, 0x0⟩  /- RIDGE_ERRADDR_HI -/,
  ⟨0x80018, 1, 0x0, 1, 0x0, 0x0, 0x0, 0xFFFFFFFF, 0x0, false, false, 0, .plane, 0x0⟩  /- RIDGE_ERR_CNT -/,
  ⟨0x80020, 1, 0x0, 1, 0x0, 0x0, 0x0, 0xFFFFFFFF, 0x0, false, false, 0, .plane, 0x0⟩  /- RIDGE_HCRC_CNT -/,
  ⟨0x80024, 1, 0x0, 1, 0x0, 0x0, 0x0, 0xFFFFFFFF, 0x0, false, false, 0, .plane, 0x0⟩  /- RIDGE_CRC_CNT -/,
  ⟨0x80028, 1, 0x0, 1, 0x0, 0x0, 0x0, 0xFFFFFFFF, 0x0, false, false, 0, .plane, 0x0⟩  /- RIDGE_REJECT_CNT -/,
  ⟨0x8002C, 1, 0x0, 1, 0x0, 0x0, 0x0, 0xFFFFFFFF, 0x0, false, false, 0, .plane, 0x0⟩  /- RIDGE_DUP_CNT -/,
  ⟨0x80030, 1, 0x0, 1, 0x0, 0x0, 0x0, 0xFFFFFFFF, 0x0, false, false, 0, .plane, 0x0⟩  /- RIDGE_CLASS_CNT -/,
  ⟨0x80040, 1, 0x0, 1, 0x0, 0x3F, 0x0, 0x0, 0x0, false, false, 0, .plane, 0x0⟩  /- RIDGE_SEMA_SEL -/,
  ⟨0x80044, 1, 0x0, 1, 0x0, 0x0, 0x0, 0x0, 0x0, false, false, 0, .plane, 0x0⟩  /- RIDGE_SEMA_STAT -/]

def rowsSLOT0 : List RegRow := [
  ⟨0x0, 1, 0x0, 1, 0x0, 0x301, 0x0, 0x0, 0x80000000, false, false, 0, .device, 0x0⟩  /- SLOT_CTL -/,
  ⟨0x4, 1, 0x0, 1, 0x0, 0x0, 0x0, 0x0, 0x0, false, false, 0, .port, 0x0⟩  /- SLOT_STAT -/,
  ⟨0x8, 1, 0x0, 1, 0x0, 0x80FF001F, 0x0, 0x0, 0x0, false, false, 0, .device, 0x0⟩  /- SLOT_TX_CFG -/,
  ⟨0xC, 1, 0x0, 1, 0x0, 0x0, 0x0, 0x0, 0xFFFFFFFF, false, false, 0, .port, 0x0⟩  /- SLOT_TX_CANCEL -/,
  ⟨0x10, 1, 0x0, 1, 0x0, 0xFFFF7F7F, 0x0, 0x0, 0x0, false, false, 0, .device, 0x0⟩  /- SLOT_NBT -/,
  ⟨0x14, 1, 0x0, 1, 0x0, 0xFFFF7F7F, 0x0, 0x0, 0x0, false, false, 0, .device, 0x0⟩  /- SLOT_DBT -/,
  ⟨0x18, 1, 0x0, 1, 0x0, 0x80007F7F, 0x0, 0x0, 0x0, false, false, 0, .device, 0x0⟩  /- SLOT_TDC -/,
  ⟨0x1C, 1, 0x0, 1, 0x0, 0xFFFF7F7F, 0x0, 0x0, 0x0, false, false, 0, .device, 0x0⟩  /- SLOT_XBT -/,
  ⟨0x20, 1, 0x0, 1, 0x0, 0x80FF00FF, 0x0, 0x0, 0x0, false, false, 0, .device, 0x0⟩  /- SLOT_DETECT -/,
  ⟨0x24, 1, 0x0, 1, 0x0, 0x0, 0x0, 0x0, 0x0, false, false, 0, .device, 0x0⟩  /- SLOT_FILT -/,
  ⟨0x28, 1, 0x0, 1, 0x0, 0xFFF, 0x0, 0x0, 0xC0000000, false, false, 0, .port, 0x0⟩  /- SLOT_FE_IDX -/,
  ⟨0x2C, 1, 0x0, 1, 0x0, 0x803F3F3F, 0x0, 0x0, 0x0, false, false, 0, .device, 0x0⟩  /- SLOT_XL -/,
  ⟨0x30, 4, 0x4, 1, 0x0, 0xFFFFFFFF, 0x0, 0x0, 0x0, false, false, 0, .port, 0x0⟩  /- SLOT_FE_DATA -/,
  ⟨0x40, 8, 0x4, 1, 0x0, 0xFFFFFFFF, 0x0, 0x0, 0x0, false, false, 0, .device, 0x0⟩  /- SLOT_CAND -/,
  ⟨0x80, 1, 0x0, 1, 0x0, 0x0, 0x0, 0x0, 0x0, false, false, 0, .port, 0x0⟩  /- SLOT_ERRCNT -/,
  ⟨0x84, 1, 0x0, 1, 0x0, 0x0, 0xFFF, 0x0, 0x0, false, false, 0, .port, 0x0⟩  /- SLOT_ERRFLAG -/,
  ⟨0x88, 1, 0x0, 1, 0x0, 0x0, 0x0, 0x0, 0x0, false, false, 0, .port, 0x0⟩  /- SLOT_TX_PEND -/,
  ⟨0x8C, 1, 0x0, 1, 0x0, 0x0, 0x0, 0x0, 0x0, false, false, 0, .port, 0x0⟩  /- SLOT_TXLAST -/,
  ⟨0x90, 1, 0x0, 1, 0x0, 0x0, 0x0, 0xFFFFFFFF, 0x0, false, false, 0, .device, 0x0⟩  /- SLOT_RX_OK -/,
  ⟨0x94, 1, 0x0, 1, 0x0, 0x0, 0x0, 0xFFFFFFFF, 0x0, false, false, 0, .device, 0x0⟩  /- SLOT_TX_OK -/,
  ⟨0x98, 1, 0x0, 1, 0x0, 0x0, 0x0, 0xFFFFFFFF, 0x0, false, false, 0, .device, 0x0⟩  /- SLOT_RX_NOMATCH -/,
  ⟨0x9C, 1, 0x0, 1, 0x0, 0x0, 0x0, 0xFFFFFFFF, 0x0, false, false, 0, .device, 0x0⟩  /- SLOT_RX_REJECT -/,
  ⟨0xA0, 1, 0x0, 1, 0x0, 0x0, 0x0, 0xFFFFFFFF, 0x0, false, false, 0, .device, 0x0⟩  /- SLOT_TXDROP_RETRY -/,
  ⟨0xA4, 1, 0x0, 1, 0x0, 0x0, 0x0, 0xFFFFFFFF, 0x0, false, false, 0, .device, 0x0⟩  /- SLOT_TXDROP_AGE -/]

def rowsSLOT1 : List RegRow := [
  ⟨0xA8, 1, 0x0, 1, 0x0, 0x0, 0x0, 0xFFFFFFFF, 0x0, false, false, 0, .device, 0x0⟩  /- SLOT_TXDROP_OVFL -/,
  ⟨0xAC, 1, 0x0, 1, 0x0, 0x0, 0x0, 0xFFFFFFFF, 0x0, false, false, 0, .device, 0x0⟩  /- SLOT_TXDROP_CANCEL -/,
  ⟨0xB0, 1, 0x0, 1, 0x0, 0x0, 0x0, 0xFFFFFFFF, 0x0, false, false, 0, .device, 0x0⟩  /- SLOT_TXDROP_OTHER -/,
  ⟨0xB4, 1, 0x0, 1, 0x0, 0x0, 0x0, 0xFFFFFFFF, 0x0, false, false, 0, .device, 0x0⟩  /- SLOT_BUSOFF_CNT -/,
  ⟨0xB8, 1, 0x0, 1, 0x0, 0x0, 0x0, 0xFFFFFFFF, 0x0, false, false, 0, .device, 0x0⟩  /- SLOT_PXE_CNT -/,
  ⟨0xBC, 1, 0x0, 1, 0x0, 0x0, 0x0, 0xFFFFFFFF, 0x0, false, false, 0, .device, 0x0⟩  /- SLOT_DETECT_CNT -/,
  ⟨0xC0, 1, 0x0, 1, 0x0, 0x0, 0x0, 0xFFFFFFFF, 0x0, false, false, 0, .device, 0x0⟩  /- SLOT_MB_LOCKTO -/,
  ⟨0x100, 1, 0x0, 1, 0x0, 0x3F, 0x0, 0x0, 0x0, false, false, 0, .port, 0x0⟩  /- SLOT_RXMB_SEL -/,
  ⟨0x104, 1, 0x0, 1, 0x0, 0x0, 0x0, 0x0, 0x0, false, false, 1, .port, 0x0⟩  /- SLOT_RXMB_NEW_LO -/,
  ⟨0x108, 1, 0x0, 1, 0x0, 0x0, 0x0, 0x0, 0x0, false, false, 2, .port, 0x0⟩  /- SLOT_RXMB_NEW_HI -/,
  ⟨0x200, 1, 0x0, 1, 0x0, 0x0, 0x0, 0x0, 0x0, false, false, 0, .port, 0x0⟩  /- SLOT_MB_STATUS -/,
  ⟨0x204, 1, 0x0, 1, 0x0, 0x0, 0x0, 0x0, 0x0, false, false, 0, .port, 0x0⟩  /- SLOT_MB_ID -/,
  ⟨0x208, 1, 0x0, 1, 0x0, 0x0, 0x0, 0x0, 0x0, false, false, 0, .port, 0x0⟩  /- SLOT_MB_FMT -/,
  ⟨0x20C, 1, 0x0, 1, 0x0, 0x0, 0x0, 0x0, 0x0, false, false, 0, .port, 0x0⟩  /- SLOT_MB_AF -/,
  ⟨0x210, 1, 0x0, 1, 0x0, 0x0, 0x0, 0x0, 0x0, false, false, 1, .port, 0x0⟩  /- SLOT_MB_TS_LO -/,
  ⟨0x214, 1, 0x0, 1, 0x0, 0x0, 0x0, 0x0, 0x0, false, false, 2, .port, 0x0⟩  /- SLOT_MB_TS_HI -/,
  ⟨0x218, 16, 0x4, 1, 0x0, 0x0, 0x0, 0x0, 0x0, false, false, 0, .port, 0x0⟩  /- SLOT_MB_DATA -/]

/-- CAN slot registers, offsets from the slot base (R96) -/
def rowsSLOT : List RegRow := rowsSLOT0 ++ rowsSLOT1

def rowsSLOW : List RegRow := [
  ⟨0x0, 1, 0x0, 1, 0x0, 0x301, 0x0, 0x0, 0x80000000, false, false, 0, .device, 0x0⟩  /- SLOT_CTL -/,
  ⟨0x4, 1, 0x0, 1, 0x0, 0x0, 0x0, 0x0, 0x0, false, false, 0, .port, 0x0⟩  /- SLOT_STAT -/,
  ⟨0x8, 1, 0x0, 1, 0x0, 0xFF1FFFFF, 0x0, 0x0, 0x0, false, false, 0, .device, 0x0⟩  /- SLOT_SB_CFG -/,
  ⟨0xC, 1, 0x0, 1, 0x0, 0xFFFFFCFF, 0x0, 0x0, 0x0, false, false, 0, .device, 0x0⟩  /- SLOT_SB_FRAME -/,
  ⟨0x10, 1, 0x0, 1, 0x0, 0x1F07, 0x0, 0x0, 0x0, false, false, 0, .device, 0x0⟩  /- SLOT_LIN_CFG -/,
  ⟨0x14, 1, 0x0, 1, 0x0, 0xF00000, 0x0, 0x0, 0xC0000000, false, false, 0, .port, 0x0⟩  /- SLOT_LIN_SCHED -/,
  ⟨0x18, 1, 0x0, 1, 0x0, 0x1F, 0x0, 0x0, 0x0, false, false, 0, .device, 0x0⟩  /- SLOT_SB_TX -/,
  ⟨0x1C, 1, 0x0, 1, 0x0, 0x0, 0x0, 0x0, 0x80000000, false, false, 0, .port, 0x0⟩  /- SLOT_PK_CTL -/,
  ⟨0x20, 1, 0x0, 1, 0x0, 0x0, 0x0, 0x0, 0x0, false, false, 0, .port, 0x0⟩  /- SLOT_PK_COUNT -/,
  ⟨0x84, 1, 0x0, 1, 0x0, 0x0, 0x9FF, 0x0, 0x0, false, false, 0, .port, 0x0⟩  /- SLOT_SB_ERRFLAG -/,
  ⟨0x8C, 1, 0x0, 1, 0x0, 0x0, 0x0, 0x0, 0x0, false, false, 0, .port, 0x0⟩  /- SLOT_TXLAST -/,
  ⟨0x90, 1, 0x0, 1, 0x0, 0x0, 0x0, 0xFFFFFFFF, 0x0, false, false, 0, .device, 0x0⟩  /- SLOT_RX_OK -/,
  ⟨0x94, 1, 0x0, 1, 0x0, 0x0, 0x0, 0xFFFFFFFF, 0x0, false, false, 0, .device, 0x0⟩  /- SLOT_TX_OK -/,
  ⟨0x98, 1, 0x0, 1, 0x0, 0x0, 0x0, 0xFFFFFFFF, 0x0, false, false, 0, .device, 0x0⟩  /- SLOT_RX_NOMATCH -/,
  ⟨0x9C, 1, 0x0, 1, 0x0, 0x0, 0x0, 0xFFFFFFFF, 0x0, false, false, 0, .device, 0x0⟩  /- SLOT_SB_RXERR -/,
  ⟨0xA0, 1, 0x0, 1, 0x0, 0x0, 0x0, 0xFFFFFFFF, 0x0, false, false, 0, .device, 0x0⟩  /- SLOT_TXDROP_RETRY -/,
  ⟨0xA4, 1, 0x0, 1, 0x0, 0x0, 0x0, 0xFFFFFFFF, 0x0, false, false, 0, .device, 0x0⟩  /- SLOT_TXDROP_AGE -/,
  ⟨0xA8, 1, 0x0, 1, 0x0, 0x0, 0x0, 0xFFFFFFFF, 0x0, false, false, 0, .device, 0x0⟩  /- SLOT_TXDROP_OVFL -/,
  ⟨0xAC, 1, 0x0, 1, 0x0, 0x0, 0x0, 0xFFFFFFFF, 0x0, false, false, 0, .device, 0x0⟩  /- SLOT_SB_COLL -/,
  ⟨0xB0, 1, 0x0, 1, 0x0, 0x0, 0x0, 0xFFFFFFFF, 0x0, false, false, 0, .device, 0x0⟩  /- SLOT_TXDROP_OTHER -/,
  ⟨0xB4, 1, 0x0, 1, 0x0, 0x0, 0x0, 0xFFFFFFFF, 0x0, false, false, 0, .device, 0x0⟩  /- SLOT_SB_NORESP -/]

def rowsBATTEN : List RegRow := [
  ⟨0x0, 1, 0x0, 1, 0x0, 0x1, 0x0, 0x0, 0x80000000, false, false, 0, .device, 0x0⟩  /- BT_CTL -/,
  ⟨0x4, 1, 0x0, 1, 0x0, 0x0, 0x0, 0x0, 0x0, false, false, 0, .port, 0xFF0000⟩  /- BT_STAT -/,
  ⟨0x8, 1, 0x0, 1, 0x0, 0x0, 0x0, 0x0, 0x0, false, false, 0, .device, 0x0⟩  /- BT_CFG -/,
  ⟨0xC, 1, 0x0, 1, 0x0, 0x0, 0x0, 0x0, 0x0, false, false, 0, .device, 0x0⟩  /- BT_SWEEP -/,
  ⟨0x10, 1, 0x0, 1, 0x0, 0x0, 0x0, 0xFFFFFFFF, 0x0, false, false, 0, .port, 0x0⟩  /- BT_SWEEP_CNT -/,
  ⟨0x14, 1, 0x0, 1, 0x0, 0x0, 0x0, 0xFFFFFFFF, 0x0, false, false, 0, .port, 0x0⟩  /- BT_BREAK_CNT -/,
  ⟨0x18, 1, 0x0, 1, 0x0, 0x0, 0x0, 0xFFFFFFFF, 0x0, false, false, 0, .port, 0x0⟩  /- BT_CRC_ERR -/,
  ⟨0x20, 1, 0x0, 1, 0x0, 0x0, 0x0, 0x0, 0x0, false, false, 1, .port, 0x0⟩  /- BT_LAST_TS_LO -/,
  ⟨0x24, 1, 0x0, 1, 0x0, 0x0, 0x0, 0x0, 0x0, false, false, 2, .port, 0x0⟩  /- BT_LAST_TS_HI -/,
  ⟨0x200, 128, 0x4, 1, 0x0, 0x0, 0x0, 0x0, 0x0, false, false, 0, .device, 0x1FF⟩  /- BT_MAP -/,
  ⟨0x400, 128, 0x4, 1, 0x0, 0x80000007, 0x0, 0x0, 0x0, false, true, 0, .port, 0x0⟩  /- BT_OVR -/,
  ⟨0x800, 16, 0x40, 10, 0x4, 0x0, 0x0, 0x0, 0x0, false, false, 0, .port, 0x0⟩  /- BT_RES -/]

def rowsNETSLEEP : List RegRow := [
  ⟨0x190000, 1, 0x0, 1, 0x0, 0x0, 0x0, 0x0, 0x0, false, false, 1, .plane, 0x0⟩  /- NS_READY_LO -/,
  ⟨0x190004, 1, 0x0, 1, 0x0, 0x0, 0x0, 0x0, 0x0, false, false, 2, .plane, 0x0⟩  /- NS_READY_HI -/,
  ⟨0x190008, 1, 0x0, 1, 0x0, 0x0, 0x0, 0x0, 0x0, false, false, 0, .plane, 0x0⟩  /- NS_NOT_READY -/,
  ⟨0x190010, 1, 0x0, 1, 0x0, 0x3F, 0x0, 0x0, 0x0, false, false, 0, .plane, 0x0⟩  /- NS_SEL -/,
  ⟨0x190014, 1, 0x0, 1, 0x0, 0x0, 0x0, 0x0, 0x0, false, false, 0, .plane, 0x0⟩  /- NS_NET_CFG -/,
  ⟨0x190018, 1, 0x0, 1, 0x0, 0x0, 0x0, 0x0, 0x0, false, false, 0, .plane, 0x0⟩  /- NS_NET_STAT -/,
  ⟨0x19001C, 1, 0x0, 1, 0x0, 0x0, 0x0, 0x0, 0x0, false, false, 1, .plane, 0x0⟩  /- NS_LAST_KA_LO -/,
  ⟨0x190020, 1, 0x0, 1, 0x0, 0x0, 0x0, 0x0, 0x0, false, false, 2, .plane, 0x0⟩  /- NS_LAST_KA_HI -/,
  ⟨0x190024, 1, 0x0, 1, 0x0, 0x0, 0x0, 0x0, 0x0, false, false, 0, .plane, 0x0⟩  /- NS_OTHER_MS -/,
  ⟨0x190028, 1, 0x0, 1, 0x0, 0x0, 0x0, 0xFFFFFFFF, 0x0, false, false, 0, .plane, 0x0⟩  /- NS_KA_CNT -/,
  ⟨0x190040, 8, 0x10, 1, 0x0, 0x0, 0x0, 0x0, 0x0, false, false, 0, .plane, 0x0⟩  /- NS_HOLD -/,
  ⟨0x190044, 8, 0x10, 1, 0x0, 0x0, 0x0, 0x0, 0x0, false, false, 0, .plane, 0x0⟩  /- NS_HOLD_MS -/,
  ⟨0x190048, 8, 0x10, 1, 0x0, 0x0, 0x0, 0x0, 0x0, false, false, 1, .plane, 0x0⟩  /- NS_HOLD_ID_LO -/,
  ⟨0x19004C, 8, 0x10, 1, 0x0, 0x0, 0x0, 0x0, 0x0, false, false, 2, .plane, 0x0⟩  /- NS_HOLD_ID_HI -/,
  ⟨0x190100, 1, 0x0, 1, 0x0, 0x0, 0x0, 0x0, 0x0, false, false, 0, .plane, 0x0⟩  /- NS_WAKE_CFG -/,
  ⟨0x190104, 1, 0x0, 1, 0x0, 0x0, 0x0, 0x0, 0x0, false, false, 0, .plane, 0x0⟩  /- NS_WAKEN_CFG -/,
  ⟨0x190108, 1, 0x0, 1, 0x0, 0x0, 0x0, 0x0, 0x0, false, false, 0, .device, 0x80000000⟩  /- NS_WAKE_PINS -/,
  ⟨0x19010C, 1, 0x0, 1, 0x0, 0x0, 0x0, 0xFFFFFFFF, 0x0, false, false, 0, .plane, 0x0⟩  /- NS_WAKE_EXTRA -/]

def rowsETH0 : List RegRow := [
  ⟨0x0, 1, 0x0, 1, 0x0, 0x1, 0x0, 0x0, 0x80000000, false, false, 0, .device, 0x0⟩  /- ETH_CTL -/,
  ⟨0x4, 1, 0x0, 1, 0x0, 0x0, 0x0, 0x0, 0x0, false, false, 0, .port, 0xF000000⟩  /- ETH_STAT -/,
  ⟨0x8, 1, 0x0, 1, 0x0, 0xFF003FFF, 0x0, 0x0, 0x0, false, false, 0, .device, 0x0⟩  /- ETH_MODE -/,
  ⟨0xC, 1, 0x0, 1, 0x0, 0xFFFFFFFF, 0x0, 0x0, 0x0, false, false, 0, .device, 0x0⟩  /- ETH_TS_LAT -/,
  ⟨0x10, 1, 0x0, 1, 0x0, 0x9F00000F, 0x0, 0x0, 0x0, false, false, 0, .device, 0x0⟩  /- ETH_PHY -/,
  ⟨0x14, 1, 0x0, 1, 0x0, 0x0, 0x0, 0x0, 0xF01FFFFF, false, false, 0, .port, 0x0⟩  /- ETH_MDIO_CMD -/,
  ⟨0x18, 1, 0x0, 1, 0x0, 0x0, 0x0, 0x0, 0x0, false, false, 0, .port, 0x0⟩  /- ETH_MDIO_RES -/,
  ⟨0x1C, 1, 0x0, 1, 0x0, 0x0, 0x3F, 0x0, 0x0, false, false, 0, .port, 0x0⟩  /- ETH_ERRFLAG -/,
  ⟨0x20, 1, 0x0, 1, 0x0, 0x0, 0x0, 0x0, 0x0, false, false, 1, .port, 0x0⟩  /- ETH_TXTS_LO -/,
  ⟨0x24, 1, 0x0, 1, 0x0, 0x0, 0x0, 0x0, 0x0, false, false, 2, .port, 0x0⟩  /- ETH_TXTS_HI -/,
  ⟨0x28, 1, 0x0, 1, 0x0, 0x0, 0x0, 0x0, 0x0, false, false, 0, .port, 0x0⟩  /- ETH_TXTS_TAG -/,
  ⟨0x80, 1, 0x0, 1, 0x0, 0x0, 0x0, 0xFFFFFFFF, 0x0, false, false, 0, .device, 0x0⟩  /- ETH_RX_OK -/,
  ⟨0x84, 1, 0x0, 1, 0x0, 0x0, 0x0, 0xFFFFFFFF, 0x0, false, false, 0, .device, 0x0⟩  /- ETH_TX_OK -/,
  ⟨0x88, 1, 0x0, 1, 0x0, 0x0, 0x0, 0xFFFFFFFF, 0x0, false, false, 0, .device, 0x0⟩  /- ETH_RX_FCS -/,
  ⟨0x8C, 1, 0x0, 1, 0x0, 0x0, 0x0, 0xFFFFFFFF, 0x0, false, false, 0, .device, 0x0⟩  /- ETH_RX_RUNT -/,
  ⟨0x90, 1, 0x0, 1, 0x0, 0x0, 0x0, 0xFFFFFFFF, 0x0, false, false, 0, .device, 0x0⟩  /- ETH_RX_OVERSIZE -/,
  ⟨0x94, 1, 0x0, 1, 0x0, 0x0, 0x0, 0xFFFFFFFF, 0x0, false, false, 0, .device, 0x0⟩  /- ETH_RX_CTLDROP -/,
  ⟨0x98, 1, 0x0, 1, 0x0, 0x0, 0x0, 0xFFFFFFFF, 0x0, false, false, 0, .device, 0x0⟩  /- ETH_RX_LOCAL -/,
  ⟨0x9C, 1, 0x0, 1, 0x0, 0x0, 0x0, 0xFFFFFFFF, 0x0, false, false, 0, .device, 0x0⟩  /- ETH_TXDROP_LINK -/,
  ⟨0xA0, 1, 0x0, 1, 0x0, 0x0, 0x0, 0xFFFFFFFF, 0x0, false, false, 0, .device, 0x0⟩  /- ETH_TXDROP_OVFL -/,
  ⟨0xA4, 1, 0x0, 1, 0x0, 0x0, 0x0, 0xFFFFFFFF, 0x0, false, false, 0, .device, 0x0⟩  /- ETH_LINK_DOWN_CNT -/,
  ⟨0xB0, 1, 0x0, 1, 0x0, 0x0, 0x0, 0x0, 0x0, false, false, 1, .device, 0x0⟩  /- ETH_RX_OCTETS_LO -/,
  ⟨0xB4, 1, 0x0, 1, 0x0, 0x0, 0x0, 0x0, 0x0, false, false, 2, .device, 0x0⟩  /- ETH_RX_OCTETS_HI -/,
  ⟨0xB8, 1, 0x0, 1, 0x0, 0x0, 0x0, 0x0, 0x0, false, false, 1, .device, 0x0⟩  /- ETH_TX_OCTETS_LO -/]

def rowsETH1 : List RegRow := [
  ⟨0xBC, 1, 0x0, 1, 0x0, 0x0, 0x0, 0x0, 0x0, false, false, 2, .device, 0x0⟩  /- ETH_TX_OCTETS_HI -/,
  ⟨0x100, 8, 0x8, 1, 0x0, 0xFFFFFFFF, 0x0, 0x0, 0x0, false, false, 0, .port, 0x0⟩  /- ETH_LSA_LO -/,
  ⟨0x104, 8, 0x8, 1, 0x0, 0xFFFF, 0x0, 0x0, 0x0, false, false, 0, .port, 0x0⟩  /- ETH_LSA_HI -/,
  ⟨0x200, 1, 0x0, 1, 0x0, 0xFF, 0x0, 0x0, 0x80000000, false, false, 0, .port, 0x0⟩  /- ETH_GCL_IDX -/,
  ⟨0x204, 1, 0x0, 1, 0x0, 0x0, 0x0, 0x0, 0x0, false, false, 0, .port, 0x0⟩  /- ETH_GCL_DATA0 -/,
  ⟨0x208, 1, 0x0, 1, 0x0, 0x0, 0x0, 0x0, 0x0, false, false, 0, .port, 0x0⟩  /- ETH_GCL_DATA1 -/,
  ⟨0x210, 1, 0x0, 1, 0x0, 0x0, 0x0, 0x0, 0x0, false, false, 1, .device, 0x0⟩  /- ETH_GATE_BASE_LO -/,
  ⟨0x214, 1, 0x0, 1, 0x0, 0x0, 0x0, 0x0, 0x0, false, false, 2, .device, 0x0⟩  /- ETH_GATE_BASE_HI -/,
  ⟨0x218, 1, 0x0, 1, 0x0, 0x0, 0x0, 0x0, 0x0, false, false, 0, .device, 0x0⟩  /- ETH_GATE_CYCLE -/,
  ⟨0x21C, 1, 0x0, 1, 0x0, 0x0, 0x0, 0x0, 0x0, false, false, 0, .device, 0x0⟩  /- ETH_GATE_CTL -/,
  ⟨0x240, 8, 0x4, 1, 0x0, 0x0, 0x0, 0x0, 0x0, false, false, 0, .device, 0x0⟩  /- ETH_CBS -/]

/-- Ethernet port registers (06) -/
def rowsETH : List RegRow := rowsETH0 ++ rowsETH1

def rowsT1S : List RegRow := [
  ⟨0x0, 1, 0x0, 1, 0x0, 0x1, 0x0, 0x0, 0x80000000, false, false, 0, .device, 0x0⟩  /- T1S_CTL -/,
  ⟨0x4, 1, 0x0, 1, 0x0, 0x0, 0x0, 0x0, 0x0, false, false, 0, .port, 0x0⟩  /- T1S_STAT -/,
  ⟨0x8, 1, 0x0, 1, 0x0, 0xFFFF, 0x0, 0x0, 0x0, false, false, 0, .device, 0x0⟩  /- T1S_PLCA_CFG -/,
  ⟨0xC, 1, 0x0, 1, 0x0, 0xFFFFFF, 0x0, 0x0, 0x0, false, false, 0, .device, 0x0⟩  /- T1S_PLCA_TMR -/,
  ⟨0x10, 1, 0x0, 1, 0x0, 0xFF, 0x0, 0x0, 0x0, false, false, 0, .device, 0x0⟩  /- T1S_LINK_CFG -/,
  ⟨0x80, 1, 0x0, 1, 0x0, 0x0, 0x0, 0xFFFFFFFF, 0x0, false, false, 0, .device, 0x0⟩  /- T1S_RX_OK -/,
  ⟨0x84, 1, 0x0, 1, 0x0, 0x0, 0x0, 0xFFFFFFFF, 0x0, false, false, 0, .device, 0x0⟩  /- T1S_TX_OK -/,
  ⟨0x88, 1, 0x0, 1, 0x0, 0x0, 0x0, 0xFFFFFFFF, 0x0, false, false, 0, .device, 0x0⟩  /- T1S_RX_FCS -/,
  ⟨0x8C, 1, 0x0, 1, 0x0, 0x0, 0x0, 0xFFFFFFFF, 0x0, false, false, 0, .device, 0x0⟩  /- T1S_RX_RUNT -/,
  ⟨0x90, 1, 0x0, 1, 0x0, 0x0, 0x0, 0xFFFFFFFF, 0x0, false, false, 0, .device, 0x0⟩  /- T1S_COLL -/,
  ⟨0x94, 1, 0x0, 1, 0x0, 0x0, 0x0, 0xFFFFFFFF, 0x0, false, false, 0, .device, 0x0⟩  /- T1S_TXDROP -/,
  ⟨0x98, 1, 0x0, 1, 0x0, 0x0, 0x0, 0xFFFFFFFF, 0x0, false, false, 0, .device, 0x0⟩  /- T1S_BEACON_LOSS -/,
  ⟨0x100, 8, 0x8, 1, 0x0, 0xFFFFFFFF, 0x0, 0x0, 0x0, false, false, 0, .port, 0x0⟩  /- T1S_LSA low words -/,
  ⟨0x104, 8, 0x8, 1, 0x0, 0xFFFF, 0x0, 0x0, 0x0, false, false, 0, .port, 0x0⟩  /- T1S_LSA high words -/]

def rowsSWITCH0 : List RegRow := [
  ⟨0x300000, 1, 0x0, 1, 0x0, 0x0, 0x0, 0x0, 0x0, false, false, 0, .plane, 0x0⟩  /- SW_BUF_USED -/,
  ⟨0x300004, 1, 0x0, 1, 0x0, 0x0, 0x0, 0x0, 0x0, false, false, 0, .plane, 0x0⟩  /- SW_BUF_PEAK -/,
  ⟨0x300008, 1, 0x0, 1, 0x0, 0x1FFFF, 0x80000000, 0x0, 0x0, false, false, 0, .plane, 0x16000⟩  /- SW_BUF_WM -/,
  ⟨0x300010, 1, 0x0, 1, 0x0, 0x1FF07, 0x0, 0x0, 0x0, false, false, 0, .plane, 0x0⟩  /- SW_Q_SEL -/,
  ⟨0x300014, 1, 0x0, 1, 0x0, 0xF, 0x0, 0x0, 0x0, false, false, 0, .plane, 0x0⟩  /- SW_Q_CFG -/,
  ⟨0x300018, 1, 0x0, 1, 0x0, 0x0, 0x0, 0x0, 0x0, false, false, 0, .plane, 0x0⟩  /- SW_Q_LEVEL -/,
  ⟨0x30001C, 1, 0x0, 1, 0x0, 0x0, 0x80000000, 0x0, 0x0, false, false, 0, .plane, 0x0⟩  /- SW_Q_PEAK -/,
  ⟨0x300020, 1, 0x0, 1, 0x0, 0x1FFFF, 0x0, 0x0, 0x0, false, false, 0, .plane, 0x80⟩  /- SW_Q_WM -/,
  ⟨0x300024, 1, 0x0, 1, 0x0, 0x0, 0x0, 0xFFFFFFFF, 0x0, false, false, 0, .plane, 0x0⟩  /- SW_Q_DROP -/,
  ⟨0x300028, 1, 0x0, 1, 0x0, 0x0, 0x0, 0xFFFFFFFF, 0x0, false, false, 0, .plane, 0x0⟩  /- SW_Q_AGED -/,
  ⟨0x300030, 1, 0x0, 1, 0x0, 0x1FF, 0x0, 0x0, 0x0, false, false, 0, .plane, 0x0⟩  /- SW_PORT_SEL -/,
  ⟨0x300034, 1, 0x0, 1, 0x0, 0x0, 0x0, 0x0, 0x0, false, false, 0, .plane, 0xFF00000⟩  /- SW_PORT_STAT -/,
  ⟨0x300038, 1, 0x0, 1, 0x0, 0x0, 0x0, 0xFFFFFFFF, 0x0, false, false, 0, .plane, 0x0⟩  /- SW_PORT_FLUSH -/,
  ⟨0x30003C, 1, 0x0, 1, 0x0, 0x0, 0x0, 0xFFFFFFFF, 0x0, false, false, 0, .plane, 0x0⟩  /- SW_PORT_CHECK -/,
  ⟨0x300040, 1, 0x0, 1, 0x0, 0x0, 0x0, 0xFFFFFFFF, 0x0, false, false, 0, .plane, 0x0⟩  /- SW_PORT_RSVD -/,
  ⟨0x300044, 1, 0x0, 1, 0x0, 0x0, 0x0, 0xFFFFFFFF, 0x0, false, false, 0, .plane, 0x0⟩  /- SW_PORT_FORMAT -/,
  ⟨0x300048, 1, 0x0, 1, 0x0, 0x0, 0x0, 0xFFFFFFFF, 0x0, false, false, 0, .plane, 0x0⟩  /- SW_PORT_GATE -/,
  ⟨0x30004C, 1, 0x0, 1, 0x0, 0x0, 0x0, 0xFFFFFFFF, 0x0, false, false, 0, .plane, 0x0⟩  /- SW_PORT_NOLAG -/,
  ⟨0x300050, 1, 0x0, 1, 0x0, 0x0, 0x0, 0xFFFFFFFF, 0x0, false, false, 0, .plane, 0x0⟩  /- SW_ASSIST_DONE -/,
  ⟨0x300054, 1, 0x0, 1, 0x0, 0x0, 0x0, 0xFFFFFFFF, 0x0, false, false, 0, .plane, 0x0⟩  /- SW_ASSIST_TIMEOUT -/,
  ⟨0x300058, 1, 0x0, 1, 0x0, 0x0, 0x0, 0xFFFFFFFF, 0x0, false, false, 0, .plane, 0x0⟩  /- SW_ASSIST_ABORT -/,
  ⟨0x30005C, 1, 0x0, 1, 0x0, 0x0, 0x0, 0xFFFFFFFF, 0x0, false, false, 0, .plane, 0x0⟩  /- SW_ASSIST_REFUSED -/,
  ⟨0x300060, 1, 0x0, 1, 0x0, 0x0, 0x0, 0xFFFFFFFF, 0x0, false, false, 0, .plane, 0x0⟩  /- SW_ASSIST_NOENTRY -/,
  ⟨0x300080, 1, 0x0, 1, 0x0, 0x0, 0x0, 0x0, 0x0, false, false, 0, .plane, 0x10001C⟩  /- SW_TAP_CFG -/]

def rowsSWITCH1 : List RegRow := [
  ⟨0x300084, 1, 0x0, 1, 0x0, 0x0, 0x0, 0x0, 0x0, false, false, 0, .plane, 0x4E20⟩  /- SW_TAP_RATE -/,
  ⟨0x300088, 1, 0x0, 1, 0x0, 0x0, 0x0, 0x0, 0x0, false, false, 1, .plane, 0x0⟩  /- SW_TAP_HEAD_LO -/,
  ⟨0x30008C, 1, 0x0, 1, 0x0, 0x0, 0x0, 0x0, 0x0, false, false, 2, .plane, 0x0⟩  /- SW_TAP_HEAD_HI -/,
  ⟨0x300090, 1, 0x0, 1, 0x0, 0x0, 0x0, 0xFFFFFFFF, 0x0, false, false, 0, .plane, 0x0⟩  /- SW_TAP_OVERWRITE -/,
  ⟨0x3000A0, 1, 0x0, 1, 0x0, 0x3FF, 0x0, 0x0, 0x0, false, false, 0, .plane, 0x0⟩  /- SW_HOST_AGE -/,
  ⟨0x3000A4, 1, 0x0, 1, 0x0, 0x0, 0x0, 0x0, 0x0, false, false, 0, .plane, 0x0⟩  /- SW_HASH_SEED -/,
  ⟨0x3000B0, 1, 0x0, 1, 0x0, 0x7, 0x0, 0x0, 0x0, false, false, 0, .plane, 0x0⟩  /- SW_LAG_SEL -/,
  ⟨0x3000B4, 1, 0x0, 1, 0x0, 0x0, 0x0, 0x0, 0x0, false, false, 0, .plane, 0x0⟩  /- SW_LAG_MEMBERS -/,
  ⟨0x3000B8, 1, 0x0, 1, 0x0, 0x0, 0x0, 0x0, 0x0, false, false, 0, .plane, 0x0⟩  /- SW_LAG_ACTIVE -/]

/-- the SWITCH block (R196) -/
def rowsSWITCH : List RegRow := rowsSWITCH0 ++ rowsSWITCH1

def rowsTABLES0 : List RegRow := [
  ⟨0x400000, 4, 0x100, 1, 0x0, 0x1F, 0x0, 0x0, 0x0, false, false, 0, .plane, 0x0⟩  /- TBL_WIN_SEL -/,
  ⟨0x400004, 4, 0x100, 1, 0x0, 0xFFFFF, 0x0, 0x0, 0x0, false, false, 0, .plane, 0x0⟩  /- TBL_WIN_IDX -/,
  ⟨0x400008, 4, 0x100, 1, 0x0, 0x0, 0x0, 0x0, 0x7, false, false, 0, .plane, 0x0⟩  /- TBL_WIN_CMD -/,
  ⟨0x40000C, 4, 0x100, 1, 0x0, 0x0, 0x0, 0x0, 0x0, false, false, 0, .plane, 0x0⟩  /- TBL_WIN_STAT -/,
  ⟨0x400040, 4, 0x100, 16, 0x4, 0xFFFFFFFF, 0x0, 0x0, 0x0, false, false, 0, .plane, 0x0⟩  /- TBL_WIN_DATA -/,
  ⟨0x401000, 1, 0x0, 1, 0x0, 0xFFFF, 0x0, 0x0, 0x0, false, false, 0, .plane, 0x0⟩  /- TBL_AGE_TIME -/,
  ⟨0x401004, 1, 0x0, 1, 0x0, 0x0, 0x0, 0x0, 0x0, false, false, 0, .plane, 0x0⟩  /- TBL_LEARN_VER -/,
  ⟨0x401008, 1, 0x0, 1, 0x0, 0x0, 0x0, 0x0, 0x0, false, false, 0, .plane, 0x0⟩  /- TBL_MAC_USED -/,
  ⟨0x40100C, 1, 0x0, 1, 0x0, 0x0, 0x80000000, 0x0, 0x0, false, false, 0, .plane, 0x0⟩  /- TBL_MAC_PEAK -/,
  ⟨0x401010, 1, 0x0, 1, 0x0, 0x3FFFF, 0x0, 0x0, 0x0, false, false, 0, .plane, 0x1CCCD⟩  /- TBL_MAC_WM -/,
  ⟨0x401014, 1, 0x0, 1, 0x0, 0x0, 0x0, 0x0, 0x0, false, false, 0, .plane, 0x0⟩  /- TBL_MAC_SEED -/,
  ⟨0x401018, 1, 0x0, 1, 0x0, 0x0, 0x0, 0x0, 0x0, false, false, 0, .plane, 0x0⟩  /- TBL_LPM_SEED -/,
  ⟨0x401020, 1, 0x0, 1, 0x0, 0x1FF, 0x0, 0x0, 0x0, false, false, 0, .plane, 0x80⟩  /- TBL_PORT_SEL -/,
  ⟨0x401024, 1, 0x0, 1, 0x0, 0x0, 0x0, 0x0, 0x0, false, false, 0, .plane, 0x0⟩  /- TBL_PORT_LEARNED -/,
  ⟨0x401028, 1, 0x0, 1, 0x0, 0xC003FFFF, 0x0, 0x0, 0x0, false, false, 0, .plane, 0x0⟩  /- TBL_PORT_LIMIT -/,
  ⟨0x40102C, 1, 0x0, 1, 0x0, 0x0, 0x0, 0xFFFFFFFF, 0x0, false, false, 0, .plane, 0x0⟩  /- TBL_PORT_LEARN_FAIL -/,
  ⟨0x401030, 1, 0x0, 1, 0x0, 0x0, 0x0, 0xFFFFFFFF, 0x0, false, false, 0, .plane, 0x0⟩  /- TBL_PORT_MOVE -/,
  ⟨0x401040, 1, 0x0, 1, 0x0, 0x0, 0x0, 0xFFFFFFFF, 0x0, false, false, 0, .plane, 0x0⟩  /- TBL_ROUTE_INVALID -/,
  ⟨0x401044, 1, 0x0, 1, 0x0, 0x0, 0x0, 0xFFFFFFFF, 0x0, false, false, 0, .plane, 0x0⟩  /- TBL_VLAN_DROP -/,
  ⟨0x401048, 1, 0x0, 1, 0x0, 0x0, 0x0, 0xFFFFFFFF, 0x0, false, false, 0, .plane, 0x0⟩  /- TBL_SAME_PORT -/,
  ⟨0x40104C, 1, 0x0, 1, 0x0, 0x0, 0x0, 0xFFFFFFFF, 0x0, false, false, 0, .plane, 0x0⟩  /- TBL_NO_DEST -/,
  ⟨0x401050, 1, 0x0, 1, 0x0, 0x0, 0x0, 0xFFFFFFFF, 0x0, false, false, 0, .plane, 0x0⟩  /- TBL_L3_DROP -/,
  ⟨0x401054, 1, 0x0, 1, 0x0, 0x0, 0x0, 0xFFFFFFFF, 0x0, false, false, 0, .plane, 0x0⟩  /- TBL_SA_DISCARD -/,
  ⟨0x401058, 1, 0x0, 1, 0x0, 0x0, 0x0, 0xFFFFFFFF, 0x0, false, false, 0, .plane, 0x0⟩  /- TBL_LEARN_STATIC -/]

def rowsTABLES1 : List RegRow := [
  ⟨0x40105C, 1, 0x0, 1, 0x0, 0x0, 0x0, 0xFFFFFFFF, 0x0, false, false, 0, .plane, 0x0⟩  /- TBL_BUCKET_FULL -/,
  ⟨0x401060, 1, 0x0, 1, 0x0, 0x0, 0x0, 0xFFFFFFFF, 0x0, false, false, 0, .plane, 0x0⟩  /- TBL_LEARN_DROP -/,
  ⟨0x401064, 1, 0x0, 1, 0x0, 0x0, 0x0, 0xFFFFFFFF, 0x0, false, false, 0, .plane, 0x0⟩  /- TBL_ECC_CORR -/,
  ⟨0x401068, 1, 0x0, 1, 0x0, 0x0, 0x0, 0xFFFFFFFF, 0x0, false, false, 0, .plane, 0x0⟩  /- TBL_REPAIRED -/,
  ⟨0x40106C, 1, 0x0, 1, 0x0, 0x0, 0x0, 0xFFFFFFFF, 0x0, false, false, 0, .plane, 0x0⟩  /- TBL_LPM_SLOW -/]

/-- the TABLES block (R224) -/
def rowsTABLES : List RegRow := rowsTABLES0 ++ rowsTABLES1

def rowsTHATCHER0 : List RegRow := [
  ⟨0x500000, 4, 0x100, 1, 0x0, 0x1F, 0x0, 0x0, 0x0, false, false, 0, .plane, 0x0⟩  /- THR_WIN_SEL -/,
  ⟨0x500004, 4, 0x100, 1, 0x0, 0x1FFFF, 0x0, 0x0, 0x0, false, false, 0, .plane, 0x0⟩  /- THR_WIN_IDX -/,
  ⟨0x500008, 4, 0x100, 1, 0x0, 0x0, 0x0, 0x0, 0x7, false, false, 0, .plane, 0x0⟩  /- THR_WIN_CMD -/,
  ⟨0x50000C, 4, 0x100, 1, 0x0, 0x0, 0x0, 0x0, 0x0, false, false, 0, .plane, 0x0⟩  /- THR_WIN_STAT -/,
  ⟨0x500040, 4, 0x100, 16, 0x4, 0xFFFFFFFF, 0x0, 0x0, 0x0, false, false, 0, .plane, 0x0⟩  /- THR_WIN_DATA -/,
  ⟨0x501000, 1, 0x0, 1, 0x0, 0x0, 0x0, 0x0, 0x0, false, false, 0, .plane, 0x0⟩  /- THR_MODEL_LEVEL -/,
  ⟨0x501004, 1, 0x0, 1, 0x0, 0x0, 0x80000000, 0x0, 0x0, false, false, 0, .plane, 0x0⟩  /- THR_MODEL_PEAK -/,
  ⟨0x501008, 1, 0x0, 1, 0x0, 0xFFFFF, 0x0, 0x0, 0x0, false, false, 0, .plane, 0x1F40⟩  /- THR_MODEL_WM -/,
  ⟨0x501010, 1, 0x0, 1, 0x0, 0x0, 0x0, 0x0, 0x0, false, false, 1, .plane, 0x0⟩  /- THR_OPS_LO -/,
  ⟨0x501014, 1, 0x0, 1, 0x0, 0x0, 0x0, 0x0, 0x0, false, false, 2, .plane, 0x0⟩  /- THR_OPS_HI -/,
  ⟨0x501018, 1, 0x0, 1, 0x0, 0x0, 0x0, 0x0, 0x0, false, false, 0, .plane, 0x0⟩  /- THR_PENDING -/,
  ⟨0x501040, 1, 0x0, 1, 0x0, 0x0, 0x0, 0xFFFFFFFF, 0x0, false, false, 0, .plane, 0x0⟩  /- THR_RX_UNITS -/,
  ⟨0x501044, 1, 0x0, 1, 0x0, 0x0, 0x0, 0xFFFFFFFF, 0x0, false, false, 0, .plane, 0x0⟩  /- THR_RX_NOLAYOUT -/,
  ⟨0x501048, 1, 0x0, 1, 0x0, 0x0, 0x0, 0xFFFFFFFF, 0x0, false, false, 0, .plane, 0x0⟩  /- THR_RX_SHORT -/,
  ⟨0x50104C, 1, 0x0, 1, 0x0, 0x0, 0x0, 0xFFFFFFFF, 0x0, false, false, 0, .plane, 0x0⟩  /- THR_SAT -/,
  ⟨0x501050, 1, 0x0, 1, 0x0, 0x0, 0x0, 0xFFFFFFFF, 0x0, false, false, 0, .plane, 0x0⟩  /- THR_LUT_OOR -/,
  ⟨0x501054, 1, 0x0, 1, 0x0, 0x0, 0x0, 0xFFFFFFFF, 0x0, false, false, 0, .plane, 0x0⟩  /- THR_TIMEOUT -/,
  ⟨0x501058, 1, 0x0, 1, 0x0, 0x0, 0x0, 0xFFFFFFFF, 0x0, false, false, 0, .plane, 0x0⟩  /- THR_RECOVER -/,
  ⟨0x50105C, 1, 0x0, 1, 0x0, 0x0, 0x0, 0xFFFFFFFF, 0x0, false, false, 0, .plane, 0x0⟩  /- THR_TX_PDU -/,
  ⟨0x501060, 1, 0x0, 1, 0x0, 0x0, 0x0, 0xFFFFFFFF, 0x0, false, false, 0, .plane, 0x0⟩  /- THR_PROV_BUILT -/,
  ⟨0x501064, 1, 0x0, 1, 0x0, 0x0, 0x0, 0xFFFFFFFF, 0x0, false, false, 0, .plane, 0x0⟩  /- THR_PROV_DISCARD -/,
  ⟨0x501068, 1, 0x0, 1, 0x0, 0x0, 0x0, 0xFFFFFFFF, 0x0, false, false, 0, .plane, 0x0⟩  /- THR_RETRACT -/,
  ⟨0x50106C, 1, 0x0, 1, 0x0, 0x0, 0x0, 0xFFFFFFFF, 0x0, false, false, 0, .plane, 0x0⟩  /- THR_AUTH_FAIL -/,
  ⟨0x501070, 1, 0x0, 1, 0x0, 0x0, 0x0, 0xFFFFFFFF, 0x0, false, false, 0, .plane, 0x0⟩  /- THR_COMMIT_STALE -/]

def rowsTHATCHER1 : List RegRow := [
  ⟨0x501074, 1, 0x0, 1, 0x0, 0x0, 0x0, 0xFFFFFFFF, 0x0, false, false, 0, .plane, 0x0⟩  /- THR_SET_ASIDE -/,
  ⟨0x501078, 1, 0x0, 1, 0x0, 0x0, 0x0, 0xFFFFFFFF, 0x0, false, false, 0, .plane, 0x0⟩  /- THR_HOST_DENIED -/,
  ⟨0x50107C, 1, 0x0, 1, 0x0, 0x0, 0x0, 0xFFFFFFFF, 0x0, false, false, 0, .plane, 0x0⟩  /- THR_LOOP_STRIP -/]

/-- the THATCHER block (R250) -/
def rowsTHATCHER : List RegRow := rowsTHATCHER0 ++ rowsTHATCHER1

def rowsTENANT : List RegRow := [
  ⟨0x600000, 4, 0x100, 1, 0x0, 0x1F, 0x0, 0x0, 0x0, false, false, 0, .plane, 0x0⟩  /- TEN_WIN_SEL -/,
  ⟨0x600004, 4, 0x100, 1, 0x0, 0x1FFFF, 0x0, 0x0, 0x0, false, false, 0, .plane, 0x0⟩  /- TEN_WIN_IDX -/,
  ⟨0x600008, 4, 0x100, 1, 0x0, 0x0, 0x0, 0x0, 0xF, false, false, 0, .plane, 0x0⟩  /- TEN_WIN_CMD -/,
  ⟨0x60000C, 4, 0x100, 1, 0x0, 0x0, 0x0, 0x0, 0x0, false, false, 0, .plane, 0x0⟩  /- TEN_WIN_STAT -/,
  ⟨0x600080, 4, 0x100, 32, 0x4, 0xFFFFFFFF, 0x0, 0x0, 0x0, false, false, 0, .plane, 0x0⟩  /- TEN_WIN_DATA -/,
  ⟨0x601000, 1, 0x0, 1, 0x0, 0x0, 0x0, 0x0, 0x0, false, false, 0, .plane, 0x0⟩  /- TEN_BOUND -/,
  ⟨0x601004, 1, 0x0, 1, 0x0, 0x0, 0x80000000, 0x0, 0x0, false, false, 0, .plane, 0x0⟩  /- TEN_BOUND_PEAK -/,
  ⟨0x601008, 1, 0x0, 1, 0x0, 0x1FFF, 0x0, 0x0, 0x0, false, false, 0, .plane, 0xE66⟩  /- TEN_BOUND_WM -/,
  ⟨0x60100C, 1, 0x0, 1, 0x0, 0x0, 0x0, 0xFFFFFFFF, 0x0, false, false, 0, .plane, 0x0⟩  /- TEN_BIND_FAIL -/,
  ⟨0x601010, 1, 0x0, 1, 0x0, 0x0, 0x0, 0xFFFFFFFF, 0x0, false, false, 0, .plane, 0x0⟩  /- TEN_FREE_DROP -/,
  ⟨0x601018, 1, 0x0, 1, 0x0, 0x0, 0x0, 0x0, 0x0, false, false, 1, .plane, 0x0⟩  /- GOV_WINDOW_LO -/,
  ⟨0x60101C, 1, 0x0, 1, 0x0, 0x0, 0x0, 0x0, 0x0, false, false, 2, .plane, 0x0⟩  /- GOV_WINDOW_HI -/,
  ⟨0x601020, 1, 0x0, 1, 0x0, 0x0, 0x80000000, 0x0, 0x0, false, false, 0, .plane, 0x0⟩  /- GOV_CONFLICT -/,
  ⟨0x601024, 1, 0x0, 1, 0x0, 0x0, 0x0, 0xFFFFFFFF, 0x0, false, false, 0, .plane, 0x0⟩  /- GOV_CONFLICT_CNT -/,
  ⟨0x601028, 1, 0x0, 1, 0x0, 0x0, 0x0, 0x0, 0x0, false, false, 0, .plane, 0x0⟩  /- GOV_CONFLICT_LAST -/,
  ⟨0x601030, 1, 0x0, 1, 0x0, 0x0, 0x80000000, 0x0, 0x0, false, false, 0, .plane, 0x0⟩  /- GOV_BABBLE -/,
  ⟨0x601034, 1, 0x0, 1, 0x0, 0x0, 0x0, 0xFFFFFFFF, 0x0, false, false, 0, .plane, 0x0⟩  /- GOV_BABBLE_CNT -/,
  ⟨0x601040, 1, 0x0, 1, 0x0, 0x0, 0x0, 0xFFFFFFFF, 0x0, false, false, 0, .plane, 0x0⟩  /- GOV_PROT_CNT -/,
  ⟨0x601044, 1, 0x0, 1, 0x0, 0x0, 0x0, 0x0, 0x0, false, false, 0, .plane, 0x0⟩  /- GOV_PROT_LAST -/]

def rowsCIPHER0 : List RegRow := [
  ⟨0x700000, 4, 0x200, 1, 0x0, 0x800003FF, 0x0, 0x0, 0x0, false, false, 0, .plane, 0x0⟩  /- CPH_JOB_KEY -/,
  ⟨0x700004, 4, 0x200, 1, 0x0, 0x1F7F01FF, 0x0, 0x0, 0x0, false, false, 0, .plane, 0x10000000⟩  /- CPH_JOB_LEN -/,
  ⟨0x700008, 4, 0x200, 1, 0x0, 0x0, 0x0, 0x0, 0xF, false, false, 0, .plane, 0x0⟩  /- CPH_JOB_CMD -/,
  ⟨0x70000C, 4, 0x200, 1, 0x0, 0x0, 0x0, 0x0, 0x0, false, false, 0, .plane, 0x0⟩  /- CPH_JOB_STAT -/,
  ⟨0x700010, 4, 0x200, 4, 0x4, 0xFFFFFFFF, 0x0, 0x0, 0x0, false, false, 0, .plane, 0x0⟩  /- CPH_JOB_IV -/,
  ⟨0x700020, 4, 0x200, 4, 0x4, 0xFFFFFFFF, 0x0, 0x0, 0x0, false, false, 0, .plane, 0x0⟩  /- CPH_JOB_TAG -/,
  ⟨0x700040, 4, 0x200, 80, 0x4, 0xFFFFFFFF, 0x0, 0x0, 0x0, false, false, 0, .plane, 0x0⟩  /- CPH_JOB_DATA -/,
  ⟨0x701000, 1, 0x0, 1, 0x0, 0xF, 0x0, 0x0, 0xE0000000, false, false, 0, .plane, 0x0⟩  /- CPH_SESS_CTL -/,
  ⟨0x701004, 1, 0x0, 1, 0x0, 0xFF0001FF, 0x0, 0x0, 0x0, false, false, 0, .plane, 0x3C⟩  /- CPH_SESS_REQ -/,
  ⟨0x701008, 1, 0x0, 1, 0x0, 0x0, 0x0, 0x0, 0x0, false, false, 0, .plane, 0x0⟩  /- CPH_SESS_STAT -/,
  ⟨0x701010, 8, 0x4, 1, 0x0, 0x0, 0x0, 0x0, 0x0, false, false, 0, .plane, 0x0⟩  /- CPH_SESS_CHAL -/,
  ⟨0x701040, 24, 0x4, 1, 0x0, 0xFFFFFFFF, 0x0, 0x0, 0x0, false, false, 0, .plane, 0x0⟩  /- CPH_SESS_SIG -/,
  ⟨0x701100, 1, 0x0, 1, 0x0, 0x0, 0x0, 0xFFFFFFFF, 0x0, false, false, 0, .plane, 0x0⟩  /- CPH_MS_RX_FAIL -/,
  ⟨0x701104, 1, 0x0, 1, 0x0, 0x0, 0x0, 0xFFFFFFFF, 0x0, false, false, 0, .plane, 0x0⟩  /- CPH_MS_UNPROT -/,
  ⟨0x701108, 1, 0x0, 1, 0x0, 0x0, 0x0, 0xFFFFFFFF, 0x0, false, false, 0, .plane, 0x0⟩  /- CPH_MS_PN_EXH -/,
  ⟨0x70110C, 1, 0x0, 1, 0x0, 0x0, 0x0, 0xFFFFFFFF, 0x0, false, false, 0, .plane, 0x0⟩  /- CPH_SESS_FAIL -/,
  ⟨0x701110, 1, 0x0, 1, 0x0, 0x0, 0x0, 0x0, 0x0, false, false, 0, .plane, 0x0⟩  /- CPH_RAND_STAT -/,
  ⟨0x701200, 1, 0x0, 1, 0x0, 0x3FF, 0x0, 0x0, 0x0, false, false, 0, .plane, 0x0⟩  /- CPH_KSEL -/,
  ⟨0x701204, 1, 0x0, 1, 0x0, 0x0, 0x0, 0x0, 0x0, false, false, 0, .plane, 0x0⟩  /- CPH_KSTAT -/,
  ⟨0x701208, 1, 0x0, 1, 0x0, 0x0, 0x0, 0x0, 0x0, false, false, 1, .plane, 0x0⟩  /- CPH_KFV_RX_LO -/,
  ⟨0x70120C, 1, 0x0, 1, 0x0, 0x0, 0x0, 0x0, 0x0, false, false, 2, .plane, 0x0⟩  /- CPH_KFV_RX_HI -/,
  ⟨0x701210, 1, 0x0, 1, 0x0, 0x0, 0x0, 0x0, 0x0, false, false, 1, .plane, 0x0⟩  /- CPH_KFV_TX_LO -/,
  ⟨0x701214, 1, 0x0, 1, 0x0, 0x0, 0x0, 0x0, 0x0, false, false, 2, .plane, 0x0⟩  /- CPH_KFV_TX_HI -/,
  ⟨0x701218, 1, 0x0, 1, 0x0, 0x0, 0x0, 0xFFFFFFFF, 0x0, false, false, 0, .plane, 0x0⟩  /- CPH_KPASS -/]

def rowsCIPHER1 : List RegRow := [
  ⟨0x70121C, 1, 0x0, 1, 0x0, 0x0, 0x0, 0xFFFFFFFF, 0x0, false, false, 0, .plane, 0x0⟩  /- CPH_KFAIL -/,
  ⟨0x701220, 1, 0x0, 1, 0x0, 0x0, 0x0, 0xFFFFFFFF, 0x0, false, false, 0, .plane, 0x0⟩  /- CPH_KREPLAY -/,
  ⟨0x701224, 1, 0x0, 1, 0x0, 0x0, 0x0, 0xFFFFFFFF, 0x0, false, false, 0, .plane, 0x0⟩  /- CPH_KTXFAIL -/]

/-- the CIPHER block (R345) -/
def rowsCIPHER : List RegRow := rowsCIPHER0 ++ rowsCIPHER1

def rowsRICK0 : List RegRow := [
  ⟨0x800000, 1, 0x0, 1, 0x0, 0x0, 0x0, 0x0, 0x0, false, false, 0, .plane, 0x0⟩  /- RICK_STAT -/,
  ⟨0x800008, 1, 0x0, 1, 0x0, 0x0, 0x0, 0x0, 0x0, false, false, 1, .plane, 0x0⟩  /- RICK_RSEQ_LO -/,
  ⟨0x80000C, 1, 0x0, 1, 0x0, 0x0, 0x0, 0x0, 0x0, false, false, 2, .plane, 0x0⟩  /- RICK_RSEQ_HI -/,
  ⟨0x800010, 1, 0x0, 1, 0x0, 0x0, 0x0, 0x0, 0x0, false, false, 1, .plane, 0x0⟩  /- RICK_SEAL_LO -/,
  ⟨0x800014, 1, 0x0, 1, 0x0, 0x0, 0x0, 0x0, 0x0, false, false, 2, .plane, 0x0⟩  /- RICK_SEAL_HI -/,
  ⟨0x800018, 1, 0x0, 1, 0x0, 0x0, 0x0, 0x0, 0x0, false, false, 1, .plane, 0x0⟩  /- RICK_LEGAL_END_LO -/,
  ⟨0x80001C, 1, 0x0, 1, 0x0, 0x0, 0x0, 0x0, 0x0, false, false, 2, .plane, 0x0⟩  /- RICK_LEGAL_END_HI -/,
  ⟨0x800020, 1, 0x0, 1, 0x0, 0x0, 0x0, 0x0, 0x0, false, false, 1, .plane, 0x0⟩  /- RICK_LEGAL_FREED_LO -/,
  ⟨0x800024, 1, 0x0, 1, 0x0, 0x0, 0x0, 0x0, 0x0, false, false, 2, .plane, 0x0⟩  /- RICK_LEGAL_FREED_HI -/,
  ⟨0x800028, 1, 0x0, 1, 0x0, 0x0, 0x0, 0x0, 0x0, false, false, 1, .plane, 0x0⟩  /- RICK_ROLL_NEXT_LO -/,
  ⟨0x80002C, 1, 0x0, 1, 0x0, 0x0, 0x0, 0x0, 0x0, false, false, 2, .plane, 0x0⟩  /- RICK_ROLL_NEXT_HI -/,
  ⟨0x800030, 1, 0x0, 1, 0x0, 0x0, 0x0, 0x0, 0x0, false, false, 1, .plane, 0x0⟩  /- RICK_ROLL_OLDEST_LO -/,
  ⟨0x800034, 1, 0x0, 1, 0x0, 0x0, 0x0, 0x0, 0x0, false, false, 2, .plane, 0x0⟩  /- RICK_ROLL_OLDEST_HI -/,
  ⟨0x800038, 1, 0x0, 1, 0x0, 0x0, 0x0, 0x0, 0x0, false, false, 0, .plane, 0x0⟩  /- RICK_INC_STAT -/,
  ⟨0x80003C, 1, 0x0, 1, 0x0, 0x0, 0x0, 0x0, 0x0, false, false, 0, .plane, 0x0⟩  /- RICK_INC_NEXT -/,
  ⟨0x800040, 1, 0x0, 1, 0x0, 0x0, 0x0, 0x0, 0x0, false, false, 0, .plane, 0x0⟩  /- RICK_HEAD_PINNED -/,
  ⟨0x800044, 1, 0x0, 1, 0x0, 0x0, 0x80000000, 0x0, 0x0, false, false, 0, .plane, 0x0⟩  /- RICK_HEAD_PEAK -/,
  ⟨0x800048, 1, 0x0, 1, 0x0, 0x1FFFF, 0x0, 0x0, 0x0, false, false, 0, .plane, 0xE666⟩  /- RICK_HEAD_WM -/,
  ⟨0x80004C, 1, 0x0, 1, 0x0, 0x0, 0x0, 0x0, 0x0, false, false, 0, .plane, 0x10⟩  /- RICK_HEAD_CREDIT -/,
  ⟨0x800050, 1, 0x0, 1, 0x0, 0x0, 0x0, 0x0, 0x0, false, false, 1, .plane, 0x0⟩  /- RICK_HEAD_GSEQ_LO -/,
  ⟨0x800054, 1, 0x0, 1, 0x0, 0x0, 0x0, 0x0, 0x0, false, false, 2, .plane, 0x0⟩  /- RICK_HEAD_GSEQ_HI -/,
  ⟨0x800080, 1, 0x0, 1, 0x0, 0x0, 0x0, 0xFFFFFFFF, 0x0, false, false, 0, .plane, 0x0⟩  /- RICK_HEAD_LATE -/,
  ⟨0x800084, 1, 0x0, 1, 0x0, 0x0, 0x0, 0xFFFFFFFF, 0x0, false, false, 0, .plane, 0x0⟩  /- RICK_WARN_CNT -/,
  ⟨0x800088, 1, 0x0, 1, 0x0, 0x0, 0x0, 0xFFFFFFFF, 0x0, false, false, 0, .plane, 0x0⟩  /- RICK_INC_REFUSED -/]

def rowsRICK1 : List RegRow := [
  ⟨0x80008C, 1, 0x0, 1, 0x0, 0x0, 0x0, 0xFFFFFFFF, 0x0, false, false, 0, .plane, 0x0⟩  /- RICK_EXPIRED -/,
  ⟨0x800090, 1, 0x0, 1, 0x0, 0x0, 0x0, 0xFFFFFFFF, 0x0, false, false, 0, .plane, 0x0⟩  /- RICK_EXPORT_GONE -/,
  ⟨0x800094, 1, 0x0, 1, 0x0, 0x0, 0x0, 0xFFFFFFFF, 0x0, false, false, 0, .plane, 0x0⟩  /- RICK_SCRUB_REPAIR -/,
  ⟨0x8000A0, 4, 0x10, 1, 0x0, 0x0, 0x0, 0x0, 0x0, false, false, 0, .plane, 0x0⟩  /- RICK_EXP_STAT -/,
  ⟨0x8000A4, 4, 0x10, 1, 0x0, 0x0, 0x0, 0x0, 0x0, false, false, 0, .plane, 0x0⟩  /- RICK_EXP_UNACKED -/,
  ⟨0x8000A8, 4, 0x10, 1, 0x0, 0x0, 0x0, 0x0, 0x0, false, false, 1, .plane, 0x0⟩  /- RICK_EXP_NEXT_LO -/,
  ⟨0x8000AC, 4, 0x10, 1, 0x0, 0x0, 0x0, 0x0, 0x0, false, false, 2, .plane, 0x0⟩  /- RICK_EXP_NEXT_HI -/,
  ⟨0x800100, 2, 0x40, 16, 0x4, 0x0, 0x0, 0x0, 0x0, false, false, 0, .plane, 0x0⟩  /- RICK_SNAP -/]

/-- the RICK block (R384) -/
def rowsRICK : List RegRow := rowsRICK0 ++ rowsRICK1

def rowsTRUSS : List RegRow := [
  ⟨0x900000, 1, 0x0, 1, 0x0, 0x0, 0x0, 0x0, 0x0, false, false, 0, .device, 0x0⟩  /- TRUSS_ACTIVE_VER -/,
  ⟨0x900004, 1, 0x0, 1, 0x0, 0x0, 0x0, 0x0, 0x0, false, false, 0, .device, 0x0⟩  /- TRUSS_OTHER_VER -/,
  ⟨0x900008, 1, 0x0, 1, 0x0, 0x0, 0x0, 0x0, 0x0, false, false, 0, .device, 0x0⟩  /- TRUSS_FLOOR -/,
  ⟨0x900010, 1, 0x0, 1, 0x0, 0x0, 0x0, 0x0, 0xF0000000, true, false, 0, .device, 0x0⟩  /- TRUSS_STAGE_CTL -/,
  ⟨0x900014, 1, 0x0, 1, 0x0, 0x0, 0x0, 0x0, 0x0, false, false, 0, .device, 0x0⟩  /- TRUSS_STAGE_STAT -/,
  ⟨0x900018, 1, 0x0, 1, 0x0, 0x0, 0x0, 0x0, 0x0, false, false, 0, .device, 0x0⟩  /- TRUSS_STAGE_BYTES -/,
  ⟨0x900020, 1, 0x0, 1, 0x0, 0x1, 0x0, 0x0, 0xC0000000, true, false, 0, .device, 0x0⟩  /- TRUSS_TURN_CTL -/,
  ⟨0x900024, 1, 0x0, 1, 0x0, 0xFFFFFFFF, 0x0, 0x0, 0x0, true, false, 1, .device, 0x0⟩  /- TRUSS_CUT_AT_LO -/,
  ⟨0x900028, 1, 0x0, 1, 0x0, 0xFFFFFFFF, 0x0, 0x0, 0x0, true, false, 2, .device, 0x0⟩  /- TRUSS_CUT_AT_HI -/,
  ⟨0x900030, 1, 0x0, 1, 0x0, 0x0, 0x0, 0x0, 0x0, false, false, 0, .device, 0x0⟩  /- TRUSS_TURN_STAT -/,
  ⟨0x900038, 1, 0x0, 1, 0x0, 0x0, 0x0, 0x0, 0x0, false, false, 1, .device, 0x0⟩  /- TRUSS_CUT_STREAM_LO -/,
  ⟨0x90003C, 1, 0x0, 1, 0x0, 0x0, 0x0, 0x0, 0x0, false, false, 2, .device, 0x0⟩  /- TRUSS_CUT_STREAM_HI -/,
  ⟨0x900040, 1, 0x0, 1, 0x0, 0x0, 0x0, 0xFFFFFFFF, 0x0, false, false, 0, .device, 0x0⟩  /- TRUSS_CUT_DROP -/,
  ⟨0x900044, 1, 0x0, 1, 0x0, 0x0, 0x0, 0xFFFFFFFF, 0x0, false, false, 0, .device, 0x0⟩  /- TRUSS_EARLY_DROP -/,
  ⟨0x900048, 1, 0x0, 1, 0x0, 0x0, 0x0, 0xFFFFFFFF, 0x0, false, false, 0, .device, 0x0⟩  /- TRUSS_EARLY_CUT_LOSS -/]

def rowsPLANE : List RegRow := [
  ⟨0xA00000, 1, 0x0, 1, 0x0, 0x0, 0x0, 0x0, 0x0, false, false, 0, .device, 0x0⟩  /- PLANE_ROLE -/,
  ⟨0xA00004, 1, 0x0, 1, 0x0, 0x0, 0x0, 0x0, 0xC0000000, true, false, 0, .device, 0x0⟩  /- PLANE_CTL -/,
  ⟨0xA00008, 1, 0x0, 1, 0x0, 0x0, 0x0, 0x0, 0x0, false, false, 0, .device, 0x0⟩  /- PLANE_A_STAT -/,
  ⟨0xA0000C, 1, 0x0, 1, 0x0, 0x0, 0x0, 0x0, 0x0, false, false, 0, .device, 0x0⟩  /- PLANE_B_STAT -/,
  ⟨0xA00010, 1, 0x0, 1, 0x0, 0x0, 0x0, 0x0, 0x0, false, false, 0, .device, 0x0⟩  /- PLANE_SEL_CFG -/,
  ⟨0xA00014, 1, 0x0, 1, 0x0, 0x0, 0x0, 0x0, 0x0, false, false, 0, .device, 0x0⟩  /- PLANE_HOLD_LEVEL -/,
  ⟨0xA00018, 1, 0x0, 1, 0x0, 0x0, 0x80000000, 0x0, 0x0, false, false, 0, .device, 0x0⟩  /- PLANE_HOLD_PEAK -/,
  ⟨0xA0001C, 1, 0x0, 1, 0x0, 0x7FFFFF, 0x0, 0x0, 0x0, false, false, 0, .device, 0x100000⟩  /- PLANE_HOLD_WM -/,
  ⟨0xA00020, 1, 0x0, 1, 0x0, 0x0, 0x0, 0x0, 0x80000000, false, false, 0, .device, 0x0⟩  /- PLANE_LAG_PEAK -/,
  ⟨0xA00030, 1, 0x0, 1, 0x0, 0x0, 0x0, 0xFFFFFFFF, 0x0, false, false, 0, .device, 0x0⟩  /- PLANE_TAKEOVER_CNT -/,
  ⟨0xA00034, 1, 0x0, 1, 0x0, 0x0, 0x0, 0xFFFFFFFF, 0x0, false, false, 0, .device, 0x0⟩  /- PLANE_DISCREP_CNT -/,
  ⟨0xA00038, 1, 0x0, 1, 0x0, 0x0, 0x0, 0xFFFFFFFF, 0x0, false, false, 0, .device, 0x0⟩  /- PLANE_REJOIN_CNT -/,
  ⟨0xA0003C, 1, 0x0, 1, 0x0, 0x0, 0x0, 0xFFFFFFFF, 0x0, false, false, 0, .device, 0x0⟩  /- PLANE_REJOIN_FAIL_CNT -/,
  ⟨0xA00040, 1, 0x0, 1, 0x0, 0x0, 0x0, 0x0, 0x0, false, false, 1, .device, 0x0⟩  /- PLANE_LAST_TAKEOVER_LO -/,
  ⟨0xA00044, 1, 0x0, 1, 0x0, 0x0, 0x0, 0x0, 0x0, false, false, 2, .device, 0x0⟩  /- PLANE_LAST_TAKEOVER_HI -/,
  ⟨0xA00048, 1, 0x0, 1, 0x0, 0x0, 0x0, 0x0, 0x0, false, false, 0, .device, 0x0⟩  /- PLANE_LAST_DISCREP -/,
  ⟨0xA0004C, 1, 0x0, 1, 0x0, 0x0, 0x0, 0x0, 0x0, false, false, 0, .device, 0x0⟩  /- PLANE_LAST_DISCREP_OSEQ -/,
  ⟨0xA08000, 2, 0x100, 1, 0x0, 0x0, 0x0, 0x0, 0x0, false, false, 0, .plane, 0x0⟩  /- PURLIN_STAT -/,
  ⟨0xA08004, 2, 0x100, 1, 0x0, 0x0, 0x0, 0xFFFFFFFF, 0x0, false, false, 0, .plane, 0x0⟩  /- PURLIN_REPLAY_CNT -/,
  ⟨0xA08008, 2, 0x100, 1, 0x0, 0x0, 0x0, 0x0, 0x0, false, false, 1, .plane, 0x0⟩  /- PURLIN_COPY_BYTES_LO -/,
  ⟨0xA0800C, 2, 0x100, 1, 0x0, 0x0, 0x0, 0x0, 0x0, false, false, 2, .plane, 0x0⟩  /- PURLIN_COPY_BYTES_HI -/,
  ⟨0xA0F000, 2, 0x40, 16, 0x4, 0x0, 0x0, 0x0, 0x0, false, false, 0, .plane, 0x0⟩  /- PLANE_JSTAT -/]

def rowsBBR0 : List RegRow := [
  ⟨0xF00000, 512, 0x4, 1, 0x0, 0xFFFFFFFF, 0x0, 0x0, 0x0, false, true, 0, .vbat, 0x0⟩  /- BBR_HOST -/,
  ⟨0xF00800, 1, 0x0, 1, 0x0, 0x0, 0x0, 0x0, 0x0, false, false, 0, .vbat, 0x0⟩  /- BBR_FORMAT -/,
  ⟨0xF00804, 1, 0x0, 1, 0x0, 0x0, 0x0, 0x0, 0x0, false, false, 0, .vbat, 0x0⟩  /- BBR_FLOOR -/,
  ⟨0xF00808, 1, 0x0, 1, 0x0, 0x0, 0x0, 0x0, 0x0, false, false, 0, .vbat, 0x0⟩  /- BBR_FLOOR_INV -/,
  ⟨0xF00810, 1, 0x0, 1, 0x0, 0x0, 0x0, 0x0, 0x0, false, false, 0, .vbat, 0x0⟩  /- BBR_RESET_STUCK -/,
  ⟨0xF00814, 1, 0x0, 1, 0x0, 0x0, 0x0, 0x0, 0x0, false, false, 0, .vbat, 0x0⟩  /- BBR_RESET_STUCK_S_LO -/,
  ⟨0xF00818, 1, 0x0, 1, 0x0, 0x0, 0x0, 0x0, 0x0, false, false, 0, .vbat, 0x0⟩  /- BBR_RESET_STUCK_S_HI -/,
  ⟨0xF00820, 1, 0x0, 1, 0x0, 0x0, 0x0, 0x0, 0x0, false, false, 0, .vbat, 0x0⟩  /- BBR_TAMPER -/,
  ⟨0xF00824, 1, 0x0, 1, 0x0, 0x0, 0x0, 0x0, 0x0, false, false, 0, .vbat, 0x0⟩  /- BBR_TAMPER_S_LO -/,
  ⟨0xF00828, 1, 0x0, 1, 0x0, 0x0, 0x0, 0x0, 0x0, false, false, 0, .vbat, 0x0⟩  /- BBR_TAMPER_S_HI -/,
  ⟨0xF00830, 4, 0x8, 1, 0x0, 0x0, 0x0, 0x0, 0x0, false, false, 0, .vbat, 0x0⟩  /- BBR_SAFE_LO -/,
  ⟨0xF00834, 4, 0x8, 1, 0x0, 0x0, 0x0, 0x0, 0x0, false, false, 0, .vbat, 0x0⟩  /- BBR_SAFE_HI -/,
  ⟨0xF00850, 1, 0x0, 1, 0x0, 0x0, 0x0, 0x0, 0x0, false, false, 0, .vbat, 0x0⟩  /- BBR_SAFE_IDX -/,
  ⟨0xF00860, 1, 0x0, 1, 0x0, 0x0, 0x0, 0x0, 0x0, false, false, 0, .vbat, 0x0⟩  /- BBR_WAKE -/,
  ⟨0xF00864, 1, 0x0, 1, 0x0, 0x0, 0x0, 0x0, 0x0, false, false, 0, .vbat, 0x0⟩  /- BBR_WAKE_S_LO -/,
  ⟨0xF00868, 1, 0x0, 1, 0x0, 0x0, 0x0, 0x0, 0x0, false, false, 0, .vbat, 0x0⟩  /- BBR_WAKE_S_HI -/,
  ⟨0xF00870, 1, 0x0, 1, 0x0, 0x0, 0x0, 0x0, 0x0, false, false, 0, .vbat, 0x0⟩  /- BBR_PAD_HELD -/,
  ⟨0xF00874, 4, 0x4, 1, 0x0, 0x0, 0x0, 0x0, 0x0, false, false, 0, .vbat, 0x0⟩  /- BBR_PAD_LEVEL -/,
  ⟨0xF00890, 1, 0x0, 1, 0x0, 0x0, 0x0, 0x0, 0x0, false, false, 0, .vbat, 0x0⟩  /- BBR_SLEEP_CNT_LO -/,
  ⟨0xF00894, 1, 0x0, 1, 0x0, 0x0, 0x0, 0x0, 0x0, false, false, 0, .vbat, 0x0⟩  /- BBR_SLEEP_CNT_HI -/,
  ⟨0xF00898, 1, 0x0, 1, 0x0, 0x0, 0x0, 0x0, 0x0, false, false, 0, .vbat, 0x0⟩  /- BBR_SLEEP_CAL_LO -/,
  ⟨0xF0089C, 1, 0x0, 1, 0x0, 0x0, 0x0, 0x0, 0x0, false, false, 0, .vbat, 0x0⟩  /- BBR_SLEEP_CAL_HI -/,
  ⟨0xF008A0, 1, 0x0, 1, 0x0, 0x0, 0x0, 0x0, 0x0, false, false, 0, .vbat, 0x0⟩  /- BBR_SHUTDOWN -/,
  ⟨0xF008A4, 1, 0x0, 1, 0x0, 0x0, 0x0, 0x0, 0x0, false, false, 0, .vbat, 0x0⟩  /- BBR_KINDLE_CNT -/]

def rowsBBR1 : List RegRow := [
  ⟨0xF01000, 1, 0x0, 1, 0x0, 0x0, 0x0, 0x0, 0x0, false, false, 0, .cold, 0x0⟩  /- BBR_STATUS -/]

/-- the battery-backed file (R57, R469) -/
def rowsBBR : List RegRow := rowsBBR0 ++ rowsBBR1

def rowsBAR0 : List RegRow := [
  ⟨0x0, 1, 0x0, 1, 0x0, 0x0, 0x0, 0x0, 0x0, false, false, 0, .port, 0x40960000⟩  /- EP_ID -/,
  ⟨0x4, 1, 0x0, 1, 0x0, 0x1, 0x0, 0x0, 0x0, false, false, 0, .port, 0x0⟩  /- EP_CTL -/,
  ⟨0x8, 1, 0x0, 1, 0x0, 0x0, 0x0, 0x0, 0x0, false, false, 0, .port, 0x0⟩  /- EP_STAT -/,
  ⟨0xC, 1, 0x0, 1, 0x0, 0x0, 0x0, 0x0, 0x0, false, false, 0, .port, 0x0⟩  /- EP_DGEN -/,
  ⟨0x10, 1, 0x0, 1, 0x0, 0x0, 0x0, 0x0, 0x0, false, false, 0, .port, 0x0⟩  /- EP_QP_COUNT -/,
  ⟨0x14, 1, 0x0, 1, 0x0, 0x0, 0x0, 0xFFFFFFFF, 0x0, false, false, 0, .port, 0x0⟩  /- EP_BADACC -/,
  ⟨0x800, 4, 0x40, 1, 0x0, 0xFFFFFFF, 0x0, 0x0, 0x0, false, false, 0, .port, 0x0⟩  /- PROXY_ADDR -/,
  ⟨0x804, 4, 0x40, 1, 0x0, 0x7FF, 0x0, 0x0, 0x0, false, false, 0, .port, 0x1⟩  /- PROXY_COUNT -/,
  ⟨0x808, 4, 0x40, 1, 0x0, 0x0, 0x0, 0x0, 0x7, false, false, 0, .port, 0x0⟩  /- PROXY_CMD -/,
  ⟨0x810, 4, 0x40, 1, 0x0, 0x0, 0x0, 0x0, 0x0, false, false, 1, .port, 0x0⟩  /- PROXY_RESULT_LO -/,
  ⟨0x814, 4, 0x40, 1, 0x0, 0x0, 0x0, 0x0, 0x0, false, false, 2, .port, 0x0⟩  /- PROXY_RESULT_HI -/,
  ⟨0x818, 4, 0x40, 1, 0x0, 0x0, 0x1, 0x0, 0x0, false, false, 0, .port, 0x0⟩  /- PROXY_FLAGS -/,
  ⟨0xC00, 4, 0x10, 1, 0x0, 0xFFFFFFFF, 0x0, 0x0, 0x0, false, false, 0, .port, 0x0⟩  /- BULK_OFFSET -/,
  ⟨0xC04, 4, 0x10, 1, 0x0, 0x3003FFF, 0x20000000, 0x0, 0x80000000, false, false, 0, .port, 0x40000000⟩  /- BULK_CTL -/,
  ⟨0x8000, 4, 0x1000, 1024, 0x4, 0xFFFFFFFF, 0x0, 0x0, 0x0, false, false, 0, .port, 0x0⟩  /- PROXY_DATA -/,
  ⟨0x10000, 256, 0x40, 1, 0x0, 0xFFFFFFFF, 0x0, 0x0, 0x0, false, false, 0, .port, 0x0⟩  /- QP_SQ_BASE_LO -/,
  ⟨0x10004, 256, 0x40, 1, 0x0, 0xFFFFFFFF, 0x0, 0x0, 0x0, false, false, 0, .port, 0x0⟩  /- QP_SQ_BASE_HI -/,
  ⟨0x10008, 256, 0x40, 1, 0x0, 0x1FFF, 0x0, 0x0, 0x0, false, false, 0, .port, 0x0⟩  /- QP_SQ_SIZE -/,
  ⟨0x1000C, 256, 0x40, 1, 0x0, 0xFFF, 0x0, 0x0, 0x0, false, false, 0, .port, 0x0⟩  /- QP_SQ_TAIL -/,
  ⟨0x10010, 256, 0x40, 1, 0x0, 0x0, 0x0, 0x0, 0x0, false, false, 0, .port, 0x0⟩  /- QP_SQ_HEAD -/,
  ⟨0x10014, 256, 0x40, 1, 0x0, 0xFFFFFFFF, 0x0, 0x0, 0x0, false, false, 0, .port, 0x0⟩  /- QP_RQ_BASE_LO -/,
  ⟨0x10018, 256, 0x40, 1, 0x0, 0xFFFFFFFF, 0x0, 0x0, 0x0, false, false, 0, .port, 0x0⟩  /- QP_RQ_BASE_HI -/,
  ⟨0x1001C, 256, 0x40, 1, 0x0, 0x1FFF, 0x0, 0x0, 0x0, false, false, 0, .port, 0x0⟩  /- QP_RQ_SIZE -/,
  ⟨0x10020, 256, 0x40, 1, 0x0, 0xFFF, 0x0, 0x0, 0x0, false, false, 0, .port, 0x0⟩  /- QP_RQ_TAIL -/]

def rowsBAR1 : List RegRow := [
  ⟨0x10024, 256, 0x40, 1, 0x0, 0xFFFFFFFF, 0x0, 0x0, 0x0, false, false, 0, .port, 0x0⟩  /- QP_CQ_BASE_LO -/,
  ⟨0x10028, 256, 0x40, 1, 0x0, 0xFFFFFFFF, 0x0, 0x0, 0x0, false, false, 0, .port, 0x0⟩  /- QP_CQ_BASE_HI -/,
  ⟨0x1002C, 256, 0x40, 1, 0x0, 0x1FFF, 0x0, 0x0, 0x0, false, false, 0, .port, 0x0⟩  /- QP_CQ_SIZE -/,
  ⟨0x10030, 256, 0x40, 1, 0x0, 0xFFF, 0x0, 0x0, 0x0, false, false, 0, .port, 0x0⟩  /- QP_CQ_HEAD -/,
  ⟨0x10034, 256, 0x40, 1, 0x0, 0x8000003F, 0x0, 0x0, 0x0, false, false, 0, .port, 0x0⟩  /- QP_CTL -/,
  ⟨0x10038, 256, 0x40, 1, 0x0, 0x0, 0x0, 0x0, 0x0, false, false, 0, .port, 0x0⟩  /- QP_INFO -/,
  ⟨0x1003C, 256, 0x40, 1, 0x0, 0x0, 0x0, 0xFFFFFFFF, 0x0, false, false, 0, .port, 0x0⟩  /- QP_RQ_DROP -/]

/-- BAR0 of an endpoint (R307) -/
def rowsBAR : List RegRow := rowsBAR0 ++ rowsBAR1

end Sys2Proof
end

