-- ==== Sys2Proof/Machine/Sparse.lean ====
section
/-!
DEFINITION. Sparse maps: the one canonical form in which the model holds register files, tables,
memories and per-resource records. A list of (key, value) pairs with keys strictly rising and no
value equal to what an unlisted key reads as, so equal maps are equal lists.
-/

namespace Sys2Proof

/-- The value at key `k`; an unlisted key reads `d k`. -/
def sget {α : Type} (d : Nat → α) : List (Nat × α) → Nat → α
  | [], k => d k
  | (k', v) :: m, k => if k' = k then v else sget d m k

/-- `m` with key `k` listed with value `v`, in key order. -/
def sins {α : Type} (k : Nat) (v : α) : List (Nat × α) → List (Nat × α)
  | [] => [(k, v)]
  | (k', v') :: m =>
    if k < k' then (k, v) :: (k', v') :: m
    else if k = k' then (k, v) :: m
    else (k', v') :: sins k v m

/-- `m` with every entry of key `k` removed. -/
def sdel {α : Type} (k : Nat) (m : List (Nat × α)) : List (Nat × α) := m.filter (fun e => e.1 ≠ k)

/-- `m` with key `k` reading `v` afterwards. Writing what an unlisted key reads removes the entry. -/
def sput {α : Type} [DecidableEq α] (d : Nat → α) (m : List (Nat × α)) (k : Nat) (v : α) :
    List (Nat × α) :=
  if v = d k then sdel k m else sins k v m

/-- Keys above `lo` strictly rising, and no value equal to its default. -/
def swfFrom {α : Type} [DecidableEq α] (d : Nat → α) : Option Nat → List (Nat × α) → Bool
  | _, [] => true
  | lo, (k, v) :: m =>
    (match lo with | none => true | some l => decide (l < k)) && decide (v ≠ d k)
      && swfFrom d (some k) m

/-- The canonical form of a sparse map. -/
def swf {α : Type} [DecidableEq α] (d : Nat → α) (m : List (Nat × α)) : Bool := swfFrom d none m

/-- `m` with the value at `k` changed by `f`. -/
def supd {α : Type} [DecidableEq α] (d : Nat → α) (m : List (Nat × α)) (k : Nat) (f : α → α) :
    List (Nat × α) := sput d m k (f (sget d m k))

/-- `m` with every entry whose key satisfies `p` removed, so that those keys read as unlisted. -/
def sclear {α : Type} (p : Nat → Bool) (m : List (Nat × α)) : List (Nat × α) :=
  m.filter (fun e => ! p e.1)

/-- `m` with every listed value changed by `f`, and what then equals its default removed. -/
def smap {α : Type} [DecidableEq α] (d : Nat → α) (f : α → α) (m : List (Nat × α)) : List (Nat × α) :=
  (m.map (fun e => (e.1, f e.2))).filter (fun e => e.2 ≠ d e.1)

end Sys2Proof
end

