-- ==== Sys2Proof/Machine/RegFile.lean ====
section
/-!
DEFINITION. The register file: which row of the manual describes a management address, what a register
reads after reset, and the one way in which registers and their fields are read and changed.
-/

namespace Sys2Proof

/-- Whether the row describes offset `o`. -/
def RegRow.hits (r : RegRow) (o : Nat) : Bool :=
  if o < r.off then false
  else
    let d := o - r.off
    let k := if r.s1 = 0 then 0 else d / r.s1
    let e := d - k * r.s1
    let w := if r.s2 = 0 then 0 else e / r.s2
    decide (k < r.n1) && decide (w < r.n2) && decide (e - w * r.s2 = 0)

/-- The row of a list that describes offset `o`. -/
def rowIn (rows : List RegRow) (o : Nat) : Option RegRow := rows.find? (fun r => r.hits o)

/-- Base of slot `n`'s block (R48). -/
def slotBase (n : Nat) : Nat := 0x100000 + 0x1000 * n
/-- Base of batten chain `n`'s block (R48). -/
def battenBase (n : Nat) : Nat := 0x180000 + 0x1000 * n
/-- Base of Ethernet port E`n`'s block (R48). -/
def ethBase (n : Nat) : Nat := 0x200000 + 0x1000 * n
/-- Base of T1S port T`n`'s block (R48). -/
def t1sBase (n : Nat) : Nat := 0x280000 + 0x1000 * n
/-- Base of endpoint `n`'s BAR0 registers in the host die's own file (R307). -/
def barBase (n : Nat) : Nat := 0x100000 * n

/-- The row that describes a management address (R48). `slow` says that a slot address belongs to a slot with a
LIN, SERIAL or J1708 personality, whose block has another layout (R96, R132). -/
def rowAt (slow : Bool) (a : Nat) : Option RegRow :=
  if a < 0x10000 then rowIn rowsDEVICE a
  else if a < 0x20000 then rowIn rowsFLUE a
  else if a < 0x30000 then rowIn rowsPOWER a
  else if a < 0x40000 then rowIn rowsTIME a
  else if a < 0x80000 then rowIn rowsKILN a
  else if a < 0x100000 then rowIn rowsRIDGE a
  else if a < 0x180000 then rowIn (if slow then rowsSLOW else rowsSLOT) (a % 0x1000)
  else if a < 0x184000 then rowIn rowsBATTEN (a % 0x1000)
  else if a < 0x190000 then none
  else if a < 0x1A0000 then rowIn rowsNETSLEEP a
  else if a < 0x200000 then none
  else if a < 0x218000 then rowIn rowsETH (a % 0x1000)
  else if a < 0x280000 then none
  else if a < 0x290000 then rowIn rowsT1S (a % 0x1000)
  else if a < 0x300000 then none
  else if a < 0x400000 then rowIn rowsSWITCH a
  else if a < 0x500000 then rowIn rowsTABLES a
  else if a < 0x600000 then rowIn rowsTHATCHER a
  else if a < 0x700000 then rowIn rowsTENANT a
  else if a < 0x800000 then rowIn rowsCIPHER a
  else if a < 0x900000 then rowIn rowsRICK a
  else if a < 0xA00000 then rowIn rowsTRUSS a
  else if a < 0xB00000 then rowIn rowsPLANE a
  else if 0xF00000 ≤ a ∧ a < 0xF01004 then rowIn rowsBBR a
  else none

/-- The span of the management address space (R48). Keys above it are the copies of a selected register, one for
each value of its selector (`selKey`). -/
def addrSpan : Nat := 0x10000000

/-- The key at which the copy of register `a` for selector value `i` is kept. -/
def selKey (i a : Nat) : Nat := addrSpan * (i + 1) + a

/-- What a register reads after reset: the manual's reset value. A value that the manual takes from the truss, a
fuse, a strap or MRAM is 0 here, until that source loads it (DESIGN CHOICE, log entry 3). -/
def resetWord (key : Nat) : Word :=
  match rowAt false (key % addrSpan) with
  | some r => BitVec.ofNat 32 r.rst
  | none => 0

/-- What a BAR0 register of the host die reads after reset (R307). -/
def resetBar (key : Nat) : Word :=
  match rowIn rowsBAR (key % 0x100000) with
  | some r => BitVec.ofNat 32 r.rst
  | none => 0

/-- A register file in canonical form: (key, word) pairs that differ from the reset value. -/
abbrev Regs := List (Nat × Word)

/-- The word of register `a`. -/
def Regs.rd (m : Regs) (a : Nat) : Word := sget resetWord m a

/-- The register file with register `a` reading `v`. -/
def Regs.wr (m : Regs) (a : Nat) (v : Word) : Regs := sput resetWord m a v

/-- Field `f` of the block's copy at base `b`. -/
def Regs.get (m : Regs) (b : Nat) (f : Fld) : Nat := f.get (m.rd (b + f.reg))

/-- Field `f` of the block's copy at base `b` set to `v`. -/
def Regs.set (m : Regs) (b : Nat) (f : Fld) (v : Nat) : Regs :=
  m.wr (b + f.reg) (f.set (m.rd (b + f.reg)) v)

/-- A one-bit field as a truth value. -/
def Regs.flag (m : Regs) (b : Nat) (f : Fld) : Bool := m.get b f ≠ 0

/-- A one-bit field set or cleared. -/
def Regs.setFlag (m : Regs) (b : Nat) (f : Fld) (v : Bool) : Regs := m.set b f (if v then 1 else 0)

/-- The 64-bit value whose low word is at `a` and whose high word is at `a + 4`. -/
def Regs.rd64 (m : Regs) (a : Nat) : Nat := (m.rd a).toNat + 2 ^ 32 * (m.rd (a + 4)).toNat

/-- The 64-bit value at `a` and `a + 4` set to `v` (cut to 64 bits). -/
def Regs.wr64 (m : Regs) (a : Nat) (v : Nat) : Regs :=
  (m.wr a (BitVec.ofNat 32 v)).wr (a + 4) (BitVec.ofNat 32 (v / 2 ^ 32))

/-- The configuration bits (RW, RWG, PW: R50, R55) of the registers at the addresses where `q` holds, as `src` has them. -/
def Regs.configFrom (m src : Regs) (row : Nat → Option RegRow) (q : Nat → Bool) : Regs :=
  (m ++ src).foldl (fun m e =>
    match row (e.1 % addrSpan) with
    | some r =>
      let rw := BitVec.ofNat 32 r.rw
      if q (e.1 % addrSpan) && decide (r.rw ≠ 0) then m.wr e.1 ((m.rd e.1 &&& ~~~rw) ||| (src.rd e.1 &&& rw)) else m
    | none => m) m

/-- Every register that satisfies `p` back at its reset value. -/
def Regs.clear (m : Regs) (p : Nat → Bool) : Regs := sclear p m

/-- The canonical form of a register file. -/
def Regs.wf (m : Regs) : Bool := swf resetWord m

end Sys2Proof
end

