-- ==== Sys2Proof/Machine/TypesStream.lean ====
section
/-!
DEFINITION. What travels and who acts: planes and their roles, shingles (R23), egress candidates (R40), host
messages (R283), receipts and admission requests (R36), register accesses (R33, R44), the merger, the selector, Flue's
source records (R430), the truss in flash and the turn.
-/

namespace Sys2Proof

/-- The two plane dies (R12). -/
inductive PlaneId where
  | A | B
  deriving DecidableEq, Repr

/-- The other plane. -/
def PlaneId.other : PlaneId → PlaneId
  | .A => .B
  | .B => .A

/-- Plane A is 0 and plane B is 1 wherever the manual numbers planes. -/
def PlaneId.num : PlaneId → Nat
  | .A => 0
  | .B => 1

/-- Plane roles (R407). -/
inductive Role where
  | offline | leading | shadow | rejoining
  deriving DecidableEq, Repr

/-- The DEVICE_MODE encoding of a role. -/
def Role.code : Role → Nat
  | .offline => 0
  | .leading => 1
  | .shadow => 2
  | .rejoining => 3

/-- Operating modes (R443). -/
inductive Mode where
  | kindling | service | workshop | banked | ember | safe
  deriving DecidableEq, Repr

/-- The DEVICE_MODE encoding of a mode. -/
def Mode.code : Mode → Nat
  | .kindling => 0
  | .service => 1
  | .workshop => 2
  | .banked => 3
  | .ember => 4
  | .safe => 5

/-- Power states (R444). -/
inductive PState where
  | p0 | p1 | p2 | p3 | p4
  deriving DecidableEq, Repr

/-- The DEVICE_MODE encoding of a power state. -/
def PState.code : PState → Nat
  | .p0 => 0
  | .p1 => 1
  | .p2 => 2
  | .p3 => 3
  | .p4 => 4

/-- Shingle types (R23). -/
inductive UType where
  | canCC | canFD | canXL | lin | serial | eth | t1s | host | signal | tick | rand | ctrl
  deriving DecidableEq, Repr

/-- The TYPE encoding of R23. -/
def UType.code : UType → Nat
  | .canCC => 0
  | .canFD => 1
  | .canXL => 2
  | .lin => 3
  | .serial => 4
  | .eth => 5
  | .t1s => 6
  | .host => 7
  | .signal => 8
  | .tick => 9
  | .rand => 10
  | .ctrl => 11

/-- FLAGS.AUTH (R23). -/
inductive AuthSt where
  | noneRequired | pending | passed | failed
  deriving DecidableEq, Repr

/-- The encoding of FLAGS.AUTH. -/
def AuthSt.code : AuthSt → Nat
  | .noneRequired => 0
  | .pending => 1
  | .passed => 2
  | .failed => 3

/-- FLAGS.JCLASS (R23). -/
inductive JClass where
  | none | rolling | legal | incident
  deriving DecidableEq, Repr

/-- The encoding of FLAGS.JCLASS. -/
def JClass.code : JClass → Nat
  | .none => 0
  | .rolling => 1
  | .legal => 2
  | .incident => 3

/-- The journal class with encoding `n`. -/
def JClass.ofCode (n : Nat) : JClass :=
  if n = 1 then .rolling else if n = 2 then .legal else if n = 3 then .incident else .none

/-- A shingle: the descriptor of R23, the metadata of its type, and the payload (LEN is the payload's length).
`action` is the ACTION of the filter element that decided a CAN frame (R107), which the descriptor of R23 has no bits
for (log entry 6). -/
structure Shingle where
  ts : Nat
  stream : Nat
  seq : Nat
  rid : Nat
  tenant : Nat
  utype : UType
  port : Nat
  auth : AuthSt
  prov : Bool
  jclass : JClass
  loc : Bool
  trunc : Bool
  gen : Nat
  action : Nat
  info : List Byte
  body : List Byte
  deriving DecidableEq, Repr

/-- A shingle with every optional field at 0. -/
def Shingle.mk0 (t : UType) (ts port gen : Nat) (body : List Byte) : Shingle :=
  { ts := ts, stream := 0, seq := 0, rid := 0, tenant := 0, utype := t, port := port, auth := .noneRequired,
    prov := false, jclass := .none, loc := false, trunc := false, gen := gen, action := 0, info := [], body := body }

/-- Bytes that a shingle takes in the stream: descriptor, metadata and payload. -/
def Shingle.size (s : Shingle) : Nat := 32 + s.info.length + s.body.length

/-- An egress candidate (R40): port, output sequence, egress GEN, digest when the planes compare (R413), the
sending plane's PGEN (R410), the STREAM of its cause (R86), whether a new-truss plane sent it, and the unit. -/
structure Cand where
  src : PlaneId
  port : Nat
  oseq : Nat
  gen : Nat
  digest : Option Nat
  pgen : Nat
  cause : Nat
  newTruss : Bool
  tsReq : Bool
  qclass : Nat
  unit : Shingle
  deriving DecidableEq, Repr

/-- A Ridge message (R283): the header's fields and the payload. In a host-to-device message SEQ is the tenant's
message sequence, in a device-to-host message the output sequence; `cause` is the STREAM of what made it (R32), 0 towards the device. -/
structure RMsg where
  ep : Nat
  cls : Nat
  tenant : Nat
  posted : Bool
  urgent : Bool
  last : Bool
  error : Bool
  seq : Nat
  tag : Nat
  body : List Byte
  cause : Nat
  deriving DecidableEq, Repr

/-- A receipt that crosses the Purlin (R36): the message's header fields and its CRC-32C. -/
structure Receipt where
  ep : Nat
  cls : Nat
  tenant : Nat
  posted : Bool
  urgent : Bool
  seq : Nat
  tag : Nat
  len : Nat
  crc : Nat
  deriving DecidableEq, Repr

/-- A plane's part of the exchange of receipts for one host message (R36, R39): its own copy, the other plane's
receipt, the time of the first of the two, whether the admission request has been sent, whether the message came
through the bulk window. -/
structure Held where
  hdr : Receipt
  copy : Option RMsg
  receipt : Option Receipt
  since : Nat
  asked : Bool
  deriving DecidableEq, Repr

/-- An admission request in Eaves (R36): which planes have sent it, and the message's header. -/
structure AdmReq where
  hdr : Receipt
  fromA : Bool
  fromB : Bool
  epDown : Bool
  deriving DecidableEq, Repr

/-- What Eaves places after a coming TICK's RAND (R37), in the order of that rule. -/
inductive SchedItem where
  /-- CTRL ROLE with cause JOIN for a plane (R422) -/
  | join (p : PlaneId)
  /-- CTRL CUT (R87) -/
  | cut
  /-- HOST shingle of an admitted message (R36) -/
  | host (m : Receipt)
  /-- CTRL PORT_RESTART that stands in place of a HOST shingle for an endpoint that
goes DOWN (R281) -/
  | epRestart (ep : Nat)
  /-- the change of banks that follows an early cut (R87, R89) -/
  | banks
  deriving DecidableEq, Repr

/-- An item with the number of TICKs still to come before it is placed, and the time at which Eaves received what asks for it: requests of
one time are those of one control cycle (R37, R540, log entry 74). -/
structure Sched where
  ticks : Nat
  item : SchedItem
  since : Nat
  deriving DecidableEq, Repr

/-- Who sends a management access (R58, R61): initiators 0-7 are the host endpoints, 8 and 9 the two management core
pairs, 10 the JTAG and console balls. `tenant` is the host message's TENANT, `secure` says that a core runs in secure state. -/
structure Who where
  init : Nat
  tenant : Nat
  secure : Bool
  deriving DecidableEq, Repr

/-- An initiator's snapshot or holding register (R61, R62): the tagged address and the word. -/
structure Snap where
  addr : Nat
  val : Word
  deriving DecidableEq, Repr

/-- What the firmware of a plane writes of the TIME block in one go (R33, R389, R391, R401): fields, the changes to announce as (KIND, before,
after), a step, a calendar setting (calendar ns, trim, SETAT, ERR). -/
structure TimeWrite where
  fields : List (Fld × Nat)
  changes : List (Nat × Int × Int)
  step : Option Int
  cal : Option (Nat × Nat × Nat × Nat)
  deriving DecidableEq, Repr

/-- One access that a plane sends to Eaves (R33): its output sequence for target 256, the address, the value of a write, and the GEN
of the port whose block it goes to, as the plane knows it (R54 RESTARTED); `time` is a write of the TIME block by the firmware (log entry 91). -/
structure EavesAcc where
  oseq : Nat
  who : Who
  addr : Nat
  val : Option Word
  gen : Nat
  time : Option TimeWrite
  deriving DecidableEq, Repr

/-- A management request in progress (R288): the words still to do and those done. Its Eaves words wait for their
CTRL REG_READ. -/
structure MgmtJob where
  who : Who
  ep : Nat
  tag : Nat
  isWrite : Bool
  base : Nat
  next : Nat
  left : Nat
  toWrite : List Word
  got : List Word
  waiting : Bool
  deriving DecidableEq, Repr

/-- A completed unit or an Eaves-made shingle that waits in the merger, with its place in the order of R27: the time
and port of its place (a shingle placed after a TICK has the TICK's place). -/
structure Wait where
  kts : Nat
  kport : Nat
  sh : Shingle
  deriving DecidableEq, Repr

/-- The stream merger (R27, R35): waiting shingles in emission order, the next STREAM number, the next SEQ of each
port, the shingles kept for the join base (R420), units dropped per port since the last INGRESS_DROP, what later TICKs
place, admission requests, how many shingles of entropy have been drawn, and whether the merger has stopped (R437). -/
structure Merger where
  waiting : List Wait
  stream : Nat
  seqs : List (Nat × Nat)
  recent : List (Nat × Shingle)
  stopped : Bool
  drops : List (Nat × Nat)
  sched : List Sched
  reqs : List AdmReq
  admCnt : List (Nat × Nat)
  rands : Nat
  lastTick : Nat
  lastTickAt : Nat
  deriving DecidableEq, Repr

/-- The egress selector (R40, R412-R414): the next output sequence to pass for each port, the shadow hold buffer, the
leading plane's passed candidates whose other copy has still to come (for the digests), a running attribution window (port,
output sequence, the two digests) and its start, and, while a turn is ARMED or later, the causes of the old plane's candidates that passed per
port (R88); `gone` holds the ports that have passed to the new-truss plane of the last turn, for which no cause before `cut` counts any more. -/
structure Selector where
  next : List (Nat × Nat)
  hold : List Cand
  digests : List Cand
  window : Option (Nat × Nat × Nat × Nat)
  windowAt : Nat
  recording : Bool
  passed : List (Nat × Nat)
  gone : List Nat
  cut : Nat
  deriving DecidableEq, Repr

/-- Flue's record of one source (R430). -/
structure FlueSrc where
  live : Bool
  cause : Bool
  rail : Bool
  count : Nat
  first : Nat
  last : Nat
  deriving DecidableEq, Repr

/-- A source that has never been in fault. -/
def FlueSrc.clean : FlueSrc := ⟨false, false, false, 0, 0, 0⟩

/-- A truss as a plane runs it: the header fields the device uses (R70) and its sections by type. -/
structure Truss where
  version : Nat
  flags : Nat
  prev : Nat
  drain : Nat
  qual : Nat
  buildUtc : Nat
  sections : List (Nat × List Byte)
  deriving DecidableEq, Repr

/-- No truss. -/
def Truss.empty : Truss := ⟨0, 0, 0, 0, 0, 0, []⟩

/-- The bytes of a section; an absent section is empty. -/
def Truss.sec (t : Truss) (ty : Nat) : List Byte := (t.sections.find? (fun e => e.1 = ty)).elim [] (·.2)

/-- Record `i` of `size` bytes of a byte string. -/
def recAt (bs : List Byte) (start size i : Nat) : Rec := Rec.ofBytes ((bs.drop (start + size * i)).take size)

/-- The slot record that each plane keeps in its MRAM (R68): which flash slot is ACTIVE, its VERSION, and the other
slot's state, error and VERSION. -/
structure SlotRec where
  active : Nat
  activeVer : Nat
  otherState : Nat
  otherErr : Nat
  otherVer : Nat
  deriving DecidableEq, Repr

/-- One flash slot (R68, R75): its bytes in canonical form (an erased byte is not listed) and the ranges received. -/
structure FlashSlot where
  mem : List (Nat × Byte)
  got : List (Nat × Nat)
  deriving DecidableEq, Repr

/-- The turn that runs, if any (R83-R89): the plane that moves to the new truss, what the phases wait for, when the CUT was
placed (steady time), the ports that have passed to it, the oldest cause still queued in the old plane as it last reported, the VERSIONs of the
truss that the turn leaves and of the one to which it goes. -/
structure Turn where
  newPlane : Option PlaneId
  loaded : Bool
  bankFilled : Bool
  qualStart : Nat
  cutAt : Nat
  drained : List Nat
  oldest : Nat
  oldVer : Nat
  newVer : Nat
  deriving DecidableEq, Repr

/-- No turn. -/
def Turn.idle : Turn := ⟨none, false, false, 0, 0, [], 0, 0, 0⟩

end Sys2Proof
end

