-- ==== Sys2Proof/Machine/TypesHost.lean ====
section
/-!
DEFINITION. The host die (R12, R17) and a plane's end of the Ridge: endpoints, lane pairs, credits, queue pairs, proxy
channels, semaphores, tenants' message sequences.
-/

namespace Sys2Proof

/-- The host halves: HA and HB (R17). -/
inductive HalfId where
  | HA | HB
  deriving DecidableEq, Repr

/-- HA is 0 and HB is 1. -/
def HalfId.num : HalfId → Nat
  | .HA => 0
  | .HB => 1

/-- The other half. -/
def HalfId.other : HalfId → HalfId
  | .HA => .HB
  | .HB => .HA

/-- The half of an endpoint: H0 and H1 belong to HA, H2 and H3 to HB (R17, R25). -/
def halfOf (ep : Nat) : HalfId := if ep < 4 then .HA else .HB

/-- The number of the lane pair of a half and a plane (R18). -/
def pairNo (h : HalfId) (p : PlaneId) : Nat := 2 * h.num + p.num

/-- A HEARTBEAT of a sender on a pair (R290), URGENT or not, and when it arrived. -/
structure HbSeen where
  urgent : Bool
  state : Nat
  role : Nat
  ends : Nat
  dgen : Nat
  ts : Nat
  since : Nat
  deriving DecidableEq, Repr

/-- A request that a half tracks until its response comes (R282). -/
structure TrackReq where
  ep : Nat
  tenant : Nat
  tag : Nat
  cls : Nat
  deriving DecidableEq, Repr

/-- A completion queue entry as the half writes it to host memory (R295), without PHASE. -/
structure CqEntry where
  kind : Nat
  status : Nat
  index : Nat
  seq : Nat
  tag : Nat
  cls : Nat
  length : Nat
  deriving DecidableEq, Repr

/-- The half's own side of a queue pair's rings: the next RQ entry, the next CQ entry, PHASE of the CQ's pass, and the
last completion entry and message that it wrote to host memory. -/
structure QpSt where
  rqHead : Nat
  cqTail : Nat
  phase : Bool
  lastCq : Option CqEntry
  lastRecv : Option RMsg
  deriving DecidableEq, Repr

/-- A queue pair at reset. -/
def QpSt.init : QpSt := ⟨0, 0, true, none, none⟩

/-- A busy proxy channel (R299, R300): its command, its TAG, when CMD was written. -/
structure ProxyBusy where
  cmd : Nat
  tag : Nat
  since : Nat
  deriving DecidableEq, Repr

/-- A bulk buffer whose post is under way (R301): the planes that hold the message. -/
structure BulkOut where
  seq : Nat
  gotA : Bool
  gotB : Bool
  deriving DecidableEq, Repr

/-- No HEARTBEAT seen: KINDLING and OFFLINE. -/
def HbSeen.none : HbSeen := ⟨false, 0, 0, 0, 0, 0, 0⟩

/-- The host die. `waiting` holds messages of the proxy bridge and the bulk window that wait for credit; `msix` counts the MSI-X messages
sent by 64 × endpoint + vector. Keyed maps: endpoints by number, lane pairs by `pairNo`, output streams by 2 × endpoint + (0 control, 1
bulk), queue pairs by 256 × endpoint + q, proxy channels and bulk buffers by 4 × endpoint + index, credits by
256 × plane + 16 × endpoint + class (endpoints 8 and 9 are the link reserves of HA and HB), HEARTBEATs and CREDITs in flight
by 2 × pair + (0 to the plane, 1 to the half), BAR2 bytes by 65,536 × endpoint + offset. -/
structure HostDie where
  regs : List (Nat × Word)
  straps : Nat
  running : Bool
  haRun : Bool
  hbRun : Bool
  dl : List (Nat × Bool)
  pairs : List (Nat × Bool)
  hb : List (Nat × HbSeen)
  toDev : List (Nat × RMsg)
  toHost : List RMsg
  hbFly : List (Nat × List HbSeen)
  credFly : List (Nat × List (List (Nat × Nat)))
  next : List (Nat × Nat)
  hold : List (Nat × RMsg)
  rejSeen : List (Nat × Nat)
  tracked : List TrackReq
  used : List (Nat × Nat)
  owed : List (Nat × Nat)
  qps : List (Nat × QpSt)
  proxies : List (Nat × Option ProxyBusy)
  resHi : List (Nat × Word)
  proxyTenant : List (Nat × Nat)
  proxySeq : List (Nat × Nat)
  proxyTag : Nat
  proxyOld : List (Nat × Nat)
  bulkBuf : List (Nat × Byte)
  bulkOut : List (Nat × Option BulkOut)
  waiting : List RMsg
  msix : List (Nat × Nat)
  aliveH : Bool
  aliveHAt : Nat
  deriving DecidableEq, Repr

/-- The host die held in reset. -/
def HostDie.init : HostDie :=
  { regs := [], straps := 0, running := false, haRun := false, hbRun := false, dl := [], pairs := [], hb := [], toDev := [], toHost := [],
    hbFly := [], credFly := [], next := [], hold := [], rejSeen := [], tracked := [], used := [], owed := [], qps := [], proxies := [],
    resHi := [], proxyTenant := [], proxySeq := [], proxyTag := 0, proxyOld := [], bulkBuf := [], bulkOut := [], waiting := [],
    msix := [], aliveH := false, aliveHAt := 0 }

/-- A semaphore (R302): free, or the holder's endpoint (the group's primary), whether it is a group, and the tenant. -/
structure Sema where
  ep : Nat
  group : Bool
  tenant : Nat
  deriving DecidableEq, Repr

/-- A tenant's message sequence (R296): the highest SEQ admitted and a record of the 1,024 SEQs below it (bit k: highest −
1 − k). -/
structure SeqWin where
  high : Nat
  seen : BitVec 1024
  deriving DecidableEq, Repr

/-- A plane's side of the Ridge: receipts and admission (R36-R39), UP states, GENs and restart counts of endpoints (R281),
the HEARTBEATs of the halves, semaphores, sequences, DGEN (R282), messages ready to leave, credits, whether each pair is
trained and since when it has been down (and whether that loss has been attributed), admission requests on
their way to Eaves (with a mark for an endpoint that goes DOWN), bodies that the leading plane sent for the catch-up (R420), the device-wide
EVENTs of a KINDLING with the endpoints that have had them, the plane's own role as it last knew it and whether an URGENT HEARTBEAT has still to tell
of a change (R290). -/
structure PHost where
  held : List Held
  receipts : List Receipt
  admitted : List RMsg
  out : List RMsg
  direct : List RMsg
  outSeq : List (Nat × Nat)
  epUp : List (Nat × Bool)
  epRestarts : List (Nat × Nat)
  hb : List (Nat × HbSeen)
  sema : List (Nat × Option Sema)
  seqs : List (Nat × Option SeqWin)
  dgen : Nat
  used : List (Nat × Nat)
  owed : List (Nat × Nat)
  pairsUp : List (Nat × Bool)
  pairDown : List (Nat × Option (Nat × Bool))
  asks : List (Receipt × Bool)
  bodies : List RMsg
  kindling : Bool
  kindleEv : List (List Byte)
  told : List Nat
  roleSeen : Nat
  tellRole : Bool
  deriving DecidableEq, Repr

/-- A plane's Ridge side after a PLANE-domain restart. -/
def PHost.init : PHost :=
  ⟨[], [], [], [], [], [], [], [], [], [], [], 0, [], [], [], [], [], [], false, [], [], 0, false⟩

end Sys2Proof
end

