-- ==== Sys2Proof/Machine/TypesCmd.lean ====
section
/-!
DEFINITION. Operands of commands that say several things of one event: how a frame on a CAN bus ended, what a LIN responder
measured, what a pin does, what a drive's health log holds.
-/

namespace Sys2Proof

/-- A receive error of a CAN slot (R118): whether it is a bit error in a flag that the slot sends, and how often ISO 11898-1 adds 8 more. -/
structure RxErr where
  inFlag : Bool
  eights : Nat
  deriving DecidableEq, Repr

/-- A CAN transmission that completes: the loop delay in slot clocks (R101) and the time since the last TICK. -/
structure TxEnd where
  delay : Fin 128
  dt : Nat
  deriving DecidableEq, Repr

/-- A CAN transmission that fails: whether ISO 11898-1 leaves TEC unchanged, how often it adds 8 more (R118), and the loop delay in slot
clocks where it was measured (R101). -/
structure TxFail where
  same : Bool
  eights : Nat
  delay : Option (Fin 128)
  deriving DecidableEq, Repr

/-- What a LIN responder measured of a header (R143): the bit time of the sync field in sixteenths of a slot clock, and how many ns before
the header's end its break began. -/
structure LinSync where
  bit : Nat
  ago : Nat
  deriving DecidableEq, Repr

/-- A PLCA coordinator's BEACON (R153): the T1S port and the time since the last TICK. -/
structure T1sBeacon where
  port : Fin 16
  dt : Nat
  deriving DecidableEq, Repr

/-- Lock of a PCS (R156): the speed and for how many ns it has been held. -/
structure PcsLock where
  speed : Fin 6
  held : Nat
  deriving DecidableEq, Repr

/-- A PHY_INT input and its level (R164). -/
structure PhyPin where
  k : Fin 4
  low : Bool
  deriving DecidableEq, Repr

/-- The level that a TAMPER input has held for its filter time, or that the mesh fails (R340); `slept` is the calendar time since the last
command, in ns, where the counter stands still. -/
structure TamperPin where
  high : Bool
  slept : Nat
  deriving DecidableEq, Repr

/-- A drive's health log (R349, R351): Critical Warning, Percentage Used, the temperature in °C + 64. -/
structure HealthLog where
  warn : Fin 256
  used : Fin 256
  temp : Fin 256
  deriving DecidableEq, Repr

/-- A wake pin (R482): its level and for how many ns it has held it; `slept` as for a TAMPER input. -/
structure WakePin where
  high : Bool
  held : Nat
  slept : Nat
  deriving DecidableEq, Repr

/-- The level that BT_INT_N of a chain has held for 1 µs (R495); `slept` as for a TAMPER input. -/
structure IntPin where
  low : Bool
  slept : Nat
  deriving DecidableEq, Repr

end Sys2Proof
end

