-- ==== Sys2Proof/Machine/TypesSlots.lean ====
section
/-!
DEFINITION. What a bus slot holds beside its registers: a CAN slot's transmit and inspection mailboxes (R110-R117), rate
detection and fault confinement counts (R102, R120); a slow slot's packer, packet in progress, LIN buffers and schedule,
transmit queue (R131-R149); a T1S port's transmit state (R152-R154); a plane's assist sessions (R125-R129) and bus models
(R112, R147).
-/

namespace Sys2Proof

/-- The formats of a CAN frame. -/
inductive CanFmt where
  | cc | fd | xl
  deriving DecidableEq, Repr

/-- A CAN frame as it is on the bus: format, identifier and its type, remote, bit-rate switch, error state indicator, DLC of
a classical or FD frame, the XL header fields, the data bytes. -/
structure CanRx where
  fmt : CanFmt
  ide : Bool
  id : Nat
  rmt : Bool
  brs : Bool
  esi : Bool
  dlc : Nat
  sec : Bool
  sdt : Nat
  vcid : Nat
  af : Nat
  data : List Byte
  deriving DecidableEq, Repr

/-- An occupied transmit mailbox (R117): its number, the frame, its place in passing order, the attempts made, and
whether the frame is COMMITTED (otherwise PENDING). -/
structure TxMb where
  idx : Nat
  frame : Shingle
  order : Nat
  attempts : Nat
  committed : Bool
  deriving DecidableEq, Repr

/-- A frame as an inspection mailbox shows it (R110, R111): LEN, ID, the FMT word, AF, TS and at most 64 data bytes. -/
structure MFrame where
  len : Nat
  id : Nat
  fmt : Nat
  af : Nat
  ts : Nat
  data : List Byte
  deriving DecidableEq, Repr

/-- One inspection mailbox with its shadow buffer (R110). -/
structure MBox where
  cur : Option MFrame
  new : Bool
  ovw : Bool
  shadow : Option MFrame
  deriving DecidableEq, Repr

/-- An empty mailbox. -/
def MBox.empty : MBox := ⟨none, false, false, none⟩

/-- PWM coding on SLOT_TXn (R124): the short and the long phase of a symbol and the offset, in slot clocks. -/
structure Pwm where
  short : Nat
  long : Nat
  offset : Nat
  deriving DecidableEq, Repr

/-- Slot clocks of one PWM symbol (R124). -/
def Pwm.symbol (p : Pwm) : Nat := p.short + p.long

/-- A CAN slot beside its registers: occupied transmit mailboxes, the next passing order, inspection mailboxes,
the window's lock (initiator and time), the bit timings and operating mode in force, the detection candidate and
its error-free frames, whether the adopted rate has had no error-free frame yet, acknowledgement errors counted towards
ALONE, a stop that waits for the end of the frame on the bus, when the candidate under trial was entered, whether the slot integrates
again after a protocol exception (R95), and the coding of the data phase of the XL frame that it sends, none for plain NRZ (R124). -/
structure CanSt where
  tx : List TxMb
  order : Nat
  mbx : List (Nat × MBox)
  lock : Option (Nat × Nat)
  nbt : Word
  dbt : Word
  xbt : Word
  opmode : Nat
  detK : Nat
  detN : Nat
  freshRate : Bool
  alone : Nat
  stopping : Bool
  detAt : Nat
  again : Bool
  pwm : Option Pwm
  deriving DecidableEq, Repr

/-- A CAN slot at reset. -/
def CanSt.init : CanSt := ⟨[], 0, [], none, 0, 0, 0, 0, 0, 0, false, 0, false, 0, false, none⟩

/-- A LIN publish buffer or diagnostic request (R145): its data, whether it was updated since its last transmission,
the TS of its cause and its age limit in ms. -/
structure PubBuf where
  data : List Byte
  updated : Bool
  ts : Nat
  age : Nat
  deriving DecidableEq, Repr

/-- A message in a slow slot's transmit queue (R148): the characters to send with the check bytes appended, PRIO,
the first character's mark, the TS of its cause and age limit, attempts, characters sent, and whether it is committed. -/
structure SlowMsg where
  bytes : List Byte
  id : Nat
  prio : Nat
  mark : Bool
  ts : Nat
  age : Nat
  attempts : Nat
  sent : Nat
  committed : Bool
  deriving DecidableEq, Repr

/-- A slow slot beside its registers: the packer stages, the assembly buffer, the characters as the receiver took them, the
packet's state and errors (bits as SLOT_SB_ERRFLAG), the LIN frame in progress (FID, started at, subscribed, EVENT entry),
publish buffers and diagnostic requests, the schedule's pending commands and ALT runs (tables to resume and the entries to
resume at, the last interrupted first; a table ALT to start at the end of the entry), the transmit queue, the gap after a SERIAL message,
SLOT_SB_CFG and SLOT_SB_FRAME in force (R133), the bit time of the LIN frame as BAUD_DIV gives it or as the responder measured it (R143),
and the end of the header that a commander drives. -/
structure SlowSt where
  stages : List Byte
  asm : List Byte
  raw : List Byte
  inPkt : Bool
  marked : Bool
  err : Nat
  linFid : Option Nat
  linStart : Nat
  linSub : Bool
  linEvent : Bool
  pub : List (Nat × PubBuf)
  diag : List PubBuf
  reqPend : Bool
  sleepPend : Bool
  running : Bool
  altRet : List (Nat × Nat)
  altPend : Option Nat
  pulseEnd : Option Nat
  txq : List SlowMsg
  gapWait : Bool
  cfg : Word
  frame : Word
  bitDiv : Nat
  headEnd : Nat
  deriving DecidableEq, Repr

/-- A slow slot at reset. -/
def SlowSt.init : SlowSt :=
  ⟨[], [], [], false, false, 0, none, 0, false, false, [], [], false, false, false, [], none, none, [], false, 0, 0, 0, 0⟩

/-- A bus slot: the CAN part, the slow part. Which of the two acts follows from the personality (R94). -/
structure Slot where
  can : CanSt
  slow : SlowSt
  deriving DecidableEq, Repr

/-- A slot at reset. -/
def Slot.init : Slot := ⟨CanSt.init, SlowSt.init⟩

/-- A T1S port beside its registers: the PLCA settings in force, the time of the last BEACON, frames to send with
their attempts, the PLCA cycles it has started, whether its transmit opportunity of the present cycle is still to come (R153). -/
structure T1sSt where
  nodeId : Nat
  nodeCount : Nat
  toTimer : Nat
  maxBc : Nat
  burstTmr : Nat
  linkHold : Nat
  lastBeacon : Nat
  txq : List (Cand × Nat)
  cycle : Nat
  due : Bool
  deriving DecidableEq, Repr

/-- A T1S port at reset. -/
def T1sSt.init : T1sSt := ⟨0, 0, 0, 0, 0, 0, 0, [], 0, false⟩

/-- An Ethernet port's transmit stage beside its registers (R171-R178): the settings in force, the frames in its buffer in the order
passed, the frame in transmission, the classes' credits in 10^-6 bit with the time up to which they are computed, the gate
states that a time step froze and until when (R178), the time from which its gate list is in force (R176). -/
structure EthSt where
  mode : Word
  lat : Word
  phy : Word
  buf : List Cand
  sending : Option Cand
  credit : List (Nat × Int)
  creditAt : Nat
  frozen : Option (Nat × Nat)
  gateFrom : Nat
  deriving DecidableEq, Repr

/-- A port at reset: stopped. -/
def EthSt.init : EthSt := ⟨0, 0, 15, [], none, [], 0, none, 0⟩

/-- A port that stops or restarts: its transmit stage is empty, its gates go on as they are (R43, R178). -/
def EthSt.emptied (s : EthSt) : EthSt := { EthSt.init with frozen := s.frozen, gateFrom := s.gateFrom }

/-- A plane's model of a slot's bus (R112, R147): the time at which each released frame is finished in the model,
oldest first, and the bit timings that the model uses; `known`: completed writes of timing registers; `asleep`: the planes have put a LIN
commander to sleep (R481). -/
structure BusModel where
  ends : List Nat
  nbt : Word
  dbt : Word
  xbt : Word
  known : List (Nat × Word)
  asleep : Bool
  deriving DecidableEq, Repr

/-- An empty model. -/
def BusModel.init : BusModel := ⟨[], 0, 0, 0, [], false⟩

end Sys2Proof
end

