-- ==== Sys2Proof/Syntax.lean ====
section
/-!
DEFINITION. The commands of the block: one constructor for each row of the table of operations and events. Operands
are what the outside supplies: which plane, port or slot; times as nanoseconds since the last TICK (`dt`); frames and
messages as they arrive; register addresses and values; how an action outside the model ended.
-/

namespace Sys2Proof

/-- An operation or event of the table. -/
inductive Instr where
  /-- TICK (R28) -/
  | tick
  /-- MERGER_EMIT (R27) -/
  | mergerEmit (dt : Nat)
  /-- UNIT_LOOKUP (R200) -/
  | unitLookup (p : PlaneId)
  /-- PORT_RESTART_PROCESS (R43) -/
  | portRestartProcess (p : PlaneId)
  /-- LINK_DOWN_FLUSH (R190) -/
  | linkDownFlush (p : PlaneId)
  /-- PLANE_LAG_DETECT (R34) -/
  | planeLagDetect (p : PlaneId) (lag : Nat)
  /-- EAVES_ACCESS (R33) -/
  | eavesAccess
  /-- REG_READ_COMPLETION (R44) -/
  | regReadCompletion (p : PlaneId)
  /-- HOST_MSG_RECEIVE (R36) -/
  | hostMsgReceive (h : HalfId) (p : PlaneId) (hx : Fin 65536) (cx : Fin 4294967296)
  /-- RECEIPT_RECEIVED (R36) -/
  | receiptReceived (p : PlaneId)
  /-- ADMISSION_REQUEST (R36) -/
  | admissionRequest (p : PlaneId)
  /-- HOST_ADMIT (R36) -/
  | hostAdmit (p : PlaneId)
  /-- RECEIPT_TIMEOUT (R39) -/
  | receiptTimeout (ep : Fin 8) (tenant : Fin 4096) (seq : Nat)
  /-- CANDIDATE_ARRIVE (R40) -/
  | candidateArrive (p : PlaneId)
  /-- MGMT_READ (R288) -/
  | mgmtRead (ep : Fin 8) (tenant : Fin 4096) (tag : Nat) (addr : Nat) (count : Nat)
  /-- MGMT_WRITE (R288) -/
  | mgmtWrite (ep : Fin 8) (tenant : Fin 4096) (tag : Nat) (addr : Nat) (data : List Word)
  /-- REGISTER_WRITE (R50) -/
  | registerWrite (init : Fin 11) (tenant : Fin 4096) (secure : Bool) (addr : Fin 536870912) (v : Word)
  /-- SNAP_LOW_READ (R61) -/
  | snapLowRead (init : Fin 11) (tenant : Fin 4096) (secure : Bool) (addr : Fin 536870912)
  /-- SNAP_HIGH_READ (R61) -/
  | snapHighRead (init : Fin 11) (tenant : Fin 4096) (secure : Bool) (addr : Fin 268435456)
  /-- SNAP_LOW_WRITE (R62) -/
  | snapLowWrite (init : Fin 11) (tenant : Fin 4096) (secure : Bool) (addr : Fin 268435456) (v : Word)
  /-- SNAP_HIGH_WRITE (R62) -/
  | snapHighWrite (init : Fin 11) (tenant : Fin 4096) (secure : Bool) (addr : Fin 268435456) (v : Word)
  /-- POSTED_WRITE (R56) -/
  | postedWrite (init : Fin 11) (tenant : Fin 4096) (secure : Bool) (addr : Fin 268435456) (v : Word)
  /-- POSTED_WRITE_ARRIVE (R56) -/
  | postedWriteArrive (k : Fin 7)
  /-- PARITY_SWEEP (R55) -/
  | paritySweep (bad : Fin 4) (p : PlaneId)
  /-- EAVES_CACHE_COMPARE (R64) -/
  | eavesCacheCompare (upset : Fin 256)
  /-- PLANE_CACHE_COMPARE (R64) -/
  | planeCacheCompare (upset : Fin 256)
  /-- DUMP_START (R65) -/
  | dumpStart (ep : Fin 8) (tenant : Fin 4096) (tag : Nat)
  /-- DUMP_ABORT (R65) -/
  | dumpAbort
  /-- DUMP_SECTION (R66) -/
  | dumpSection
  /-- TRUSS_OPEN (R75) -/
  | trussOpen (tenant : Fin 4096)
  /-- TRUSS_CHUNK (R75) -/
  | trussChunk (ep : Fin 8) (tenant : Fin 4096) (tag offset : Nat) (data : List Byte)
  /-- TRUSS_VERIFY (R73) -/
  | trussVerify (tenant : Fin 4096)
  /-- TRUSS_VERIFY_DONE (R73) -/
  | trussVerifyDone (flashFail : Bool)
  /-- TRUSS_DISCARD (R93) -/
  | trussDiscard (tenant : Fin 4096)
  /-- FLOOR_COMMIT (R74) -/
  | floorCommit (tenant : Fin 4096)
  /-- TURN_START (R83) -/
  | turnStart (tenant : Fin 4096) (cold : Bool)
  /-- TURN_ABORT (R89) -/
  | turnAbort (tenant : Fin 4096)
  /-- TURN_RELOAD_DONE (R84) -/
  | turnReloadDone (dt : Nat)
  /-- INACTIVE_BANK_FILLED (R87) -/
  | inactiveBankFilled
  /-- QUALIFY_DONE (R85) -/
  | qualifyDone (checkDt vectorDt : Nat)
  /-- QUAL_LIMIT_EXPIRE (R85) -/
  | qualLimitExpire (dt : Nat)
  /-- ARMED (R86) -/
  | armed
  /-- CUT (R87) -/
  | cutPoint
  /-- PORT_DRAINED (R88) -/
  | portDrained (port : Fin 176)
  /-- DRAIN_LIMIT_EXPIRE (R88) -/
  | drainLimitExpire (port : Fin 176) (dt : Nat)
  /-- SLOT_RESTART (R98) -/
  | slotRestart (n : Fin 128)
  /-- SLOT_ENABLE (R97) -/
  | slotEnable (n : Fin 128)
  /-- SLOT_DISABLE (R97) -/
  | slotDisable (n : Fin 128)
  /-- OPMODE_APPLY (R97) -/
  | opmodeApply (n : Fin 128)
  /-- SLOT_INTEGRATED (R98) -/
  | slotIntegrated (n : Fin 128) (dt : Nat)
  /-- CAN_FRAME_RECEIVED (R105) -/
  | canFrameReceived (n : Fin 128) (r : CanRx) (dt : Nat)
  /-- PROTOCOL_EXCEPTION (R95) -/
  | protocolException (n : Fin 128) (dt : Nat)
  /-- CAN_RX_ERROR (R118) -/
  | canRxError (n : Fin 128) (kind : Fin 5) (err : RxErr) (dt : Nat)
  /-- DETECT_DWELL_EXPIRE (R102) -/
  | detectDwellExpire (n : Fin 128) (dt : Nat)
  /-- FILTER_ELEMENT_WRITE (R109) -/
  | filterElementWrite (n : Fin 128) (idx : Fin 4096) (both : Bool)
  /-- FILTER_ELEMENT_READ (R109) -/
  | filterElementRead (n : Fin 128) (idx : Fin 4096)
  /-- MAILBOX_LOCK (R111) -/
  | mailboxLock (n : Fin 128) (who : Fin 10) (dt : Nat)
  /-- MAILBOX_RELEASE (R111) -/
  | mailboxRelease (n : Fin 128) (who : Fin 10)
  /-- MAILBOX_SELECT (R111) -/
  | mailboxSelect (n : Fin 128) (who : Fin 10) (m : Fin 64)
  /-- MAILBOX_LOCK_TIMEOUT (R111) -/
  | mailboxLockTimeout (n : Fin 128) (dt : Nat)
  /-- SLOT_RELEASE (R112) -/
  | slotRelease (p : PlaneId) (n : Fin 128)
  /-- SLOT_TX_CANDIDATE (R113) -/
  | slotTxCandidate (n : Fin 128)
  /-- TX_COMMIT (R114) -/
  | txCommit (n : Fin 128) (dt : Nat)
  /-- ARBITRATION_LOST (R115) -/
  | arbitrationLost (n : Fin 128)
  /-- TX_SUCCESS (R117) -/
  | txSuccess (n : Fin 128) (x : TxEnd)
  /-- TX_ERROR (R117) -/
  | txError (n : Fin 128) (kind : Fin 5) (x : TxFail) (dt : Nat)
  /-- TX_AGE_EXPIRE (R116) -/
  | txAgeExpire (n : Fin 128) (m : Fin 32) (dt : Nat)
  /-- TX_CANCEL (R115) -/
  | txCancel (n : Fin 128) (mask : Word)
  /-- BUSOFF_RECOVERY (R119) -/
  | busoffRecovery (n : Fin 128) (k : Nat) (dt : Nat)
  /-- ASSIST_FRAME_CONSUMED (R125) -/
  | assistFrameConsumed (p : PlaneId)
  /-- ASSIST_SEGMENT (R127) -/
  | assistSegment (p : PlaneId)
  /-- ASSIST_PACKET_GAP (R127) -/
  | assistPacketGap (dt : Nat)
  /-- ASSIST_CTS (R127) -/
  | assistCts (p : PlaneId)
  /-- ASSIST_FLOW_CONTROL (R127) -/
  | assistFlowControl (p : PlaneId)
  /-- ASSIST_RTS (R128) -/
  | assistRts (p : PlaneId)
  /-- ASSIST_FIRST_FRAME (R128) -/
  | assistFirstFrame (p : PlaneId)
  /-- ASSIST_TIMEOUT (R129) -/
  | assistTimeout (dt : Nat)
  /-- CHARACTER_RECEIVED (R138) -/
  | characterReceived (n : Fin 128) (b : Byte) (stage : Option Byte) (mark framing parity : Bool) (dt : Nat)
  /-- PACKET_BOUNDARY (R134) -/
  | packetBoundary (n : Fin 128) (dt : Nat)
  /-- PACKER_FLUSH (R139) -/
  | packerFlush (n : Fin 128)
  /-- LIN_SCHEDULE_ENTRY (R144) -/
  | linScheduleEntry (n : Fin 128) (dt : Nat)
  /-- LIN_RESPONSE_TIMEOUT (R143) -/
  | linResponseTimeout (n : Fin 128) (dt : Nat)
  /-- LIN_BREAK_DETECTED (R143) -/
  | linBreakDetected (n : Fin 128) (pid : Byte) (sync : LinSync) (dt : Nat)
  /-- LIN_PUBLISH_UPDATE (R145) -/
  | linPublishUpdate (n : Fin 128)
  /-- LIN_GOSLEEP (R146) -/
  | linGosleep (n : Fin 128)
  /-- LIN_WAKE (R146) -/
  | linWake (n : Fin 128) (dt : Nat)
  /-- LIN_WAKE_PULSE (R146) -/
  | linWakePulse (n : Fin 128) (width dt : Nat)
  /-- LIN_SCHEDULE_RESUME (R146) -/
  | linScheduleResume (n : Fin 128) (dt : Nat)
  /-- SLOW_TX_CANDIDATE (R148) -/
  | slowTxCandidate (n : Fin 128) (dt : Nat)
  /-- SLOW_TX_AGE_EXPIRE (R148) -/
  | slowTxAgeExpire (n : Fin 128) (dt : Nat)
  /-- J1708_ACCESS (R149) -/
  | j1708Access (n : Fin 128) (idle dt : Nat)
  /-- SLOW_CHAR_SENT (R149) -/
  | slowCharSent (n : Fin 128) (back : Byte) (framing : Bool) (dt : Nat)
  /-- T1S_FRAME_RECEIVED (R152) -/
  | t1sFrameReceived (n : Fin 16) (frame : List Byte) (fcsOk : Bool) (ago dt : Nat)
  /-- T1S_BEACON (R154) -/
  | t1sBeacon (n : Fin 16) (dt : Nat)
  /-- T1S_BEACON_LOSS (R154) -/
  | t1sBeaconLoss (n : Fin 16) (dt : Nat)
  /-- T1S_BEACON_SEND (R153) -/
  | t1sBeaconSend (b : T1sBeacon)
  /-- T1S_TX_OPPORTUNITY (R153) -/
  | t1sTxOpportunity (n : Fin 16) (dt : Nat)
  /-- T1S_COLLISION (R153) -/
  | t1sCollision (n : Fin 16) (dt : Nat)
  /-- T1S_RESTART (R154) -/
  | t1sRestart (n : Fin 16) (enable : Bool) (dt : Nat)
  /-- ETH_FRAME_RECEIVED (R158) -/
  | ethFrameReceived (n : Fin 24) (frame : List Byte) (fcsOk : Bool) (ago dt : Nat)
  /-- ETH_LINK_UP (R156) -/
  | ethLinkUp (n : Fin 24) (lock : PcsLock) (dt : Nat)
  /-- ETH_LINK_DOWN (R156) -/
  | ethLinkDown (n : Fin 24) (hiBer : Bool) (dt : Nat)
  /-- ETH_RESTART (R163) -/
  | ethRestart (n : Fin 24) (enable : Bool) (dt : Nat)
  /-- TXTS_READ (R162) -/
  | txtsRead (n : Fin 24)
  /-- MDIO_ADDRESS (R164) -/
  | mdioAddress (n : Fin 24) (c45 : Bool) (reg : Fin 32) (data : Fin 65536)
  /-- MDIO_WRITE (R164) -/
  | mdioWrite (n : Fin 24) (c45 : Bool) (reg : Fin 32) (data : Fin 65536)
  /-- MDIO_READ (R164) -/
  | mdioRead (n : Fin 24) (c45 : Bool) (reg : Fin 32) (data : Fin 65536)
  /-- MDIO_DONE (R164) -/
  | mdioDone (bus : Fin 2) (data : Fin 65536)
  /-- PHY_INTERRUPT (R164) -/
  | phyInterrupt (pin : PhyPin)
  /-- ETH_RELEASE (R172) -/
  | ethRelease (p : PlaneId) (port : Fin 40)
  /-- ETH_TX_CANDIDATE (R173) -/
  | ethTxCandidate (k : Fin 40) (dt : Nat)
  /-- ETH_TX_START (R174) -/
  | ethTxStart (n : Fin 24) (dt : Nat)
  /-- ETH_TX_DONE (R174) -/
  | ethTxDone (n : Fin 24) (dt : Nat)
  /-- GATE_ENTRY_CHANGE (R176) -/
  | gateEntryChange (n : Fin 24) (dt : Nat)
  /-- QUEUE_AGE_EXPIRE (R170) -/
  | queueAgeExpire (dt : Nat)
  /-- CB_RECOVERY_RESET (R186) -/
  | cbRecoveryReset (dt : Nat)
  /-- TBL_READ (R224) -/
  | tblRead (n : Fin 4)
  /-- TBL_WRITE (R224) -/
  | tblWrite (n : Fin 4)
  /-- TBL_INSERT (R224) -/
  | tblInsert (n : Fin 4)
  /-- TBL_DELETE (R224) -/
  | tblDelete (n : Fin 4)
  /-- TBL_SEARCH (R224) -/
  | tblSearch (n : Fin 4)
  /-- TABLE_COMMAND_APPLY (R199) -/
  | tableCommandApply (dt : Nat)
  /-- LEARN_APPLY (R211) -/
  | learnApply (dt : Nat)
  /-- MAC_AGING_POINT (R209) -/
  | macAgingPoint (dt : Nat)
  /-- VERSION_RENEWAL (R213) -/
  | versionRenewal (dt : Nat)
  /-- LEARNING_NOTICE_RECEIVED (R215) -/
  | learningNoticeReceived (p : PlaneId)
  /-- TABLE_SCRUB (R221) -/
  | tableScrub (p : PlaneId) (t : Fin 16) (k : Fin 524288) (found : Fin 4)
  /-- TABLE_REPAIR_REPLY (R221) -/
  | tableRepairReply (p : PlaneId)
  /-- THATCHER_UNIT (R249) -/
  | thatcherUnit (p : PlaneId)
  /-- CYCLIC_TRIGGER (R234) -/
  | cyclicTrigger (dt : Nat)
  /-- DEFERRED_CHANGE_BUILD (R234) -/
  | deferredChangeBuild (dt : Nat)
  /-- SUPERVISOR_EXPIRE (R237) -/
  | supervisorExpire (dt : Nat)
  /-- CONTRIBUTOR_RESOLVE (R240) -/
  | contributorResolve (dt : Nat)
  /-- HOST_SIGNAL_WRITE (R248) -/
  | hostSignalWrite (ep : Fin 8) (tenant : Fin 4096) (tag : Nat)
  /-- THR_WINDOW_READ (R250) -/
  | thrWindowRead (n : Fin 4)
  /-- THR_WINDOW_WRITE (R250) -/
  | thrWindowWrite (n : Fin 4)
  /-- THR_WRITE_APPLY (R247) -/
  | thrWriteApply (dt : Nat)
  /-- HOST_FRAME_INJECT (R291) -/
  | hostFrameInject (ep : Fin 8) (tenant : Fin 4096) (tag : Nat)
  /-- TENANT_BIND (R258) -/
  | tenantBind (dt : Nat)
  /-- TENANT_IDLE_UNBIND (R259) -/
  | tenantIdleUnbind (dt : Nat)
  /-- DOIP_UNBIND (R259) -/
  | doipUnbind (dt : Nat)
  /-- POST_CUT_UNBIND (R259) -/
  | postCutUnbind (dt : Nat)
  /-- TEN_READ (R273) -/
  | tenRead (n : Fin 4)
  /-- TEN_WRITE (R273) -/
  | tenWrite (n : Fin 4)
  /-- UNBIND (R259) -/
  | unbind (n : Fin 4)
  /-- CLEAR_BABBLE (R269) -/
  | clearBabble (n : Fin 4)
  /-- ZERO (R253) -/
  | zeroCounters (n : Fin 4)
  /-- TENANT_COMMAND_APPLY (R260) -/
  | tenantCommandApply (dt : Nat)
  /-- GOVERNOR_WINDOW_CLOSE (R265) -/
  | governorWindowClose (dt : Nat)
  /-- BABBLE_ENTER (R269) -/
  | babbleEnter (dt : Nat)
  /-- BABBLE_EXIT (R269) -/
  | babbleExit (dt : Nat)
  /-- THERMAL_THROTTLE (R272) -/
  | thermalThrottle (p : PlaneId) (temp : Fin 256)
  /-- THERMAL_RESTORE (R272) -/
  | thermalRestore (p : PlaneId) (temp : Fin 256)
  /-- RIDGE_PAIR_TRAINED (R277) -/
  | ridgePairTrained (h : HalfId) (p : PlaneId)
  /-- RIDGE_PAIR_DOWN (R277) -/
  | ridgePairDown (h : HalfId) (p : PlaneId)
  /-- HALF_FAULT (R278) -/
  | halfFault (h : HalfId)
  /-- HALF_RESTARTED (R278) -/
  | halfRestarted (h : HalfId)
  /-- HOST_RESET_RELEASE (R279) -/
  | hostResetRelease (straps : Fin 4)
  /-- ENDPOINT_DOWN (R281) -/
  | endpointDown (ep : Fin 8) (clearCtl : Bool)
  /-- ENDPOINT_UP (R281) -/
  | endpointUp (ep : Fin 8)
  /-- HEARTBEAT_SEND (R290) -/
  | heartbeatSend (toHost : Bool) (h : HalfId) (p : PlaneId)
  /-- HEARTBEAT_RECEIVED (R290) -/
  | heartbeatReceived (atHost : Bool) (h : HalfId) (p : PlaneId)
  /-- HEARTBEAT_MISSED (R290) -/
  | heartbeatMissed (h : HalfId) (p : PlaneId)
  /-- DGEN_CHANGE (R282) -/
  | dgenChange (h : HalfId)
  /-- SQ_FETCH (R295) -/
  | sqFetch (ep : Fin 8) (q : Fin 256) (cls : Nat) (urgent : Bool) (len : Nat) (seq : Nat) (tag : Nat) (buf : List Byte)
  /-- RQ_DELIVER (R294) -/
  | rqDeliver (ep : Fin 8) (size : Nat)
  /-- CREDIT_RETURN (R293) -/
  | creditReturn (atHost : Bool) (h : HalfId) (p : PlaneId)
  /-- CREDIT_SEND (R293) -/
  | creditSend (toHost : Bool) (h : HalfId) (p : PlaneId)
  /-- HALF_OUTPUT_SELECT (R297) -/
  | halfOutputSelect (h : HalfId) (p : PlaneId)
  /-- PROXY_READ (R299) -/
  | proxyRead (ep : Fin 8) (c : Fin 4)
  /-- PROXY_WRITE (R300) -/
  | proxyWrite (ep : Fin 8) (c : Fin 4)
  /-- PROXY_ACQUIRE (R302) -/
  | proxyAcquire (ep : Fin 8) (c : Fin 4)
  /-- PROXY_RELEASE (R302) -/
  | proxyRelease (ep : Fin 8) (c : Fin 4)
  /-- PROXY_RESPONSE (R299) -/
  | proxyResponse (ep : Fin 8) (c : Fin 4)
  /-- PROXY_TIMEOUT (R299) -/
  | proxyTimeout (ep : Fin 8) (c : Fin 4)
  /-- BULK_POST (R301) -/
  | bulkPost (ep : Fin 8) (b : Fin 4)
  /-- SEMA_ACQUIRE (R302) -/
  | semaAcquire (ep : Fin 8) (tenant : Fin 4096) (tag : Nat) (index : Fin 64)
  /-- SEMA_RELEASE (R302) -/
  | semaRelease (ep : Fin 8) (tenant : Fin 4096) (tag : Nat) (index : Fin 64)
  /-- SEMA_QUERY (R302) -/
  | semaQuery (ep : Fin 8) (tenant : Fin 4096) (tag : Nat) (index : Fin 64)
  /-- SEMA_FORCE (R302) -/
  | semaForce (ep : Fin 8) (tenant : Fin 4096) (tag : Nat) (index : Fin 64)
  /-- AUTH_ENGINE_DONE (R318) -/
  | authEngineDone (p : PlaneId)
  /-- MKA_PERIOD (R325) -/
  | mkaPeriod (port : Fin 24) (server : Bool)
  /-- LC_ARM (R327) -/
  | lcArm (tenant : Fin 4096) (target : Fin 16) (confirm : Fin 65536)
  /-- LC_DISARM (R327) -/
  | lcDisarm (tenant : Fin 4096)
  /-- KILN_REVOKE (R328) -/
  | kilnRevoke (tenant : Fin 4096) (slot : Fin 4)
  /-- PROV_ROOT_O (R329) -/
  | provRootO
  /-- PROV_DIGEST2 (R329) -/
  | provDigest2
  /-- PROV_DIGEST3 (R329) -/
  | provDigest3
  /-- PROV_RETENTION (R329) -/
  | provRetention
  /-- PROV_ESCROW (R329) -/
  | provEscrow
  /-- KILN_DESTROY (R332) -/
  | kilnDestroy (tenant : Fin 4096) (handle : Fin 1024)
  /-- KEY_DESTROY_APPLY (R332) -/
  | keyDestroyApply
  /-- SESSION_OPEN (R336) -/
  | sessionOpen
  /-- SESSION_SUBMIT (R336) -/
  | sessionSubmit
  /-- SESSION_CLOSE (R337) -/
  | sessionClose (tenant : Fin 4096)
  /-- CHALLENGE_EXPIRE (R336) -/
  | challengeExpire
  /-- SESSION_LIFETIME_EXPIRE (R337) -/
  | sessionLifetimeExpire
  /-- SESSION_LOCKOUT_EXPIRE (R338) -/
  | sessionLockoutExpire
  /-- GCM_ENCRYPT (R339) -/
  | gcmEncrypt (n : Fin 4)
  /-- GCM_DECRYPT (R339) -/
  | gcmDecrypt (n : Fin 4)
  /-- CTR (R339) -/
  | ctrCrypt (n : Fin 4)
  /-- MAC_GEN (R339) -/
  | macGen (n : Fin 4)
  /-- MAC_VERIFY (R339) -/
  | macVerify (n : Fin 4)
  /-- RANDOM (R339) -/
  | randomBytes (n : Fin 4)
  /-- IMPORT (R334) -/
  | importKey (n : Fin 4)
  /-- TAMPER_ACTIVATION (R341) -/
  | tamperActivation (src : Fin 5) (pin : TamperPin)
  /-- TAMPER_LATCH_CLEAR (R341) -/
  | tamperLatchClear (tenant : Fin 4096)
  /-- ENTROPY_READY (R342) -/
  | entropyReady
  /-- ENTROPY_START_TIMEOUT (R342) -/
  | entropyStartTimeout
  /-- ENTROPY_HEALTH_FAIL (R344) -/
  | entropyHealthFail
  /-- ENTROPY_RESERVE_EMPTY (R344) -/
  | entropyReserveEmpty
  /-- DRIVE_LINK_UP (R350) -/
  | driveLinkUp (p : PlaneId) (d : Fin 4)
  /-- DRIVE_ATTACH_DONE (R350) -/
  | driveAttachDone (p : PlaneId) (d : Fin 4) (sb0 sb1 : List Byte) (extents : Nat)
  /-- DRIVE_COMMAND_DONE (R349) -/
  | driveCommandDone (p : PlaneId) (d : Fin 4) (gen : Nat) (upTo : Nat)
  /-- DRIVE_TIMEOUT (R351) -/
  | driveTimeout (p : PlaneId) (d : Fin 4)
  /-- DRIVE_WRITE_ERROR (R351) -/
  | driveWriteError (p : PlaneId) (d : Fin 4)
  /-- DRIVE_CRITICAL_WARNING (R351) -/
  | driveCriticalWarning (p : PlaneId) (d : Fin 4) (log : HealthLog)
  /-- DRIVE_LINK_LOSS (R350) -/
  | driveLinkLoss (p : PlaneId) (d : Fin 4)
  /-- MIRROR_COMPLETE (R350) -/
  | mirrorComplete (p : PlaneId) (d : Fin 4)
  /-- ADOPT (R352) -/
  | adopt (ep : Fin 8) (tenant : Fin 4096) (tag : Nat) (p : PlaneId) (d : Fin 4)
  /-- RETIRE (R352) -/
  | retire (ep : Fin 8) (tenant : Fin 4096) (tag : Nat) (p : PlaneId) (d : Fin 4)
  /-- SEAL_DUE (R358) -/
  | sealDue
  /-- JOURNAL_SNAPSHOT (R360) -/
  | journalSnapshot
  /-- CHUNK_CLOSE (R361) -/
  | chunkClose
  /-- CHUNK_WRITTEN (R362) -/
  | chunkWritten (p : PlaneId) (cseq : Nat) (good : Bool)
  /-- INCIDENT_TRIGGER (R363) -/
  | incidentTrigger (what : Fin 4)
  /-- INCIDENT_CLOSE (R364) -/
  | incidentClose
  /-- INCIDENT_COPY_DONE (R364) -/
  | incidentCopyDone (p : PlaneId) (id : Nat)
  /-- LEGAL_EXPIRE (R366) -/
  | legalExpire
  /-- HEAD_COMMIT (R370) -/
  | headCommit (p : PlaneId)
  /-- HOLE_REPAIR (R376) -/
  | holeRepair (p : PlaneId)
  /-- LEGAL_SCRUB (R378) -/
  | legalScrub (p : PlaneId) (bad : List (Nat × Bool))
  /-- JOURNAL_STATUS (R379) -/
  | journalStatus (ep : Fin 8) (tenant : Fin 4096) (tag : Nat)
  /-- JOURNAL_LOCATE (R379) -/
  | journalLocate (ep : Fin 8) (tenant : Fin 4096) (tag : Nat) (tier : Fin 256) (key : Fin 256) (v : Nat)
  /-- JOURNAL_OPEN (R379) -/
  | journalOpen (ep : Fin 8) (tenant : Fin 4096) (tag : Nat) (tier : Fin 256) (start : Nat) (stop : Nat)
  /-- JOURNAL_CLOSE (R379) -/
  | journalClose (ep : Fin 8) (tenant : Fin 4096) (tag : Nat) (e : Fin 4)
  /-- JOURNAL_TRIGGER (R379) -/
  | journalTrigger (ep : Fin 8) (tenant : Fin 4096) (tag : Nat)
  /-- JOURNAL_LOCK (R365) -/
  | journalLock (ep : Fin 8) (tenant : Fin 4096) (tag : Nat) (id : Nat)
  /-- JOURNAL_UNLOCK (R365) -/
  | journalUnlock (ep : Fin 8) (tenant : Fin 4096) (tag : Nat) (id : Nat)
  /-- EXPORT_SEND (R380) -/
  | exportSend
  /-- EXPORT_ACK (R380) -/
  | exportAck (ep : Fin 8) (tenant : Fin 4096) (e : Fin 4) (acked : Nat)
  /-- SERVO_RUN (R391) -/
  | servoRun
  /-- TIME_STEP (R387) -/
  | timeStep
  /-- PPS_IN_EDGE (R397) -/
  | ppsInEdge (dt : Nat)
  /-- PPS_IN_LOST (R390) -/
  | ppsInLost
  /-- PPS_OUT_PULSE (R398) -/
  | ppsOutPulse (dt : Nat)
  /-- TIME_REPORT (R400) -/
  | timeReport (ep : Fin 8) (tenant : Fin 4096) (tag : Nat)
  /-- TIME_SET (R400) -/
  | timeSet (ep : Fin 8) (tenant : Fin 4096) (tag : Nat) (ref : Nat) (ptp : Nat) (errUs : Nat)
  /-- TIME_UTC (R400) -/
  | timeUtc (ep : Fin 8) (tenant : Fin 4096) (tag : Nat) (utc : Nat)
  /-- CALENDAR_SYNC (R401) -/
  | calendarSync
  /-- MOTION_EDGE (R404) -/
  | motionEdge (n : Fin 2)
  /-- GPTP_SYNC_SEND (R396) -/
  | gptpSyncSend
  /-- GPTP_PDELAY (R396) -/
  | gptpPdelay (port : Fin 24) (delay : Option Nat)
  /-- PLANE_FAULT_DECLARE (R415) -/
  | planeFaultDeclare (p : PlaneId) (o : Fin 64)
  /-- REJOIN_ATTEMPT (R419) -/
  | rejoinAttempt (p : PlaneId) (dt : Nat)
  /-- REJOIN_STAGE_DONE (R419) -/
  | rejoinStageDone (p : PlaneId) (good : Bool)
  /-- REJOIN_TIMEOUT (R419) -/
  | rejoinTimeout (p : PlaneId) (dt : Nat)
  /-- COPY_REQUEST (R420) -/
  | copyRequest (p : PlaneId)
  /-- SNAPSHOT_APPLIED (R420) -/
  | snapshotApplied (p : PlaneId) (bytes : Nat)
  /-- REJOIN_LEVEL (R422) -/
  | rejoinLevel (p : PlaneId)
  /-- JOIN (R422) -/
  | joinPoint
  /-- PLANE_REJOIN_RELEASE (R423) -/
  | planeRejoinRelease (tenant : Fin 4096) (p : PlaneId)
  /-- PURLIN_LOSS (R418) -/
  | purlinLoss (lane : Fin 4)
  /-- DIGEST_MISMATCH (R414) -/
  | digestMismatch (port : Fin 512) (oseq : Nat) (dLead : Nat) (dShadow : Nat)
  /-- ATTRIBUTION_WINDOW_EXPIRE (R414) -/
  | attributionWindowExpire (dt : Nat)
  /-- FAULT_SOURCE_OCCURRENCE (R428) -/
  | faultSourceOccurrence (k : Fin 2048) (stays : Bool)
  /-- RAIL_FAULT (R427) -/
  | railFault (k : Fin 2048)
  /-- FLUE_FORCE_PULSE (R431) -/
  | flueForcePulse (tenant : Fin 4096) (k : Fin 2048)
  /-- FLUE_FORCE_RAIL (R431) -/
  | flueForceRail (tenant : Fin 4096) (k : Fin 2048)
  /-- FLUE_SELF (R433) -/
  | flueSelf
  /-- FLUE_CAUSE_CLEAR (R430) -/
  | flueCauseClear (k : Fin 2048)
  /-- VOTE_DISAGREEMENT (R13) -/
  | voteDisagreement (kind : Fin 3) (masked : Bool)
  /-- EAVES_SUPPLY_LOSS (R14) -/
  | eavesSupplyLoss (n : Fin 2)
  /-- REFCLK_LOSS (R21) -/
  | refclkLoss (p : PlaneId)
  /-- ALIVE_TOGGLE (R434) -/
  | aliveToggle (dt : Nat)
  /-- ALIVE_H_TOGGLE (R435) -/
  | aliveHToggle (dt : Nat)
  /-- SAFE_ENTRY (R437) -/
  | safeEntry
  /-- SAFE_REKINDLE (R439) -/
  | safeRekindle (dt : Nat)
  /-- MODE_STATUS (R446) -/
  | modeStatus (ep : Fin 8) (tenant : Fin 4096) (tag : Nat)
  /-- ENTER_SERVICE (R448) -/
  | enterService (ep : Fin 8) (tenant : Fin 4096) (tag : Nat)
  /-- ENTER_BANKED (R451) -/
  | enterBanked (ep : Fin 8) (tenant : Fin 4096) (tag : Nat) (force : Bool)
  /-- ENTER_EMBER (R453) -/
  | enterEmber (ep : Fin 8) (tenant : Fin 4096) (tag : Nat) (force : Bool)
  /-- ENTER_OFF (R453) -/
  | enterOff (ep : Fin 8) (tenant : Fin 4096) (tag : Nat) (force : Bool)
  /-- MODE_RESET (R468) -/
  | modeReset (ep : Fin 8) (tenant : Fin 4096) (tag : Nat)
  /-- MODE_HOLD (R468) -/
  | modeHold (ep : Fin 8) (tenant : Fin 4096) (tag ms : Nat)
  /-- HOLD_EXPIRE (R468) -/
  | holdExpire (dt : Nat)
  /-- AUTHORITY_COMMAND (R447) -/
  | authorityCommand (dt : Nat)
  /-- BANKED_PORTS_DRAINED (R451) -/
  | bankedPortsDrained
  /-- BANKED_DRIVES_FLUSHED (R451) -/
  | bankedDrivesFlushed
  /-- EMBER_PLANES_OFF (R453) -/
  | emberPlanesOff
  /-- PAD_RELEASE (R455) -/
  | padRelease (c : Fin 16)
  /-- POWER_ON (R449) -/
  | powerOn (boot : Fin 8) (slept : Nat)
  /-- KINDLING_PGOOD (R449) -/
  | kindlingPgood
  /-- FIRMWARE_VERIFIED (R450) -/
  | firmwareVerified (p : PlaneId) (good : Bool)
  /-- KINDLING_TRUSS_CHECK (R69) -/
  | kindlingTrussCheck (p : PlaneId)
  /-- KINDLING_FULL_LOAD (R449) -/
  | kindlingFullLoad (p : PlaneId)
  /-- KINDLING_LEAD (R407) -/
  | kindlingLead (p : PlaneId)
  /-- KINDLING_TIMEOUT (R450) -/
  | kindlingTimeout (dt : Nat)
  /-- WAKE_N_ASSERT (R482) -/
  | wakeNAssert (pin : WakePin)
  /-- WAKE_C_ASSERT (R482) -/
  | wakeCAssert (n : Fin 16) (pin : WakePin)
  /-- CALENDAR_ALARM (R458) -/
  | calendarAlarm (slept : Nat)
  /-- VBAT_LOSS (R42) -/
  | vbatLoss
  /-- IDLE_ENTRY (R460) -/
  | idleEntry (dt : Nat)
  /-- DVFS_STEP (R462) -/
  | dvfsStep
  /-- AVS_ADJUST (R463) -/
  | avsAdjust (p : PlaneId) (up floorLow : Bool)
  /-- SUPPLY_WARN (R464) -/
  | supplyWarn (src : Fin 4) (dt : Nat)
  /-- SUPPLY_WARN_CLEAR (R465) -/
  | supplyWarnClear (dt : Nat)
  /-- WARN_LONG (R465) -/
  | warnLong (dt : Nat)
  /-- WARN_OFF_TIMEOUT (R465) -/
  | warnOffTimeout (dt : Nat)
  /-- RESET_LEVEL (R465) -/
  | resetLevel
  /-- PGOOD_FALL (R521) -/
  | pgoodFall (k : Fin 4)
  /-- RESET_N_ASSERT (R466) -/
  | resetNAssert (slept : Nat)
  /-- RESET_N_RELEASE (R466) -/
  | resetNRelease (dt : Nat)
  /-- RESET_STUCK (R467) -/
  | resetStuck (dt : Nat)
  /-- NETWORK_EVALUATE (R476) -/
  | networkEvaluate (dt : Nat)
  /-- HOLD_THRESHOLD (R480) -/
  | holdThreshold (dt : Nat)
  /-- BATTEN_REFRESH (R490) -/
  | battenRefresh (n : Fin 4) (dt : Nat)
  /-- BATTEN_SWEEP_START (R491) -/
  | battenSweepStart (n : Fin 4) (dt : Nat)
  /-- BATTEN_TRANSACTION_DONE (R487) -/
  | battenTransactionDone (n : Fin 4) (status : Fin 256) (data : Word) (crcOk : Bool) (ret : Option (Fin 256))
  /-- BATTEN_MODE_WRITE (R489) -/
  | battenModeWrite (n : Fin 4)
  /-- BATTEN_RESTART (R494) -/
  | battenRestart (n : Fin 4)
  /-- BATTEN_INT (R495) -/
  | battenInt (n : Fin 4) (pin : IntPin)
  /-- FAULT_SOURCE_CLEAR (R430) -/
  | faultSourceClear (k : Fin 2048)
  /-- REFCLK_RETURN (R21) -/
  | refclkReturn (p : PlaneId)
  /-- PURLIN_LOCK (R418) -/
  | purlinLock
  /-- SERIAL_GAP_END (R148) -/
  | serialGapEnd (n : Fin 128) (dt : Nat)
  deriving DecidableEq, Repr

end Sys2Proof
end

