-- ==== Sys2Proof/Machine/Flags.lean ====
section
/-!
DEFINITION. Flag and counter rules shared by every register of the device: saturating counters (R52), sticky
bits, watermark events with their peaks (R53), and what a write does under the access codes of R50 and R51.
-/

namespace Sys2Proof

/-- `v + n` held at the all-ones value of `w` bits (R52: a counter saturates and never wraps). -/
def satAdd (w v n : Nat) : Nat := if v + n < 2 ^ w then v + n else 2 ^ w - 1

/-- The counter register at `a` counts `n` more (R52). -/
def Regs.addCnt (m : Regs) (a n : Nat) : Regs := m.wr a (BitVec.ofNat 32 (satAdd 32 (m.rd a).toNat n))

/-- The counter register at `a` counts one (R52). -/
def Regs.inc (m : Regs) (a : Nat) : Regs := m.addCnt a 1

/-- A counter field counts one and saturates at its own width (R52). -/
def Regs.incF (m : Regs) (b : Nat) (f : Fld) : Regs :=
  m.set b f (satAdd (f.hi + 1 - f.lo) (m.get b f) 1)

/-- A level register with a watermark event and a peak (R53): the event bit is set when `level` reaches `wm`,
and the peak holds the highest level since the event was last cleared. -/
def Regs.peak (m : Regs) (ev pk : Fld) (wm level : Nat) : Regs :=
  let m := if m.get 0 pk < level then m.set 0 pk level else m
  if wm ≤ level then m.set 0 ev 1 else m

/-- What a written value leaves in a register under the access codes (R50, R51, R52): RW bits take it, W1C bits are
cleared by a 1, a W1C counter field is cleared by all ones and by nothing else, and every other bit stays. -/
def RegRow.write (r : RegRow) (old v : Word) : Word :=
  let rw := BitVec.ofNat 32 r.rw
  let w1 := BitVec.ofNat 32 r.w1c
  let ct := BitVec.ofNat 32 r.ctr
  let new := (old &&& ~~~ rw) ||| (v &&& rw)
  let new := new &&& ~~~ (v &&& w1)
  if r.ctr ≠ 0 ∧ v &&& ct = ct then new &&& ~~~ ct else new

/-- What a read of a register shows of the word kept for it: WO bits read zero (R50). -/
def RegRow.read (r : RegRow) (w : Word) : Word := w &&& ~~~ (BitVec.ofNat 32 r.wo)

end Sys2Proof
end

