-- ==== Sys2Proof/Config.lean ====
section
/-!
DEFINITION. What an implementation or another standard fixes and the manual does not spell out. Each is an
opaque constant: no proof can see a value of it. The checksums that the manual gives bit by bit are defined here too.
-/

namespace Sys2Proof.Config

/-- The free value of the n-th occasion on which the manual leaves a number open. -/
opaque freeNat : Nat → Nat

/-- The conditioned entropy of the n-th RAND shingle (R29): 32 bytes. -/
opaque entropy : Nat → List Byte

/-- SHA-384 (FIPS 180-4) of a byte string: 48 bytes. -/
opaque sha384 : List Byte → List Byte

/-- Whether an ECDSA P-384 signature (FIPS 186-5) verifies: public key, message, signature bytes. -/
opaque ecdsaVerify : List Byte → List Byte → List Byte → Bool

/-- AES-CMAC (SP 800-38B) of a message under a key: 16 bytes. -/
opaque cmac : List Byte → List Byte → List Byte

/-- AES-GCM (SP 800-38D) encryption: key, nonce, associated data, text; ciphertext of the text's length. -/
opaque gcmText : List Byte → List Byte → List Byte → List Byte → List Byte

/-- The AES-GCM tag of a ciphertext: key, nonce, associated data, ciphertext; 16 bytes. -/
opaque gcmTag : List Byte → List Byte → List Byte → List Byte → List Byte

/-- AES-CTR (SP 800-38A): key, initial counter block, text. -/
opaque ctrText : List Byte → List Byte → List Byte → List Byte

/-- The counter-mode KDF of SP 800-108 (R326, R333): key, label, context, length in bytes. Its PRF is CMAC, and block i, from 1, is made
from i, the label, a zero byte, the context and the length in bits. -/
def kdf (key label context : List Byte) (n : Nat) : List Byte :=
  ((List.range ((n + 15) / 16)).flatMap (fun i =>
    fitBytes 16 (cmac key (beBytes 4 (i + 1) ++ label ++ [0] ++ context ++ beBytes 4 (8 * n))))).take n

/-- The key derivation of MKA (IEEE 802.1X-2020, 6.2): CAK, label, key identifier, length in bytes. -/
opaque mkaKdf : List Byte → List Byte → List Byte → Nat → List Byte

/-- AES key unwrap (RFC 3394) under a key: the key it carries, or none. -/
opaque keyUnwrap : List Byte → List Byte → Option (List Byte)

/-- AES key wrap (RFC 3394). -/
opaque keyWrap : List Byte → List Byte → List Byte

/-- Level of the T1S_EDn input of a port at a counter value (R152): the transceiver's. -/
opaque energyDetect : Nat → Nat → Bool

/-- What each die carries from manufacture: the serial number, the vendor root. -/
opaque serial : Nat
opaque rootV : List Byte
/-- DEVICE_ID as Eaves's fuses give it (R8): whether the part is the engineering sample, the silicon revision in 8 bits. -/
opaque engSample : Bool
opaque siliconRev : Nat
/-- DEVICE_ID (R8): the part number, the orderable code, the silicon revision. -/
def deviceId : Nat := 0x4096 * 65536 + (if engSample then 0xE5 else 1) * 256 + siliconRev % 256
/-- The device-unique secret (R327). -/
opaque dus : List Byte
/-- SHA-384 digest of Mordeow's truss key in a slot (0 or 1) that Mordeow fuses (R328). -/
opaque makerDigest : Nat → List Byte

/-- A gPTP frame (IEEE 802.1AS-2020): kind (0 Sync, 1 Follow_Up, 2 Pdelay_Req), port, domain, PTP time in ns, currentUtcOffset. -/
opaque gptpFrame : Nat → Nat → Nat → Nat → Nat → List Byte

/-- An MKA frame (IEEE 802.1X-2020) of a port: its message number and the wrapped SAK it carries. -/
opaque mkaFrame : Nat → Nat → List Byte → List Byte

/-- The SAK distribution of a received MKA frame (IEEE 802.1X-2020): an association number and the wrapped SAK, or nothing. -/
opaque mkaSak : List Byte → Option (Nat × List Byte)

/-- What a received gPTP frame says (IEEE 802.1AS-2020), once a Sync and its Follow_Up are complete: the PTP time in ns of the Sync's
departure, corrections included, and currentUtcOffset. -/
opaque gptpSync : List Byte → Option (Nat × Nat)

/-- The frequency correction that the firmware's servo asks for (R544): a function of the run's tick, the source, the offset and the correction
in force. -/
opaque servoFreq : Nat → Nat → Int → Int → Int

/-- The calendar trim in ppb that the firmware writes at a tick (R401), in 16 bits. -/
opaque calTrim : Nat → Nat

/-- Whether an LACP frame leaves its port collecting and distributing (IEEE 802.1AX). -/
opaque lacpUp : List Byte → Bool

/-- Ticks for which what an LACP frame says of the partner stands (IEEE 802.1AX). -/
opaque lacpHold : List Byte → Nat

/-- Whether firmware's LACP sends a frame on a port (unified) at a TICK (IEEE 802.1AX). -/
opaque lacpDue : Nat → Nat → Bool

/-- The LACP frame of a port at a TICK (IEEE 802.1AX). -/
opaque lacpFrame : Nat → Nat → List Byte

/-- One bit step of a reflected CRC: `poly` reflected, `c` the running value. -/
def crcReflStep (poly c : Nat) : Nat := if c % 2 = 1 then (c / 2) ^^^ poly else c / 2

/-- Eight bit steps. -/
def crcReflByte (poly c : Nat) (b : Byte) : Nat :=
  (List.range 8).foldl (fun x _ => crcReflStep poly x) (c ^^^ b.toNat)

/-- CRC-32C (R10, R284): reflected, polynomial 0x1EDC_6F41, initial value and final XOR all ones. -/
def crc32c (bs : List Byte) : Nat :=
  (bs.foldl (crcReflByte 0x82F63B78) 0xFFFFFFFF) ^^^ 0xFFFFFFFF

/-- One bit step of an unreflected CRC of width `w`. -/
def crcStep (w poly c : Nat) : Nat :=
  if c.testBit (w - 1) then ((c * 2) ^^^ poly) % 2 ^ w else (c * 2) % 2 ^ w

/-- An unreflected CRC of width `w` over bytes, most significant bit first. -/
def crcMsb (w poly init : Nat) (bs : List Byte) : Nat :=
  bs.foldl (fun c b => (List.range 8).foldl (fun x _ => crcStep w poly x) (c ^^^ (b.toNat * 2 ^ (w - 8)))) init

/-- The Ridge header check HCRC (R284): polynomial 0x1021, initial value 0xFFFF, no reflection, no final XOR. -/
def hcrc (bs : List Byte) : Nat := crcMsb 16 0x1021 0xFFFF bs

/-- The batten CRC-8 (R487): polynomial 0x07. -/
def crc8 (bs : List Byte) : Nat := crcMsb 8 0x07 0 bs

end Sys2Proof.Config
end

