-- ==== Sys2Proof/Machine/TypesFwd.lean ====
section
/-!
DEFINITION. The forwarding side of a plane: output queues and transmit models (R165-R172), stream filters (R180-R186), tables and
learning (R199-R222), tenants and the governor's windows (R252-R271), and Thatcher (R225-R250).
-/

namespace Sys2Proof

/-- A unit in an output queue (R165, R168): the stored copy's number (one number for every destination), the unit as it leaves,
its cells, the TS of the causing unit, the age limit in ms, and GEN of the egress port as the plane knew it at the cause (R40). -/
structure QUnit where
  uid : Nat
  sh : Shingle
  cells : Nat
  ts : Nat
  ageMs : Nat
  gen : Nat
  deriving DecidableEq, Repr

/-- A plane's model of a port's transmit stage (R172): the frames released and not yet started (class, bytes), the one under way
(class, bytes, end), credits, the time it has reached, gate states frozen by a step, the time from which the gate list is in force. -/
structure TxModel where
  waiting : List (Nat × Nat)
  sending : Option (Nat × Nat × Nat)
  credit : List (Nat × Int)
  now : Nat
  frozen : Option (Nat × Nat)
  gateFrom : Nat
  deriving DecidableEq, Repr

/-- An empty model. -/
def TxModel.init : TxModel := ⟨[], none, [], 0, none, 0⟩

/-- A model emptied (R172); its gates go on as they are (R178). -/
def TxModel.emptied (m : TxModel) : TxModel := { TxModel.init with frozen := m.frozen, gateFrom := m.gateFrom }

/-- What a plane knows of the registers of an Ethernet or T1S port (R159, R163): the words of completed writes by offset, and MAXFRM in force
since the port's last restart (none: as the truss has it). -/
structure PortSet where
  words : List (Nat × Word)
  maxfrm : Option Nat
  deriving DecidableEq, Repr

/-- A port that runs as its truss has it. -/
def PortSet.init : PortSet := ⟨[], none⟩

/-- A flow meter (R182): committed and excess tokens in 10^-6 bit, the time of the last fill, whether a red unit has marked it. -/
structure MeterSt where
  c : Nat
  e : Nat
  at_ : Nat
  red : Bool
  deriving DecidableEq, Repr

/-- What a plane counts of a stream handle, and its block (R181). -/
structure StreamSt where
  pass : Nat
  drop : Nat
  blocked : Bool
  deriving DecidableEq, Repr

/-- No unit of the handle yet. -/
def StreamSt.init : StreamSt := ⟨0, 0, false⟩

/-- An 802.1CB function (R185, R186): the next number to give or the highest taken, whether one has been taken, the numbers
taken below it, the tick of the last unit passed, and its counters (passed, duplicates, rogue, resets). -/
structure CbSt where
  seq : Nat
  taken : Bool
  window : List Nat
  tick : Nat
  pass : Nat
  dup : Nat
  rogue : Nat
  resets : Nat
  deriving DecidableEq, Repr

/-- A function at its start. -/
def CbSt.init : CbSt := ⟨0, false, [], 0, 0, 0, 0, 0⟩

/-- A recovery function reset: the first copy that follows passes (R186). -/
def CbSt.reset (c : CbSt) : CbSt := { c with taken := false, window := [], resets := c.resets + 1 }

/-- A learning candidate (R210, R211). -/
structure Learn where
  fid : Nat
  mac : Nat
  port : Nat
  tenant : Nat
  deriving DecidableEq, Repr

/-- A learning notice (R214). -/
structure Notice where
  op : Nat
  cause : Nat
  port : Nat
  fid : Nat
  mac : Nat
  version : Nat
  tick : Nat
  deriving DecidableEq, Repr

/-- A window command that waits for its TICK (R224, R250, R273): block (0 TABLES, 1 THATCHER, 2 TENANT), window, command, table, index
and data as they stood at admission. -/
structure WinCmd where
  block : Nat
  win : Nat
  cmd : Nat
  table : Nat
  idx : Nat
  data : List Byte
  deriving DecidableEq, Repr

/-- A source identity (R256): KIND, unified port, ID_VALUE as a little-endian number of 20 bytes. -/
structure Ident where
  kind : Nat
  port : Nat
  value : Nat
  deriving DecidableEq, Repr

/-- A binding candidate (R257, R258): the identity, its template, the tick of the causing unit. -/
structure Bind where
  ident : Ident
  template : Nat
  tick : Nat
  deriving DecidableEq, Repr

/-- A unit held for its resolving TICK (R240): the unit, the ports that wait for it, the age limit in ms, whether the tap took it, the RSEQ of its
LEGAL record, the egress GENs at its cause (R40). -/
structure HeldPdu where
  unit : Shingle
  dests : List Nat
  ageMs : Nat
  tapped : Bool
  rseq : Nat
  gens : List (Nat × Nat)
  deriving DecidableEq, Repr

/-- A transport session of segmented transfer assist (R125-R129). `role`: 0 a BAM beyond the limit, 1 BAM, 2 connection mode and 3
ISO 15765-2 on reception, 4-6 the same on transmission. The slot, its assist entry, the J1939 addresses (source and destination of
the data), the header's KEY and PRIORITY, the message's length, the message (received so far, or whole), the next packet number, the
bytes sent, the packets left in the block, the largest block that the sender takes, WAITs taken, the gap between packets in ticks, the
tick of the next packet, the tick of the timeout, AGE in ms, and the unit that opened the session or is sent. -/
structure TpSess where
  role : Nat
  slot : Nat
  entry : Rec
  sa : Nat
  da : Nat
  key : Nat
  prio : Nat
  total : Nat
  data : List Byte
  nxt : Nat
  pos : Nat
  left : Nat
  blockMax : Nat
  waits : Nat
  gapTicks : Nat
  gapAt : Option Nat
  dueAt : Option Nat
  ageMs : Nat
  unit : Shingle
  deriving DecidableEq, Repr

/-- Forwarding state. Keyed maps: `tab` by table × 2^20 + index (`tkey`), `queues` by 8 × port + class, `links` by port (1 + SPEED, 0 without
link), `models` by port, `meters`, `streams` and `cbs` by index, `offers` by tenant (units, bytes), `busy` by port (ingress and released
ns) for the governor's open window, `offersNext` and `busyNext` for the one that opens at the next TICK (R265). `lacp`: ports whose LACP collects and distributes (R189), `lacpEnd` the tick up to which what the partner said stands. `portSets`: what the
plane knows of a port's registers. `mine`: own notices not yet compared; `outbox`: notices on their way to the
other plane. `held`: entries the scrubber holds; `bad`: entries with an error that no check has met yet, `metBad` that a lookup has met one (R221);
`counts`: learned entries of each port at the last TICK, `flushed`: entries removed since then (R210, R212); `old`: table changes of the last ticks (tick, key, old value).
`tapRing`: tap records that the ring's model has not drained (bytes, TS), and how far into the first it is (R193). `tp`: transport sessions. `bloom`: the bits
set in each prefix length's filter (R217), by `bloomKey`. -/
structure Fwd where
  tab : List (Nat × Rec)
  queues : List (Nat × List QUnit)
  nextUid : Nat
  links : List (Nat × Nat)
  lacp : List (Nat × Bool)
  lacpEnd : List (Nat × Nat)
  portSets : List (Nat × PortSet)
  models : List (Nat × TxModel)
  meters : List (Nat × Option MeterSt)
  streams : List (Nat × StreamSt)
  cbs : List (Nat × CbSt)
  learns : List Learn
  mine : List Notice
  outbox : List Notice
  binds : List Bind
  doipEnd : List Nat
  postCut : Bool
  offers : List (Nat × (Nat × Nat))
  busy : List (Nat × (Nat × Nat))
  offersNext : List (Nat × (Nat × Nat))
  busyNext : List (Nat × (Nat × Nat))
  conflict : List Nat
  cmds : List WinCmd
  held : List Nat
  bad : List Nat
  metBad : Bool
  counts : List (Nat × Nat)
  flushed : List Rec
  old : List (Nat × Nat × Rec)
  lastWin : Nat
  tapRing : List (List Byte × Nat)
  tapDone : Nat
  tapGap : Bool
  tp : List TpSess
  bloom : List (Nat × List Nat)
  deriving DecidableEq, Repr

/-- Forwarding state of a plane after its restart. -/
def Fwd.init : Fwd :=
  { tab := [], queues := [], nextUid := 0, links := [], lacp := [], lacpEnd := [], portSets := [], models := [], meters := [], streams := [], cbs := [], learns := [],
    mine := [], outbox := [], binds := [], doipEnd := [], postCut := false, offers := [], busy := [], offersNext := [], busyNext := [], conflict := [], cmds := [],
    held := [], bad := [], metBad := false, counts := [], flushed := [], old := [], lastWin := 0, tapRing := [], tapDone := 0, tapGap := false, tp := [], bloom := [] }

/-! Thatcher. -/

/-- A value-store entry (R225): VALUE, STATE, STREAM and tick of the write that set it. -/
structure ValEnt where
  value : Int
  state : Nat
  stream : Nat
  tick : Nat
  deriving DecidableEq, Repr

/-- An unresolved pending contributor (R238-R241): STREAM and tick of its unit, its resolving tick, whether its verification passed, its
pending values (signal, VALUE or none where VALUE is left unchanged, STATE), the supervisors it refreshes, and the unit itself when it was set
aside. -/
structure Contrib where
  stream : Nat
  tick : Nat
  due : Nat
  passed : Bool
  vals : List (Nat × (Option Int × Nat))
  refresh : List Nat
  aside : Option Shingle
  deriving DecidableEq, Repr

/-- A build of a layout that has not been discarded (R234): the bytes of its ON_CHANGE signals, its tick (none before the first build),
whether it is provisional, its SEQ. -/
structure Build where
  key : List Byte
  tick : Option Nat
  prov : Bool
  seq : Nat
  deriving DecidableEq, Repr

/-- A provisional PDU (R239): its layout, the STREAMs of its unresolved contributors, the held copies. -/
structure ProvPdu where
  layout : Nat
  contribs : List Nat
  held : HeldPdu
  deriving DecidableEq, Repr

/-- A supervisor (R237): the tick it started, its refresh tick, whether it has expired. -/
structure SupSt where
  start : Nat
  last : Option Nat
  expired : Bool
  deriving DecidableEq, Repr

/-- A unit in Thatcher's work model (R249): the stored copy, its cells, operations still to do. -/
structure ThrJob where
  uid : Nat
  cells : Nat
  ops : Nat
  deriving DecidableEq, Repr

/-- Thatcher. An unlisted value is INIT since `loadTick`; an unlisted supervisor started then; `luts` holds written entries by
256 × table + entry; `acc` counts the operations of
the cause under way, `debt` is TICK work that the model has still to do. -/
structure Thr where
  vals : List (Nat × Option ValEnt)
  loadTick : Nat
  loadStream : Nat
  pend : List Contrib
  prov : List ProvPdu
  builds : List (Nat × List Build)
  sups : List (Nat × Option SupSt)
  sigExp : List Nat
  luts : List (Nat × Option Nat)
  seq : Nat
  acc : Nat
  debt : Nat
  jobs : List ThrJob
  deriving DecidableEq, Repr

/-- Thatcher without a truss. -/
def Thr.init : Thr :=
  { vals := [], loadTick := 0, loadStream := 0, pend := [], prov := [], builds := [], sups := [], sigExp := [], luts := [], seq := 0,
    acc := 0, debt := 0, jobs := [] }

end Sys2Proof
end

