-- ==== Sys2Proof/Machine/TypesKiln.lean ====
section
/-!
DEFINITION. The Kiln of a plane (R326-R346): key slots, workshop sessions, cipher jobs, MACsec associations, what its MRAM and
flash keep, and the antifuse OTP of a plane die.
-/

namespace Sys2Proof

/-- A key slot (R330, R331, R317): state (0 EMPTY, 1 LOADED, 2 EXHAUSTED, 3 DESTROYED), key bytes, uses left, the freshness values
last accepted and last transmitted, and the failures of the running governor window (R318). -/
structure KeySlot where
  state : Nat
  key : List Byte
  uses : Nat
  fvRx : Nat
  fvTx : Nat
  winFail : Nat
  deriving DecidableEq, Repr

/-- An empty slot. -/
def KeySlot.empty : KeySlot := ⟨0, [], 0, 0, 0, 0⟩

/-- A live WORKSHOP session (R336, R337): tenant, the endpoint it came from, RIGHTS, WKEY, LIFETIME in minutes, the tick at which it
ends. -/
structure WSess where
  tenant : Nat
  ep : Nat
  rights : Nat
  wkey : Nat
  lifetime : Nat
  until_ : Nat
  deriving DecidableEq, Repr

/-- An outstanding challenge (R336). -/
structure Challenge where
  tenant : Nat
  bytes : List Byte
  until_ : Nat
  deriving DecidableEq, Repr

/-- A request admitted at tick `since` that applies at a later TICK (R336, R339, R329). -/
structure Later where
  what : Nat
  tenant : Nat
  ep : Nat
  since : Nat
  deriving DecidableEq, Repr

/-- A secure association (R322): association number, SAK, next PN (transmit) or lowest acceptable PN (receive). -/
structure Assoc where
  an : Nat
  sak : List Byte
  pn : Nat
  deriving DecidableEq, Repr

/-- MACsec on a port (R322, R325): the transmit association, the receive channels by SCI with their associations, oldest first,
whether a new SAK is wanted, the MKA message number, and the CAK that the ICK and KEK in use were derived from. -/
structure MsPort where
  tx : Option Assoc
  rx : List (List Byte × List Assoc)
  wantSak : Bool
  mn : Nat
  cak : List Byte
  deriving DecidableEq, Repr

/-- A port without associations. -/
def MsPort.init : MsPort := ⟨none, [], true, 0, []⟩

/-- What the Kiln keeps through every reset (R321, R334, R338): freshness states and use counters by handle (rx, tx, uses) with
their clean mark, import versions, failed SUBMITs, wrapped keys, an armed life-cycle transition (R327). -/
structure KilnNv where
  fv : List (Nat × Option (Nat × Nat × Nat))
  clean : Bool
  vers : List (Nat × Nat)
  fails : Nat
  blobs : List (Nat × List Byte)
  armed : Option Nat
  deriving DecidableEq, Repr

/-- A factory-new Kiln region. -/
def KilnNv.init : KilnNv := ⟨[], false, [], 0, [], none⟩

/-- The Kiln beside its registers: the life-cycle state (R326), slots, sessions, the outstanding challenge, pending OPEN or SUBMIT,
the tick until which OPEN is refused, pending jobs by window, a pending provisioning command, handles to destroy with the tick
of admission, MACsec, whether RAND has been seen in this COLD run (R343), tenants told of a missing key in this window (R318), the state that a transition of this KINDLING has left (R327), the handles whose keys a DEVICE reset has destroyed (R331), the consumers that wait for randomness in the order in which they found the pool
short (R29; codes as `Plane.stillWaits` reads them). -/
structure Kiln where
  lc : Nat
  slots : List (Nat × KeySlot)
  sess : List WSess
  chal : Option Challenge
  ask : Option Later
  lockUntil : Nat
  jobs : List (Nat × Option Later)
  prov : Option Later
  destroyQ : List (Nat × Nat)
  ms : List (Nat × MsPort)
  randSeen : Bool
  toldTenants : List Nat
  toldHandles : List Nat
  lcOld : Option Nat
  expired : List Nat
  waits : List Nat
  deriving DecidableEq, Repr

/-- A Kiln before KINDLING has filled it. -/
def Kiln.init : Kiln := ⟨0, [], [], none, none, 0, [], none, [], [], false, [], [], none, [], []⟩

/-- The antifuse OTP of one plane die (R326-R329): how many of a life-cycle state's eight fuses are blown, ROOT_O, the fused truss key
digests by slot, the revoked slots, the LEGAL retention in days. -/
structure Otp where
  lcFuses : List (Nat × Nat)
  rootO : Option (List Byte)
  digests : List (Nat × List Byte)
  revoked : List Nat
  retention : Option Nat
  deriving DecidableEq, Repr

/-- A die with no fuse blown. -/
def Otp.blank : Otp := ⟨[], none, [], [], none⟩

/-- A die as it leaves Mordeow: in VENDOR (R326), with digest slots 0 and 1 fused (R328). -/
def Otp.shipped : Otp := ⟨[(1, 8)], none, [(0, Config.makerDigest 0), (1, Config.makerDigest 1)], [], none⟩

/-- Whether a life-cycle state is reached: five of its eight fuses blown (R327). -/
def Otp.reached (o : Otp) (st : Nat) : Bool := 5 ≤ sget (fun _ => 0) o.lcFuses st

/-- The life-cycle state: the furthest one reached (R326, R327). -/
def Otp.lc (o : Otp) : Nat :=
  if o.reached 5 then 5 else if o.reached 4 then 4 else if o.reached 3 then 3 else if o.reached 2 then 2
  else if o.reached 1 then 1 else 0

/-- The truss key digest slots that signatures may use in a life-cycle state (R326). -/
def lcSlots (lc : Nat) : List Nat :=
  if lc = 0 then [0] else if lc = 1 ∨ lc = 4 then [0, 1] else if lc = 2 ∨ lc = 3 then [2, 3] else []

/-- The FUSED bits of KILN_LC. -/
def Otp.fusedBits (o : Otp) : Nat := (List.range 4).foldl (fun n k => if o.digests.any (·.1 = k) then n + 2 ^ k else n) 0

/-- The REVOKED bits of KILN_LC. -/
def Otp.revokedBits (o : Otp) : Nat := (List.range 4).foldl (fun n k => if o.revoked.contains k then n + 2 ^ k else n) 0

end Sys2Proof
end

