-- ==== Sys2Proof/Machine/TypesRick.lean ====
section
/-!
DEFINITION. What Rick holds in each plane (R347-R381): the genesis geometry, drives, LEGAL records, the MRAM head's granules,
chunks, incidents, holes, exports.
-/

namespace Sys2Proof

/-- The journal's geometry as genesis fixes it, in the MRAM system array (R348, R353, R368). -/
structure Geom where
  drives : Nat
  legalGib : Nat
  incGib : Nat
  usedExt : Nat
  epoch : Nat
  retention : Nat
  genesisUtc : Nat
  deriving DecidableEq, Repr

/-- What a drive's superblock says of it (R350, R354): none of this set, or of this set with an EPOCH. -/
inductive Super where
  | none
  | ofSet (epoch : Nat)
  deriving DecidableEq, Repr

/-- One drive (R350, R351): state (0 ABSENT to 6 RETIRED), generation, its superblock, the namespace in extents, the time
of the first command timeout, Percentage Used, temperature, errors, extents mirrored, LEGAL bytes it holds. -/
structure Drive where
  state : Nat
  gen : Nat
  super : Super
  extents : Nat
  timeoutAt : Option Nat
  used : Nat
  temp : Nat
  errors : Nat
  mirrored : Nat
  legalDone : Nat
  deriving DecidableEq, Repr

/-- An empty drive position. -/
def Drive.absent : Drive := ⟨0, 0, .none, 0, none, 0, 0, 0, 0, 0⟩

/-- A LEGAL record (R356): its logical offset, RSEQ, RKIND, UTC and STREAM of the header and all its bytes, LINK included. -/
structure LegalRec where
  off : Nat
  rseq : Nat
  kind : Nat
  utc : Nat
  stream : Nat
  bytes : List Byte
  deriving DecidableEq, Repr

/-- One head granule (R369). `recEnd` is the logical end of the last record with bytes in it. -/
structure Granule where
  gseq : Nat
  part : Nat
  parts : Nat
  clean : Bool
  warn : Bool
  nextRseq : Nat
  legalEnd : Nat
  durable : Nat
  freed : Nat
  rollNext : Nat
  incNext : Nat
  incOpen : Nat
  sealRseq : Nat
  link : List Byte
  records : List Byte
  recEnd : Nat
  deriving DecidableEq, Repr

/-- A ROLLING chunk (R361): CSEQ, times of its first and last records, record bytes, the tick of its first record, the time it
closed, and whether this plane's set holds it (R362). -/
structure Chunk where
  cseq : Nat
  firstTs : Nat
  lastTs : Nat
  bytes : List Byte
  firstTick : Nat
  written : Bool
  deriving DecidableEq, Repr

/-- An incident (R363, R364); `data` are its chunks, once it has closed. -/
structure Incident where
  id : Nat
  flags : Nat
  fromTs : Nat
  toTs : Nat
  firstCseq : Nat
  lastCseq : Nat
  rseq : Nat
  stream : Nat
  off : Nat
  copied : Bool
  data : List Chunk
  deriving DecidableEq, Repr

/-- An export (R380): its owner, TAG of the OPEN, tier, next offset to send, end (0 follows), bytes sent and not acknowledged,
whether EXPORT_TICK_WS applies. -/
structure Export where
  ep : Nat
  tenant : Nat
  tag : Nat
  tier : Nat
  next : Nat
  stop : Nat
  unacked : Nat
  prio : Bool
  lastTick : Nat
  deriving DecidableEq, Repr

/-- A hole of this plane's set (R376): tier (1 LEGAL extent, 2 INCIDENT, 3 ROLLING chunk) and position; `final` when the other
set has it too. -/
structure Hole where
  tier : Nat
  pos : Nat
  final : Bool
  deriving DecidableEq, Repr

/-- Rick beside its registers. `noTap`: ROLLING capture is stopped (R451). `fullTold`: the fill of the LEGAL region last announced, in permille
(R367). The LEGAL records, chunks and incidents are the journal's content, the same in both planes; what
of it a power loss leaves is decided when the head is recovered (R373). -/
structure Rick where
  geom : Option Geom
  granules : List (Nat × Option Granule)
  nextGran : Nat
  recs : List LegalRec
  link : List Byte
  legalNext : Nat
  durable : Nat
  committedRseq : Nat
  firstUnsealed : Nat
  unsealedTick : Option Nat
  dirty : Bool
  lastCommit : Nat
  chunkOpen : Option Chunk
  chunks : List Chunk
  incs : List Incident
  incOpen : Option Incident
  incNextOff : Nat
  exports : List (Nat × Option Export)
  drives : List (Nat × Drive)
  holes : List Hole
  snapBuf : List (Nat × Word)
  motion : Nat × Nat
  motionMoved : Bool
  conds : Nat
  atRisk : Nat
  warnTick : Option Nat
  warnLong : Bool
  warnTs : Nat
  noTap : Bool
  fullTold : Nat
  sealKey : List Byte
  deriving DecidableEq, Repr

/-- Rick without a journal. -/
def Rick.init : Rick :=
  { geom := none, granules := [], nextGran := 0, recs := [], link := List.replicate 32 0, legalNext := 0, durable := 0,
    committedRseq := 0, firstUnsealed := 0, unsealedTick := none, dirty := false, lastCommit := 0, chunkOpen := none, chunks := [],
    incs := [], incOpen := none, incNextOff := 0, exports := [], drives := [], holes := [], snapBuf := [],
    motion := (0, 0), motionMoved := false, conds := 0, atRisk := 0, warnTick := none, warnLong := false, warnTs := 0, noTap := false,
    fullTold := 0, sealKey := [] }

end Sys2Proof
end

