-- ==== Sys2Proof/Machine/TypesSys.lean ====
section
/-!
DEFINITION. What keeps the device going: the power and mode sequencer (R443-R468), rejoin attempts and the state copy
(R419-R423), each plane's time servo (R390-R394), networks (R474-R480), batten chains (R486-R495).
-/

namespace Sys2Proof

/-- The mode sequence that runs (R448, R451, R453, R459). -/
inductive SeqKind where
  | idle | banked | ember | off
  deriving DecidableEq, Repr

/-- An MDIO transaction (R164): the port that started it, the bus, clause 45 or 22, OP, REG, DATA. -/
structure MdioOp where
  port : Nat
  bus : Nat
  c45 : Bool
  op : Nat
  reg : Nat
  data : Nat
  deriving DecidableEq, Repr

/-- The sequencer of Eaves beside its registers. `kind`, `step`, `cause`, `tenant`, `goal`: the running sequence, its last step, the
CAUSE and TENANT of its CTRL MODE shingles, the mode it was asked for (3 BANKED, 4 EMBER, 6 OFF). `latched`, `others`, `wakeTs`: the
wake of this sleep (source, index), the other sources seen, the counter at its edge (R485). `kin`, `kinAt`, `cold`: the KINDLING
step reached (0 before step 1, 1 waiting for PGOOD, 3, 10), when it started, whether it is COLD (R449). `doneA`, `doneB`,
`failA`, `failB`: the R449 step that each plane has ended and whether it has failed. `off`: P4. `resetLow`: since when RESET_N is low;
`resetDeaf`: it is ignored (R467), `resetHigh` since when it is high again; `holdEnd`: the end of a MODE HOLD. `safeAt`, `holdClearAt`, `holds`, `sEnd`, `safeDone`,
`afterSafe`: SAFE (R437-R440). `safeN`, `resetOutN`: pin levels. `warnAt`, `warnSrc`: the supply warning. `idleSince`, `p1At`: the
last shingle other than TICK and RAND, the start of P1 (R460). `dvfsAt`: the TICK number at the last change of the DVFS request;
`thermal`: the highest point that the thermal loop allows (R272). `timeStep`: a pending step. `cal`: the calendar in ns of PTP time
(VBAT), `sleepCal` what it showed at entry to P3. `refA`, `refB`: healthy references. `mdio`: MDIO transactions in the order of their STARTs (R164), `phyLow`: PHY interrupt inputs that are low. `tamperEn` to `wakeNFilt`: VBAT settings
(R340, R482), `tamperHigh`: TAMPER inputs that are high, bit 4 a mesh that fails. `ended`: tenants whose sessions a reset has ended and no
record tells of yet (R337). `reload`: the counter before it was loaded, until TIME_ADJUST RELOAD tells of it (R389). `ppsLast`, `ppsStep`: the last PPS_OUT pulse in steady time, a step since then. `calNew`: a calendar setting on its
way (R401: calendar ns, trim, SETAT, ERR). `aliveAt`: the last toggle of ALIVE (R434). `sleepTick`: the TICK of a sleep entry's second
step (R451, R453). `pwrAt`: when PWR_EN1-3 rose, `pgLow`: PGOOD inputs that a PGOOD_FALL since then has told to stay low (R519). `late`: sources of DEVICE class that have faulted since the planes stopped for EMBER (R457). -/
structure Seqr where
  kind : SeqKind
  step : Nat
  cause : Nat
  tenant : Nat
  goal : Nat
  latched : Option (Nat × Nat)
  others : Nat
  wakeTs : Nat
  kin : Nat
  kinAt : Nat
  cold : Bool
  doneA : Nat
  doneB : Nat
  failA : Bool
  failB : Bool
  off : Bool
  resetLow : Option Nat
  resetDeaf : Bool
  resetHigh : Option Nat
  holdEnd : Option Nat
  safeAt : Nat
  holdClearAt : Nat
  holds : Nat
  sEnd : Nat
  safeDone : Bool
  afterSafe : Bool
  safeN : Bool
  resetOutN : Bool
  warnAt : Nat
  warnSrc : Nat
  idleSince : Nat
  p1At : Option Nat
  dvfsAt : Nat
  thermal : Nat
  timeStep : Option Int
  cal : Nat
  sleepCal : Nat
  refA : Bool
  refB : Bool
  mdio : List MdioOp
  phyLow : List Nat
  tamperEn : Nat
  tamperPol : Nat
  wakeEn : Nat
  wakeCFilt : Nat
  wakeNFilt : Nat
  ppsLast : Option Nat
  ppsStep : Bool
  calNew : Option (Nat × Nat × Nat × Nat)
  repairs : List (Nat × Nat)
  tamperHigh : Nat
  ended : List Nat
  reload : Option Nat
  aliveAt : Nat
  sleepTick : Nat
  late : List Nat
  said : Nat
  pwrAt : Nat
  pgLow : Nat
  deriving DecidableEq, Repr

/-- The sequencer right after a COLD reset: nothing running, both references healthy, SAFE_N and RESET_OUT_N low. -/
def Seqr.init : Seqr :=
  { kind := .idle, step := 0, cause := 0, tenant := 0xFFFF, goal := 0, latched := none, others := 0, wakeTs := 0, kin := 0,
    kinAt := 0, cold := true, doneA := 0, doneB := 0, failA := false, failB := false, off := false, resetLow := none,
    resetDeaf := false, resetHigh := none, holdEnd := none, safeAt := 0, holdClearAt := 0, holds := 0, sEnd := 0, safeDone := false,
    afterSafe := false, safeN := false, resetOutN := false, warnAt := 0, warnSrc := 0, idleSince := 0, p1At := none, dvfsAt := 0,
    thermal := 3, timeStep := none, cal := 0, sleepCal := 0, refA := true, refB := true, mdio := [], phyLow := [], tamperEn := 0, tamperPol := 0, wakeEn := 0,
    wakeCFilt := 50, wakeNFilt := 50, ppsLast := none, ppsStep := false, calNew := none, repairs := [], tamperHigh := 0, ended := [], reload := none, aliveAt := 0, sleepTick := 0, late := [], said := 0, pwrAt := 0, pgLow := 0 }

/-- One plane's rejoin attempts (R419, R423): when the plane went OFFLINE, when this attempt and its stage began, the times of
failed attempts within 600 s, whether the attempt needs the level of its backlog (LEVEL sent). -/
structure Rejoin where
  offAt : Nat
  attemptAt : Nat
  stageAt : Nat
  fails : List Nat
  level : Bool
  noTry : Bool
  deriving DecidableEq, Repr

/-- No attempt yet. -/
def Rejoin.init : Rejoin := ⟨0, 0, 0, [], false, false⟩

/-- A HOST source offset as an accepted SET gives it (R400): the host's PTP time at REF, REF and the STEP_SUM kept with it, the
host's error bound and the tick of the SET. -/
structure HostSet where
  ptp : Nat
  ref : Nat
  stepSum : Int
  errUs : Nat
  tick : Nat
  deriving DecidableEq, Repr

/-- A plane's time servo (R390-R394) and what it reads of the stream: TIME_BASE and STEP_SUM as the plane knows them, UTC
offset in force, the host's and gPTP's UTC offsets, quality, error (whole µs, from a base and what HOLDOVER and
FREE add to it in 10^-12 µs), selected source, F and
slew (ppb), consecutive runs within threshold, since when a better source has been valid, gPTP's last Sync, last peer delay and
offset, the four last PPS edges, whether PPS is labelled, the SET in force, kept REPORT responses (counter, STEP_SUM), the
requested step, the last run's tick, a TIME_ADJUST RELOAD that came before the journal ran (TS, STREAM, payload). -/
structure Servo where
  base : Nat
  stepSum : Int
  utc : Nat
  hostUtc : Option Nat
  gptpUtc : Option Nat
  tq : Nat
  err : Nat
  errBase : Nat
  errAcc : Nat
  src : Nat
  freq : Int
  slew : Int
  good : Nat
  better : Option (Nat × Nat)
  syncTick : Option Nat
  syncTs : Nat
  pdelayTick : Option Nat
  gptpOfs : Int
  pdelay : Nat
  pps : List Nat
  ppsCnt : Nat
  labelled : Bool
  set : Option HostSet
  reports : List (Nat × Int)
  stepReq : Int
  lastRun : Nat
  ppsBuf : List (Nat × Word)
  ppsCap : Nat
  due : Bool
  calMin : Nat
  reload : Option (Nat × Nat × List Byte)
  deriving DecidableEq, Repr

/-- A servo at KINDLING: quality FREE, error unknown, no source (R402, R544). -/
def Servo.init : Servo :=
  { base := 0, stepSum := 0, utc := 0, hostUtc := none, gptpUtc := none, tq := 2, err := 0xFFFFFFFF, errBase := 0xFFFFFFFF, errAcc := 0, src := 0,
    freq := 0, slew := 0, good := 0, better := none, syncTick := none, syncTs := 0, pdelayTick := none, gptpOfs := 0, pdelay := 0, pps := [],
    ppsCnt := 0, labelled := false, set := none, reports := [], stepReq := 0, lastRun := 0, ppsBuf := [],
    ppsCap := 0, due := false, calMin := 0, reload := none }

/-- One entry of a network's holder table (R479, R480). -/
structure Holder where
  kind : Nat
  id : Nat
  tenant : Nat
  runMs : Nat
  logged : Bool
  deriving DecidableEq, Repr

/-- A network (R474-R480): LAST_KA, state, whether it was AWAKE at the previous evaluation TICK, the identity and tenant of the
latest keep-alive, the holder table, OTHER_MS, keep-alives counted. -/
structure Net where
  lastKa : Nat
  ready : Bool
  prevAwake : Bool
  kind : Nat
  id : Nat
  tenant : Nat
  table : List (Nat × Option Holder)
  otherMs : Nat
  kaCnt : Nat
  deriving DecidableEq, Repr

/-- A network as it starts: AWAKE, without a keep-alive. -/
def Net.init : Net := ⟨0, false, false, 0, 0, 0xFFFF, [], 0, 0⟩

/-- A batten chain beside its registers (R487-R494): whether a sweep runs, the package and word (0 PKG_STATUS, 1-8 CH_STATUS)
that comes next, whether that word has been tried once, the sweep's REFRESH time, the time of the last REFRESH, the RSTAT, PKG_STATUS
and CH_STATUS words read so far (by 10 × package + word), a sweep to start at once, the modes written by channel, packages to
configure from (after a restart or an old break), the PKG_CFG last written by package (R488). -/
structure Chain where
  sweeping : Bool
  pkg : Nat
  word : Nat
  retried : Bool
  sweepTs : Nat
  refreshAt : Nat
  res : List (Nat × Word)
  again : Bool
  modes : List (Nat × Option Nat)
  cfgFrom : Option Nat
  cfgs : List (Nat × Option Nat)
  deriving DecidableEq, Repr

/-- A chain before its restart. -/
def Chain.init : Chain := ⟨false, 0, 0, false, 0, 0, [], false, [], none, []⟩

end Sys2Proof
end

