-- ==== Sys2Proof/Machine/TypesDies.lean ====
section
/-!
DEFINITION. The dies on the field side: what Eaves holds (R12, R13) and what each plane holds.
-/

namespace Sys2Proof

/-- A STATE_DUMP in progress (R65, R66): endpoint, tenant and TAG of the requester, the SCOPE, the counter and STREAM at its start, the next section, bytes sent so far, the running CRC-32C, and whether ABORT has been written. -/
structure Dump where
  ep : Nat
  tenant : Nat
  tag : Nat
  scope : Nat
  ts : Nat
  stream : Nat
  sect : Nat
  sentBytes : Nat
  crc : Nat
  aborting : Bool
  deriving DecidableEq, Repr

/-- The edge die, Eaves. Registers with a home of their own read from it: DEVICE_MODE and PLANE_ROLE from `mode`, `pstate`,
`roleA`, `roleB`; every GEN from `gens` (slots 0-127, Ethernet 128-151, T1S 152-167, endpoints 168-175, chain n at
400 + n); the FLUE source registers from `flue`. -/
structure Eaves where
  regs : Regs
  counter : Nat
  mode : Mode
  pstate : PState
  roleA : Role
  roleB : Role
  seqr : Seqr
  rjA : Rejoin
  rjB : Rejoin
  merger : Merger
  sel : Selector
  stage : List Cand
  flue : List (Nat × FlueSrc)
  live : Truss
  inact : Truss
  pool : List (Nat × Rec)
  poolIn : List (Nat × Rec)
  slots : List (Nat × Slot)
  t1s : List (Nat × T1sSt)
  eths : List (Nat × EthSt)
  chains : List (Nat × Chain)
  gens : List (Nat × Nat)
  snaps : List (Nat × Option Snap)
  holds : List (Nat × Option Snap)
  posted : List (Nat × Option (Nat × Word))
  entropyReady : Bool
  deriving DecidableEq, Repr

/-- A plane's view of the stream and of what it sends up its Rafter. `takes` says that it takes the stream, `sends` that
its outputs leave it (a plane that catches up makes its outputs and sends none, R420); `fill` says that the stream goes to its
catch-up buffer; `tick` and `tickStream` are the number and STREAM of the last TICK taken; `newT` marks the new-truss plane of a turn (R86), `past` the other plane once it has taken the CUT: it makes no
output for a later cause (R88). `leadSeen` is the leading plane of the last CTRL ROLE taken; `auths` are the
sleep authority's commands (R447): the tick at which each acts, its target; `qual` marks the scratch context of a qualification run, which
records what goes to ports 176-178 as outputs (R82); `sleep`: the planes' part of a sleep entry comes with the next TICK (R451, R453), CLEAN or
not. -/
structure PStream where
  me : PlaneId
  takes : Bool
  fill : Bool
  newT : Bool
  sends : Bool
  past : Bool
  leadSeen : Option PlaneId
  auths : List (Nat × Nat)
  inbox : List Shingle
  stream : Nat
  ts : Nat
  tick : Nat
  tickStream : Nat
  stepSum : Int
  gens : List (Nat × Nat)
  pool : List Byte
  up : List Cand
  outSeq : List (Nat × Nat)
  accs : List EavesAcc
  sent : List EavesAcc
  accSeq : Nat
  jobs : List MgmtJob
  pgen : Nat
  qual : Bool
  sleep : Option Bool
  deriving DecidableEq, Repr

/-- The stream side of plane `me` after its restart. -/
def PStream.init (me : PlaneId) : PStream :=
  { me := me, takes := false, fill := false, newT := false, sends := false, past := false, leadSeen := none, auths := [], inbox := [], stream := 0, ts := 0, tick := 0, tickStream := 0, stepSum := 0, gens := [], pool := [], up := [],
    outSeq := [], accs := [], sent := [], accSeq := 0, jobs := [], pgen := 0, qual := false, sleep := none }

/-- What survives every reset in a plane's own memories (R42): the slot record, the two flash slots, the floor, the Kiln's
region. -/
structure PNonVol where
  slotRec : SlotRec
  flash0 : FlashSlot
  flash1 : FlashSlot
  floor : Nat
  kiln : KilnNv
  deriving DecidableEq, Repr

/-- One plane die. -/
structure Plane where
  regs : Regs
  st : PStream
  host : PHost
  nv : PNonVol
  truss : Truss
  bus : List (Nat × BusModel)
  servo : Servo
  nets : List (Nat × Net)
  rick : Rick
  kiln : Kiln
  fwd : Fwd
  thr : Thr
  deriving DecidableEq, Repr

/-- Eaves before power: registers at their reset values, roles OFFLINE, the mode KINDLING that has not begun. -/
def Eaves.init : Eaves :=
  { regs := [], counter := 0, mode := .kindling, pstate := .p0, roleA := .offline, roleB := .offline, seqr := Seqr.init,
    rjA := Rejoin.init, rjB := Rejoin.init, merger := ⟨[], 0, [], [], false, [], [], [], [], 0, 0, 0⟩,
    sel := ⟨[], [], [], none, 0, false, [], [], 0⟩, stage := [], flue := [], live := Truss.empty, inact := Truss.empty, pool := [],
    poolIn := [], slots := [], t1s := [], eths := [], chains := [], gens := [], snaps := [], holds := [], posted := [],
    entropyReady := false }

/-- A plane's memories as made: both flash slots erased and EMPTY, every MRAM word 0. -/
def PNonVol.init : PNonVol := ⟨⟨0, 0, 0, 0, 0⟩, ⟨[], []⟩, ⟨[], []⟩, 0, KilnNv.init⟩

/-- A plane before power. -/
def Plane.init (me : PlaneId) : Plane :=
  { regs := [], st := PStream.init me, host := { PHost.init with kindling := true }, nv := PNonVol.init, truss := Truss.empty, bus := [],
    servo := Servo.init, nets := [], rick := Rick.init, kiln := Kiln.init, fwd := Fwd.init, thr := Thr.init }

/-- A state copy for a rejoining plane (R420): which plane, the tick of J, and the leader's state as it stood before J, once the
leader has reached it. -/
structure CopyJob where
  plane : PlaneId
  j : Nat
  snap : Option Plane
  deriving DecidableEq, Repr

end Sys2Proof
end

