-- ==== Sys2Proof/Machine/State.lean ====
section
/-!
DEFINITION. The state of the device as plain data, the reasons for which a command can stop, and the state after reset.
-/

namespace Sys2Proof.Machine

/-- The reasons for which a command could stop the block. No meaning of this model answers with one: every event of the
manual has a next state. Safe. -/
inductive Fault where
  /-- Kept for the interface's third outcome; raised by no command. Safe. -/
  | noSuchEvent
  deriving DecidableEq, Repr

/-- Why a command has no meaning here. -/
inductive Refusal where
  /-- The command of this mnemonic has no meaning yet; raised by `exec` alone. Safe. -/
  | notModelled (mnemonic : String)
  deriving DecidableEq, Repr

/-- The four dies and what spans them: Eaves, planes A and B, the host die, a running turn (R83), a STATE_DUMP (R65), a
state copy (R420), and how many free values have been drawn (the model's own field). -/
structure Field where
  e : Eaves
  a : Plane
  b : Plane
  h : HostDie
  turn : Turn
  dump : Option Dump
  copy : Option CopyJob
  fresh : Nat
  deriving DecidableEq, Repr

/-- The whole device: its four dies, the antifuse OTP of each plane die, and the queue of waiting commands. -/
structure State where
  f : Field
  otpA : Otp
  otpB : Otp
  pending : List Instr
  deriving DecidableEq, Repr

/-- The dies before power. -/
def Field.init : Field := ⟨Eaves.init, Plane.init .A, Plane.init .B, HostDie.init, Turn.idle, none, none, 0⟩

/-- The device right after the COLD reset of its first power: every register at its reset value, nothing loaded, fused as it leaves Mordeow, both
resets held; POWER_ON is the event that starts KINDLING (R449). -/
def State.reset : State := ⟨Field.init, Otp.shipped, Otp.shipped, []⟩

end Sys2Proof.Machine
end

