-- ==== Sys2Proof/Machine/Operands.lean ====
section
/-!
DEFINITION. The operand forms of the device: the descriptor words of R23, the metadata of CAN and slow units (R104,
R136), filter elements (R106), the payloads of CTRL shingles (R30), of EVENTs (R289) and of Ridge messages.
-/

namespace Sys2Proof

/-- The 16-bit FLAGS field of R23. -/
def Shingle.flagBits (s : Shingle) : Nat :=
  s.auth.code * 2 ^ 14 + (if s.prov then 2 ^ 13 else 0) + s.jclass.code * 2 ^ 11 +
    (if s.loc then 2 ^ 10 else 0) + (if s.trunc then 2 ^ 9 else 0)

/-- Descriptor word 2 of R23: SEQ, RID, TENANT, TYPE. -/
def Shingle.word2 (s : Shingle) : Nat :=
  (s.seq % 2 ^ 32) * 2 ^ 32 + (s.rid % 2 ^ 16) * 2 ^ 16 + (s.tenant % 2 ^ 12) * 2 ^ 4 + s.utype.code

/-- Descriptor word 3 of R23: PORT, LEN, FLAGS, GEN. -/
def Shingle.word3 (s : Shingle) : Nat :=
  (s.port % 2 ^ 9) * 2 ^ 55 + (s.body.length % 2 ^ 14) * 2 ^ 41 + s.flagBits * 2 ^ 25 + (s.gen % 2 ^ 8) * 2 ^ 17

/-- The 32 descriptor bytes of R23, each word least significant byte first. -/
def Shingle.descriptor (s : Shingle) : List Byte :=
  leBytes 8 s.ts ++ leBytes 8 s.stream ++ leBytes 8 s.word2 ++ leBytes 8 s.word3

/-- A unit as a host receives it (R291): descriptor, metadata, payload. -/
def Shingle.hostBytes (s : Shingle) : List Byte := s.descriptor ++ s.info ++ s.body

/-- The first two payload bytes of a CTRL shingle: its code (R30). -/
def Shingle.ctrlCode (s : Shingle) : Nat := bytesAt s.body 0 2

/-! Metadata word 0 of CAN units (R104). -/

/-- Metadata word 0. -/
def Shingle.m0 (s : Shingle) : Nat := bytesAt s.info 0 8
/-- Metadata word 1 (CAN XL, ETH). -/
def Shingle.m1 (s : Shingle) : Nat := bytesAt s.info 8 8
/-- IDE. -/
def Shingle.ide (s : Shingle) : Bool := bit s.m0 63
/-- RMT. -/
def Shingle.rmt (s : Shingle) : Bool := bit s.m0 62
/-- FDF. -/
def Shingle.fdf (s : Shingle) : Bool := bit s.m0 61
/-- XLF. -/
def Shingle.xlf (s : Shingle) : Bool := bit s.m0 60
/-- BRS. -/
def Shingle.brs (s : Shingle) : Bool := bit s.m0 59
/-- REPLACE. -/
def Shingle.replace (s : Shingle) : Bool := bit s.m0 56
/-- DLC. -/
def Shingle.dlc (s : Shingle) : Nat := bits s.m0 55 52
/-- ASSIST. -/
def Shingle.assist (s : Shingle) : Bool := bit s.m0 51
/-- AGE in ms; 0 means 1,000 (R104, R136). -/
def Shingle.ageMs (s : Shingle) : Nat := if bits s.m0 39 30 = 0 then 1000 else bits s.m0 39 30
/-- ID. -/
def Shingle.canId (s : Shingle) : Nat := bits s.m0 28 0
/-- VCID (CAN XL). -/
def Shingle.vcid (s : Shingle) : Nat := bits s.m1 55 48

/-- Metadata with bits `hi` down to `lo` of word 0 replaced. -/
def putM0 (info : List Byte) (hi lo v : Nat) : List Byte :=
  let w := bytesAt info 0 8
  let w' := w - bits w hi lo * 2 ^ lo + (v % 2 ^ (hi + 1 - lo)) * 2 ^ lo
  leBytes 8 w' ++ info.drop 8

/-- Whether a type is a CAN type. -/
def UType.isCan : UType → Bool
  | .canCC => true
  | .canFD => true
  | .canXL => true
  | _ => false

/-! Filter elements (R106). -/

/-- Whether an element matches a frame (R107): identifier type, format, remote, VCID, identifier test. -/
def feMatches (el : Rec) (s : Shingle) : Bool :=
  let idtype := el.f 0 31 30
  let kind := el.f 0 29 28
  let xl := s.utype = .canXL
  let typeOk := if xl then idtype = 2 else if s.ide then idtype = 1 else idtype = 0
  let fmtOk := if xl then el.f 12 29 29 = 1 else if s.utype = .canFD then el.f 12 30 30 = 1 else el.f 12 31 31 = 1
  let rmtOk := !s.rmt || el.f 12 28 28 = 1
  let vcidOk := !(xl && el.f 12 24 24 = 1) || s.vcid = el.f 12 23 16
  let w := if idtype = 1 then 28 else 10
  let a := el.f 4 w 0
  let b := el.f 8 w 0
  let id := s.canId
  let idOk := if kind = 0 then decide (a ≤ id ∧ id ≤ b) else if kind = 1 then decide (id = a ∨ id = b)
    else if kind = 2 then decide (id &&& b = a) else false
  typeOk && fmtOk && rmtOk && vcidOk && idOk

/-- ACTION of an element (R106); 5-7 act as REJECT (R107). -/
def feAction (el : Rec) : Nat := let a := el.f 0 27 25; if 5 ≤ a then 0 else a
/-- MBX_EN. -/
def feMbxEn (el : Rec) : Bool := el.f 0 24 24 = 1
/-- MBX. -/
def feMbx (el : Rec) : Nat := el.f 0 21 16
/-- RID. -/
def feRid (el : Rec) : Nat := el.f 0 15 0

/-- The frame as an inspection mailbox keeps it (R110, R111): at most 64 data bytes. -/
def MFrame.ofShingle (s : Shingle) : MFrame :=
  { len := s.body.length, id := s.canId,
    fmt := bits s.m0 63 57 * 2 ^ 25 + (if s.utype = .canXL then bits s.m1 63 56 * 2 ^ 16 + s.vcid * 2 ^ 8 else 0) + s.dlc,
    af := if s.utype = .canXL then bits s.m1 31 0 else 0, ts := s.ts, data := s.body.take 64 }

/-! CTRL payloads (R30). -/

/-- LINK_UP: CODE, SPEED, reserved (R156). -/
def ctrlLinkUp (speed : Nat) : List Byte := leBytes 2 1 ++ leBytes 1 speed ++ leBytes 1 0
/-- LINK_DOWN. -/
def ctrlLinkDown : List Byte := leBytes 2 2
/-- PORT_RESTART: CODE, GEN, TARGET; TARGET is 0x10 + n for chain n (R494) and 0 for a port (log entry 7). -/
def ctrlRestart (gen target : Nat) : List Byte := leBytes 2 3 ++ leBytes 1 gen ++ leBytes 1 target
/-- REG_READ: CODE, STATUS, initiator, ADDR, VALUE, and the access's output sequence as its tag (R44, log entry 7). -/
def ctrlRegRead (status who addr val tag : Nat) : List Byte :=
  leBytes 2 4 ++ leBytes 1 status ++ leBytes 1 who ++ leBytes 4 addr ++ leBytes 4 val ++ leBytes 4 tag
/-- ROLE (R425). -/
def ctrlRole (a b cause source : Nat) : List Byte :=
  leBytes 2 5 ++ leBytes 1 a ++ leBytes 1 b ++ leBytes 1 cause ++ leBytes 1 0 ++ leBytes 2 source
/-- RATE (R102). -/
def ctrlRate (cand timing : Nat) : List Byte := leBytes 2 0xB ++ leBytes 1 cand ++ leBytes 1 0 ++ leBytes 4 timing
/-- BUS_STATE (R122). -/
def ctrlBusState (conf alone tec rec : Nat) : List Byte :=
  leBytes 2 0xC ++ leBytes 1 conf ++ leBytes 1 alone ++ leBytes 2 tec ++ leBytes 1 rec ++ leBytes 1 0
/-- INGRESS_DROP: CODE, reserved, COUNT (R35, log entry 7). -/
def ctrlIngressDrop (n : Nat) : List Byte := leBytes 2 0xD ++ leBytes 2 0 ++ leBytes 4 n
/-- NOTICE (R543). -/
def ctrlNotice (kind a b c d : Nat) : List Byte :=
  leBytes 2 0xF ++ leBytes 1 kind ++ leBytes 1 0 ++ leBytes 4 a ++ leBytes 4 b ++ leBytes 4 c ++ leBytes 4 d ++ leBytes 4 0
/-- CUT (R87): VERSION and the first SEQ of each port 0-175 under the new truss. -/
def ctrlCut (version : Nat) (seq : Nat → Nat) : List Byte :=
  leBytes 2 6 ++ leBytes 2 0 ++ leBytes 4 version ++ (List.range 176).flatMap (fun p => leBytes 4 (seq p))

/-! Host messages. -/

/-- Message class numbers (R286). -/
def clsMgmtReq : Nat := 2
/-- MGMT_RSP. -/
def clsMgmtRsp : Nat := 3
/-- FRAME. -/
def clsFrame : Nat := 4
/-- SIGNAL. -/
def clsSignal : Nat := 5
/-- EVENT. -/
def clsEvent : Nat := 6
/-- TRUSS. -/
def clsTruss : Nat := 7
/-- JOURNAL. -/
def clsJournal : Nat := 8
/-- TIME. -/
def clsTime : Nat := 9
/-- MODE. -/
def clsMode : Nat := 10
/-- SEMA. -/
def clsSema : Nat := 11

/-- An EVENT payload (R289): 32 bytes. -/
def eventBody (code tenant port ts : Nat) (data : List Byte) : List Byte :=
  leBytes 2 code ++ leBytes 2 0 ++ leBytes 2 tenant ++ leBytes 2 port ++ leBytes 8 ts ++ fitBytes 16 data

/-- A MGMT_RSP payload (R288): STATUS, RFLAGS, DONE, ADDR, reserved, DATA. -/
def mgmtRspBody (status rflags done addr : Nat) (data : List Word) : List Byte :=
  leBytes 1 status ++ leBytes 1 rflags ++ leBytes 2 done ++ leBytes 4 addr ++ leBytes 8 0 ++
    data.flatMap (fun w => leBytes 4 w.toNat)

end Sys2Proof
end

