-- ==== Sys2Proof/Machine/Ops.lean ====
section
/-!
DEFINITION. The named operations on the state that every family shares: the planes and their roles, time and steady
time, placing shingles in the merger (R27, R30, R37), the outputs of a plane (R40, R289, R297).
-/

namespace Sys2Proof

/-! Planes of the device. -/

/-- One plane. -/
def Machine.Field.plane (f : Machine.Field) : PlaneId → Plane
  | .A => f.a
  | .B => f.b

/-- The device with one plane changed. -/
def Machine.Field.onPlane (f : Machine.Field) (p : PlaneId) (g : Plane → Plane) : Machine.Field :=
  match p with
  | .A => { f with a := g f.a }
  | .B => { f with b := g f.b }

/-- The device with Eaves changed. -/
def Machine.Field.onE (f : Machine.Field) (g : Eaves → Eaves) : Machine.Field := { f with e := g f.e }

/-- The device with the host die changed. -/
def Machine.Field.onH (f : Machine.Field) (g : HostDie → HostDie) : Machine.Field := { f with h := g f.h }

/-- The role of a plane (R407). -/
def Eaves.role (e : Eaves) : PlaneId → Role
  | .A => e.roleA
  | .B => e.roleB

/-- A plane's role changed. -/
def Eaves.setRole (e : Eaves) (p : PlaneId) (r : Role) : Eaves :=
  match p with
  | .A => { e with roleA := r }
  | .B => { e with roleB := r }

/-- Whether a role is a running role: LEADING or SHADOW (R38). -/
def Role.running : Role → Bool
  | .leading => true
  | .shadow => true
  | .offline => false
  | .rejoining => false

/-- The LEADING plane, if any. -/
def Eaves.leader (e : Eaves) : Option PlaneId :=
  if e.roleA = .leading then some .A else if e.roleB = .leading then some .B else none

/-- The SHADOW plane, if any. -/
def Eaves.shadow (e : Eaves) : Option PlaneId :=
  if e.roleA = .shadow then some .A else if e.roleB = .shadow then some .B else none

/-- Rejoin state of a plane. -/
def Eaves.rj (e : Eaves) : PlaneId → Rejoin
  | .A => e.rjA
  | .B => e.rjB

/-- Rejoin state of a plane changed. -/
def Eaves.onRj (e : Eaves) (p : PlaneId) (g : Rejoin → Rejoin) : Eaves :=
  match p with
  | .A => { e with rjA := g e.rjA }
  | .B => { e with rjB := g e.rjB }

/-- The PLANE_x_STAT register of a plane (R442). -/
def planeStat : PlaneId → Nat
  | .A => PLANE_A_STAT
  | .B => PLANE_B_STAT

/-- Both planes changed, each where its role is a running role. -/
def Machine.Field.onRunning (f : Machine.Field) (g : Plane → Plane) : Machine.Field :=
  let f := if f.e.roleA.running then { f with a := g f.a } else f
  if f.e.roleB.running then { f with b := g f.b } else f

/-- Both planes changed, each where it takes the stream. -/
def Machine.Field.onTaking (f : Machine.Field) (g : Plane → Plane) : Machine.Field :=
  let f := if f.a.st.takes then { f with a := g f.a } else f
  if f.b.st.takes then { f with b := g f.b } else f

/-- Both planes changed. -/
def Machine.Field.onBoth (f : Machine.Field) (g : Plane → Plane) : Machine.Field := { f with a := g f.a, b := g f.b }

/-- The plane whose copy of the plane-resident registers is read (R45): the leading plane, and plane A when none leads. -/
def Machine.Field.lead (f : Machine.Field) : Plane := f.plane (f.e.leader.getD .A)

/-- A free value of the manual: the n-th open number, and the counter advanced. -/
def Machine.Field.draw (f : Machine.Field) : Nat × Machine.Field :=
  (Config.freeNat f.fresh, { f with fresh := f.fresh + 1 })

/-! Time. -/

/-- The time counter moved on to `dt` ns after the last TICK; it never runs backwards (R386). -/
def Eaves.at (e : Eaves) (dt : Nat) : Eaves := { e with counter := max e.counter (e.merger.lastTickAt + dt) }

/-- STEP_SUM (R388). -/
def Eaves.stepSum (e : Eaves) : Int := signed 64 (e.regs.rd64 TIME_STEP_SUM_LO)

/-- Steady time of a counter value latched now (R388). -/
def Eaves.steady (e : Eaves) (ts : Nat) : Nat := ((ts : Int) - e.stepSum).toNat

/-- The generation of a port's PORT domain (R43). -/
def Eaves.genOf (e : Eaves) (port : Nat) : Nat := sget (fun _ => 0) e.gens port

/-- A restart increments GEN, modulo 256 (R43). -/
def Eaves.bumpGen (e : Eaves) (port : Nat) : Eaves :=
  { e with gens := sput (fun _ => 0) e.gens port ((e.genOf port + 1) % 256) }

/-- The calendar's PTP seconds (R401). -/
def Eaves.calSec (e : Eaves) : Nat := e.seqr.cal / 10 ^ 9

/-- The mode is SERVICE or WORKSHOP. -/
def Eaves.serving (e : Eaves) : Bool := e.mode = .service || e.mode = .workshop

/-! The merger. -/

/-- A waiting shingle put into its place: by time, then by port, after those already there (R27). -/
def insWait (w : Wait) : List Wait → List Wait
  | [] => [w]
  | v :: vs =>
    if w.kts < v.kts ∨ (w.kts = v.kts ∧ w.kport < v.kport) then w :: v :: vs else v :: insWait w vs

/-- A shingle handed to the merger with the place of a given time and port; a stopped merger takes none (R437). -/
def Eaves.placeAt (e : Eaves) (kts kport : Nat) (sh : Shingle) : Eaves :=
  if e.merger.stopped then e
  else { e with merger := { e.merger with waiting := insWait ⟨kts, kport, sh⟩ e.merger.waiting } }

/-- A shingle handed to the merger with its own place (R27, R388). -/
def Eaves.place (e : Eaves) (sh : Shingle) : Eaves := e.placeAt (e.steady sh.ts) sh.port sh

/-- A CTRL shingle created now for a port (R30). -/
def Eaves.ctrl (e : Eaves) (port : Nat) (payload : List Byte) : Eaves :=
  e.place (Shingle.mk0 .ctrl e.counter port (if port = 256 then 0 else e.genOf port) payload)

/-- A CTRL shingle that Eaves places directly after a TICK's RAND (R37): it has the TICK's place. -/
def Eaves.ctrlAfterTick (e : Eaves) (port : Nat) (payload : List Byte) : Eaves :=
  e.placeAt (e.steady e.merger.lastTickAt) 256
    (Shingle.mk0 .ctrl e.counter port (if port = 256 then 0 else e.genOf port) payload)

/-- Bytes that a plane has still to take (R35). -/
def inboxBytes (q : List Shingle) : Nat := q.foldl (fun n s => n + s.size) 0

/-- The buffer space that field units may fill: 8 MiB less the 64 KiB kept (R35). -/
def mergerFieldBytes : Nat := 0x800000 - 0x10000

/-- Occupancy of the merger buffer: the larger of what the two Rafters have not taken (R35); a plane that does not take the
stream, or catches up, holds nothing back. -/
def Machine.Field.mergerLoad (f : Machine.Field) : Nat :=
  let w := f.e.merger.waiting.foldl (fun n x => n + x.sh.size) 0
  w + max (if f.a.st.takes && !f.a.st.fill then inboxBytes f.a.st.inbox else 0)
    (if f.b.st.takes && !f.b.st.fill then inboxBytes f.b.st.inbox else 0)

/-- A completed field unit handed to the merger, or dropped and counted when the buffer is full (R35). -/
def Machine.Field.offerUnit (f : Machine.Field) (sh : Shingle) : Machine.Field :=
  if mergerFieldBytes < f.mergerLoad + sh.size then
    f.onE (fun e => { e with merger := { e.merger with drops := supd (fun _ => 0) e.merger.drops sh.port (satAdd 32 · 1) } })
  else f.onE (·.place sh)

/-- A field unit delivered into the stream, with the counter that counts it, or dropped (R35). -/
def Machine.Field.deliver (f : Machine.Field) (sh : Shingle) (cnt : Eaves → Eaves) : Machine.Field :=
  if mergerFieldBytes < f.mergerLoad + sh.size then f.offerUnit sh else (f.onE cnt).offerUnit sh
/-- The place of an endpoint's item among those of its control cycle (R37): PORT, then SEQ; an endpoint's PORT_RESTART, which has none,
follows its messages. -/
def SchedItem.place : SchedItem → Option (Nat × Nat)
  | .host r => some (168 + r.ep, r.seq)
  | .epRestart ep => some (168 + ep, 2 ^ 32)
  | .join _ => none
  | .cut => none
  | .banks => none

/-- Whether `x` goes before `y`, received in the same control cycle (R37). -/
def Sched.ahead (x y : Sched) : Bool :=
  match x.item.place, y.item.place with
  | some a, some b => x.since = y.since && (decide (a.1 < b.1) || (a.1 = b.1 && decide (a.2 < b.2)))
  | _, _ => false

/-- An item put into its place: after those of earlier control cycles (R37). -/
def insSched (x : Sched) : List Sched → List Sched
  | [] => [x]
  | y :: ys => if x.ahead y then x :: y :: ys else y :: insSched x ys

/-- Something that Eaves places at a coming TICK (R37, R540). -/
def Eaves.schedule (e : Eaves) (ticks : Nat) (i : SchedItem) : Eaves :=
  { e with merger := { e.merger with sched := insSched ⟨ticks, i, e.counter⟩ e.merger.sched } }

/-- A restart of a port: GEN rises and PORT_RESTART follows (R43). -/
def Eaves.announceRestart (e : Eaves) (port : Nat) : Eaves :=
  let e := e.bumpGen port
  e.ctrl port (ctrlRestart (e.genOf port) 0)

/-- Writing RO fields from within Eaves. -/
def Eaves.onRegs (e : Eaves) (g : Regs → Regs) : Eaves := { e with regs := g e.regs }

/-- Writing fields from within a plane. -/
def Plane.onRegs (p : Plane) (g : Regs → Regs) : Plane := { p with regs := g p.regs }

/-- Steady time of a TS at the plane's stream position (R388). -/
def Plane.std (p : Plane) (ts : Nat) : Nat := ((ts : Int) - p.st.stepSum).toNat

/-- The tick of a TS: its steady time divided by 10,000 (R234, R388). -/
def Plane.tickAt (p : Plane) (ts : Nat) : Nat := p.std ts / 10000

/-! Bus slots. -/

/-- Slot `n`. -/
def Eaves.slot (e : Eaves) (n : Nat) : Slot := sget (fun _ => Slot.init) e.slots n

/-- Slot `n` changed. -/
def Eaves.onSlot (e : Eaves) (n : Nat) (g : Slot → Slot) : Eaves :=
  { e with slots := supd (fun _ => Slot.init) e.slots n g }

/-- Slot `n`'s CAN part changed. -/
def Eaves.onCan (e : Eaves) (n : Nat) (g : CanSt → CanSt) : Eaves := e.onSlot n (fun s => { s with can := g s.can })

/-- Slot `n`'s slow part changed. -/
def Eaves.onSlow (e : Eaves) (n : Nat) (g : SlowSt → SlowSt) : Eaves := e.onSlot n (fun s => { s with slow := g s.slow })

/-- A field of slot `n`'s registers. -/
def Eaves.sl (e : Eaves) (n : Nat) (f : Fld) : Nat := e.regs.get (slotBase n) f

/-- A field of slot `n`'s registers set. -/
def Eaves.slSet (e : Eaves) (n : Nat) (f : Fld) (v : Nat) : Eaves := e.onRegs (·.set (slotBase n) f v)

/-- A counter register of slot `n` counts one. -/
def Eaves.slInc (e : Eaves) (n : Nat) (off : Nat) : Eaves := e.onRegs (·.inc (slotBase n + off))

/-- Forwarding state changed. -/
def Plane.onFwd (p : Plane) (g : Fwd → Fwd) : Plane := { p with fwd := g p.fwd }

/-- The sequencer's record changed. -/
def Eaves.onSeq (e : Eaves) (g : Seqr → Seqr) : Eaves := { e with seqr := g e.seqr }

/-! Outputs of a plane. -/

/-- HOSTS section of the running truss (R309). -/
def Plane.hosts (p : Plane) : List Byte := p.truss.sec 0x14

/-- Endpoint record `ep`. -/
def Plane.epRec (p : Plane) (ep : Nat) : Rec := recAt p.hosts 16 32 ep

/-- Whether the truss enables an endpoint. -/
def Plane.epEnabled (p : Plane) (ep : Nat) : Bool := p.hosts ≠ [] && (p.epRec ep).f 0 0 0 = 1

/-- The other member of an endpoint's group, if it has one (R303). -/
def Plane.partner (p : Plane) (ep : Nat) : Option Nat :=
  if p.hosts = [] ∨ (p.epRec ep).u 1 1 = 0xFF then none else some ((p.epRec ep).u 1 1 % 8)

/-- The endpoint that names its group: the primary, or the endpoint itself (R303). -/
def Plane.primary (p : Plane) (ep : Nat) : Nat :=
  match p.partner ep with
  | some q => min ep q
  | none => ep

/-- UP in the planes (R281). -/
def Plane.epUp (p : Plane) (ep : Nat) : Bool := sget (fun _ => false) p.host.epUp ep

/-- Whether any member of an endpoint's group is UP. -/
def Plane.groupUp (p : Plane) (ep : Nat) : Bool :=
  p.epUp ep || (match p.partner ep with | some q => p.epUp q | none => false)

/-- The output stream of a class: 0 control (MGMT_RSP, MODE), 1 bulk (R297). -/
def streamOf (cls : Nat) : Nat := if cls = 3 ∨ cls = 10 then 0 else 1

/-- The members of an endpoint's group, or the endpoint alone (R303). -/
def Plane.members (p : Plane) (ep : Nat) : List Nat :=
  match p.partner ep with
  | some q => [min ep q, max ep q]
  | none => [ep]

/-- A device-to-host message: it takes the next output sequence of its endpoint's stream, which a plane that only catches up
advances too (R297, R420); an old-truss plane past the CUT sends no bulk message for a later cause (R88). A group's UP members each get a copy
under the one sequence (R303). -/
def Plane.sendFor (p : Plane) (cause ep cls tenant tag : Nat) (error last urgent : Bool) (body : List Byte) : Plane :=
  if p.st.past ∧ streamOf cls = 1 ∧ p.regs.rd64 TRUSS_CUT_STREAM_LO < cause then p else
  let k := 2 * p.primary ep + streamOf cls
  let q := sget (fun _ => 0) p.host.outSeq k
  let msgs := ((p.members ep).filter (fun x => p.epUp x)).map
    (fun x => (⟨x, cls, tenant, false, urgent, last, error, q, tag, body, cause⟩ : RMsg))
  let out := if p.st.sends then p.host.out ++ msgs else p.host.out
  { p with host := { p.host with out := out, outSeq := sput (fun _ => 0) p.host.outSeq k ((q + 1) % 2 ^ 32) } }

/-- A device-to-host message caused by the shingle at the plane's position. -/
def Plane.send (p : Plane) (ep cls tenant tag : Nat) (error last urgent : Bool) (body : List Byte) : Plane :=
  p.sendFor p.st.stream ep cls tenant tag error last urgent body

/-- A response to a requester (R292). -/
def Plane.respond (p : Plane) (ep cls tenant tag : Nat) (body : List Byte) : Plane :=
  p.send ep cls tenant tag false true false body

/-- A device-wide EVENT (R289) with the time of a given cause: one to the EVENT_TENANT of every UP endpoint, and one for a group. Those
of a KINDLING, when no endpoint can be UP, are kept for each endpoint's first UP (log entry 52). -/
def Plane.eventTs (p : Plane) (code tenant port ts : Nat) (data : List Byte) : Plane :=
  if p.host.kindling then { p with host := { p.host with kindleEv := p.host.kindleEv ++ [eventBody code tenant port ts data] } }
  else (List.range 8).foldl (fun p ep =>
    if p.primary ep = ep ∧ p.groupUp ep = true ∧ p.hosts ≠ [] then
      p.send ep clsEvent ((p.epRec ep).u 4 2) 0 false false false (eventBody code tenant port ts data)
    else p) p

/-- A device-wide EVENT at the plane's stream position (R289). -/
def Plane.event (p : Plane) (code tenant port : Nat) (data : List Byte) : Plane := p.eventTs code tenant port p.st.ts data

/-- No tenant and no port concerned. -/
def noId : Nat := 0xFFFF

/-- GEN of a port as the plane knows it at its position; ports 176-178 have none (R40). -/
def Plane.genKnown (p : Plane) (port : Nat) : Nat := if 176 ≤ port then 0 else sget (fun _ => 0) p.st.gens port

/-- Whether a plane takes the next shingle: it takes the stream, and no admitted message waits to be acted on at its position (R36,
R44). -/
def Plane.ready (p : Plane) : Bool := p.st.takes && p.host.admitted.isEmpty

/-- An egress candidate for a port (R40): the next output sequence of the port, the egress GEN that the plane knew at the cause;
none of an old-truss plane for a cause after the CUT (R88). -/
def Plane.cand (p : Plane) (port gen : Nat) (tsReq : Bool) (qclass : Nat) (unit : Shingle) : Plane :=
  if p.st.past ∧ p.regs.rd64 TRUSS_CUT_STREAM_LO < unit.stream then p else
  let q := sget (fun _ => 0) p.st.outSeq port
  let digest := if bit p.truss.flags 0 then
      some (Config.crc32c (leBytes 2 port ++ leBytes 4 q ++ unit.info ++ unit.body)) else none
  let c : Cand := ⟨p.st.me, port, q, gen, digest, p.st.pgen, unit.stream, p.st.newT, tsReq, qclass, unit⟩
  { p with st := { p.st with
      up := if p.st.sends then p.st.up ++ [c] else p.st.up
      outSeq := sput (fun _ => 0) p.st.outSeq port ((q + 1) % 2 ^ 32) } }

/-- The GEN key of the port, slot or chain whose register block holds an address (R48, R43). -/
def genKey (a : Nat) : Option Nat :=
  if 0x100000 ≤ a ∧ a < 0x180000 then some ((a - 0x100000) / 0x1000)
  else if 0x180000 ≤ a ∧ a < 0x184000 then some (400 + (a - 0x180000) / 0x1000)
  else if 0x200000 ≤ a ∧ a < 0x218000 then some (128 + (a - 0x200000) / 0x1000)
  else if 0x280000 ≤ a ∧ a < 0x290000 then some (152 + (a - 0x280000) / 0x1000)
  else none

/-- An Eaves access sent up the Rafter with the next output sequence of target 256 (R33). -/
def Plane.accessWith (p : Plane) (who : Who) (addr : Nat) (val : Option Word) (time : Option TimeWrite) : Plane :=
  let gen := (genKey addr).elim 0 (sget (fun _ => 0) p.st.gens)
  let a : EavesAcc := ⟨p.st.accSeq, who, addr, val, gen, time⟩
  { p with st := { p.st with
      accSeq := (p.st.accSeq + 1) % 2 ^ 32
      accs := if p.st.sends then p.st.accs ++ [a] else p.st.accs
      sent := p.st.sent ++ [a] } }

/-- An access of one word. -/
def Plane.access (p : Plane) (who : Who) (addr : Nat) (val : Option Word) : Plane := p.accessWith who addr val none

/-- A unit for one of ports 176-178, which leaves no plane: a qualification run counts it as an output (R82). -/
def Plane.inner (p : Plane) (port : Nat) (sh : Shingle) : Plane := if p.st.qual then p.cand port 0 false 0 sh else p

/-- The plane's firmware as an initiator in secure state. -/
def firmware : Who := ⟨8, 0xFFFF, true⟩

/-- The firmware writes the TIME block (R33). -/
def Plane.timeWrite (p : Plane) (w : TimeWrite) : Plane := p.accessWith firmware TIME_STAT (some 0) (some w)

/-- A firmware write of an Eaves register. -/
def Plane.fwWrite (p : Plane) (addr : Nat) (v : Nat) : Plane := p.access firmware addr (some (BitVec.ofNat 32 v))

end Sys2Proof
end

