-- ==== Sys2Proof/Machine/Bank.lean ====
section
/-!
DEFINITION. The two banks of Eaves's truss-set configuration (R87): the running bank's sections as registers, and the change
of bank at a cut.
-/

namespace Sys2Proof

/-- A slot's list in the FILTERS section (R108): BASE and COUNT. -/
def filterList (t : Truss) (n : Nat) : Nat × Nat := (bytesAt (t.sec 0x06) (4 * n) 2, bytesAt (t.sec 0x06) (4 * n + 2) 2)

/-- A filter element of KIND DISABLED (R106). -/
def feNone : Rec := Rec.put 0 0 4 (3 * 2 ^ 28)

/-- The filter pool of a truss (R108): the elements of all lists stand in pool order after the allocation records. -/
def poolOf (t : Truss) : List (Nat × Rec) :=
  let lists := (List.range 128).map (filterList t)
  lists.foldl (fun m l =>
    let before := (lists.filter (fun x => x.1 < l.1)).foldl (fun n x => n + x.2) 0
    (List.range l.2).foldl (fun m i => sput (fun _ => feNone) m (l.1 + i) (recAt (t.sec 0x06) 512 16 (before + i))) m) []

/-! The SLOTS section (R130, R151). -/

/-- Record `n` of the SLOTS section. -/
def slotRec (t : Truss) (n : Nat) : Rec := recAt (t.sec 0x02) 0 64 n

/-- Personalities LIN, SERIAL and J1708 (R94). -/
def persSlow (pers : Nat) : Bool := pers = 4 || pers = 5 || pers = 6
/-- CAN personalities. -/
def persCan (pers : Nat) : Bool := pers = 1 || pers = 2 || pers = 3

/-- The next 64-byte boundary. -/
def align64 (n : Nat) : Nat := (n + 63) / 64 * 64

/-- The largest value of a function over the slots that satisfy `q`. -/
def maxSlots (t : Truss) (q : Nat → Bool) (g : Rec → Nat) : Nat :=
  (List.range 128).foldl (fun m n => if q ((slotRec t n).u 0 1) then max m (g (slotRec t n)) else m) 0

/-- Entries of the assist table (R130). -/
def assistCount (t : Truss) : Nat := maxSlots t persCan (fun r => r.u 56 2 + r.u 58 2)
/-- Where the map table starts (R151). -/
def mapOff (t : Truss) : Nat := align64 (128 * 64 + 16 * assistCount t)
/-- Where the schedule table starts (R151). -/
def schedOff (t : Truss) : Nat := align64 (mapOff t + 4 * maxSlots t persSlow (fun r => r.u 16 2 + r.u 18 2))

/-- Assist entry `i`. -/
def assistEntry (t : Truss) (i : Nat) : Rec := recAt (t.sec 0x02) 8192 16 i
/-- The assist entries of a slot, by index. -/
def slotAssists (t : Truss) (n : Nat) : List (Nat × Rec) :=
  let r := slotRec t n
  if persCan (r.u 0 1) then (List.range (r.u 58 2)).map (fun k => (r.u 56 2 + k, assistEntry t (r.u 56 2 + k))) else []
/-- Map entry `k` of a slot (R137, R142). -/
def mapEntry (t : Truss) (n k : Nat) : Rec := recAt (t.sec 0x02) (mapOff t) 4 ((slotRec t n).u 16 2 + k)
/-- The schedule entries of one table of a slot, in order (R144). -/
def schedTable (t : Truss) (n table : Nat) : List Rec :=
  let r := slotRec t n
  ((List.range (r.u 22 2)).map (fun k => recAt (t.sec 0x02) (schedOff t) 8 (r.u 20 2 + k))).filter (fun e => e.u 0 1 = table)

/-- Entries of a CARRY section (R79). -/
def carryList (t : Truss) : List Rec :=
  let b := t.sec 0x16
  (List.range (b.length / 16)).map (fun i => recAt b 0 16 i)

/-- REGISTER carry entries: (old address, new address) of each word carried (R79, R80). -/
def carryRegs (t : Truss) : List (Nat × Nat) :=
  (carryList t).flatMap (fun r =>
    if r.u 0 1 = 9 ∧ r.u 1 1 = 1 then (List.range (r.u 12 4)).map (fun i => (r.u 4 4 + 4 * i, r.u 8 4 + 4 * i)) else [])

/-- A bit moved to a place. -/
def bitAt (b : Bool) (k : Nat) : Nat := if b then 2 ^ k else 0

/-- A list of (offset, word) written to the block at `base`. -/
def Regs.wrAll (m : Regs) (base : Nat) (ws : List (Nat × Nat)) : Regs :=
  ws.foldl (fun m w => m.wr (base + w.1) (BitVec.ofNat 32 w.2)) m

/-- The candidates of rate detection (R102, R103): CAND_MASK, DWELL and the timings. -/
def detectWords (r : Rec) : List (Nat × Nat) :=
  let det := bit (r.u 1 1) 1
  if det ∧ r.u 21 1 = 0 then
    [(0x20, 2 ^ 31 + 10 * 2 ^ 16 + 15), (0x40, 0x07440909), (0x44, 0x03440909), (0x48, 0x01440909), (0x4C, 0x00440909)]
  else (0x20, bitAt det 31 + r.u 3 1 * 2 ^ 16 + r.u 21 1) :: (List.range 8).map (fun k => (0x40 + 4 * k, r.u (24 + 4 * k) 4))

/-- The registers of a CAN slot from its record (R130, R108). -/
def canWords (t : Truss) (n : Nat) : List (Nat × Nat) :=
  let r := slotRec t n
  let fl := r.u 1 1
  let (b, c) := filterList t n
  [(0x00, r.u 0 1 % 16 * 2 ^ 24 + bits fl 3 2 * 2 ^ 8 + fl % 2), (0x08, bitAt (bit fl 4) 31 + r.u 22 1 * 2 ^ 16 + r.u 2 1 % 32),
    (0x10, r.u 4 4), (0x14, r.u 8 4), (0x18, bitAt (bit fl 5) 31 + r.u 17 1 % 128 * 2 ^ 8 + r.u 16 1 % 128), (0x1C, r.u 12 4),
    (0x24, b * 2 ^ 16 + c % 2 ^ 13),
    (0x2C, bitAt (bit fl 6) 31 + r.u 20 1 % 64 * 2 ^ 16 + r.u 19 1 % 64 * 2 ^ 8 + r.u 18 1 % 64)] ++ detectWords r

/-- The registers of a slow slot from its record (R151). -/
def slowWords (t : Truss) (n : Nat) : List (Nat × Nat) :=
  let r := slotRec t n
  let fl := r.u 1 1
  [(0x00, r.u 0 1 % 16 * 2 ^ 24 + bits fl 3 2 * 2 ^ 8 + fl % 2), (0x08, r.u 4 4),
    (0x0C, r.u 3 1 * 2 ^ 24 + r.u 8 2 % 4096 * 2 ^ 12 + r.u 10 1 % 4 * 2 ^ 10 + r.u 11 1),
    (0x10, bitAt (bit fl 4) 31 + r.u 12 1 % 32 * 2 ^ 8 + r.u 13 1 % 8), (0x18, r.u 2 1 % 32)]

/-- The configuration registers that a record sets, cleared: the offsets of every layout. -/
def slotCfgOffs : List Nat :=
  [0x00, 0x08, 0x0C, 0x10, 0x14, 0x18, 0x1C, 0x20, 0x24, 0x2C, 0x40, 0x44, 0x48, 0x4C, 0x50, 0x54, 0x58, 0x5C]

/-- A slot's registers from a truss; `on` false leaves it OFF, as the early stage does with a port that is not early (R78). -/
def Eaves.loadSlot (e : Eaves) (t : Truss) (on : Bool) (n : Nat) : Eaves :=
  let pers := (slotRec t n).u 0 1
  let ws := if !on then [] else if persSlow pers then slowWords t n else if persCan pers then canWords t n else []
  e.onRegs (fun m => (m.wrAll (slotBase n) (slotCfgOffs.map (fun o => (o, 0)))).wrAll (slotBase n) ws)

/-! The LIN frame table (R142). -/

/-- DIR of a FID. -/
def linDir (t : Truss) (n fid : Nat) : Nat := (mapEntry t n fid).f 0 1 0
/-- LEN of a FID; 8 for FIDs 60 and 61. -/
def linLen (t : Truss) (n fid : Nat) : Nat := if fid = 60 ∨ fid = 61 then 8 else (mapEntry t n fid).u 1 1
/-- The enhanced checksum model of a FID; FIDs 60 and 61 use the classic one. -/
def linEnh (t : Truss) (n fid : Nat) : Bool := fid ≠ 60 && fid ≠ 61 && (mapEntry t n fid).f 0 2 2 = 1

/-- Settings that a slow personality can run (R133-R135): SLOT_SB_CFG and SLOT_SB_FRAME. The bit time is BAUD_DIV / (16 × 80 MHz). A rate outside
its range and a reserved value cannot run; J1708 ignores rate, framing and gap. -/
def slowCfgOk (pers : Nat) (cfg frame : Word) : Bool :=
  let div := SLOT_SB_CFG_BAUD_DIV.get cfg
  let maxlen := SLOT_SB_FRAME_MAXLEN.get frame
  let rate := fun lo hi => decide (lo * div ≤ 1280000000 ∧ 1280000000 ≤ hi * div)
  let framing := decide (SLOT_SB_CFG_DATABITS.get cfg ≤ 2 ∧ SLOT_SB_CFG_PARITY.get cfg ≤ 2 ∧ SLOT_SB_CFG_CHECK.get cfg ≤ 4)
  decide (SLOT_SB_FRAME_BOUNDARY.get frame ≤ 2) &&
    (if pers = 4 then rate 1000 20000 && framing
     else if pers = 5 then rate 1200 3000000 && framing && decide (1 ≤ SLOT_SB_FRAME_GAP.get frame ∧ 1 ≤ maxlen ∧ maxlen ≤ 2048)
     else decide (21 ≤ maxlen ∧ maxlen ≤ 64))

/-! Ethernet and T1S ports (R197, R198, R154). -/

/-- The ETHPORTS record of a port; zero without the section. -/
def ethRec (t : Truss) (n : Nat) : Rec := recAt (t.sec 0x03) 64 96 n
/-- The T1SPORTS record of a port. -/
def t1sRec (t : Truss) (n : Nat) : Rec := recAt (t.sec 0x04) 0 64 n

/-- A station address's two register words from six bytes. -/
def lsaWords (bs : List Byte) (k : Nat) : List (Nat × Nat) :=
  [(0x100 + 8 * k, beAt (bs.drop (6 * k)) 2 4), (0x104 + 8 * k, beAt (bs.drop (6 * k)) 0 2)]

/-- The station addresses of an Ethernet port. -/
def ethLsas (t : Truss) (n : Nat) : List (Nat × Nat) :=
  let bs := ((t.sec 0x03).drop (64 + 96 * n + 32)).take (6 * (ethRec t n).u 20 1)
  (List.range 8).flatMap (lsaWords bs)

/-- The station addresses of a T1S port. -/
def t1sLsas (t : Truss) (n : Nat) : List (Nat × Nat) :=
  let bs := ((t.sec 0x04).drop (64 * n + 8)).take (6 * (t1sRec t n).u 7 1)
  (List.range 8).flatMap (lsaWords bs)

/-- Where table `k` of the TSN section starts (its 4-byte count), with the entry sizes in order (R198). -/
def tsnOff (bs : List Byte) : Nat → List Nat → Nat → Nat
  | 0, _, off => off
  | _, [], off => off
  | k + 1, sz :: rest, off => tsnOff bs k rest ((off + 4 + 4 + sz * bytesAt bs off 4 + 7) / 8 * 8)

/-- The tables of the TSN section: sizes. -/
def tsnSizes : List Nat := [24, 8, 32, 16, 8, 20, 24, 8, 16]

/-- The entries of table `k` of the TSN section: count and record; the entries follow the count at the next 8-byte boundary. -/
def tsnTable (t : Truss) (k : Nat) : Nat × (Nat → Rec) :=
  let bs := t.sec 0x09
  let off := tsnOff bs k tsnSizes 0
  (bytesAt bs off 4, fun i => recAt bs (off + 8) (tsnSizes.getD k 8) i)

/-- The GATE entry of a port. -/
def gateRec (t : Truss) (n : Nat) : Option Rec :=
  let (c, r) := tsnTable t 0
  ((List.range c).map r).find? (fun x => x.u 0 1 = n)

/-- Entry `i` of a port's gate-control list: INTERVAL and GATES. -/
def gclEntry (t : Truss) (n i : Nat) : Nat × Nat :=
  match gateRec t n with
  | some g => let r := (tsnTable t 1).2 (g.u 4 2 + i); (r.u 0 4, r.u 4 1)
  | none => (0, 0)

/-- An Ethernet port's registers from a truss (R163, R197, R198). -/
def Eaves.loadEth (e : Eaves) (t : Truss) (n : Nat) : Eaves :=
  let r := ethRec t n
  let g := gateRec t n
  let cbs := if n < (tsnTable t 2).1 then (tsnTable t 2).2 n else 0
  e.onRegs (fun m => m.wrAll (ethBase n)
    ([(0x000, r.u 0 1 % 2), (0x008, r.u 1 1 % 16 * 2 ^ 28 + r.u 2 1 % 16 * 2 ^ 24 + r.u 4 2 % 2 ^ 14),
      (0x00C, r.u 14 2 * 2 ^ 16 + r.u 16 2), (0x010, r.f 18 7 7 * 2 ^ 31 + r.u 18 1 % 32 * 2 ^ 24 + r.u 19 1 % 16),
      (0x210, g.elim 0 (·.u 8 4)), (0x214, g.elim 0 (·.u 12 4)), (0x218, g.elim 0 (·.u 16 4)),
      (0x21C, g.elim 0 (fun x => x.u 1 1 % 2 * 2 ^ 31 + x.u 2 2 % 512 * 2 ^ 16))] ++
      (List.range 8).map (fun c => (0x240 + 4 * c, cbs.u (4 * c) 4)) ++ ethLsas t n))

/-- A T1S port's registers from a truss (R154); a zero TO_TIMER or LINK_HOLD takes its default. -/
def Eaves.loadT1s (e : Eaves) (t : Truss) (n : Nat) : Eaves :=
  let r := t1sRec t n
  e.onRegs (fun m => m.wrAll (t1sBase n)
    ([(0x000, r.u 0 1 % 2), (0x008, r.u 2 1 * 2 ^ 8 + r.u 1 1),
      (0x00C, r.u 4 1 * 2 ^ 16 + r.u 5 1 * 2 ^ 8 + (if r.u 3 1 = 0 then 32 else r.u 3 1)),
      (0x010, if r.u 6 1 = 0 then 10 else r.u 6 1)] ++ t1sLsas t n))

/-! Batten chains, wake filters, device and power settings (R499, R482, R470). -/

/-- A chain's registers from a truss (R499). -/
def Eaves.loadChain (e : Eaves) (t : Truss) (n : Nat) : Eaves :=
  let b := t.sec 0x13
  let r := recAt b 0 16 n
  let map := fun k => let p := bytesAt b (64 + 256 * n + 2 * k) 2; if b = [] ∨ p = 0xFFFF then 0x1FF else p
  let on := if b = [] then 0 else r.u 0 1 % 2
  e.onRegs (fun m => m.wrAll (battenBase n)
    ([(0x000, on), (0x008, r.u 1 1 * 2 ^ 24 + (if r.u 5 1 = 0 then 5 else r.u 5 1 % 32) * 2 ^ 16 + r.u 4 1 % 128 * 2 ^ 8),
      (0x00C, r.u 2 2 % 1024)] ++ (List.range 128).map (fun k => (0x200 + 4 * k, map k))))

/-- NETWORKS header values: WAKEN_FILT, WAKEC_FILT, WAKEC_EN (R482, R498). -/
def wakeCfg (t : Truss) : Nat × Nat × Nat :=
  let b := t.sec 0x05
  let d := fun v => if v = 0 then 50 else v
  (d (bytesAt b 4 2), d (bytesAt b 6 2), bytesAt b 8 2)

/-- A number of the DEVICE section (R470). -/
def devSec (t : Truss) (off size : Nat) : Nat := bytesAt (t.sec 0x01) off size

/-- The device-wide registers of a truss (R470, R473, R406). -/
def Eaves.loadDevice (e : Eaves) (t : Truss) : Eaves :=
  e.onRegs (fun m =>
    let m := m.set 0 TIME_PPS_STATUS_OUT_EN (bits (bytesAt (t.sec 0x0F) 0 1) 1 1)
    let m := (m.set 0 PWR_DVFS_REQ (devSec t 1 1)).set 0 PWR_DVFS_MIN (devSec t 2 1)
    (m.set 0 PWR_AVS_VMIN (devSec t 4 2)).set 0 PWR_AVS_VMAX (devSec t 6 2))

/-- What Eaves keeps in the VBAT domain of a truss, loaded at KINDLING and at each CUT: the tamper inputs' enables and polarities
(R340), the wake pins' filters and enables (R482). -/
def Eaves.loadVbat (e : Eaves) (t : Truss) : Eaves :=
  let (n, c, en) := wakeCfg t
  let head := if bytesAt (t.sec 0x12) 0 4 = 0 then 0 else 1
  { e with seqr := { e.seqr with
      tamperEn := head * bytesAt (t.sec 0x12) 8 1, tamperPol := head * bytesAt (t.sec 0x12) 9 1, wakeEn := en, wakeCFilt := c, wakeNFilt := n } }

/-- The registers of a truss loaded into Eaves (R87): slots, Ethernet and T1S ports, batten chains, device settings. -/
def Eaves.loadBank (e : Eaves) (t : Truss) (pool : List (Nat × Rec)) : Eaves :=
  let e := { e with live := t, pool := pool }
  let e := (List.range 128).foldl (fun e n => e.loadSlot t true n) e
  let e := (List.range 24).foldl (fun e n => e.loadEth t n) e
  let e := (List.range 16).foldl (fun e n => e.loadT1s t n) e
  let e := (List.range 4).foldl (fun e n => e.loadChain t n) e
  e.loadVbat t

/-- The inactive bank becomes the live bank (R87). -/
def Eaves.swapBanks (e : Eaves) : Eaves :=
  let old := e.live
  let oldPool := e.pool
  let e := e.loadBank e.inact e.poolIn
  { e with inact := old, poolIn := oldPool }

end Sys2Proof
end

