-- ==== Sys2Proof/Machine/Journal.lean ====
section
/-!
DEFINITION. The journal as shared operations (R347-R382): LEGAL records, SEALs, the MRAM head's commits, tap records and chunks,
incidents, holes, the status words.
-/

namespace Sys2Proof

/-- A number of the running truss's RICK section (R382). -/
def Plane.rk (p : Plane) (off size : Nat) : Nat := bytesAt (p.truss.sec 0x10) off size

/-- Whether LEGAL records are made: STATE is RUN or HOLD (R348, R353). -/
def Plane.runsJournal (p : Plane) : Bool :=
  p.regs.get 0 RICK_STAT_STATE = 2 || p.regs.get 0 RICK_STAT_STATE = 3

/-- Rick changed. -/
def Plane.onRick (p : Plane) (g : Rick → Rick) : Plane := { p with rick := g p.rick }

/-- UTC of a time counter value, ns since 1970 (R356, R385). -/
def Plane.utcOf (p : Plane) (ts : Nat) : Nat :=
  ((p.servo.base : Int) * 10 ^ 9 + ts - (p.servo.utc : Int) * 10 ^ 9).toNat

/-- A geometry's LEGAL region in bytes. -/
def Geom.legalBytes (g : Geom) : Nat := g.legalGib * 2 ^ 30

/-- INCIDENT extents of each drive (R354). -/
def Geom.incExt (g : Geom) : Nat := g.incGib * 1024 / g.drives

/-- A geometry's INCIDENT ring in bytes. -/
def Geom.incBytes (g : Geom) : Nat := g.incExt * g.drives * 2 ^ 20

/-- NCHUNK (R361): 16 chunks in each ROLLING logical extent. -/
def Geom.nchunk (g : Geom) : Nat := 16 * (g.drives * (g.usedExt - 1 - g.legalGib * 1024 - g.incExt))

/-- Where a logical byte of a tier lies (R354, R355, R361): its drive, none for every drive; the extent; the byte in the extent. LEGAL is
replicated from extent 1; INCIDENT and then ROLLING are striped behind it. -/
def Geom.place (g : Geom) (tier x : Nat) : Option Nat × Nat × Nat :=
  let striped := fun (first y : Nat) => (some (y / 2 ^ 20 % g.drives), first + y / 2 ^ 20 / g.drives, y % 2 ^ 20)
  if tier = 1 then (none, 1 + x % g.legalBytes / 2 ^ 20, x % g.legalBytes % 2 ^ 20)
  else if tier = 2 then striped (1 + g.legalGib * 1024) (x % g.incBytes)
  else striped (1 + g.legalGib * 1024 + g.incExt) (x % (65536 * g.nchunk))

/-- The LBA of a logical byte on its drive (R354): 256 of 4,096 bytes in each extent. -/
def Geom.lba (g : Geom) (tier x : Nat) : Nat := 256 * (g.place tier x).2.1 + (g.place tier x).2.2 / 4096

/-- Logical bytes that a hole of a tier stands for (R376): a chunk of ROLLING, an extent of the others. -/
def holeSpan (tier : Nat) : Nat := if tier = 3 then 65536 else 2 ^ 20

/-- The drive on which a hole lies; none for LEGAL. -/
def Geom.holeDrive (g : Geom) (h : Hole) : Option Nat := (g.place h.tier (holeSpan h.tier * h.pos)).1

/-- Whether a logical byte lies in a hole of both sets (R376). -/
def Rick.lost (r : Rick) (tier x : Nat) : Bool := r.holes.any (fun h => h.tier = tier && h.pos = x / holeSpan tier && h.final)

/-- Holes added, each once. -/
def Rick.addHoles (r : Rick) (hs : List Hole) : Rick :=
  { r with holes := hs.foldl (fun l h => if l.any (fun x => x.tier = h.tier && x.pos = h.pos) then l else l ++ [h]) r.holes }

/-- The superblock of a drive (R354): 4,096 bytes, the CRC last. -/
def Geom.superblock (g : Geom) (plane drive : Nat) : List Byte :=
  let h := fitBytes 4092 (leBytes 4 0x4B434952 ++ leBytes 2 1 ++ leBytes 1 plane ++ leBytes 1 drive ++ leBytes 8 Config.serial ++
    leBytes 4 g.epoch ++ leBytes 1 g.drives ++ leBytes 3 0 ++ leBytes 4 g.usedExt ++ leBytes 4 g.legalGib ++ leBytes 4 g.incGib ++
    leBytes 2 g.retention ++ leBytes 2 0 ++ leBytes 8 g.genesisUtc)
  h ++ leBytes 4 (Config.crc32c h)

/-- The EPOCH of a superblock of this set (R350, R354): whole, and naming this device, plane and position. -/
def superEpoch (plane drive : Nat) (b : List Byte) : Option Nat :=
  if b.length = 4096 ∧ bytesAt b 0 4 = 0x4B434952 ∧ bytesAt b 4 2 = 1 ∧ bytesAt b 6 1 = plane ∧ bytesAt b 7 1 = drive ∧
      bytesAt b 8 8 = Config.serial ∧ bytesAt b 4092 4 = Config.crc32c (b.take 4092) then some (bytesAt b 16 4)
  else none

/-- What the superblocks at LBA 0 and LBA 128 say of a drive: the higher EPOCH of the copies that are of this set. -/
def superOf (plane drive : Nat) (copies : List (List Byte)) : Super :=
  match copies.filterMap (superEpoch plane drive) with
  | [] => .none
  | e :: es => .ofSet (es.foldl max e)

/-! Tap records. -/

/-- A unit as a tap record (R193), with its payload cut at `cap` bytes; `gap` sets GAP. -/
def tapRec (sh : Shingle) (cap : Nat) (gap : Bool) : List Byte :=
  let data := sh.info ++ sh.body.take cap
  let len := 40 + (data.length + 7) / 8 * 8
  let trunc := sh.trunc || decide (cap < sh.body.length)
  let fl := (if trunc then 1 else 0) + (if sh.prov then 2 else 0) + sh.jclass.code * 4 + (if gap then 16 else 0)
  leBytes 2 len ++ leBytes 1 sh.utype.code ++ leBytes 1 fl ++ leBytes 2 sh.port ++ leBytes 2 sh.rid ++ leBytes 8 sh.ts ++
    leBytes 8 sh.stream ++ leBytes 4 sh.seq ++ leBytes 2 sh.tenant ++ leBytes 2 sh.body.length ++
    leBytes 2 (min cap sh.body.length) ++ leBytes 2 sh.info.length ++ leBytes 4 0 ++ fitBytes (len - 40) data

/-! LEGAL records. -/

/-- The 48-byte header of a LEGAL record (R356). -/
def legalHeader (rlen kind flags tq lc rseq ts utc err stream : Nat) : List Byte :=
  leBytes 2 rlen ++ leBytes 1 kind ++ leBytes 1 flags ++ leBytes 1 tq ++ leBytes 1 lc ++ leBytes 2 0 ++ leBytes 8 rseq ++
    leBytes 8 ts ++ leBytes 8 utc ++ leBytes 4 err ++ leBytes 4 0 ++ leBytes 8 stream

/-- LINK (R357). -/
def linkOf (prev bs : List Byte) : List Byte := fitBytes 32 (Config.sha384 (prev ++ bs))

/-- A LEGAL record appended to the journal (R356, R357). The body may depend on the header's bytes (a SEAL's MAC). Where it does not
fit before the region's end, a PAD record covers the rest (log entry 30). -/
def Plane.legalWith (p : Plane) (kind flags ts stream bodyLen : Nat) (body : List Byte → List Byte) : Plane :=
  if !p.runsJournal then p
  else
    let r := p.rick
    let rseq := p.regs.rd64 RICK_RSEQ_LO
    let rlen := 48 + (bodyLen + 7) / 8 * 8 + 32
    let region := r.geom.elim 0 Geom.legalBytes
    let used := if region = 0 then 0 else r.legalNext % region
    let off := if used + rlen ≤ region ∨ region = 0 then r.legalNext else r.legalNext + (region - used)
    let utc := p.utcOf ts
    let hdr := legalHeader rlen kind flags p.servo.tq p.kiln.lc rseq ts utc (min p.servo.err 0xFFFFFFFF) stream
    let bs := hdr ++ fitBytes (rlen - 80) (body hdr)
    let link := linkOf r.link bs
    let rec_ : LegalRec := ⟨off, rseq, kind, utc, stream, bs ++ link⟩
    let r := { r with
      recs := r.recs ++ [rec_]
      link := link
      legalNext := off + rlen
      unsealedTick := if kind = 3 then none else some (r.unsealedTick.getD p.st.tick) }
    { p with rick := r, regs := p.regs.wr64 RICK_RSEQ_LO (rseq + 1) }

/-- A LEGAL record of the plane's stream position. -/
def Plane.legal (p : Plane) (kind flags : Nat) (body : List Byte) : Plane :=
  p.legalWith kind flags p.st.ts p.st.stream body.length (fun _ => body)

/-- A LEGAL EVENT record (R359). -/
def Plane.legalEvent (p : Plane) (code : Nat) (data : List Byte) : Plane :=
  p.legal 2 0 (leBytes 2 code ++ leBytes 2 data.length ++ leBytes 4 0 ++ data)

/-- A LEGAL EVENT record of an earlier position. -/
def Plane.legalEventAt (p : Plane) (ts stream code : Nat) (data : List Byte) : Plane :=
  p.legalWith 2 0 ts stream (8 + data.length) (fun _ => leBytes 2 code ++ leBytes 2 data.length ++ leBytes 4 0 ++ data)

/-- A LEGAL UNIT record (R359). -/
def Plane.legalUnit (p : Plane) (sh : Shingle) : Plane :=
  p.legalWith 1 (if sh.prov then 1 else 0) sh.ts sh.stream (tapRec sh 2048 false).length (fun _ => tapRec sh 2048 false)

/-- Records not yet covered by a SEAL. -/
def Plane.unsealed (p : Plane) : Nat := p.regs.rd64 RICK_RSEQ_LO - p.rick.firstUnsealed

/-- A SEAL over every unsealed record (R358); none where nothing is unsealed. -/
def Plane.seal (p : Plane) : Plane :=
  if p.unsealed = 0 ∨ p.runsJournal = false then p
  else
    let n := p.regs.rd64 RICK_RSEQ_LO
    let first := p.rick.firstUnsealed
    let head := leBytes 8 first ++ leBytes 8 (n - 1) ++ p.rick.link
    let p := p.legalWith 3 0 p.st.ts p.st.stream 64 (fun hdr => head ++ fitBytes 16 (Config.cmac p.rick.sealKey (hdr ++ head)))
    (p.onRick (fun r => { r with firstUnsealed := n + 1 })).onRegs (·.wr64 RICK_SEAL_LO n)

/-! The head. -/

/-- Whether a granule is pinned: a record in it lies beyond LEGAL_DURABLE (R370). -/
def Rick.pinned (r : Rick) (k : Nat) : Bool :=
  match sget (fun _ => none) r.granules k with
  | some g => decide (r.durable < g.recEnd)
  | none => false

/-- Pinned granules. -/
def Rick.pinnedCount (r : Rick) : Nat := (r.granules.filter (fun e => r.pinned e.1)).length

/-- The next free granule in ring order, at most `fuel` places on. -/
def freeFrom (pinned : Nat → Bool) : Nat → Nat → Option Nat
  | 0, _ => none
  | n + 1, k => if pinned k then freeFrom pinned n ((k + 1) % 65536) else some k

/-- Condition bit `k` of journal status word 0. -/
def Rick.setCond (r : Rick) (k : Nat) (v : Bool) : Rick :=
  { r with conds := if v then r.conds ||| 2 ^ k else if bit r.conds k then r.conds - 2 ^ k else r.conds }

/-- Records not yet committed, oldest first. -/
def Rick.uncommitted (r : Rick) : List LegalRec := r.recs.filter (fun x => r.committedRseq ≤ x.rseq)

/-- The most of the oldest records that fit in `cap` bytes. -/
def fitRecs : List LegalRec → Nat → List LegalRec
  | [], _ => []
  | x :: xs, cap => if x.bytes.length ≤ cap then x :: fitRecs xs (cap - x.bytes.length) else []

/-- One commit into the head with `credit` granules (R369, R370): how many granules it took; none where the credit holds no record and the
index has not changed, or where no granule is free, and the records wait in the plane's DRAM (R372). -/
def Plane.commitWith (p : Plane) (credit : Nat) (clean warn : Bool) : Plane × Nat :=
  let r := p.rick
  let take := fitRecs r.uncommitted (140 * credit)
  if take = [] ∧ r.uncommitted ≠ [] ∧ r.dirty = false ∧ clean = false then (p, 0) else
  let bytes := take.flatMap (·.bytes)
  let parts := max 1 ((bytes.length + 139) / 140)
  let gseq := p.regs.rd64 RICK_HEAD_GSEQ_LO + 1
  let next := match take.getLast? with | some x => x.rseq + 1 | none => r.committedRseq
  let lastEnd := match take.getLast? with | some x => x.off + x.bytes.length | none => p.regs.rd64 RICK_LEGAL_END_LO
  let link := match take.getLast? with | some x => x.bytes.drop (x.bytes.length - 32) | none => r.link
  let g := fun (k : Nat) => (⟨gseq, k, parts, clean, warn, next, lastEnd, r.durable, p.regs.rd64 RICK_LEGAL_FREED_LO,
    p.regs.rd64 RICK_ROLL_NEXT_LO, p.regs.get 0 ⟨RICK_INC_NEXT, 31, 0⟩, (r.incOpen.elim 0xFFFFFFFF (·.id)),
    p.regs.rd64 RICK_SEAL_LO, link, (bytes.drop (140 * k)).take 140, lastEnd⟩ : Granule)
  let write := (List.range parts).foldl (fun (st : Option Rick) k =>
    match st with
    | none => none
    | some r =>
      match freeFrom r.pinned 65536 r.nextGran with
      | none => none
      | some n => some { r with
          granules := sput (fun _ => none) r.granules n (some (if bytes.length = 0 then { g k with recEnd := 0 } else g k))
          nextGran := (n + 1) % 65536 }) (some r)
  match write with
  | none =>
    let risk := (r.uncommitted.flatMap (·.bytes)).length
    (p.onRick (fun r => ({ r with atRisk := risk }).setCond 30 true), 0)
  | some r' =>
    let r' := { r' with committedRseq := next, dirty := false, lastCommit := p.st.tick, atRisk := 0 }
    let p := { p with rick := r'.setCond 30 false }
    (p.onRegs (fun m => (m.wr64 RICK_HEAD_GSEQ_LO gseq).wr64 RICK_LEGAL_END_LO lastEnd), parts)

/-- Whether a commit point has something to commit (R370). -/
def Plane.hasUncommitted (p : Plane) : Bool := p.rick.dirty || decide (p.rick.committedRseq < p.regs.rd64 RICK_RSEQ_LO)

/-- The head's shown state: pinned granules with watermark and peak, HEAD_NEAR_FULL from 58,982 (R372), LEGAL_FULL from 90 % of the
region (R367). -/
def Plane.showHead (p : Plane) : Plane :=
  let n := p.rick.pinnedCount
  let held := p.rick.legalNext - p.regs.rd64 RICK_LEGAL_FREED_LO
  let region := p.rick.geom.elim 0 Geom.legalBytes
  let p := p.onRegs (fun m => (m.set 0 RICK_HEAD_PINNED_GRANULES n).peak RICK_HEAD_PEAK_WM_EVENT RICK_HEAD_PEAK_GRANULES
    (m.get 0 RICK_HEAD_WM_LEVEL) n)
  p.onRick (fun r => (r.setCond 31 (decide (58982 ≤ n))).setCond 29 (decide (0 < region ∧ 9 * region ≤ 10 * held)))

/-- A commit outside the cadence and the credit (R374): as many commits of 16 granules as the records need, at most `fuel`. -/
def Plane.commitAll (p : Plane) (clean warn : Bool) : Nat → Plane
  | 0 => p
  | n + 1 => if p.hasUncommitted = true ∨ clean = true then
      let q := (p.commitWith 16 clean warn).1
      if q.rick.committedRseq = p.rick.committedRseq then q else if q.hasUncommitted then q.commitAll clean warn n else q
    else p

/-- The orderly commit that ends a run (R373, R374). -/
def Plane.finalCommit (p : Plane) : Plane :=
  if p.runsJournal then (p.commitAll true false (p.rick.recs.length + 1)).showHead else p

/-! Chunks and incidents. -/

/-- FIRST_TS of the oldest chunk held. -/
def Plane.showRoll (p : Plane) : Plane :=
  p.onRegs (·.wr64 RICK_ROLL_OLDEST_LO ((p.rick.chunks.head?).elim 0 (·.firstTs)))

/-- The open chunk closes (R361): it takes the next CSEQ and overwrites the chunk NCHUNK before it. -/
def Plane.closeChunk (p : Plane) : Plane :=
  match p.rick.chunkOpen with
  | none => p
  | some c =>
    let n := p.regs.rd64 RICK_ROLL_NEXT_LO
    let span := p.rick.geom.elim 0 Geom.nchunk
    let c := { c with cseq := n }
    let p := p.onRick (fun r => { r with
      chunkOpen := none, dirty := true, chunks := (r.chunks ++ [c]).filter (fun x => n < x.cseq + span) })
    (p.onRegs (·.wr64 RICK_ROLL_NEXT_LO (n + 1))).showRoll

/-- A tap record taken into the open chunk; a chunk in which it does not fit closes first (R361). -/
def Plane.tapRecord (p : Plane) (bs : List Byte) (ts : Nat) : Plane :=
  if !p.runsJournal || p.rick.noTap then p
  else
    let full := match p.rick.chunkOpen with | some c => decide (65504 < c.bytes.length + bs.length) | none => false
    let p := if full then p.closeChunk else p
    let c := match p.rick.chunkOpen with
      | some c => { c with bytes := c.bytes ++ bs, lastTs := ts }
      | none => ⟨0, ts, ts, bs, p.st.tick, false⟩
    p.onRick (fun r => { r with chunkOpen := some c })

/-- An incident trigger at time `ts` (R363). -/
def Plane.trigger (p : Plane) (ts stream : Nat) : Plane :=
  if !p.runsJournal then p
  else
    let pre := p.rk 6 1 * 10 ^ 9
    let till := ts + p.rk 7 1 * 10 ^ 9
    match p.rick.incOpen with
    | some i => p.onRick (fun r => { r with incOpen := some { i with toTs := max i.toTs (min till (i.fromTs + p.rk 8 2 * 10 ^ 9)) } })
    | none =>
      let id := p.regs.get 0 ⟨RICK_INC_NEXT, 31, 0⟩
      let i : Incident := ⟨id, 0, ts - pre, till, 0, 0, 0, stream, 0, false, []⟩
      let p := p.onRick (fun r => { r with incOpen := some i, dirty := true })
      p.onRegs (fun m => (m.wr RICK_INC_NEXT (BitVec.ofNat 32 (id + 1))).set 0 RICK_STAT_INC_OPEN 1)

/-- A device event that TRIGGER_MASK may select (R363). -/
def Plane.triggerOn (p : Plane) (k : Nat) : Plane := if bit (p.rk 10 2) k then p.trigger p.st.ts p.st.stream else p

/-- Bytes of an incident in the ring: the descriptor and its chunks (R364). -/
def Incident.size (i : Incident) : Nat := 256 + 65536 * (i.lastCseq + 1 - i.firstCseq)

/-- Whether an incident is locked. -/
def Incident.locked (i : Incident) : Bool := bit i.flags 1

/-- Oldest unlocked incidents removed until `need` bytes and one place are free; none where only locked ones stand in the way
(R365). -/
def makeRoom (cap need : Nat) : Nat → List Incident → Option (List Incident)
  | 0, _ => none
  | n + 1, l =>
    if (l.foldl (fun s i => s + i.size) 0) + need ≤ cap ∧ l.length < 4096 then some l
    else match l.find? (fun i => !i.locked) with
      | some i => makeRoom cap need n (l.erase i)
      | none => none

/-- HELD and LOCKED of RICK_INC_STAT. -/
def Plane.showInc (p : Plane) : Plane :=
  p.onRegs (fun m => (m.set 0 RICK_INC_STAT_HELD p.rick.incs.length).set 0 RICK_INC_STAT_LOCKED
    (p.rick.incs.filter (·.locked)).length)

/-- The open incident closes (R364, R365): space in the ring, the INCIDENT record, the event. Its last chunk is the first whose LAST_TS is at or
after TO, or the last one held for an incident that SAFE or a power loss `cut`. -/
def Plane.closeIncident (p : Plane) (cut : Bool) : Plane :=
  match p.rick.incOpen, (if cut then p.rick.chunks.getLast? else
      p.rick.chunks.find? (fun c => decide (p.rick.incOpen.elim 0 (·.toTs) ≤ c.lastTs))) with
  | some i, some last =>
    let first := (p.rick.chunks.find? (fun c => i.fromTs ≤ c.lastTs)).elim last.cseq (·.cseq)
    let i := { i with firstCseq := first, lastCseq := last.cseq, flags := if cut then 1 else 0, rseq := p.regs.rd64 RICK_RSEQ_LO,
                      off := p.rick.incNextOff, data := p.rick.chunks.filter (fun c => first ≤ c.cseq ∧ c.cseq ≤ last.cseq) }
    let room := makeRoom (p.rick.geom.elim 0 Geom.incBytes) i.size (p.rick.incs.length + 1) p.rick.incs
    let i := if room.isSome then i else { i with flags := i.flags + 4 }
    let p := p.legalEvent 0x000C (leBytes 4 i.id ++ leBytes 4 i.flags ++ leBytes 8 i.fromTs ++ leBytes 8 i.toTs ++
      leBytes 8 i.firstCseq ++ leBytes 8 i.lastCseq)
    let p := p.event 0x0505 noId noId (leBytes 4 i.id ++ leBytes 8 i.fromTs)
    let p := match room with
      | some l => p.onRick (fun r => { r with incs := l ++ [i], incNextOff := r.incNextOff + i.size })
      | none => (p.onRegs (·.inc RICK_INC_REFUSED)).event 0x0506 noId noId (leBytes 4 i.id)
    let p := p.onRick (fun r => { r with incOpen := none, dirty := true })
    (p.onRegs (·.set 0 RICK_STAT_INC_OPEN 0)).showInc
  | _, _ => p

/-- What a set no longer holds without drive `d` (R376): chunks and incident extents on it, and the LEGAL region where no other drive of the set
is ONLINE. -/
def Rick.lostWith (r : Rick) (d freed : Nat) : List Hole :=
  match r.geom with
  | none => []
  | some g =>
    let rolling := (r.chunks.filter (·.written)).map (fun c => (⟨3, c.cseq, false⟩ : Hole))
    let inc := (r.incs.filter (·.copied)).flatMap (fun i =>
      (List.range (i.size / 2 ^ 20 + 2)).map (fun k => (⟨2, i.off / 2 ^ 20 + k, false⟩ : Hole)) |>.filter (fun h => h.pos * 2 ^ 20 < i.off + i.size))
    let others := (List.range 4).any (fun k => k ≠ d && (sget (fun _ => Drive.absent) r.drives k).state = 4)
    let legal := if others then [] else
      (List.range ((r.legalNext + 2 ^ 20 - 1) / 2 ^ 20 - freed / 2 ^ 20)).map (fun k => (⟨1, freed / 2 ^ 20 + k, false⟩ : Hole))
    (rolling ++ inc).filter (fun h => g.holeDrive h = some d) ++ legal

/-! Status words and snapshot. -/

/-- A drive of a plane. -/
def Plane.drive (p : Plane) (d : Nat) : Drive := sget (fun _ => Drive.absent) p.rick.drives d

/-- A drive of a plane changed. -/
def Plane.onDrive (p : Plane) (d : Nat) (g : Drive → Drive) : Plane :=
  p.onRick (fun r => { r with drives := supd (fun _ => Drive.absent) r.drives d g })

/-- Journal status word `k` of a plane (R383). -/
def Plane.journalWord (p : Plane) (k : Nat) : Nat :=
  let sat := fun (w v : Nat) => min v (2 ^ w - 1)
  if k = 0 then p.rick.conds
  else if k = 1 then sat 32 p.rick.holes.length
  else if k = 2 then sat 32 p.rick.atRisk
  else if 4 ≤ k ∧ k < 12 then
    let d := p.drive ((k - 4) / 2)
    if k % 2 = 0 then d.state * 2 ^ 28 + d.used % 256 * 2 ^ 16 + d.temp % 256 * 2 ^ 8 + sat 8 d.errors else sat 32 d.mirrored
  else 0

/-- WRITE_STALL (R383): a closed chunk is neither on its drive nor a hole 2 s after its last record. -/
def Plane.showStall (p : Plane) : Plane :=
  p.onRick (fun r => r.setCond 27 (r.chunks.any (fun c => !c.written && decide (c.lastTs + 2 * 10 ^ 9 < p.st.ts) &&
    !r.holes.any (fun h => h.tier = 3 && h.pos = c.cseq))))

/-- How far a drive of the set can hold the LEGAL region: up to the last record, and as far as the region reaches in front of its oldest
extent (R367). -/
def Plane.legalMost (p : Plane) : Nat := min p.rick.legalNext (p.regs.rd64 RICK_LEGAL_FREED_LO + p.rick.geom.elim 0 Geom.legalBytes)

/-- LEGAL bytes on every ONLINE drive of the set (R369); without one nothing more becomes durable. -/
def Plane.showDurable (p : Plane) : Plane :=
  let on := (List.range 4).filter (fun d => (p.drive d).state = 4)
  match on with
  | [] => p
  | d :: ds =>
    let m := ds.foldl (fun n k => min n (p.drive k).legalDone) (p.drive d).legalDone
    let p := p.onRick (fun r => { r with durable := max r.durable (min m r.legalNext) })
    p.showHead

end Sys2Proof
end

