-- ==== Sys2Proof/Machine/Faults.lean ====
section
/-!
DEFINITION. Faults and what they do, as shared operations: Flue's records (R427-R432), a plane's declared fault, takeover
(R415, R416), failed rejoin attempts (R419, R423), the consequences for a turn (R89), SAFE entry (R436-R440).
-/

namespace Sys2Proof

/-- Classes of Eaves's own sources 0-15 (R429). -/
def flueEavesClass (i : Nat) : Nat :=
  if i = 1 ∨ i = 3 ∨ i = 5 ∨ i = 7 ∨ i = 8 ∨ i = 11 ∨ i = 15 then 0 else 2

/-- Classes of a plane's sources by offset (R429); none for a reserved offset. -/
def fluePlaneClass (o : Nat) : Option Nat :=
  if o = 3 ∨ o = 5 ∨ o = 12 ∨ o = 19 ∨ o = 20 ∨ (22 ≤ o ∧ o ≤ 27) then some 0
  else if o ≤ 21 then some 1
  else if 32 ≤ o ∧ o ≤ 41 then some 3
  else none

/-- The class of a source, none where the index is not implemented (R428, R429). -/
def flueClass (i : Nat) : Option Nat :=
  if i < 16 then some (flueEavesClass i)
  else if 64 ≤ i ∧ i < 128 then fluePlaneClass (i - 64)
  else if 128 ≤ i ∧ i < 192 then fluePlaneClass (i - 128)
  else if 256 ≤ i ∧ i ≤ 387 then some 0
  else none

/-- Flue index of a plane's source (R429). -/
def planeSrc (p : PlaneId) (o : Nat) : Nat := match p with | .A => 64 + o | .B => 128 + o

/-- The plane that a plane source names. -/
def srcPlane (i : Nat) : PlaneId := if i < 128 then .A else .B

/-- Flue's record of a source. -/
def Eaves.src (e : Eaves) (i : Nat) : FlueSrc := sget (fun _ => FlueSrc.clean) e.flue i

/-- Flue's record of a source changed. -/
def Eaves.onSrc (e : Eaves) (i : Nat) (g : FlueSrc → FlueSrc) : Eaves :=
  { e with flue := supd (fun _ => FlueSrc.clean) e.flue i g }

/-- What an occurrence leaves in the record (R430): COUNT saturates at 16 bits, FIRST is taken when CAUSE sets; `live` says that
the source stays in fault. -/
def FlueSrc.occur (s : FlueSrc) (now : Nat) (rail live : Bool) : FlueSrc :=
  { live := live, cause := true, rail := s.rail || rail, count := satAdd 16 s.count 1,
    first := if s.cause then s.first else now, last := now }

/-- CTRL ROLE with the roles as they stand (R425). -/
def Eaves.ctrlRoleNow (e : Eaves) (cause source : Nat) : Eaves :=
  e.ctrl 256 (ctrlRole e.roleA.code e.roleB.code cause source)

/-- The plane stops taking the stream and sending: nothing that it has made and not sent leaves it (R16). -/
def Plane.halt (p : Plane) : Plane :=
  { p with st := { p.st with takes := false, fill := false, sends := false, inbox := [], up := [], accs := [], sent := [], jobs := [] },
           host := { p.host with out := [], direct := [], receipts := [], asks := [], admitted := [] } }

/-- An attempt of a plane fails at a stage (R419, R423): everything copied is discarded, the plane is OFFLINE, and held after
three failures within 600 s. The ROLE shingle's `info` carries what the planes read of PLANE_x_STAT with it: plane, stage,
failures, held (log entry 20). -/
def Machine.Field.failAttempt (f : Machine.Field) (p : PlaneId) (stage : Nat) : Machine.Field :=
  let e := f.e
  let fails := (e.counter :: (e.rj p).fails).filter (fun t => e.counter < t + 600 * 10 ^ 9)
  let held := decide (3 ≤ fails.length)
  let e := e.setRole p .offline
  let e := e.onRj p (fun r => { r with fails := fails, offAt := e.counter, level := false })
  let e := e.onRegs (fun m => ((m.set 0 ⟨planeStat p, 27, 24⟩ stage).set 0 ⟨planeStat p, 31, 28⟩ (if held then 6 else 0)).inc
    PLANE_REJOIN_FAIL_CNT)
  let sh := Shingle.mk0 .ctrl e.counter 256 0 (ctrlRole e.roleA.code e.roleB.code 7 0xFFFF)
  let info := leBytes 1 p.num ++ leBytes 1 stage ++ leBytes 1 fails.length ++ leBytes 1 (if held then 1 else 0)
  let e := e.place { sh with info := info }
  let f := { f with e := e, copy := none }
  f.onPlane p Plane.halt

/-- Rejoin attempts that run fail, since the leading plane or the modes in which they may run are gone (R419, R424). -/
def Machine.Field.failAttempts (f : Machine.Field) : Machine.Field :=
  [PlaneId.A, .B].foldl (fun f p =>
    if f.e.role p = .rejoining then f.failAttempt p (f.e.regs.get 0 ⟨planeStat p, 31, 28⟩) else f) f

/-- TRUSS_TURN_STAT.PHASE, the same in both planes (R93). -/
def Machine.Field.phase (f : Machine.Field) : Nat := f.lead.regs.get 0 TRUSS_TURN_STAT_PHASE

/-- A change of PHASE in both planes, with EVENT TURN_PHASE (R92). -/
def Machine.Field.setPhase (f : Machine.Field) (ph newVer : Nat) : Machine.Field :=
  if f.phase = ph then f
  else
    (f.onBoth (·.onRegs (·.set 0 TRUSS_TURN_STAT_PHASE ph))).onRunning
      (·.event 0x0302 noId noId (leBytes 1 ph ++ leBytes 3 0 ++ leBytes 4 newVer))

/-- RESULT and DETAIL of a turn set in both planes, with EVENT TURN_RESULT (R92) and, at a turn's end, the LEGAL TRUSS record
(R359); `vers` are the VERSIONs that the turn leaves and goes to. -/
def Machine.Field.setResult (f : Machine.Field) (result detail : Nat) (vers : Nat × Nat) : Machine.Field :=
  let both := leBytes 4 vers.1 ++ leBytes 4 vers.2
  (f.onBoth (·.onRegs (fun m => (m.set 0 TRUSS_TURN_STAT_RESULT result).set 0 TRUSS_TURN_STAT_DETAIL detail))).onRunning
    (fun p =>
      let p := if result = 7 then p else p.legalEvent 0x0004 (both ++ leBytes 1 1 ++ leBytes 1 result ++ leBytes 6 0)
      p.event 0x0303 noId noId (leBytes 1 result ++ leBytes 1 detail ++ leBytes 2 0 ++ both ++
        leBytes 4 (p.regs.rd TRUSS_CUT_DROP).toNat))

/-- VERSION of the truss in the other slot. -/
def Machine.Field.otherVer (f : Machine.Field) : Nat := f.lead.nv.slotRec.otherVer

/-- The turn ends with a result (R89, R92). -/
def Machine.Field.endTurn (f : Machine.Field) (result detail : Nat) : Machine.Field :=
  let vers := (f.turn.oldVer, f.turn.newVer)
  let f := { ((f.setResult result detail vers).setPhase 0 vers.2) with turn := Turn.idle }
  f.onE (fun e => { e with
    sel := { e.sel with recording := false, passed := [] }
    merger := { e.merger with sched := e.merger.sched.filter (fun x => x.item ≠ .cut) } })

/-- Every slot, Ethernet and T1S transmitter goes silent, and a frame in progress is cut (R437 step 2). A cut frame stays in its
mailbox. -/
def Eaves.cutTx (e : Eaves) : Eaves :=
  let e := (List.range 128).foldl (fun e n =>
    if e.regs.get (slotBase n) SLOT_STAT_TX_ACTIVE = 1 then e.slSet n SLOT_STAT_TX_ACTIVE 0 else e) e
  { e with
    slots := smap (fun _ => Slot.init) (fun x =>
      { x with can := { x.can with tx := x.can.tx.map (fun t => { t with committed := false }) } }) e.slots
    eths := smap (fun _ => EthSt.init) (fun x => { x with sending := none }) e.eths }

/-- SAFE entry as far as Eaves makes it at once (R437 steps 1 and 2, R436, R440). The device does not enter SAFE from EMBER, nor
from step 6 of EMBER or OFF entry on (R445, R457): there a DEVICE-class fault waits for the next KINDLING to tell of it. Entries before step 6
stop where they are. -/
def Machine.Field.enterSafe (f : Machine.Field) (reason source : Nat) : Machine.Field :=
  let e := f.e
  let late := decide ((e.seqr.kind = .ember ∨ e.seqr.kind = .off) ∧ 6 ≤ e.seqr.step)
  if e.mode = .safe ∨ e.seqr.off = true then f
  else if e.mode = .ember ∨ late = true then
    (if reason = 2 then f else f.onE (·.onSeq (fun q => { q with late := q.late ++ [source] })))
  else
    let f := (if f.phase = 0 then f else f.endTurn 6 0).failAttempts
    let e := f.e.cutTx
    let n := e.regs.get 0 BBR_SAFE_IDX_COUNT
    let sec := e.calSec
    let oldest := if 4 ≤ n then e.regs.rd64 (BBR_SAFE_LO 1) else e.regs.rd64 (BBR_SAFE_LO 0)
    let m := e.regs
    let m := if 4 ≤ n then
        (((m.wr64 (BBR_SAFE_LO 0) (m.rd64 (BBR_SAFE_LO 1))).wr64 (BBR_SAFE_LO 1) (m.rd64 (BBR_SAFE_LO 2))).wr64
          (BBR_SAFE_LO 2) (m.rd64 (BBR_SAFE_LO 3))).wr64 (BBR_SAFE_LO 3) sec
      else (m.wr64 (BBR_SAFE_LO n) sec).set 0 BBR_SAFE_IDX_COUNT (n + 1)
    let limit := decide (3 ≤ n ∧ sec ≤ oldest + 3600)
    let m := (if limit then m.set 0 BBR_SAFE_IDX_LIMIT 1 else m).set 0 BBR_FORMAT_FORMAT 1
    let holds := if limit then e.seqr.holds ||| 8 else e.seqr.holds
    let m := (((m.inc FLUE_SAFE_CNT).set 0 FLUE_LAST_SAFE_REASON reason).set 0 FLUE_LAST_SAFE_SOURCE source).set 0
      FLUE_LAST_SAFE_HOLDS holds
    let m := (m.wr64 FLUE_LAST_SAFE_TS_LO e.counter).wr TIME_SLEW 0
    { f with e := { e with
        regs := m
        mode := .safe
        merger := { e.merger with stopped := true, waiting := [] }
        seqr := { e.seqr with
          kind := .idle, step := 0, safeN := false, safeAt := e.counter, holdClearAt := e.counter,
          holds := holds, safeDone := false, afterSafe := true, sEnd := e.merger.stream } } }

/-- A SAFE hold condition begins to stand (R439). -/
def Eaves.setHold (e : Eaves) (h : Nat) : Eaves :=
  let holds := e.seqr.holds ||| 2 ^ (h - 1)
  { e with
    seqr := { e.seqr with holds := holds }
    regs := e.regs.set 0 FLUE_LAST_SAFE_HOLDS (e.regs.get 0 FLUE_LAST_SAFE_HOLDS ||| 2 ^ (h - 1)) }

/-- A SAFE hold condition clears (R439). -/
def Eaves.clearHold (e : Eaves) (h : Nat) : Eaves :=
  if bit e.seqr.holds (h - 1) then
    { e with seqr := { e.seqr with holds := e.seqr.holds ^^^ 2 ^ (h - 1), holdClearAt := e.counter } }
  else e

/-- The next output sequence that the selector passes for a port (R40). -/
def Selector.nextOf (s : Selector) (port : Nat) : Nat := sget (fun _ => 0) s.next port

/-- Whether the selector takes nothing more of a cause for a port (R88, R89): the port has passed to the new-truss plane and the cause comes
before its cut, or the old plane's candidates of that cause have passed. -/
def Selector.skips (s : Selector) (port cause : Nat) : Bool :=
  (s.gone.contains port && decide (cause < s.cut)) || (!s.recording && s.passed.contains (port, cause))

/-- A candidate passed to the transmit stage (R40): the port's next sequence moves on and, during a turn, the old plane's cause is
recorded (R88). -/
def Eaves.passCand (e : Eaves) (c : Cand) : Eaves :=
  { e with
    stage := e.stage ++ [c]
    sel := { e.sel with
      next := sput (fun _ => 0) e.sel.next c.port ((c.oseq + 1) % 2 ^ 32)
      passed := if e.sel.recording && !c.newTruss then e.sel.passed ++ [(c.port, c.cause)] else e.sel.passed } }

/-- After a change of leader each port resumes at the first output sequence it has not passed, from the hold buffer (R416). -/
def Eaves.passHeld (e : Eaves) : Eaves :=
  let held := e.sel.hold
  let e := { e with sel := { e.sel with hold := [] } }
  held.foldl (fun e c =>
    if c.oseq = e.sel.nextOf c.port then e.passCand c
    else if serialLe 32 c.oseq (e.sel.nextOf c.port) then e
    else { e with sel := { e.sel with hold := e.sel.hold ++ [c] } }) e

/-- A plane's generation as Eaves shows it (R410). -/
def Eaves.pgen (e : Eaves) (p : PlaneId) : Nat := e.regs.get 0 ⟨planeStat p, 15, 0⟩

/-- Work that Eaves holds for a plane that is out of service (R411): its candidates and admission requests are discarded;
the other plane's messages that wait for it are admitted on its request alone (R38, R298). -/
def Eaves.dropPlane (e : Eaves) (p : PlaneId) : Eaves :=
  let keep := e.merger.reqs.map (fun r => match p with
    | .A => { r with fromA := false }
    | .B => { r with fromB := false })
  let ready := keep.filter (fun r => r.fromA || r.fromB)
  let e := { e with
    sel := { e.sel with hold := e.sel.hold.filter (fun c => c.src ≠ p), window := none },
    merger := { e.merger with reqs := [] } }
  ready.foldl (fun e r => e.schedule 2 (if r.epDown then .epRestart r.hdr.ep else .host r.hdr)) e


/-- A plane that runs alone from now on asks for the messages that it holds (R38, R298, R418). -/
def Plane.askHeld (p : Plane) : Plane :=
  let mine := p.host.held.filter (fun x => x.copy.isSome && !x.asked)
  { p with host := { p.host with
      asks := p.host.asks ++ mine.map (fun x => (x.hdr, false))
      held := p.host.held.map (fun x => if x.copy.isSome then { x with asked := true } else x) } }

/-- Whether digest comparison runs (R413): DIGEST_COMPARE is set and both planes run one truss. -/
def Machine.Field.compares (f : Machine.Field) : Bool :=
  f.e.roleA.running && f.e.roleB.running && bit f.a.truss.flags 0 && f.a.truss.version = f.b.truss.version

/-- A digest window that runs when the leading plane declares a fault is counted and blamed on no one (R414). -/
def Eaves.windowLeadFault (e : Eaves) : Eaves :=
  match e.sel.window with
  | some _ => e.onRegs (·.inc PLANE_DISCREP_CNT)
  | none => e

/-- Takeover (R416): the other plane leads. -/
def Machine.Field.takeover (f : Machine.Field) (p : PlaneId) (src : Nat) : Machine.Field :=
  let e := f.e.windowLeadFault
  let e := e.dropPlane p
  let e := (e.setRole p .offline).setRole p.other .leading
  let e := e.onRj p (fun r => { r with offAt := e.counter })
  let e := e.onRegs (fun m => (m.inc PLANE_TAKEOVER_CNT).wr64 PLANE_LAST_TAKEOVER_LO e.counter)
  let e := e.passHeld
  let e := e.ctrlRoleNow 1 src
  ({ (f.onPlane p Plane.halt) with e := e }).onPlane p.other Plane.askHeld

/-! Flash (R68). -/

/-- A byte of a flash slot; an erased byte reads 0xFF. -/
def FlashSlot.byte (s : FlashSlot) (k : Nat) : Byte := sget (fun _ => (0xFF : Byte)) s.mem k

/-- The bytes from `off` on. -/
def FlashSlot.bytes (s : FlashSlot) (off n : Nat) : List Byte := (List.range n).map (fun i => s.byte (off + i))

/-- Bytes programmed at an offset; a later copy overwrites an earlier one (R75). -/
def FlashSlot.program (s : FlashSlot) (off : Nat) (bs : List Byte) : FlashSlot :=
  { mem := (bs.zipIdx).foldl (fun m b => sput (fun _ => (0xFF : Byte)) m (off + b.2) b.1) s.mem,
    got := s.got ++ [(off, off + bs.length)] }

/-- How far the received ranges reach without a gap from `n`, in at most `fuel` ranges. -/
def contigFrom (got : List (Nat × Nat)) : Nat → Nat → Nat
  | 0, n => n
  | fuel + 1, n =>
    match got.find? (fun r => r.1 ≤ n ∧ n < r.2) with
    | some r => contigFrom got fuel r.2
    | none => n

/-- Contiguous bytes held from offset 0 (TRUSS_STAGE_BYTES). -/
def FlashSlot.held (s : FlashSlot) : Nat := contigFrom s.got s.got.length 0

/-- An erased slot. -/
def FlashSlot.erased : FlashSlot := ⟨[], []⟩

/-- The flash slot at an index. -/
def PNonVol.flash (n : PNonVol) (i : Nat) : FlashSlot := if i = 0 then n.flash0 else n.flash1

/-- The flash slot at an index set. -/
def PNonVol.setFlash (n : PNonVol) (i : Nat) (s : FlashSlot) : PNonVol :=
  if i = 0 then { n with flash0 := s } else { n with flash1 := s }

/-- The ACTIVE slot's image. -/
def PNonVol.activeFlash (n : PNonVol) : FlashSlot := n.flash n.slotRec.active
/-- The other slot's image. -/
def PNonVol.otherFlash (n : PNonVol) : FlashSlot := n.flash (1 - n.slotRec.active)

/-! What a port that passes to the new-truss plane takes over (R88, R89). -/

/-- The next output sequence of an endpoint's stream at the half (R41, R297). -/
def HostDie.nextOf (h : HostDie) (ep cls : Nat) : Nat := sget (fun _ => 0) h.next (2 * ep + streamOf cls)

/-- A response takes its request off the half's list (R282). -/
def HostDie.untrack (h : HostDie) (m : RMsg) : HostDie :=
  { h with tracked := h.tracked.filter (fun t => ¬ (t.ep = m.ep ∧ t.tenant = m.tenant ∧ t.tag = m.tag)) }

/-- A message passed towards its host; a response to a proxy command that has timed out is discarded (R299). -/
def HostDie.passMsg (h : HostDie) (m : RMsg) : HostDie :=
  let h := { h with next := sput (fun _ => 0) h.next (2 * m.ep + streamOf m.cls) ((m.seq + 1) % 2 ^ 32) }
  let h := if m.cls = 6 then h else h.untrack m
  if h.proxyOld.contains (m.ep, m.tag) then { h with proxyOld := h.proxyOld.filter (· ≠ (m.ep, m.tag)) }
  else { h with toHost := h.toHost ++ [m] }

/-- The output sequence with which a plane goes on at the selector for a port. -/
def Plane.nextCand (q : Plane) (port : Nat) : Nat :=
  (q.st.up.find? (fun c => c.port = port)).elim (sget (fun _ => 0) q.st.outSeq port) (·.oseq)

/-- The output sequence with which a plane goes on at a half for an endpoint's bulk stream. -/
def Plane.nextBulk (q : Plane) (ep : Nat) : Nat :=
  (q.host.out.find? (fun m => m.ep = ep && streamOf m.cls = 1)).elim (sget (fun _ => 0) q.host.outSeq (2 * q.primary ep + 1)) (·.seq)

/-- A port of Eaves goes on with plane `q`: its held candidates pass in output order, but for what the selector skips. -/
def Eaves.passTo (e : Eaves) (q : Plane) (port : Nat) : Eaves :=
  let mine := e.sel.hold.filter (fun c => c.port = port && c.src = q.st.me && !e.sel.skips port c.cause)
  let e := mine.foldl Eaves.passCand { e with sel := { e.sel with hold := e.sel.hold.filter (fun c => c.port ≠ port) } }
  { e with sel := { e.sel with next := sput (fun _ => 0) e.sel.next port (q.nextCand port) } }

/-- Whether what a half holds is plane `p`'s, of an endpoint's bulk stream. -/
def heldBulk (p : PlaneId) (ep : Nat) (x : Nat × RMsg) : Bool := x.1 = pairNo (halfOf ep) p && x.2.ep = ep && streamOf x.2.cls = 1

/-- An endpoint's bulk stream goes on with plane `q` in the same way (R41). -/
def HostDie.passTo (h : HostDie) (s : Selector) (q : Plane) (ep : Nat) : HostDie :=
  let mine := h.hold.filter (fun x => heldBulk q.st.me ep x && !s.skips (168 + ep) x.2.cause)
  let h := mine.foldl (fun h x => h.passMsg x.2) { h with hold := h.hold.filter (fun x => !heldBulk q.st.me ep x) }
  { h with next := sput (fun _ => 0) h.next (2 * ep + 1) (q.nextBulk ep) }

/-- An egress port goes on with plane `p`: at the selector, or for an endpoint at its half. -/
def Machine.Field.passTo (f : Machine.Field) (p : PlaneId) (port : Nat) : Machine.Field :=
  if 168 ≤ port then f.onH (fun h => h.passTo f.e.sel (f.plane p) (port - 168)) else f.onE (·.passTo (f.plane p) port)

/-- Egress ports that pass to the new-truss plane (R88). -/
def drainPorts : List Nat := List.range 176

/-- What the selector and the halves hold of plane `p` and do not send, of causes that the old plane had sent in part (R89). -/
def Machine.Field.partly (f : Machine.Field) (p : PlaneId) : Nat :=
  f.e.sel.passed.dedup.foldl (fun n k =>
    let held := (f.e.sel.hold.filter (fun c => c.src = p && (c.port, c.cause) = k)).length +
      (f.h.hold.filter (fun x => heldBulk p x.2.ep x && (168 + x.2.ep, x.2.cause) = k)).length
    n + (held - f.e.sel.passed.count k)) 0

/-- The TRUSS registers that show the slot record (R93). -/
def Plane.showTruss (p : Plane) : Plane :=
  let r := p.nv.slotRec
  p.onRegs (fun m =>
    let m := (m.wr TRUSS_ACTIVE_VER (BitVec.ofNat 32 r.activeVer)).wr TRUSS_OTHER_VER (BitVec.ofNat 32 r.otherVer)
    let m := (m.wr TRUSS_FLOOR (BitVec.ofNat 32 p.nv.floor)).set 0 TRUSS_STAGE_STAT_STATE r.otherState
    let m := (m.set 0 TRUSS_STAGE_STAT_ERROR r.otherErr).set 0 TRUSS_STAGE_STAT_ACTIVE_INDEX r.active
    m.wr TRUSS_STAGE_BYTES (BitVec.ofNat 32 (if r.otherState = 0 then 0 else p.nv.otherFlash.held)))

/-- The slot record changed, with EVENT STAGE where the other slot's state changes (R92). -/
def Plane.setSlots (p : Plane) (r : SlotRec) : Plane :=
  let old := p.nv.slotRec.otherState
  let p := ({ p with nv := { p.nv with slotRec := r } } : Plane).showTruss
  if old = r.otherState then p
  else p.event 0x0301 noId noId (leBytes 1 old ++ leBytes 1 r.otherState ++ leBytes 1 r.otherErr ++ leBytes 1 0 ++
    leBytes 4 (p.regs.rd TRUSS_STAGE_BYTES).toNat ++ leBytes 4 r.otherVer)

/-- The other slot's state changed. -/
def Plane.setOther (p : Plane) (st err ver : Nat) : Plane :=
  p.setSlots { p.nv.slotRec with otherState := st, otherErr := err, otherVer := ver }

/-- The truss that the planes are turning to becomes ACTIVE in a plane's slot record (R87), and the one left PREVIOUS. -/
def Plane.activateOther (p : Plane) : Plane :=
  let r := p.nv.slotRec
  p.setSlots ⟨1 - r.active, r.otherVer, 4, 0, r.activeVer⟩

/-- A new-truss plane goes on alone or leads: recovery functions are reset, and generation functions start again at 0 (R186). -/
def Plane.dropRecovery (p : Plane) : Plane :=
  p.onFwd (fun f => { f with
    postCut := true, cbs := smap (fun _ => CbSt.init) (fun c => if c.taken then c.reset else { c with seq := 0 }) f.cbs })

/-- Early cut (R89): the old leader faults while ARMED. Each port passes to the new-truss plane, with the cut at the old plane's last reported
oldest cause: held candidates are passed unless their cause is recorded as passed; the rest of a cause that was passed in part is counted in
TRUSS_EARLY_CUT_LOSS. The banks change with the next TICK (log entry 80). -/
def Machine.Field.earlyCut (f : Machine.Field) (p : PlaneId) (src : Nat) : Machine.Field :=
  let n := p.other
  let vers := (f.turn.oldVer, f.turn.newVer)
  let lost := f.partly n
  let e := f.e.dropPlane p
  let e := { e with sel := { e.sel with recording := false, gone := drainPorts, cut := f.turn.oldest } }
  let e := (e.setRole p .offline).setRole n .leading
  let e := e.onRj p (fun r => { r with offAt := e.counter })
  let e := e.onRegs (fun m => (m.inc PLANE_TAKEOVER_CNT).wr64 PLANE_LAST_TAKEOVER_LO e.counter)
  let f := drainPorts.foldl (fun f port => f.passTo n port) { f with e := e }
  let f := f.onE (fun e => (e.ctrlRoleNow 1 src).schedule 1 .banks)
  let f := (f.onBoth (·.activateOther)).onPlane p Plane.halt
  let f := f.onPlane n (fun q =>
    ((({ q with st := { q.st with newT := false } } : Plane).dropRecovery).askHeld).onRegs (·.addCnt TRUSS_EARLY_CUT_LOSS lost))
  { ((f.setResult 5 0 vers).setPhase 0 vers.2) with turn := Turn.idle }

/-- A leading plane faults while the ports drain to the new-truss plane (R89): the undrained ports pass at once, with what the selector holds
of pre-cut causes that have not passed, and the device waits for the old plane to rejoin. -/
def Machine.Field.drainFault (f : Machine.Field) (p : PlaneId) (src : Nat) : Machine.Field :=
  let n := p.other
  let left := drainPorts.filter (fun port => !f.turn.drained.contains port)
  let f := f.onE (fun e => { e with sel := { e.sel with recording := false } })
  let f := left.foldl (fun f port => f.passTo n port) f
  let f := (f.takeover p src).onPlane n (fun q => { q with st := { q.st with newT := false } })
  f.setPhase 6 f.turn.newVer

/-- A plane declares itself faulty (R407, R415, R89). -/
def Machine.Field.declareFault (f : Machine.Field) (p : PlaneId) (src : Nat) : Machine.Field :=
  match f.e.role p with
  | .offline =>
    if f.e.mode = .kindling then
      (f.onE (fun e =>
        let e := { e with seqr := match p with
          | .A => { e.seqr with failA := true }
          | .B => { e.seqr with failB := true } }
        e.onRj p (fun r => { r with offAt := e.counter }))).onPlane p Plane.halt
    else f
  | .leading =>
    if f.e.role p.other = .shadow then
      if f.phase = 4 then f.earlyCut p src
      else if f.phase = 5 then f.drainFault p src
      else f.takeover p src
    else f.enterSafe 2 src
  | .shadow =>
    if f.phase = 5 then f.enterSafe 2 src
    else
      let f := if f.phase = 4 then f.endTurn 4 0 else f
      let e := (f.e.dropPlane p).setRole p .offline
      let e := e.onRj p (fun r => { r with offAt := e.counter })
      ({ (f.onPlane p Plane.halt) with e := e.ctrlRoleNow 2 src }).onPlane p.other Plane.askHeld
  | .rejoining =>
    let f := if f.turn.newPlane = some p ∧ f.phase ≠ 0 then f.endTurn 4 0 else f
    f.failAttempt p (f.e.regs.get 0 ⟨planeStat p, 31, 28⟩)

/-- CTRL NOTICE of KIND FAULT (R543). -/
def Eaves.noticeFault (e : Eaves) (i cls : Nat) : Eaves :=
  e.ctrl 256 (ctrlNotice 1 (i + cls * 2 ^ 16 + (srcPlane i).num * 2 ^ 24) (e.src i).count 0 0)

/-- A RECORD source of a condition sets that condition in the plane's journal status words, which the next snapshot shows to both planes
(R360, R428); a drive's state and a hole show there by themselves (log entry 117). -/
def Plane.recordCond (p : Plane) (i : Nat) : Plane :=
  let o := i % 64
  if 32 ≤ o ∧ o ≤ 36 then p.onRick (·.setCond (63 - o) true) else p

/-- The effect of an occurrence by its class (R428, R433). -/
def Machine.Field.flueEffect (f : Machine.Field) (i : Nat) : Machine.Field :=
  match flueClass i with
  | some 1 => (f.declareFault (srcPlane i) i).onE (·.noticeFault i 1)
  | some 2 => f.enterSafe (if i = 0 then 3 else 1) i
  | some 3 => f.onPlane (srcPlane i) (·.recordCond i)
  | _ => f

/-- A source goes to fault or rail fault (R427, R430). A source that is already LIVE makes no new occurrence, and a rail fault of it only sets
RAIL; an index that is not implemented does not exist. `stays` says that the fault lasts until FAULT_SOURCE_CLEAR. -/
def Machine.Field.raise (f : Machine.Field) (i : Nat) (rail stays : Bool) : Machine.Field :=
  if (flueClass i).isNone then f
  else if (f.e.src i).live then f.onE (·.onSrc i (fun s => { s with rail := s.rail || rail }))
  else (f.onE (fun e => e.onSrc i (·.occur e.counter rail stays))).flueEffect i

/-- An INFO occurrence that is over at once. -/
def Eaves.info (e : Eaves) (i : Nat) : Eaves := e.onSrc i (fun s => if s.live then s else s.occur e.counter false false)

/-- Ordinary occurrence of a plane's source that stays until the plane's self-test passes. -/
def Machine.Field.raisePlane (f : Machine.Field) (p : PlaneId) (o : Nat) : Machine.Field := f.raise (planeSrc p o) false true

/-- A source returns to no fault. -/
def Eaves.clearLive (e : Eaves) (i : Nat) : Eaves := e.onSrc i (fun s => { s with live := false })

end Sys2Proof
end

