-- ==== Sys2Proof/Machine/HostOps.lean ====
section
/-!
DEFINITION. The Ridge as shared operations: BAR0 registers (R307), credits (R293, R294), the receive checks (R285), message
sequences (R296), completion queues (R295), the halves' selection of the leading plane's copy (R297).
-/

namespace Sys2Proof

/-! BAR0 registers of the host die. -/

/-- Register `off` of endpoint `ep`. -/
def HostDie.rd (h : HostDie) (ep off : Nat) : Word := sget resetBar h.regs (barBase ep + off)

/-- Register `off` of endpoint `ep` set. -/
def HostDie.wr (h : HostDie) (ep off : Nat) (v : Word) : HostDie :=
  { h with regs := sput resetBar h.regs (barBase ep + off) v }

/-- A field of endpoint `ep`. -/
def HostDie.get (h : HostDie) (ep : Nat) (f : Fld) : Nat := f.get (h.rd ep f.reg)

/-- A field of endpoint `ep` set. -/
def HostDie.set (h : HostDie) (ep : Nat) (f : Fld) (v : Nat) : HostDie := h.wr ep f.reg (f.set (h.rd ep f.reg) v)

/-- A counter register of endpoint `ep` counts one (R52). -/
def HostDie.inc (h : HostDie) (ep off : Nat) : HostDie :=
  h.wr ep off (BitVec.ofNat 32 (satAdd 32 (h.rd ep off).toNat 1))

/-- Whether a half runs. -/
def HostDie.halfRun (h : HostDie) : HalfId → Bool
  | .HA => h.running && h.haRun
  | .HB => h.running && h.hbRun

/-- Whether a lane pair is trained. -/
def HostDie.pairUp (h : HostDie) (half : HalfId) (p : PlaneId) : Bool := sget (fun _ => false) h.pairs (pairNo half p)

/-- The endpoints of a half. -/
def halfEps : HalfId → List Nat
  | .HA => [0, 1, 2, 3]
  | .HB => [4, 5, 6, 7]

/-- A change to every endpoint of a half. -/
def HostDie.onEps (h : HostDie) (half : HalfId) (g : HostDie → Nat → HostDie) : HostDie := (halfEps half).foldl g h

/-- The last HEARTBEAT of a plane at a half; a pair that has had none shows KINDLING and OFFLINE. -/
def HostDie.hbOf (h : HostDie) (half : HalfId) (p : PlaneId) : HbSeen :=
  sget (fun _ => HbSeen.none) h.hb (pairNo half p)

/-- An endpoint exists under the straps: the b endpoints only where the half is bifurcated (R25, R279). -/
def HostDie.epExists (h : HostDie) (ep : Nat) : Bool :=
  ep % 2 = 0 || bit h.straps (halfOf ep).num

/-- The UP conditions of R281 at the half: DL_Active and ENABLE, on a half that runs. -/
def HostDie.epReady (h : HostDie) (ep : Nat) : Bool :=
  h.halfRun (halfOf ep) && h.epExists ep && sget (fun _ => false) h.dl ep && h.get ep EP_CTL_ENABLE = 1

/-- The ENDPOINTS byte of a half's HEARTBEAT (R290). -/
def HostDie.epBits (h : HostDie) (half : HalfId) : Nat :=
  (halfEps half).foldl (fun n ep => if h.epReady ep then n + 2 ^ ep else n) 0

/-- The registers of an endpoint cleared in its PORT domain, ENABLE kept (R307); EP_ID, the pairs and what the planes'
HEARTBEATs show stay. -/
def HostDie.clearEp (h : HostDie) (ep : Nat) : HostDie :=
  let keep := fun k => k - barBase ep
  let h := { h with regs := sclear (fun k => decide (barBase ep ≤ k ∧ k < barBase (ep + 1) ∧ keep k ≠ EP_CTL ∧ keep k ≠ 0 ∧
    keep k ≠ EP_STAT ∧ keep k ≠ EP_DGEN)) h.regs }
  let h := h.set ep EP_STAT_UP 0
  { h with
    qps := sclear (fun k => decide (k / 256 = ep)) h.qps
    proxies := sclear (fun k => decide (k / 4 = ep)) h.proxies
    bulkOut := sclear (fun k => decide (k / 4 = ep)) h.bulkOut
    waiting := h.waiting.filter (fun m => m.ep ≠ ep)
    resHi := sclear (fun k => decide (k / 4 = ep)) h.resHi
    tracked := h.tracked.filter (fun t => t.ep ≠ ep)
    toHost := h.toHost.filter (fun m => m.ep ≠ ep)
    hold := h.hold.filter (fun m => m.2.ep ≠ ep)
    toDev := h.toDev.filter (fun m => m.2.ep ≠ ep)
    proxyOld := h.proxyOld.filter (fun t => t.1 ≠ ep) }

/-! Credits (R293, R294). -/

/-- What a message costs. -/
def creditCost (len : Nat) : Nat := (20 + len + 255) / 256

/-- Whether a class draws on the bulk pool. -/
def isBulk (cls : Nat) : Bool := !(cls = 0 || cls = 1 || cls = 2 || cls = 3 || cls = 10)

/-- Credits in use by an endpoint's bulk classes, of a map keyed by base + 16 × endpoint + class. -/
def bulkUsed (used : List (Nat × Nat)) (base ep : Nat) : Nat :=
  ((List.range 16).filter isBulk).foldl (fun n c => n + sget (fun _ => 0) used (base + 16 * ep + c)) 0

/-- Whether a sender has credit for a message (R294): reserves of 64 for MGMT, 8 for MODE, 8 for the link; bulk classes within
the endpoint's share, none above half of it. -/
def creditOk (used : List (Nat × Nat)) (base ep cls cost share : Nat) : Bool :=
  let u := sget (fun _ => 0) used (base + 16 * ep + cls)
  if isBulk cls then decide (bulkUsed used base ep + cost ≤ share ∧ u + cost ≤ share / 2)
  else if cls = 0 ∨ cls = 1 then
    decide (sget (fun _ => 0) used (base + 16 * ep) + sget (fun _ => 0) used (base + 16 * ep + 1) + cost ≤ 8)
  else if cls = 10 then decide (u + cost ≤ 8)
  else decide (u + cost ≤ 64)

/-- Credits counted as used, owed or returned. -/
def creditAdd (m : List (Nat × Nat)) (key cost : Nat) : List (Nat × Nat) := supd (fun _ => 0) m key (· + cost)

/-- Credits taken back. -/
def creditSub (m : List (Nat × Nat)) (key cost : Nat) : List (Nat × Nat) := supd (fun _ => 0) m key (· - cost)

/-- Whether a credit key of one plane belongs to a half: its endpoints, or its link reserve. -/
def creditKeyOf (half : HalfId) (k : Nat) : Bool := (decide (k / 16 < 8) && halfOf (k / 16) = half) || k / 16 = 8 + half.num

/-- The key of a pair's link reserve for a class (R293, R294). -/
def linkKey (half : HalfId) (cls : Nat) : Nat := 16 * (8 + half.num) + cls

/-- A pair's trained state as the half and its endpoints show it. -/
def showPair (h : HostDie) (half : HalfId) (p : PlaneId) (up : Bool) : HostDie :=
  let h := { h with pairs := sput (fun _ => false) h.pairs (pairNo half p) up }
  h.onEps half (fun h ep => h.set ep (match p with | .A => EP_STAT_PAIR_A | .B => EP_STAT_PAIR_B) (if up then 1 else 0))

/-- A pair goes down at the half (R277): what was under way on it is lost, and its credits start afresh (log entry 99). -/
def HostDie.cutPair (h : HostDie) (half : HalfId) (p : PlaneId) : HostDie :=
  let mine := fun (k : Nat) => k / 256 = p.num && creditKeyOf half (k % 256)
  { showPair h half p false with
    toDev := h.toDev.filter (fun x => x.1 ≠ pairNo half p)
    hbFly := sclear (fun k => decide (k / 2 = pairNo half p)) h.hbFly
    credFly := sclear (fun k => decide (k / 2 = pairNo half p)) h.credFly
    used := sclear mine h.used
    owed := sclear mine h.owed }

/-- A pair goes down at the plane (R277). -/
def Plane.cutPair (p : Plane) (half : HalfId) : Plane :=
  { p with host := { p.host with used := sclear (creditKeyOf half) p.host.used, owed := sclear (creditKeyOf half) p.host.owed } }

/-- BULK_SHARE of an endpoint (R309). -/
def Plane.bulkShare (p : Plane) (ep : Nat) : Nat := (p.epRec ep).u 18 2

/-! Queue pairs. -/

/-- Queue-pair record `i` of the HOSTS section: TENANT, CLASSES, INDEX. -/
def Plane.qpRec (p : Plane) (i : Nat) : Rec := recAt p.hosts 272 8 i

/-- The queue-pair records of an endpoint. -/
def Plane.qpsOf (p : Plane) (ep : Nat) : List Rec :=
  let r := p.epRec ep
  (List.range (r.u 12 2)).map (fun i => p.qpRec (r.u 10 2 + i))

/-- The record of a tenant's queue pair on an endpoint. -/
def Plane.qpOf (p : Plane) (ep tenant : Nat) : Option Rec := (p.qpsOf ep).find? (fun r => r.u 0 2 = tenant)

/-- The half fills an endpoint's queue-pair contexts from the planes (R17, R278, R307). -/
def HostDie.fillContexts (h : HostDie) (p : Plane) (ep : Nat) : HostDie :=
  let h := h.set ep EP_QP_COUNT_COUNT (p.qpsOf ep).length
  let h := { h with proxyTenant := sput (fun _ => 0) h.proxyTenant ep ((p.epRec ep).u 6 2) }
  (p.qpsOf ep).foldl (fun h r =>
    h.wr ep (QP_INFO (r.u 4 1)) (BitVec.ofNat 32 (r.u 2 2 * 2 ^ 16 + r.u 0 2 % 4096))) h

/-- The ring state of a queue pair. -/
def HostDie.qp (h : HostDie) (ep q : Nat) : QpSt := sget (fun _ => QpSt.init) h.qps (256 * ep + q)

/-- A completion entry written (R295): PHASE inverts on each pass of the ring, and the queue pair's MSI-X vector is signalled (R280, R307). -/
def HostDie.pushCq (h : HostDie) (ep q : Nat) (c : CqEntry) : HostDie :=
  let st := h.qp ep q
  let size := h.get ep (QP_CQ_SIZE_ENTRIES q)
  let t := if st.cqTail + 1 < size then st.cqTail + 1 else 0
  let st := { st with cqTail := t, phase := if t = 0 then !st.phase else st.phase, lastCq := some c }
  { h with
    qps := sput (fun _ => QpSt.init) h.qps (256 * ep + q) st
    msix := supd (fun _ => 0) h.msix (64 * ep + h.get ep (QP_CTL_VECTOR q)) (· + 1) }

/-- The queue pair of a tenant, as the half's contexts show it. -/
def HostDie.qpOfTenant (h : HostDie) (ep tenant : Nat) : Option Nat :=
  findIdx (fun q => h.get ep (QP_INFO_TENANT q) = tenant) (h.get ep EP_QP_COUNT_COUNT)

/-! Headers and receipts. -/

/-- The receipt of a message (R36). -/
def RMsg.receipt (m : RMsg) (crc : Nat) : Receipt :=
  ⟨m.ep, m.cls, m.tenant, m.posted, m.urgent, m.seq, m.tag, m.body.length, crc⟩

/-- The header bytes 0-13 of a message (R283). -/
def RMsg.header14 (m : RMsg) : List Byte :=
  let lo := m.cls % 16 + (if m.last then 16 else 0) + (if m.posted then 32 else 0) + (if m.urgent then 64 else 0) +
    (if m.error then 128 else 0)
  leBytes 1 lo ++ leBytes 3 (m.tenant % 4096 + (m.ep % 8) * 2 ^ 12 + (m.body.length % 2 ^ 14) * 2 ^ 16) ++
    leBytes 1 (m.body.length / 2 ^ 8 % 2 ^ 6) ++ leBytes 4 m.seq ++ leBytes 3 m.tag ++ leBytes 2 0

/-- The 16 header bytes, HCRC included (R283, R284). -/
def RMsg.header (m : RMsg) : List Byte := m.header14 ++ leBytes 2 (Config.hcrc m.header14)

/-- The message as its Ridge lanes carry it (R283, R284): header, payload, trailer. `hx` and `cx` are the bits that HCRC and the trailer
lose on the way. -/
def RMsg.wire (m : RMsg) (hx cx : Nat) : List Byte :=
  m.header14 ++ leBytes 2 (Config.hcrc m.header14 ^^^ hx) ++ m.body ++ leBytes 4 (Config.crc32c (m.header ++ m.body) ^^^ cx)

/-- Check 1 of R285: HCRC over header bytes 0-13. -/
def hcrcGood (w : List Byte) : Bool := Config.hcrc (w.take 14) = bytesAt w 14 2

/-- Check 2 of R285: the trailer over header and payload. -/
def crcGood (w : List Byte) : Bool := Config.crc32c (w.take (w.length - 4)) = bytesAt w (w.length - 4) 4

/-- The trailer: CRC-32C of header and payload (R284). -/
def RMsg.crc (m : RMsg) : Nat := Config.crc32c (m.header ++ m.body)

/-- Two receipts name the same message. -/
def Receipt.same (r t : Receipt) : Bool := r.ep = t.ep && r.tenant = t.tenant && r.seq = t.seq

/-- The 16-byte header of an admitted message as the HOST shingle's payload (R36). -/
def Receipt.header (r : Receipt) : List Byte :=
  let m : RMsg := ⟨r.ep, r.cls, r.tenant, r.posted, r.urgent, false, false, r.seq, r.tag, List.replicate r.len 0, 0⟩
  m.header

/-- EP_STAT and EP_DGEN fields of a half's endpoints after a plane's HEARTBEAT. -/
def HostDie.showHb (h : HostDie) (half : HalfId) (p : PlaneId) (b : HbSeen) : HostDie :=
  h.onEps half (fun h ep =>
    let field := if b.state = 0 then 1 else if b.state = 1 then 2 else if b.state = 2 then 3 else 0
    let h := if b.role = 1 ∨ (h.hbOf half p.other).role ≠ 1 then h.set ep EP_STAT_FIELD field else h
    h.set ep (match p with | .A => EP_STAT_ROLE_A | .B => EP_STAT_ROLE_B) b.role)

/-! Selection at a half (R41, R297). -/

/-- The half resumes at the first output sequence it has not passed, with the copies that it holds of plane `p` (R297). -/
def HostDie.passHeld (h : HostDie) (half : HalfId) (p : PlaneId) : HostDie :=
  let mine := h.hold.filter (fun m => m.1 = pairNo half p)
  let h := { h with hold := h.hold.filter (fun m => m.1 ≠ pairNo half p) }
  mine.foldl (fun h m =>
    if m.2.seq = h.nextOf m.2.ep m.2.cls then h.passMsg m.2
    else if serialLe 32 m.2.seq (h.nextOf m.2.ep m.2.cls) then h
    else { h with hold := h.hold ++ [m] }) h

/-- A half learns roles, state and DGEN from a plane's HEARTBEAT, and switches to a newly LEADING plane (R297). -/
def HostDie.learnHb (d : HostDie) (h : HalfId) (p : PlaneId) (hb : HbSeen) : HostDie :=
  let was := (d.hbOf h p).role
  let d := { d with hb := sput (fun _ => HbSeen.none) d.hb (pairNo h p) hb }
  let d := d.showHb h p hb
  if hb.role = 1 ∧ was ≠ 1 then d.passHeld h p else d

/-- The row of a BAR0 offset: a queue pair's registers exist only below EP_QP_COUNT (R307). -/
def HostDie.barRow (d : HostDie) (ep off : Nat) : Option RegRow :=
  if 0x10000 ≤ off ∧ d.get ep EP_QP_COUNT_COUNT ≤ (off - 0x10000) / 0x40 then none else rowIn rowsBAR off

/-! What a plane decides at admission (R285, R296). -/

/-- Classes that a host may send (R285 check 3). -/
def hostClass (cls : Nat) (posted : Bool) : Bool :=
  cls = 2 || cls = 4 || cls = 5 || (cls = 7 && posted) || cls = 8 || cls = 9 || cls = 10 || cls = 11

/-- The metadata length that matches a UTYPE of a host FRAME (R291, R104, R136, R161); none for another UTYPE. -/
def frameMetaLen (ut : Nat) : Option Nat :=
  if ut = 0 ∨ ut = 1 ∨ ut = 3 ∨ ut = 4 then some 8 else if ut = 2 ∨ ut = 5 then some 16 else none

/-- The payload lengths of a UTYPE: 0-8 (CAN_CC), 0-64 (CAN_FD), 1-2,048 (CAN_XL) (R104), 1-8 data bytes (LIN), 1-2,048 (SERIAL) (R133, R136),
and a frame from its 14 header bytes to 9,212, which the MAC pads to 60 (R161, log entry 100). -/
def frameLens (ut : Nat) : Nat × Nat :=
  if ut = 0 then (0, 8) else if ut = 1 then (0, 64) else if ut = 2 then (1, 2048) else if ut = 3 then (1, 8) else if ut = 4 then (1, 2048)
  else (14, 9212)

/-- Check 4 of R285: the length limits of R287, the payload's own length fields and its operation codes. -/
def lengthOk (m : RMsg) : Bool :=
  let n := m.body.length
  let b := fun i => bytesAt m.body i 1
  if m.cls = 2 then
    let cnt := bytesAt m.body 2 2
    decide (1 ≤ cnt ∧ cnt ≤ 1024) && ((b 0 = 1 && n = 16) || (b 0 = 2 && n = 16 + 4 * cnt))
  else if m.cls = 4 then
    match frameMetaLen (b 2) with
    | some k => b 3 = k && decide (8 + k + (frameLens (b 2)).1 ≤ n ∧ n ≤ 8 + k + (frameLens (b 2)).2)
    | none => false
  else if m.cls = 5 then b 2 = 8 && b 3 = 0 && decide (24 ≤ n ∧ n ≤ 8 + 16 * 599 ∧ n % 16 = 8)
  else if m.cls = 7 then decide (9 ≤ n ∧ n ≤ 9544)
  else if m.cls = 8 then if m.posted then n = 16 else n = 32 && decide (1 ≤ b 0 ∧ b 0 ≤ 9)
  else if m.cls = 9 then n = 32 && decide (1 ≤ b 0 ∧ b 0 ≤ 3)
  else if m.cls = 10 then n = 16 && decide (1 ≤ b 0 ∧ b 0 ≤ 4)
  else if m.cls = 11 then n = 4 && decide (1 ≤ b 0 ∧ b 0 ≤ 4 ∧ b 1 < 64)
  else false

/-- Check 5: the tenant has a queue pair on the endpoint (or its group, whose members carry the same) that may send the class. -/
def Plane.qpMay (p : Plane) (ep tenant cls : Nat) : Bool :=
  match p.qpOf ep tenant with
  | some r => bit (r.u 2 2) cls
  | none => false

/-- A SEQ against a tenant's record (R296): none for a repeat, else the new record. -/
def SeqWin.admitSeq (w : Option SeqWin) (seq : Nat) : Option SeqWin :=
  match w with
  | none => some ⟨seq, 0⟩
  | some w =>
    let d := (seq + 2 ^ 32 - w.high) % 2 ^ 32
    if d = 0 then none
    else if d < 2 ^ 31 then
      some ⟨seq, if d ≤ 1024 then (w.seen <<< d) ||| (1#1024 <<< (d - 1)) else 0⟩
    else
      let back := 2 ^ 32 - d
      if 1024 ≤ back then none
      else if w.seen.getLsbD (back - 1) then none
      else some ⟨w.high, w.seen ||| (1#1024 <<< (back - 1))⟩

/-- EVENT REJECTED to the sender (R285, R289). -/
def rejectedBody (m : Receipt) (reason ts : Nat) : List Byte :=
  eventBody 0x0102 m.tenant (168 + m.ep) ts (leBytes 4 m.seq ++ leBytes 3 m.tag ++ leBytes 1 reason)

/-- A posted message that fails (R301): RIDGE_ERRADDR, RIDGE_ERR_CNT, EVENT POSTED_ERROR to the sender. The header carries no BULK_OFFSET (R283):
the offset that a plane shows is bytes 0-3 of the payload, where a chunk states it (log entry 101). -/
def Plane.postedError (p : Plane) (m : RMsg) (cause : Nat) : Plane :=
  let hi := cause * 2 ^ 28 + (m.ep % 8) * 2 ^ 24 + (m.cls % 16) * 2 ^ 16 + m.tenant % 4096
  let off := bytesAt m.body 0 4
  let p := p.onRegs (fun r => ((r.wr RIDGE_ERRADDR_LO (BitVec.ofNat 32 off)).wr RIDGE_ERRADDR_HI (BitVec.ofNat 32 hi)).inc
    RIDGE_ERR_CNT)
  p.send m.ep clsEvent m.tenant 0 true false false
    (eventBody 0x0103 m.tenant (168 + m.ep) p.st.ts (leBytes 4 off ++ leBytes 4 hi))

/-- A message rejected under checks 3-5 of R285: EVENT REJECTED; of a posted one, the posted error as well (R301). -/
def Plane.reject (p : Plane) (m : RMsg) (reason : Nat) : Plane :=
  let p := p.onRegs (·.inc RIDGE_REJECT_CNT)
  let p := p.send m.ep clsEvent m.tenant 0 true false false (rejectedBody (m.receipt 0) reason p.st.ts)
  if m.posted then p.postedError m (if reason = 3 then 5 else 4) else p

/-- Checks 3-6 of R285 at the admission position; a message that passes waits to be acted on at this position. -/
def Plane.admitMsg (p : Plane) (m : RMsg) : Plane :=
  if !hostClass m.cls m.posted then (p.onRegs (·.inc RIDGE_CLASS_CNT)).reject m 1
  else if !lengthOk m then p.reject m 2
  else if !p.qpMay m.ep m.tenant m.cls then p.reject m 3
  else
    match SeqWin.admitSeq (sget (fun _ => none) p.host.seqs m.tenant) m.seq with
    | none =>
      let p := p.onRegs (·.inc RIDGE_DUP_CNT)
      if m.posted then p.postedError m 4 else p
    | some w =>
      { p with host := { p.host with
          seqs := sput (fun _ => none) p.host.seqs m.tenant (some w)
          admitted := p.host.admitted ++ [m] } }

/-- Buffer space freed: the credits are owed to the half (R293). -/
def Plane.oweCredit (p : Plane) (m : RMsg) : Plane :=
  { p with host := { p.host with owed := creditAdd p.host.owed (16 * m.ep + m.cls) (creditCost m.body.length) } }

/-! Acting on an admitted message (R3, R36, R44). -/

/-- A plane stands at the position of the oldest message that it has admitted and not acted on: whether that is the message which a
command names, with a payload of which `what` holds. -/
def Plane.stands (p : Plane) (ep tenant cls tag : Nat) (what : List Byte → Bool) : Bool :=
  match p.host.admitted with
  | [] => false
  | m :: _ => p.st.takes && m.ep = ep && m.tenant = tenant && m.cls = cls && m.tag = tag && what m.body

/-- The message at the plane's position taken; the plane goes on with the stream. -/
def Plane.takeAdmitted (p : Plane) : Plane := { p with host := { p.host with admitted := p.host.admitted.drop 1 } }

/-- The planes that act on a host's message: those that stand at it. None while a running plane has still to come to that position, so that
what the device does for a message it does once. -/
def Machine.Field.actors (f : Machine.Field) (ep tenant cls tag : Nat) (what : List Byte → Bool) : List PlaneId :=
  let l := [PlaneId.A, PlaneId.B].filter (fun p => (f.plane p).stands ep tenant cls tag what)
  let behind := fun (p : PlaneId) => (f.e.role p).running && (f.plane p).st.takes && !l.contains p &&
    l.any (fun x => decide ((f.plane p).st.stream < (f.plane x).st.stream))
  if behind .A || behind .B then [] else l

/-- A host's message acted on in each plane that stands at it; where none does, the command finds no message and does nothing (R3). -/
def Machine.Field.onAdmitted (f : Machine.Field) (ep tenant cls tag : Nat) (what : List Byte → Bool) (g : Plane → Plane) : Machine.Field :=
  (f.actors ep tenant cls tag what).foldl (fun f p => f.onPlane p (fun q => g q.takeAdmitted)) f

/-- A MGMT_REQ of COUNT words from ADDR on, with the data of a WRITE (R288). -/
def saysMgmt (addr count : Nat) (wr : Option (List Word)) (b : List Byte) : Bool :=
  bytesAt b 0 1 = (if wr.isSome then 2 else 1) && bytesAt b 2 2 = count && bytesAt b 4 4 = addr &&
    wr.elim true (fun ws => decide (b.drop 16 = ws.flatMap (fun w => leBytes 4 w.toNat)))

/-- A payload whose bytes at the offsets of `l` have the values that it lists: (offset, size, value). -/
def saysFields (l : List (Nat × Nat × Nat)) (b : List Byte) : Bool := l.all (fun x => bytesAt b x.1 x.2.1 = x.2.2)

/-- Any payload: the message names no operand. -/
def saysAny (_ : List Byte) : Bool := true

/-- A JOURNAL request, as against a posted acknowledgement (R287, R379). -/
def saysJournal (l : List (Nat × Nat × Nat)) (b : List Byte) : Bool := decide (b.length = 32) && saysFields l b

/-- A JOURNAL response (R379). ADOPT and RETIRE name their drive in ARG: the plane in [4], the drive in [1:0]; a request with other bits
set names none that exists (`oddRequest`). -/
def Machine.journalRsp (q : Plane) (ep tenant tag status op exp value : Nat) (data : List Byte) : Plane :=
  q.respond ep clsJournal tenant tag
    (leBytes 1 status ++ leBytes 1 op ++ leBytes 1 exp ++ leBytes 5 0 ++ leBytes 8 value ++ leBytes 16 0 ++ data)

end Sys2Proof
end

