-- ==== Sys2Proof/Machine/Ridge.lean ====
section
/-!
DEFINITION. The Ridge and the host side: lane pairs and halves (R277-R279), endpoints (R281), HEARTBEATs (R290), DGEN
(R282), queue pairs (R295), credits (R293), the halves' selection (R297), the proxy bridge (R299, R300), the bulk
window (R301), semaphores (R302).
-/

namespace Sys2Proof.Machine

/-- The state with the device changed. -/
def State.ok (s : State) (f : Field) : Host.Outcome State Fault Refusal := .next { s with f := f }

/-! Lane pairs and halves. -/

/-- What a plane holds of its pair to a half, when that pair trains. -/
def pairTrained (h : HalfId) (q : Plane) : Plane :=
  { q with host := { q.host with
      pairsUp := sput (fun _ => false) q.host.pairsUp h.num true
      pairDown := sput (fun _ => none) q.host.pairDown h.num none } }

/-- A pair trains (R277). -/
def execRidgePairTrained (h : HalfId) (p : PlaneId) (s : State) : Host.Outcome State Fault Refusal :=
  if s.f.h.halfRun h then s.ok ((s.f.onH (showPair · h p true)).onPlane p (pairTrained h)) else s.ok s.f

/-- When a plane lost its pair to a half. -/
def lostAt (q : Plane) (h : HalfId) : Option (Nat × Bool) := sget (fun _ => none) q.host.pairDown h.num

/-- Whether a half's strap agrees with the truss (R279). -/
def strapOk (q : Plane) (straps : Nat) (h : HalfId) : Bool := q.hosts = [] || bit (q.hosts.headD 0).toNat h.num = bit straps h.num

/-- Endpoints whose service differs from the plane's UP state: the plane asks for admission (R281): an UP HEARTBEAT as a HOST shingle, a
DOWN endpoint as a PORT_RESTART. `ends` are the endpoints that meet the UP conditions; those of a half whose strap disagrees with the truss stay
out of service (R279). -/
def askEndpoints (straps : Nat) (q : Plane) (h : HalfId) (ends : Nat) : Plane :=
  (halfEps h).foldl (fun q ep =>
    let up := bit ends ep && strapOk q straps h
    let r : Receipt := ⟨ep, 0, 0, false, false, 0, 0, 16, 0⟩
    if up = q.epUp ep ∨ (q.epEnabled ep = false) ∨ q.host.asks.contains (r, !up) then q
    else { q with host := { q.host with asks := q.host.asks ++ [(r, !up)] } }) q

/-- A plane sees a pair go down and tells the other over the Purlin (R277): where the other has lost its pair to the same half
within 100 µs, the half has restarted, both report it as INFO (R278, R429), and both take the half's endpoints DOWN on their own (R281); otherwise
the loss waits for that time to pass (`judgePairs`). A pair that is down already is not lost again. -/
def pairLost (f : Field) (h : HalfId) (p : PlaneId) : Field :=
  if sget (fun _ => false) (f.plane p).host.pairsUp h.num = false then f
  else
    let f := (f.onH (·.cutPair h p)).onPlane p (·.cutPair h)
    let now := f.e.counter
    let mark := fun (d : Bool) (q : Plane) =>
      { q with host := { q.host with
          pairsUp := sput (fun _ => false) q.host.pairsUp h.num false
          pairDown := sput (fun _ => none) q.host.pairDown h.num (some (now, d)) } }
    match lostAt (f.plane p.other) h with
    | some (t, false) =>
      if now ≤ t + 100000 then
        let f := (f.onPlane p (mark true)).onPlane p.other (mark true)
        let f := f.onRunning (askEndpoints f.h.straps · h 0)
        f.onE (fun e => (e.info (planeSrc .A (24 + h.num))).info (planeSrc .B (24 + h.num)))
      else f.onPlane p (mark false)
    | some (_, true) => f.onPlane p (mark false)
    | none => f.onPlane p (mark false)

/-- RIDGE_PAIR_DOWN (R277). -/
def execRidgePairDown (h : HalfId) (p : PlaneId) (s : State) : Host.Outcome State Fault Refusal := s.ok (pairLost s.f h p)

/-- Pair losses that no loss of the other plane has explained within 100 µs: a PLANE-class fault from RIDGE_PAIR of a plane in a
running role (R277). -/
def judgePair (f : Field) (h : HalfId) (p : PlaneId) : Field :=
  match lostAt (f.plane p) h with
  | some (t, false) =>
    if t + 100000 < f.e.counter then
      let f := f.onPlane p (fun q => { q with host := { q.host with
        pairDown := sput (fun _ => none) q.host.pairDown h.num (some (t, true)) } })
      if (f.e.role p).running then f.raisePlane p 15 else f
    else f
  | _ => f

/-- All pairs judged. -/
def judgePairs (f : Field) : Field :=
  judgePair (judgePair (judgePair (judgePair f .HA .A) .HA .B) .HB .A) .HB .B

/-- A half faults (R278): it stops its lanes and links, and every endpoint of the half restarts. -/
def execHalfFault (h : HalfId) (s : State) : Host.Outcome State Fault Refusal :=
  let g := fun (d : HostDie) =>
    let d := match h with
      | .HA => { d with haRun := false }
      | .HB => { d with hbRun := false }
    let d := (d.cutPair h .A).cutPair h .B
    let d := d.onEps h (fun d ep => { d.clearEp ep with dl := sput (fun _ => false) d.dl ep false })
    { d with hb := sdel (pairNo h .A) (sdel (pairNo h .B) d.hb) }
  s.ok (s.f.onH g)

/-- A restarted half has retrained its pairs and rebuilt its queue-pair contexts from the planes (R278). -/
def execHalfRestarted (h : HalfId) (s : State) : Host.Outcome State Fault Refusal :=
  let lead := s.f.lead
  let on := fun (p : PlaneId) => s.f.h.running && s.f.e.role p ≠ .offline
  let g := fun (d : HostDie) =>
    let d := match h with
      | .HA => { d with haRun := true }
      | .HB => { d with hbRun := true }
    let d := showPair (showPair d h .A (on .A)) h .B (on .B)
    d.onEps h (fun d ep => if lead.epEnabled ep ∧ d.epExists ep = true then d.fillContexts lead ep else d)
  let f := s.f.onH g
  let back := fun (f : Field) (p : PlaneId) => if on p then f.onPlane p (fun q => pairTrained h (q.cutPair h)) else f
  s.ok (back (back f .A) .B)

/-- EVENT HOST_CONFIG to an endpoint: the straps of half `h` disagree with the truss (R279). -/
def tellStrap (q : Plane) (h : HalfId) (ep : Nat) : Plane :=
  q.send ep clsEvent ((q.epRec ep).u 4 2) 0 false false false (eventBody 0x0105 noId noId q.st.ts (leBytes 1 h.num))

/-- A strap mismatch that a plane meets (R279): it reports it as INFO, and every enabled endpoint of the other half receives HOST_CONFIG: one
that is UP here, any other when it becomes UP (`planeEpUp`, log entry 103). -/
def strapNotice (f : Field) (p : PlaneId) (h : HalfId) : Field :=
  if strapOk (f.plane p) f.h.straps h then f
  else (f.onE (fun e => e.info (planeSrc p 26))).onPlane p (fun q => (halfEps h.other).foldl (fun q ep =>
    if q.epEnabled ep ∧ q.primary ep = ep ∧ q.groupUp ep = true then tellStrap q h ep else q) q)

/-- Both halves' straps compared with a plane's truss. -/
def checkStraps (f : Field) (p : PlaneId) : Field := strapNotice (strapNotice f p .HA) p .HB

/-- RESET_H_N is released (R279, R280): the host die starts afresh, every register at its reset value, with the straps sampled. -/
def execHostResetRelease (straps : Fin 4) (s : State) : Host.Outcome State Fault Refusal :=
  let d : HostDie := { HostDie.init with straps := straps.val, running := true, haRun := true, hbRun := true }
  let d := (List.range 8).foldl (fun d ep => (d.set ep EP_ID_HALF (ep / 4)).set ep EP_ID_ENDPOINT ep) d
  let f := s.f.onH (fun _ => d)
  let one := fun (f : Field) (p : PlaneId) => if (f.e.role p).running then checkStraps f p else f
  s.ok (one (one f .A) .B)

/-! Endpoints. -/

/-- PERST_N, DL_Active loss, FLR, ENABLE 0 or a half restart takes an endpoint DOWN (R281): the half clears its bit in the
HEARTBEAT, and the endpoint's proxy channels and queue pairs are emptied; `clearCtl` is PERST_N or RESET_H_N, which clear
EP_CTL (R307). The planes take it DOWN at the PORT_RESTART that follows from the HEARTBEAT. -/
def execEndpointDown (ep : Fin 8) (clearCtl : Bool) (s : State) : Host.Outcome State Fault Refusal :=
  let g := fun (d : HostDie) =>
    let d := { d.clearEp ep.val with dl := sput (fun _ => false) d.dl ep.val false }
    if clearCtl then d.set ep.val EP_CTL_ENABLE 0 else d
  s.ok (s.f.onH g)

/-- Whether a shingle is the admitted HEARTBEAT of an endpoint (R281). -/
def isHbFor (ep : Nat) (sh : Shingle) : Bool :=
  sh.utype = .host && sh.port = 168 + ep && bytesAt sh.body 0 1 % 16 = 0

/-- The EVENTs of the last KINDLING, sent once to an endpoint or its group (log entry 52). -/
def tellKindling (q : Plane) (ep : Nat) : Plane :=
  if q.host.kindling ∨ q.host.told.contains (q.primary ep) = true ∨ q.hosts = [] then q
  else
    let q := { q with host := { q.host with told := q.host.told ++ [q.primary ep] } }
    q.host.kindleEv.foldl (fun q b => q.send ep clsEvent ((q.epRec (q.primary ep)).u 4 2) 0 false false false b) q

/-- A plane takes an endpoint UP at its HEARTBEAT's position (R281), with EVENT PARTNER on the other member (R303). An endpoint that becomes UP
is told of a strap mismatch of the other half (R279). -/
def planeEpUp (straps : Nat) (q : Plane) (ep : Nat) : Plane :=
  match q.st.inbox with
  | sh :: rest =>
    if isHbFor ep sh then
      let q := { q with
        st := { q.st with inbox := rest, stream := sh.stream, ts := sh.ts },
        host := { q.host with epUp := sput (fun _ => false) q.host.epUp ep true } }
      let q := tellKindling q ep
      let q := if strapOk q straps (halfOf ep).other then q else tellStrap q (halfOf ep).other ep
      match q.partner ep with
      | some o =>
        if q.epUp o then
          q.send o clsEvent ((q.epRec o).u 4 2) 0 false false false
            (eventBody 0x0104 noId noId q.st.ts (leBytes 1 ep ++ leBytes 1 1))
        else q
      | none => q
    else q
  | [] => q

/-- An endpoint with DL_Active and ENABLE 1 becomes UP where its HEARTBEAT is admitted (R281): the half fills its contexts and
takes the outputs of both streams from there. -/
def endpointUp (f : Field) (n : Nat) : Field :=
  let f := f.onH (fun d =>
    if d.halfRun (halfOf n) ∧ d.epExists n = true then { d with dl := sput (fun _ => false) d.dl n true } else d)
  let was := f.lead.epUp n
  let f := f.onTaking (planeEpUp f.h.straps · n)
  let lead := f.lead
  if lead.epUp n ∧ was = false then
    f.onH (fun d =>
      let d := (d.fillContexts lead n).set n EP_STAT_UP 1
      let d := d.set n EP_STAT_GEN (f.e.genOf (168 + n))
      let o := fun k => sget (fun _ => 0) lead.host.outSeq (2 * lead.primary n + k)
      { d with next := sput (fun _ => 0) (sput (fun _ => 0) d.next (2 * n) (o 0)) (2 * n + 1) (o 1) })
  else f

/-! HEARTBEATs. -/

/-- STATE of a plane's HEARTBEAT (R290, R306, R453): an OFFLINE plane reports FAULT, a REJOINING plane KINDLING. -/
def hbState (e : Eaves) (p : PlaneId) : Nat :=
  if e.mode = .safe then 2
  else if (e.serving || e.mode = .banked) = false then 0
  else if (e.seqr.kind = .ember ∨ e.seqr.kind = .off) ∧ 1 ≤ e.seqr.step then 0
  else match e.role p with
    | .leading => 1
    | .shadow => 1
    | .rejoining => 0
    | .offline => 3

/-- A plane's HEARTBEAT (R290). -/
def planeHb (f : Field) (p : PlaneId) : HbSeen :=
  let q := f.plane p
  ⟨false, hbState f.e p, (f.e.role p).code, (List.range 8).foldl (fun n ep => if q.epUp ep then n + 2 ^ ep else n) 0, q.host.dgen,
    f.e.counter, f.e.counter⟩

/-- A half's HEARTBEAT (R290). -/
def halfHb (f : Field) (h : HalfId) : HbSeen :=
  ⟨false, if f.h.halfRun h then 1 else 3, 0, f.h.epBits h, 0, 0, f.e.counter⟩

/-- Whether an end of a pair has credit of the link reserve for a message (R293, R294). -/
def linkCredit (f : Field) (toHost : Bool) (h : HalfId) (p : PlaneId) (cls cost : Nat) : Bool :=
  if toHost then creditOk (f.plane p).host.used 0 (8 + h.num) cls cost 0 else creditOk f.h.used (256 * p.num) (8 + h.num) cls cost 0

/-- Link credits of the sending end in use. -/
def spendLink (f : Field) (toHost : Bool) (h : HalfId) (p : PlaneId) (cls cost : Nat) : Field :=
  if toHost then f.onPlane p (fun q => { q with host := { q.host with used := creditAdd q.host.used (linkKey h cls) cost } })
  else f.onH (fun d => { d with used := creditAdd d.used (256 * p.num + linkKey h cls) cost })

/-- Link credits that the receiving end owes (R293). -/
def oweLink (f : Field) (atHost : Bool) (h : HalfId) (p : PlaneId) (cls cost : Nat) : Field :=
  if atHost then f.onH (fun d => { d with owed := creditAdd d.owed (256 * p.num + linkKey h cls) cost })
  else f.onPlane p (fun q => { q with host := { q.host with owed := creditAdd q.host.owed (linkKey h cls) cost } })

/-- The key of what is in flight on a pair in a direction. -/
def flyKey (toHost : Bool) (h : HalfId) (p : PlaneId) : Nat := 2 * pairNo h p + (if toHost then 1 else 0)

/-- A HEARTBEAT sent on a pair that is up, with credit of the link reserve; the receiver handles an URGENT one first (R283). -/
def sendHb (f : Field) (toHost urgent : Bool) (h : HalfId) (p : PlaneId) : Field :=
  if f.h.pairUp h p && linkCredit f toHost h p 0 (creditCost 16) then
    let hb := { (if toHost then planeHb f p else halfHb f h) with urgent := urgent }
    let k := flyKey toHost h p
    (spendLink f toHost h p 0 (creditCost 16)).onH (fun d =>
      let l := sget (fun _ => []) d.hbFly k
      { d with hbFly := sput (fun _ => []) d.hbFly k (if urgent then hb :: l else l ++ [hb]) })
  else f

/-- One end of a pair sends a HEARTBEAT (R290). A pair that is down carries none. -/
def execHeartbeatSend (toHost : Bool) (h : HalfId) (p : PlaneId) (s : State) : Host.Outcome State Fault Refusal :=
  s.ok (sendHb s.f toHost false h p)

/-- A plane whose role has changed sends an URGENT HEARTBEAT at once on each of its pairs (R290). -/
def sayRole (f : Field) (p : PlaneId) : Field :=
  if (f.plane p).host.tellRole then
    sendHb (sendHb (f.onPlane p (fun q => { q with host := { q.host with tellRole := false } })) true true .HA p) true true .HB p
  else f

/-- Both planes' role changes. -/
def sayRoles (f : Field) : Field := sayRole (sayRole f .A) .B

/-! Messages towards the device. -/

/-- The planes in a running role, as the half's HEARTBEATs show them. -/
def runPlanes (d : HostDie) (h : HalfId) : List PlaneId :=
  [PlaneId.A, PlaneId.B].filter (fun p => (d.hbOf h p).role = 1 ∨ (d.hbOf h p).role = 2)

/-- Whether every running plane has credit for a message of an endpoint (R293). -/
def halfCredit (d : HostDie) (lead : Plane) (ep cls len : Nat) : Bool :=
  let ps := runPlanes d (halfOf ep)
  ps ≠ [] && ps.all (fun p => creditOk d.used (256 * p.num) ep cls (creditCost len) (lead.bulkShare ep))

/-- A message on its way to a plane: an URGENT one comes before those of its class that are not URGENT (R283). -/
def joinLane (l : List (Nat × RMsg)) (x : Nat × RMsg) : List (Nat × RMsg) :=
  let i := if x.2.urgent then l.findIdx (fun y => y.1 = x.1 && y.2.cls = x.2.cls && !y.2.urgent) else l.length
  l.take i ++ x :: l.drop i

/-- A message sent on the pairs to every running plane, its credits counted (R36, R293). -/
def sendToPlanes (d : HostDie) (m : RMsg) : HostDie :=
  (runPlanes d (halfOf m.ep)).foldl (fun d p => { d with
    toDev := joinLane d.toDev (pairNo (halfOf m.ep) p, m)
    used := creditAdd d.used (256 * p.num + 16 * m.ep + m.cls) (creditCost m.body.length) }) d

/-- Messages of the proxy bridge and the bulk window that waited for credit, an endpoint's in their order (R293, R299). In SAFE none goes (R306). -/
def sendWaiting (lead : Plane) (d : HostDie) : HostDie :=
  d.waiting.foldl (fun d m =>
    if d.waiting.any (fun x => x.ep = m.ep) ∨ d.get m.ep EP_STAT_FIELD = 3 ∨ halfCredit d lead m.ep m.cls m.body.length = false then
      { d with waiting := d.waiting ++ [m] }
    else sendToPlanes d m) { d with waiting := [] }

/-- A message of the bridge or the window sent, or kept until there is credit. -/
def sendOrWait (lead : Plane) (m : RMsg) (d : HostDie) : HostDie := sendWaiting lead { d with waiting := d.waiting ++ [m] }

/-! HEARTBEATs and DGEN received. -/

/-- A HEARTBEAT arrives (R290): a half learns of the plane, a plane of the half's endpoints. -/
def execHeartbeatReceived (atHost : Bool) (h : HalfId) (p : PlaneId) (s : State) : Host.Outcome State Fault Refusal :=
  match sget (fun _ => []) s.f.h.hbFly (flyKey atHost h p) with
  | [] => s.ok s.f
  | hb :: rest =>
    let hb := { hb with since := s.f.e.counter }
    let f := s.f.onH (fun d => { d with hbFly := sput (fun _ => []) d.hbFly (flyKey atHost h p) rest })
    let f := oweLink f atHost h p 0 (creditCost 16)
    if atHost then s.ok (f.onH (fun d => sendWaiting f.lead (d.learnHb h p hb)))
    else
      let f := f.onPlane p (fun q => { q with host := { q.host with hb := sput (fun _ => HbSeen.none) q.host.hb h.num hb } })
      s.ok (if (f.e.role p).running then f.onPlane p (askEndpoints f.h.straps · h hb.ends) else f)

/-- Three HEARTBEATs missed put the pair down, as under R277 (R290). -/
def execHeartbeatMissed (h : HalfId) (p : PlaneId) (s : State) : Host.Outcome State Fault Refusal := s.ok (pairLost s.f h p)

/-- A half sees DGEN change (R282): tracked requests complete with KIND RESTARTED, busy proxy channels with status RESTARTED,
and what carries the old DGEN is discarded. -/
def execDgenChange (h : HalfId) (s : State) : Host.Outcome State Fault Refusal :=
  let newest := fun (d : HostDie) =>
    let a := d.hbOf h .A
    let b := d.hbOf h .B
    if b.since ≤ a.since then a.dgen else b.dgen
  s.ok (s.f.onH (fun d =>
    let g := newest d
    if (halfEps h).all (fun ep => d.rd ep EP_DGEN = BitVec.ofNat 32 g) then d
    else
      let mine := d.tracked.filter (fun t => halfOf t.ep = h)
      let d := mine.foldl (fun d t =>
        match d.qpOfTenant t.ep t.tenant with
        | some q => d.pushCq t.ep q ⟨3, 0, 0, 0, t.tag, t.cls, 0⟩
        | none => d) d
      let d := { d with waiting := d.waiting.filter (fun m => halfOf m.ep ≠ h) }
      let d := d.onEps h (fun d ep =>
        let d := d.wr ep EP_DGEN (BitVec.ofNat 32 g)
        (List.range 4).foldl (fun d c =>
          match sget (fun _ => none) d.proxies (4 * ep + c) with
          | some _ => { d.set ep (PROXY_RESULT_LO_STATUS c) 5 with proxies := sput (fun _ => none) d.proxies (4 * ep + c) none }
          | none => d) d)
      { d with
        tracked := d.tracked.filter (fun t => halfOf t.ep ≠ h)
        hold := d.hold.filter (fun m => halfOf m.2.ep ≠ h)
        toHost := d.toHost.filter (fun m => halfOf m.ep ≠ h)
        next := d.next.filter (fun n => halfOf (n.1 / 2) ≠ h)
        rejSeen := [] }))

/-! Queue pairs. -/

/-- Whether a half tracks a request until its response (R282). -/
def isTracked (cls : Nat) (body : List Byte) : Bool :=
  cls = 2 || cls = 11 || cls = 9 || cls = 10 || (cls = 8 && body.length = 32)

/-- An SQ entry is fetched (R295), with the entry's content and the host memory at BUF as operands. A refused entry completes
with STATUS REFUSED. Without credit from every running plane, or in SAFE (R306), the entry stays in the ring. -/
def execSqFetch (ep : Fin 8) (q : Fin 256) (cls : Nat) (urgent : Bool) (len : Nat) (seq : Nat) (tag : Nat) (buf : List Byte)
    (s : State) : Host.Outcome State Fault Refusal :=
  let d := s.f.h
  let e := ep.val
  let n := q.val
  let head := d.get e (QP_SQ_HEAD_HEAD n)
  let runs := d.halfRun (halfOf e) && decide (n < d.get e EP_QP_COUNT_COUNT) && d.get e (QP_CTL_ENABLE n) = 1 &&
    decide (head ≠ d.get e (QP_SQ_TAIL_TAIL n)) && d.get e EP_STAT_FIELD ≠ 3
  if !runs then s.ok s.f
  else
    let size := d.get e (QP_SQ_SIZE_ENTRIES n)
    let next := if head + 1 < size then head + 1 else 0
    let tenant := d.get e (QP_INFO_TENANT n)
    let refused := !bit (d.get e (QP_INFO_CLASSES n)) cls || cls = 0 || cls = 1 || cls = 3 || cls = 6 || cls = 7 ||
      decide (9600 < len)
    if refused then
      s.ok (s.f.onH (fun d => (d.pushCq e n ⟨1, 1, head, seq % 2 ^ 32, tag % 2 ^ 24, cls, 0⟩).set e (QP_SQ_HEAD_HEAD n) next))
    else if halfCredit d s.f.lead e cls len then
      let body := fitBytes len buf
      let m : RMsg := ⟨e, cls, tenant, false, urgent, false, false, seq % 2 ^ 32, tag % 2 ^ 24, body, 0⟩
      s.ok (s.f.onH (fun d =>
        let d := sendToPlanes d m
        let d := if isTracked cls body ∧ (d.tracked.filter (fun t => t.ep = e ∧ t.tenant = tenant)).length < 64 then
            { d with tracked := d.tracked ++ [⟨e, tenant, tag % 2 ^ 24, cls⟩] }
          else d
        (d.pushCq e n ⟨1, 0, head, seq % 2 ^ 32, tag % 2 ^ 24, cls, 0⟩).set e (QP_SQ_HEAD_HEAD n) next))
    else s.ok s.f

/-- Whether a message towards a host answers a busy proxy channel. -/
def proxyFor (d : HostDie) (m : RMsg) : Bool :=
  (List.range 4).any (fun c =>
    match sget (fun _ => none) d.proxies (4 * m.ep + c) with
    | some b => b.tag = m.tag && m.tenant = sget (fun _ => 0) d.proxyTenant m.ep
    | none => false)

/-- A half delivers the next message of an endpoint (R294, R295): header and payload into one receive buffer of `size` bytes with
a RECV entry, or a drop counted in QP_RQ_DROP. -/
def execRqDeliver (ep : Fin 8) (size : Nat) (s : State) : Host.Outcome State Fault Refusal :=
  let e := ep.val
  match s.f.h.toHost.find? (fun m => m.ep = e ∧ proxyFor s.f.h m = false) with
  | none => s.ok s.f
  | some m =>
    s.ok (s.f.onH (fun d =>
      let d := { d with toHost := d.toHost.erase m }
      match d.qpOfTenant e m.tenant with
      | none => d
      | some q =>
        let st := d.qp e q
        if d.get e (QP_CTL_ENABLE q) = 1 ∧ st.rqHead ≠ d.get e (QP_RQ_TAIL_TAIL q) ∧ 16 + m.body.length ≤ size then
          let rs := d.get e (QP_RQ_SIZE_ENTRIES q)
          let st' := { st with rqHead := if st.rqHead + 1 < rs then st.rqHead + 1 else 0, lastRecv := some m }
          let d := { d with qps := sput (fun _ => QpSt.init) d.qps (256 * e + q) st' }
          d.pushCq e q ⟨2, 0, st.rqHead, m.seq, m.tag, m.cls, 16 + m.body.length⟩
        else d.inc e (QP_RQ_DROP q)))

/-! Credits. -/

/-- Entries of a map of owed credits as (key, count), at most the 64 of one CREDIT message (R293). -/
def owedOf (m : List (Nat × Nat)) (lo hi : Nat) (h : HalfId) : List (Nat × Nat) :=
  (m.filter (fun x => decide (lo ≤ x.1 ∧ x.1 < hi) && creditKeyOf h (x.1 - lo))).take 64

/-- A receiver that owes credits sends a CREDIT message of 8 bytes for each entry, itself under the link reserve (R293). -/
def execCreditSend (toHost : Bool) (h : HalfId) (p : PlaneId) (s : State) : Host.Outcome State Fault Refusal :=
  let l := if toHost then owedOf (s.f.plane p).host.owed 0 256 h else owedOf s.f.h.owed (256 * p.num) (256 * p.num + 256) h
  let cost := creditCost (8 * l.length)
  if !s.f.h.pairUp h p || l.isEmpty || !linkCredit s.f toHost h p 1 cost then s.ok s.f
  else
    let f := if toHost then
        s.f.onPlane p (fun q => { q with host := { q.host with owed := q.host.owed.filter (fun x => ¬ l.contains x) } })
      else s.f.onH (fun d => { d with owed := d.owed.filter (fun x => ¬ l.contains x) })
    let sent := if toHost then l else l.map (fun x => (x.1 - 256 * p.num, x.2))
    let k := flyKey toHost h p
    s.ok ((spendLink f toHost h p 1 cost).onH (fun d =>
      { d with credFly := sput (fun _ => []) d.credFly k (sget (fun _ => []) d.credFly k ++ [sent]) }))

/-- A CREDIT message returns credits to the sender (R293); the half then sends what waited for them. -/
def execCreditReturn (atHost : Bool) (h : HalfId) (p : PlaneId) (s : State) : Host.Outcome State Fault Refusal :=
  match sget (fun _ => []) s.f.h.credFly (flyKey atHost h p) with
  | [] => s.ok s.f
  | l :: rest =>
    let f := s.f.onH (fun d => { d with credFly := sput (fun _ => []) d.credFly (flyKey atHost h p) rest })
    let f := oweLink f atHost h p 1 (creditCost (8 * l.length))
    if atHost then
      s.ok (f.onH (fun d => sendWaiting f.lead { d with used := l.foldl (fun u x => creditSub u (256 * p.num + x.1) x.2) d.used }))
    else
      s.ok (f.onPlane p (fun q => { q with host := { q.host with used := l.foldl (fun u x => creditSub u x.1 x.2) q.host.used } }))

/-! Messages towards the hosts. -/

/-- The next message of a plane for a half reaches it (R41, R297): the leading plane's copy is passed in output-sequence
order, the other's is held until that sequence has been passed. During a turn a bulk message of the new-truss plane is held until its endpoint's
port has passed to that plane, and one of a cause that the old plane has served is dropped (R88). An EVENT REJECTED under R39 comes outside the sequences, and the
first copy for a SEQ and TAG passes (R289). -/
def execHalfOutputSelect (h : HalfId) (p : PlaneId) (s : State) : Host.Outcome State Fault Refusal :=
  if !s.f.h.pairUp h p then s.ok s.f
  else
    let q := s.f.plane p
    match q.host.direct.find? (fun m => halfOf m.ep = h && (s.f.e.role p).running &&
      creditOk q.host.used 0 m.ep m.cls (creditCost m.body.length) (q.bulkShare m.ep)) with
    | some m =>
      let cost := creditCost m.body.length
      let f := s.f.onPlane p (fun q => { q with host := { q.host with
        direct := q.host.direct.erase m, used := creditAdd q.host.used (16 * m.ep + m.cls) cost } })
      let k := (bytesAt m.body 16 4, bytesAt m.body 20 3)
      s.ok (f.onH (fun d =>
        let d := { d with owed := creditAdd d.owed (256 * p.num + 16 * m.ep + m.cls) cost }
        if d.rejSeen.contains k then d else { d with rejSeen := d.rejSeen ++ [k], toHost := d.toHost ++ [m] }))
    | none =>
      match q.host.out.find? (fun m => halfOf m.ep = h) with
      | none => s.ok s.f
      | some m =>
        let cost := creditCost m.body.length
        if !creditOk q.host.used 0 m.ep m.cls cost (q.bulkShare m.ep) then s.ok s.f
        else
          let f := s.f.onPlane p (fun q => { q with host := { q.host with
            out := q.host.out.erase m, used := creditAdd q.host.used (16 * m.ep + m.cls) cost } })
          let bulk := streamOf m.cls = 1
          let skip := bulk ∧ f.e.sel.skips (168 + m.ep) m.cause = true
          let newT := bulk ∧ (f.plane p).st.newT = true
          let passes := (f.h.hbOf h p).role = 1 ∧ m.seq = f.h.nextOf m.ep m.cls
          let f := if bulk ∧ passes ∧ f.e.sel.recording = true ∧ ¬ newT then f.onE (fun e => { e with sel := { e.sel with
            passed := e.sel.passed ++ [(168 + m.ep, m.cause)] } }) else f
          s.ok (f.onH (fun d =>
            let d := { d with owed := creditAdd d.owed (256 * p.num + 16 * m.ep + m.cls) cost }
            let nx := d.nextOf m.ep m.cls
            if skip then
              if m.seq = nx then { d with next := sput (fun _ => 0) d.next (2 * m.ep + 1) ((nx + 1) % 2 ^ 32) } else d
            else if newT then
              if f.e.sel.gone.contains (168 + m.ep) then d.passMsg m else { d with hold := d.hold ++ [(pairNo h p, m)] }
            else if passes then
              let d := d.passMsg m
              { d with hold := d.hold.filter (fun x => ¬ (x.2.ep = m.ep ∧ streamOf x.2.cls = streamOf m.cls ∧ x.2.seq = m.seq)) }
            else if m.seq ≠ nx ∧ serialLe 32 m.seq nx then d
            else { d with hold := d.hold ++ [(pairNo h p, m)] }))

/-! The proxy bridge and the bulk window. -/

/-- A proxy command (R299, R300, R302): ignored with OVERRUN on a busy channel; otherwise one message as the PROXY_TENANT, and
PROXY_RESULT reads RETRY from there, also while the message waits for credit (R293). The half numbers the bridge's messages itself (log entry 22). -/
def proxyCmd (f : Field) (ep c cls cmd : Nat) (body : List Byte) : Field :=
  if f.h.halfRun (halfOf ep) = false ∨ f.h.epExists ep = false then f
  else match sget (fun _ => none) f.h.proxies (4 * ep + c) with
  | some _ => f.onH (·.set ep (PROXY_FLAGS_OVERRUN c) 1)
  | none => f.onH (fun d =>
      let seq := sget (fun _ => 0) d.proxySeq ep
      let m : RMsg := ⟨ep, cls, sget (fun _ => 0) d.proxyTenant ep, false, false, false, false, seq, d.proxyTag, body, 0⟩
      let d := { d with
        proxies := sput (fun _ => none) d.proxies (4 * ep + c) (some ⟨cmd, d.proxyTag, f.e.counter⟩)
        proxySeq := sput (fun _ => 0) d.proxySeq ep ((seq + 1) % 2 ^ 32)
        proxyTag := (d.proxyTag + 1) % 2 ^ 24 }
      sendOrWait f.lead m ((d.set ep (PROXY_RESULT_LO_STATUS c) 1).set ep (PROXY_RESULT_LO_DONE c) 0))

/-- The 16-byte MGMT_REQ header of a proxy command (R288). -/
def proxyReq (d : HostDie) (ep c op : Nat) : List Byte :=
  leBytes 1 op ++ leBytes 1 0 ++ leBytes 2 (d.get ep (PROXY_COUNT_COUNT c)) ++ leBytes 4 (d.get ep (PROXY_ADDR_ADDR c)) ++ leBytes 8 0

/-- CMD READ (R299). -/
def proxyRead (f : Field) (ep c : Nat) : Field := proxyCmd f ep c 2 1 (proxyReq f.h ep c 1)

/-- CMD WRITE (R300), with the words of the data buffer. -/
def proxyWrite (f : Field) (ep c : Nat) : Field :=
  proxyCmd f ep c 2 2 (proxyReq f.h ep c 2 ++ (List.range (f.h.get ep (PROXY_COUNT_COUNT c))).flatMap (fun i =>
    leBytes 4 (f.h.rd ep (PROXY_DATA c i)).toNat))

/-- CMD 3 and 4: SEMA ACQUIRE and RELEASE with the index in PROXY_ADDR[5:0] (R302). -/
def proxySema (f : Field) (ep c op : Nat) : Field :=
  proxyCmd f ep c 11 (op + 2) (leBytes 1 op ++ leBytes 1 (f.h.get ep (PROXY_ADDR_ADDR c) % 64) ++ leBytes 2 0)

/-- PROXY_READ (R299). -/
def execProxyRead (ep : Fin 8) (c : Fin 4) (s : State) : Host.Outcome State Fault Refusal := s.ok (proxyRead s.f ep.val c.val)

/-- PROXY_WRITE (R300). -/
def execProxyWrite (ep : Fin 8) (c : Fin 4) (s : State) : Host.Outcome State Fault Refusal := s.ok (proxyWrite s.f ep.val c.val)

/-- PROXY_ACQUIRE (R302). -/
def execProxyAcquire (ep : Fin 8) (c : Fin 4) (s : State) : Host.Outcome State Fault Refusal := s.ok (proxySema s.f ep.val c.val 1)

/-- PROXY_RELEASE (R302). -/
def execProxyRelease (ep : Fin 8) (c : Fin 4) (s : State) : Host.Outcome State Fault Refusal := s.ok (proxySema s.f ep.val c.val 2)

/-- The response for a busy proxy channel (R299): final STATUS and DONE, the first word in PROXY_RESULT_HI, all words in the buffer. -/
def execProxyResponse (ep : Fin 8) (c : Fin 4) (s : State) : Host.Outcome State Fault Refusal :=
  let e := ep.val
  let k := c.val
  match sget (fun _ => none) s.f.h.proxies (4 * e + k) with
  | none => s.ok s.f
  | some b =>
    match s.f.h.toHost.find? (fun m => m.ep = e ∧ m.tag = b.tag ∧ m.tenant = sget (fun _ => 0) s.f.h.proxyTenant e) with
    | none => s.ok s.f
    | some m =>
      s.ok (s.f.onH (fun d =>
        let d := { d with toHost := d.toHost.erase m, proxies := sput (fun _ => none) d.proxies (4 * e + k) none }
        let st := bytesAt m.body 0 1
        let isMgmt := m.cls = 3
        let done := if isMgmt then bytesAt m.body 2 2 else 0
        let words := if isMgmt ∧ b.cmd = 1 then min done 1024 else 0
        let word := fun i => BitVec.ofNat 32 (bytesAt m.body (16 + 4 * i) 4)
        let d := (d.set e (PROXY_RESULT_LO_STATUS k) st).set e (PROXY_RESULT_LO_DONE k) done
        let d := if 0 < words then d.wr e (PROXY_RESULT_HI k) (word 0) else d
        (List.range words).foldl (fun d i => d.wr e (PROXY_DATA k i) (word i)) d))

/-- No response within 10 ms of the CMD write: STATUS TIMEOUT; a later response is discarded (R299). -/
def execProxyTimeout (ep : Fin 8) (c : Fin 4) (s : State) : Host.Outcome State Fault Refusal :=
  let e := ep.val
  match sget (fun _ => none) s.f.h.proxies (4 * e + c.val) with
  | none => s.ok s.f
  | some b =>
    s.ok (s.f.onH (fun d =>
      let d := d.set e (PROXY_RESULT_LO_STATUS c.val) 4
      let mine := fun (m : RMsg) => m.ep = e && m.tag = b.tag && !m.posted
      { d with
        proxies := sput (fun _ => none) d.proxies (4 * e + c.val) none
        waiting := d.waiting.filter (fun m => !mine m)
        proxyOld := if d.waiting.any mine then d.proxyOld else d.proxyOld ++ [(e, b.tag)]
        toHost := d.toHost.filter (fun m => ¬ (m.ep = e ∧ m.tag = b.tag ∧ m.tenant = sget (fun _ => 0) d.proxyTenant e)) }))

/-- A write of POST (R301): one message with FLAGS.POSTED from the bulk buffer, FREE cleared until both planes hold it; a LENGTH
above 9,600 sets REFUSED and sends nothing. A post into a buffer that is not FREE sends nothing. The message is the endpoint's
PROXY_TENANT's (log entry 22). KIND 2 and 3 post nothing. -/
def bulkPost (f : Field) (e k : Nat) : Field :=
  let d := f.h
  let len := d.get e (BULK_CTL_LENGTH k)
  let kind := d.get e (BULK_CTL_KIND k)
  if d.halfRun (halfOf e) = false ∨ d.epExists e = false ∨ d.get e (BULK_CTL_FREE k) = 0 ∨ 2 ≤ kind then f
  else if 9600 < len then f.onH (·.set e (BULK_CTL_REFUSED k) 1)
  else f.onH (fun d =>
    let seq := sget (fun _ => 0) d.proxySeq e
    let body := (List.range len).map (fun i => sget (fun _ => 0) d.bulkBuf (65536 * e + 16384 * k + i))
    let m : RMsg := ⟨e, if kind = 0 then 7 else 8, sget (fun _ => 0) d.proxyTenant e, true, false, false, false, seq, 0, body, 0⟩
    let d := { d with
      bulkOut := sput (fun _ => none) d.bulkOut (4 * e + k) (some ⟨seq, false, false⟩)
      proxySeq := sput (fun _ => 0) d.proxySeq e ((seq + 1) % 2 ^ 32) }
    sendOrWait f.lead m (d.set e (BULK_CTL_FREE k) 0))

/-- BULK_POST (R301). -/
def execBulkPost (ep : Fin 8) (b : Fin 4) (s : State) : Host.Outcome State Fault Refusal := s.ok (bulkPost s.f ep.val b.val)

/-! A host's accesses to its BARs (R280, R307). -/

/-- Whether an offset is a ring register, written only while ENABLE is 0 (R307): base and size of a ring. TAIL and HEAD move while the queue
pair runs (log entry 102). -/
def ringReg (off : Nat) : Bool :=
  decide (0x10000 ≤ off) && [0, 4, 8, 0x14, 0x18, 0x1C, 0x24, 0x28, 0x2C].contains (off % 0x40)

/-- A write to BAR0 (R307): CMD starts a proxy command and POST a bulk post; ENABLE cleared empties the endpoint (R281); an unlisted offset is
counted in EP_BADACC. -/
def barWrite (f : Field) (ep off : Nat) (v : Word) : Field :=
  let d := f.h
  if d.halfRun (halfOf ep) = false ∨ d.epExists ep = false then f
  else match d.barRow ep off with
  | none => f.onH (·.inc ep EP_BADACC)
  | some r =>
    if ringReg off ∧ d.get ep (QP_CTL_ENABLE ((off - 0x10000) / 0x40)) = 1 then f
    else
      let f := f.onH (fun d => d.wr ep off (r.write (d.rd ep off) v))
      if off = EP_CTL then (if f.h.get ep EP_CTL_ENABLE = 0 then f.onH (·.clearEp ep) else f)
      else if 0x800 ≤ off ∧ off < 0x900 ∧ off % 0x40 = 8 then
        let c := (off - 0x800) / 0x40
        let cmd := v.toNat % 8
        if cmd = 1 then proxyRead f ep c else if cmd = 2 then proxyWrite f ep c
        else if cmd = 3 then proxySema f ep c 1 else if cmd = 4 then proxySema f ep c 2 else f
      else if 0xC00 ≤ off ∧ off < 0xC40 ∧ off % 0x10 = 4 ∧ v.getLsbD 31 = true then bulkPost f ep ((off - 0xC00) / 0x10)
      else f

/-- A write of four bytes to BAR2: the bulk buffers (R280, R301). -/
def bulkWrite (f : Field) (ep off : Nat) (v : Word) : Field :=
  if f.h.halfRun (halfOf ep) = false ∨ f.h.epExists ep = false then f
  else f.onH (fun d => { d with bulkBuf := ((leBytes 4 v.toNat).zipIdx).foldl (fun m b => sput (fun _ => 0) m (65536 * ep + off + b.2) b.1) d.bulkBuf })

/-- A read of PROXY_RESULT_LO keeps PROXY_RESULT_HI of the same moment for the read of the high word (R61, R307). -/
def barSnap (f : Field) (ep off : Nat) : Field :=
  if 0x800 ≤ off ∧ off < 0x900 ∧ off % 0x40 = 0x10 then
    let c := (off - 0x800) / 0x40
    f.onH (fun d => { d with resHi := sput (fun _ => 0) d.resHi (4 * ep + c) (d.rd ep (PROXY_RESULT_HI c)) })
  else f

/-! Semaphores. -/

/-- The holder that a requester stands for: its endpoint or its group, and its tenant (R302). -/
def semaOf (q : Plane) (ep tenant : Nat) : Sema := ⟨q.primary ep, (q.partner ep).isSome, tenant⟩

/-- A SEMA response (R302). -/
def semaRsp (status index : Nat) (h : Option Sema) : List Byte :=
  match h with
  | some x => leBytes 1 status ++ leBytes 1 index ++ leBytes 2 x.tenant ++ leBytes 1 x.ep ++ leBytes 3 0
  | none => leBytes 1 status ++ leBytes 1 index ++ leBytes 2 0xFFFF ++ leBytes 1 0xFF ++ leBytes 3 0

/-- Semaphore `i` of a plane. -/
def semaAt (q : Plane) (i : Nat) : Option Sema := sget (fun _ => none) q.host.sema i

/-- A SEMA request: OP and INDEX (R302). -/
def saysSema (op index : Nat) : List Byte → Bool := saysFields [(0, 1, op), (1, 1, index)]

/-- A semaphore set and the request answered. -/
def semaDone (q : Plane) (ep tenant tag i status : Nat) (h : Option Sema) : Plane :=
  let q := { q with host := { q.host with sema := sput (fun _ => none) q.host.sema i h } }
  q.respond ep clsSema tenant tag (semaRsp status i h)

/-- ACQUIRE (R302). -/
def execSemaAcquire (ep : Fin 8) (tenant : Fin 4096) (tag : Nat) (index : Fin 64) (s : State) :
    Host.Outcome State Fault Refusal :=
  s.ok (s.f.onAdmitted ep.val tenant.val clsSema tag (saysSema 1 index.val) (fun q =>
    let me := semaOf q ep.val tenant.val
    match semaAt q index.val with
    | none => semaDone q ep.val tenant.val tag index.val 0 (some me)
    | some x => semaDone q ep.val tenant.val tag index.val (if x = me then 0 else 6) (some x)))

/-- RELEASE (R302). -/
def execSemaRelease (ep : Fin 8) (tenant : Fin 4096) (tag : Nat) (index : Fin 64) (s : State) :
    Host.Outcome State Fault Refusal :=
  s.ok (s.f.onAdmitted ep.val tenant.val clsSema tag (saysSema 2 index.val) (fun q =>
    match semaAt q index.val with
    | none => semaDone q ep.val tenant.val tag index.val 0 none
    | some x =>
      if x = semaOf q ep.val tenant.val then semaDone q ep.val tenant.val tag index.val 0 none
      else semaDone q ep.val tenant.val tag index.val 6 (some x)))

/-- QUERY (R302). -/
def execSemaQuery (ep : Fin 8) (tenant : Fin 4096) (tag : Nat) (index : Fin 64) (s : State) :
    Host.Outcome State Fault Refusal :=
  s.ok (s.f.onAdmitted ep.val tenant.val clsSema tag (saysSema 3 index.val) (fun q => semaDone q ep.val tenant.val tag index.val 0 (semaAt q index.val)))

end Sys2Proof.Machine
end

