-- ==== Sys2Proof/Machine/Admission.lean ====
section
/-!
DEFINITION. Host admission (R36-R39) and the egress selector's intake (R40, R88, R412-R414).
-/

namespace Sys2Proof.Machine

/-- Whether both planes take part in the exchange of receipts: both in a running role and the Purlin up (R36, R38, R418). -/
def exchanging (f : Field) (p : PlaneId) : Bool :=
  (f.e.role p).running && (f.e.role p.other).running && (f.plane p).regs.get 0 ⟨PURLIN_STAT p.num, 31, 31⟩ = 1

/-- The posted buffer of a message: the planes that hold it, and FREE once all that run do (R301). -/
def markPosted (f : Field) (p : PlaneId) (m : RMsg) : Field :=
  if !m.posted then f
  else
    (List.range 4).foldl (fun f b =>
      match sget (fun _ => none) f.h.bulkOut (4 * m.ep + b) with
      | some o =>
        if o.seq = m.seq then
          let o := match p with | .A => { o with gotA := true } | .B => { o with gotB := true }
          let all := (o.gotA || !f.e.roleA.running) && (o.gotB || !f.e.roleB.running)
          f.onH (fun d =>
            if all then
              { d.set m.ep (BULK_CTL_FREE b) 1 with bulkOut := sput (fun _ => none) d.bulkOut (4 * m.ep + b) none }
            else { d with bulkOut := sput (fun _ => none) d.bulkOut (4 * m.ep + b) (some o) })
        else f
      | none => f) f

/-- An admission request on its way to Eaves (R36). -/
def ask (q : Plane) (r : Receipt) : Plane :=
  { q with host := { q.host with
      asks := q.host.asks ++ [(r, false)]
      held := q.host.held.map (fun x => if x.hdr.same r then { x with asked := true } else x) } }

/-- A plane's own copy kept, beside a receipt that may have come before it. -/
def keepCopy (q : Plane) (m : RMsg) (r : Receipt) (now : Nat) : Plane :=
  let held :=
    if q.host.held.any (fun x => x.hdr.same r) then
      q.host.held.map (fun x => if x.hdr.same r then { x with hdr := r, copy := some m } else x)
    else q.host.held ++ [⟨r, some m, none, now, false⟩]
  { q with host := { q.host with held := held } }

/-- The admission request follows when own copy and matching receipt are there (R36). -/
def askIfPaired (q : Plane) (r : Receipt) : Plane :=
  match q.host.held.find? (fun x => x.hdr.same r) with
  | some x => if x.asked = false ∧ x.copy.isSome = true ∧ x.receipt = some x.hdr then ask q x.hdr else q
  | none => q

/-- A plane receives a host message (R36, R285 checks 1 and 2): a damaged one is dropped and counted; a good one is held and its
receipt sent over the Purlin; a plane that runs alone asks for admission at once (R38). `hx` and `cx` are the bits in which the HCRC
and the trailer that arrive differ from those sent. -/
def execHostMsgReceive (h : HalfId) (p : PlaneId) (hx : Fin 65536) (cx : Fin 4294967296) (s : State) : Host.Outcome State Fault Refusal :=
  match s.f.h.toDev.find? (fun x => x.1 = pairNo h p) with
  | none => s.ok s.f
  | some (k, m) =>
    let f := s.f.onH (fun d => { d with toDev := d.toDev.erase (k, m) })
    let w := m.wire hx.val cx.val
    if !hcrcGood w then s.ok (f.onPlane p (fun q => (q.onRegs (·.inc RIDGE_HCRC_CNT)).oweCredit m))
    else if !crcGood w then s.ok (f.onPlane p (fun q => (q.onRegs (·.inc RIDGE_CRC_CNT)).oweCredit m))
    else if !(f.e.role p).running ∨ f.e.mode = .safe then s.ok (f.onPlane p (·.oweCredit m))
    else
      let r := m.receipt m.crc
      let f := markPosted f p m
      let f := f.onPlane p (keepCopy · m r f.e.counter)
      if exchanging f p then
        s.ok (f.onPlane p (fun q => askIfPaired { q with host := { q.host with receipts := q.host.receipts ++ [r] } } r))
      else s.ok (f.onPlane p (ask · r))

/-- The other plane's receipt reaches a plane (R36). -/
def execReceiptReceived (p : PlaneId) (s : State) : Host.Outcome State Fault Refusal :=
  match (s.f.plane p.other).host.receipts with
  | [] => s.ok s.f
  | r :: rest =>
    let f := s.f.onPlane p.other (fun q => { q with host := { q.host with receipts := rest } })
    s.ok (f.onPlane p (fun q =>
      let held :=
        if q.host.held.any (fun x => x.hdr.same r) then
          q.host.held.map (fun x => if x.hdr.same r then { x with receipt := some r } else x)
        else q.host.held ++ [⟨r, none, some r, f.e.counter, false⟩]
      askIfPaired { q with host := { q.host with held := held } } r))

/-- Eaves receives an admission request (R36, R38): with the matching pair, or the single request of a plane that runs alone, it
schedules the shingle for the second TICK after this control cycle (R540). -/
def execAdmissionRequest (p : PlaneId) (s : State) : Host.Outcome State Fault Refusal :=
  match (s.f.plane p).host.asks with
  | [] => s.ok s.f
  | (r, down) :: rest =>
    let f := s.f.onPlane p (fun q => { q with host := { q.host with asks := rest } })
    if !(f.e.role p).running then s.ok f
    else
      s.ok (f.onE (fun e =>
        let isIt := fun (x : AdmReq) => x.hdr = r ∧ x.epDown = down
        let item := if down then SchedItem.epRestart r.ep else .host r
        let other := match e.merger.reqs.find? (fun x => isIt x) with
          | some x => (match p with | .A => x.fromB | .B => x.fromA)
          | none => false
        let reqs := e.merger.reqs.filter (fun x => ¬ isIt x)
        if other || !(e.role p.other).running then
          ({ e with merger := { e.merger with reqs := reqs } }).schedule 2 item
        else
          { e with merger := { e.merger with reqs := reqs ++ [⟨r, p = .A, p = .B, down⟩] } }))

/-- The body of a message at its HOST shingle: the plane's own copy, or the one that the leading plane sent for the catch-up
(R36, R420). -/
def bodyFor (q : Plane) (ep cls tenant seq : Nat) : Option RMsg :=
  let isIt := fun (m : RMsg) => m.ep = ep ∧ m.cls = cls ∧ m.tenant = tenant ∧ m.seq = seq
  match q.host.held.find? (fun x => match x.copy with | some m => isIt m | none => false) with
  | some x => x.copy
  | none => q.host.bodies.find? (fun m => isIt m)

/-- A plane acts on its copy of a message at the HOST shingle (R36): checks 3-6 of R285. -/
def planeHostAdmit (f : Field) (p : PlaneId) : Field :=
  let q := f.plane p
  match q.st.inbox with
  | [] => f
  | sh :: rest =>
    if sh.utype ≠ .host ∨ bytesAt sh.body 0 1 % 16 = 0 then f
    else
      let ep := sh.port - 168
      let w := bytesAt sh.body 1 3
      let q := { q with st := { q.st with inbox := rest, stream := sh.stream, ts := sh.ts } }
      let got := bodyFor q ep (bytesAt sh.body 0 1 % 16) (w % 4096) (bytesAt sh.body 5 4)
      match got with
      | none => f.onPlane p (fun _ => q)
      | some m =>
        let q := { q with host := { q.host with
          held := q.host.held.filter (fun x => x.copy ≠ some m)
          bodies := q.host.bodies.filter (· ≠ m) } }
        let stale := decide (sget (fun _ => 0) q.st.gens sh.port ≠ sh.gen)
        let q := if stale then q else q.admitMsg m
        let f := f.onPlane p (fun _ => q.oweCredit m)
        if f.e.role p = .leading ∧ f.e.role p.other = .rejoining then
          f.onPlane p.other (fun o => { o with host := { o.host with bodies := o.host.bodies ++ [m] } })
        else f

/-- The bulk buffer of a posted message that is rejected is FREE again: both planes have discarded the message (log entry 104). -/
def freePosted (f : Field) (m : RMsg) : Field :=
  if m.posted then (List.range 4).foldl (fun f b =>
    if (sget (fun _ => none) f.h.bulkOut (4 * m.ep + b)).elim false (fun o => o.seq = m.seq) then
      f.onH (fun d => { d.set m.ep (BULK_CTL_FREE b) 1 with bulkOut := sput (fun _ => none) d.bulkOut (4 * m.ep + b) none })
    else f) f else f

/-- A receipt exchange fails (R39): the copies disagree, or 50 µs have passed since the first receipt. Both planes discard the
message, and each that holds it tells the sender directly, outside the output sequences (R289). R39 does not say to which plane the Ridge
lane pair of its INFO report belongs: DESIGN CHOICE, the RIDGE_RX source of the sender's half is reported for both planes (log entry 73). -/
def execReceiptTimeout (ep : Fin 8) (tenant : Fin 4096) (seq : Nat) (s : State) : Host.Outcome State Fault Refusal :=
  let isIt := fun (x : Held) => x.hdr.ep = ep.val ∧ x.hdr.tenant = tenant.val ∧ x.hdr.seq = seq
  let differ := fun (q : Plane) => q.host.held.any (fun x => isIt x && x.copy.isSome && x.receipt.isSome && x.receipt ≠ some x.hdr)
  let late := fun (q : Plane) => q.host.held.any (fun x => isIt x && !x.asked && decide (x.since + 50000 < s.f.e.counter))
  let f := s.f
  if !(f.e.roleA.running && f.e.roleB.running) then s.ok f
  else
    let bad := differ f.a || differ f.b
    if bad || late f.a || late f.b then
      let copies := [f.a, f.b].filterMap (fun q => (q.host.held.find? (fun x => isIt x)).bind (·.copy))
      let f := copies.foldl freePosted f
      let f := f.onBoth (fun q =>
        match q.host.held.find? (fun x => isIt x) with
        | none => q
        | some x =>
          let q := { q with host := { q.host with held := q.host.held.filter (fun y => ¬ isIt y) } }
          match x.copy with
          | none => q
          | some m =>
            let b := rejectedBody (m.receipt 0) (if bad then 4 else 5) f.e.counter
            let ev : RMsg := ⟨m.ep, clsEvent, m.tenant, false, false, false, true, 0, 0, b, 0⟩
            let q := (q.onRegs (·.inc RIDGE_REJECT_CNT)).oweCredit m
            { q with host := { q.host with direct := q.host.direct ++ [ev] } })
      let k := 22 + (halfOf ep.val).num
      s.ok (if bad then f.onE (fun e => (e.info (planeSrc .A k)).info (planeSrc .B k)) else f)
    else s.ok f

/-! The selector's intake. -/

/-- Bytes of a candidate with its 12-byte tag (R19). -/
def Cand.bytes (c : Cand) : Nat := 12 + c.unit.size

/-- Occupancy of the shadow hold buffer (R412). -/
def holdBytes (e : Eaves) : Nat := e.sel.hold.foldl (fun n c => n + Cand.bytes c) 0

/-- Occupancy, watermark event and peak shown (R412, R53). -/
def showHold (e : Eaves) : Eaves :=
  let n := holdBytes e
  e.onRegs (fun m => (m.set 0 PLANE_HOLD_LEVEL_BYTES n).peak PLANE_HOLD_PEAK_WM_EVENT PLANE_HOLD_PEAK_BYTES
    (m.get 0 PLANE_HOLD_WM_LEVEL) n)

/-- A digest mismatch starts a 5 µs attribution window (R414); one that runs already stays. -/
def startWindow (e : Eaves) (port oseq dLead dShadow : Nat) : Eaves :=
  match e.sel.window with
  | some _ => e
  | none => { e with sel := { e.sel with window := some (port, oseq, dLead, dShadow), windowAt := e.counter } }

/-- The digests of two copies compared, where both carry one (R413). -/
def compareDigests (e : Eaves) (lead shadow : Cand) : Eaves :=
  match lead.digest, shadow.digest with
  | some a, some b => if a = b then e else startWindow e lead.port lead.oseq a b
  | _, _ => e

/-- A candidate of the leading plane (R40): passed in output-sequence order; the held copy of the other plane is compared and
discarded. After a turn, causes that the old plane has served are skipped (R88). -/
def takeLead (e : Eaves) (c : Cand) : Eaves :=
  let nx := e.sel.nextOf c.port
  if c.oseq = nx ∧ e.sel.skips c.port c.cause = true then
    { e with sel := { e.sel with next := sput (fun _ => 0) e.sel.next c.port ((nx + 1) % 2 ^ 32) } }
  else if c.oseq = nx then
    let e := e.passCand c
    match e.sel.hold.find? (fun x => x.src ≠ c.src ∧ x.newTruss = c.newTruss ∧ x.port = c.port ∧ x.oseq = c.oseq) with
    | some x => compareDigests { e with sel := { e.sel with hold := e.sel.hold.erase x } } c x
    | none =>
      if c.digest.isSome ∧ e.shadow.isSome then { e with sel := { e.sel with digests := e.sel.digests ++ [c] } } else e
  else if serialLe 32 c.oseq nx then e
  else { e with sel := { e.sel with hold := e.sel.hold ++ [c] } }

/-- A candidate of the shadow plane (R40): discarded when its sequence has been passed, else held. -/
def takeShadow (e : Eaves) (c : Cand) : Eaves :=
  let nx := e.sel.nextOf c.port
  if c.oseq ≠ nx ∧ serialLe 32 c.oseq nx = true then
    match e.sel.digests.find? (fun x => x.port = c.port ∧ x.oseq = c.oseq) with
    | some x => compareDigests { e with sel := { e.sel with digests := e.sel.digests.erase x } } x c
    | none => e
  else { e with sel := { e.sel with hold := e.sel.hold ++ [c] } }

/-- A candidate of the new-truss plane from ARMED on (R88): held, until its port has passed; such a port passes it, but for a cause before
the CUT. -/
def takeNew (e : Eaves) (c : Cand) : Eaves :=
  if e.sel.gone.contains c.port then (if e.sel.skips c.port c.cause then e else e.passCand c)
  else { e with sel := { e.sel with hold := e.sel.hold ++ [c] } }

/-- An egress candidate reaches the selector (R40, R88, R412, R413). A full hold buffer declares the leading plane faulty from
PLANE_LAG. -/
def execCandidateArrive (p : PlaneId) (s : State) : Host.Outcome State Fault Refusal :=
  match (s.f.plane p).st.up with
  | [] => s.ok s.f
  | c :: rest =>
    let f := s.f.onPlane p (fun q => { q with st := { q.st with up := rest } })
    if f.e.mode = .safe then s.ok f
    else
      let f := match f.e.role p with
        | .leading => f.onE (takeLead · c)
        | .shadow => f.onE (fun e => if c.newTruss then takeNew e c else takeShadow e c)
        | .rejoining => f
        | .offline => if f.e.mode = Mode.kindling ∧ (f.plane p).st.sends = true then f.onE (takeLead · c) else f
      let f := f.onE showHold
      if 0x400000 ≤ holdBytes f.e then
        match f.e.leader with
        | some l => s.ok (f.raisePlane l 8)
        | none => s.ok f
      else s.ok f

end Sys2Proof.Machine
end

