-- ==== Sys2Proof/Machine/KilnOps.lean ====
section
/-!
DEFINITION. The Kiln as shared operations (R316-R338): the KEYS section, roots and derivation, uses of a key, frame
authentication, entropy, workshop sessions.
-/

namespace Sys2Proof

/-- The Kiln changed. -/
def Plane.onKiln (p : Plane) (g : Kiln → Kiln) : Plane := { p with kiln := g p.kiln }

/-! The KEYS section (R335). Each table is preceded by its entry count, in eight bytes (log entry 31). -/

/-- The KEYS section of the running truss. -/
def Plane.keys (p : Plane) : List Byte := p.truss.sec 0x12

/-- Where a section's KEY table begins (its count). -/
def keysKeyOff (bs : List Byte) : Nat := 8 + 16 * bytesAt bs 0 4
/-- Where the WKEY table begins. -/
def keysWkeyOff (bs : List Byte) : Nat := keysKeyOff bs + 8 + 48 * bytesAt bs (keysKeyOff bs) 4
/-- Where the MACSEC table begins. -/
def keysMsOff (bs : List Byte) : Nat := keysWkeyOff bs + 8 + 112 * bytesAt bs (keysWkeyOff bs) 4

/-- KEY record `h`; a handle beyond the table is EMPTY. -/
def Plane.keyRec (p : Plane) (h : Nat) : Rec :=
  let o := keysKeyOff p.keys
  if h < bytesAt p.keys o 4 then recAt p.keys (o + 8) 48 h else 0

/-- The MACSEC record of an Ethernet port. -/
def Plane.msRec (p : Plane) (port : Nat) : Option Rec :=
  let o := keysMsOff p.keys
  ((List.range (bytesAt p.keys o 4)).map (fun i => recAt p.keys (o + 8) 48 i)).find? (fun r => r.u 0 1 = port)

/-- Key length in bytes of an ALG. -/
def algBytes (alg : Nat) : Nat := if alg = 2 then 32 else 16

/-- A slot of a plane's Kiln. -/
def Plane.keySlot (p : Plane) (h : Nat) : KeySlot := sget (fun _ => KeySlot.empty) p.kiln.slots h

/-- A slot changed. -/
def Plane.onSlotK (p : Plane) (h : Nat) (g : KeySlot → KeySlot) : Plane :=
  p.onKiln (fun k => { k with slots := supd (fun _ => KeySlot.empty) k.slots h g })

/-! Roots and derivation. -/

/-- ASCII bytes of a label. -/
def ascii (s : String) : List Byte := s.toList.map (fun c => BitVec.ofNat 8 c.toNat)

/-- DEVICE_SERIAL, 8 bytes big-endian. -/
def serialBe : List Byte := beBytes 8 Config.serial

/-- A 128-bit parent is zero-extended (R333). -/
def widen (k : List Byte) : List Byte := fitBytes 32 k

/-- The active root of a life-cycle state (R326). -/
def Otp.root (o : Otp) : Option (List Byte) :=
  if o.lc = 1 then some Config.rootV
  else if o.lc = 2 then o.rootO
  else if o.lc = 3 then o.rootO.map (fun r => Config.kdf r (ascii "FIELD") Config.dus 32)
  else if o.lc = 4 then some (Config.kdf Config.rootV (ascii "RETURN") Config.dus 32)
  else none

/-- A derived key (R333). -/
def deriveKey (parent : List Byte) (r : Rec) (h : Nat) : List Byte :=
  let label := (leBytes 16 (r.u 24 16)).take (r.u 20 1)
  let ctx := (if bit (r.u 3 1) 1 then serialBe else []) ++ beBytes 2 h
  fitBytes (algBytes (r.u 1 1)) (Config.kdf (widen parent) label ctx (algBytes (r.u 1 1)))

/-! Uses. -/

/-- One use of a key (R331): the use that brings the counter to 0 succeeds and exhausts the slot. -/
def Plane.takeUse (p : Plane) (h : Nat) : Plane :=
  let s := p.keySlot h
  if (p.keyRec h).u 8 4 = 0 then p
  else if s.uses ≤ 1 then
    (p.onSlotK h (fun s => { s with uses := 0, state := 2 })).event 0x0905 noId noId (leBytes 2 h)
  else p.onSlotK h (fun s => { s with uses := s.uses - 1 })

/-- A key is LOADED and has a usage bit. -/
def Plane.keyOk (p : Plane) (h usage : Nat) : Bool := (p.keySlot h).state = 1 && bit ((p.keyRec h).u 2 1) usage

/-- Whether a consumer of randomness still waits: 0 a session's OPEN, 1 PROV_ESCROW, 2-5 a job window, 16-39 MKA on port 0-23, 64 + h a
GENERATED key. -/
def Plane.stillWaits (p : Plane) (c : Nat) : Bool :=
  if c = 0 then p.kiln.ask.elim false (fun l => l.what = 1)
  else if c = 1 then p.kiln.prov.elim false (fun l => l.what = 5)
  else if c < 6 then (sget (fun _ => none) p.kiln.jobs (c - 2)).isSome
  else if c < 64 then (sget (fun _ => MsPort.init) p.kiln.ms (c - 16)).wantSak
  else (p.keySlot (c - 64)).state = 0

/-- Whether consumer `c` may draw `n` bytes (R29, R343): the pool is ready and holds them, and no consumer before it waits. -/
def Plane.mayDraw (p : Plane) (c n : Nat) : Bool :=
  p.kiln.randSeen && decide (n ≤ p.st.pool.length) && !((p.kiln.waits.takeWhile (· ≠ c)).any p.stillWaits)

/-- Draws the oldest bytes of the entropy pool (R29); none while the consumer has to wait. -/
def Plane.drawPool (p : Plane) (c n : Nat) : Option (List Byte × Plane) :=
  if p.mayDraw c n then
    some (p.st.pool.take n, ({ p with st := { p.st with pool := p.st.pool.drop n } } : Plane).onKiln (fun k => { k with
      waits := k.waits.filter (· ≠ c) }))
  else none

/-- A consumer that found the pool short waits for the next RAND, behind those that wait already (R29). -/
def Plane.awaitRand (p : Plane) (c : Nat) : Plane :=
  p.onKiln (fun k => { k with waits := if k.waits.contains c then k.waits else k.waits.filter p.stillWaits ++ [c] })

/-! Filling the slots. -/

/-- A key taken into its slot (R331): with its uses at an end already the slot is EXHAUSTED. -/
def KeySlot.filled (s : KeySlot) (limit : Nat) (key : List Byte) : KeySlot :=
  { s with state := if limit ≠ 0 ∧ s.uses = 0 then 2 else 1, key := key }

/-- A DERIVED slot filled from its parent (R333). -/
def Plane.fillDerived (p : Plane) (root : Option (List Byte)) (h : Nat) : Plane :=
  let r := p.keyRec h
  let parent := if r.u 6 2 = 0xFFFF then root
    else if p.keyOk (r.u 6 2) 4 then some (p.keySlot (r.u 6 2)).key else none
  match parent with
  | none => p
  | some k =>
    let p := if r.u 6 2 = 0xFFFF then p else p.takeUse (r.u 6 2)
    p.onSlotK h (·.filled (r.u 8 4) (deriveKey k r h))

/-- A GENERATED slot filled from the pool (R331, R343); it waits while the pool cannot give its key. -/
def Plane.fillGenerated (p : Plane) (h : Nat) : Plane :=
  match p.drawPool (64 + h) (algBytes ((p.keyRec h).u 1 1)) with
  | some (k, p) => p.onSlotK h (fun s => { s with state := 1, key := k, uses := (p.keyRec h).u 8 4, fvRx := 0, fvTx := 0 })
  | none => p.awaitRand (64 + h)

/-- A wrapped key opened under its parent (R334): NONCE ‖ wrapped key ‖ TAG. -/
def openBlob (parent aad blob : List Byte) : Option (List Byte) :=
  let nonce := blob.take 12
  let text := (blob.drop 12).take (blob.length - 28)
  let tag := blob.drop (blob.length - 16)
  if blob.length < 28 then none
  else if fitBytes 16 (Config.gcmTag parent nonce aad text) = tag then some (fitBytes text.length (Config.gcmText parent nonce aad text))
  else none

/-- A stored import opened again (R334). A key that a DEVICE reset has destroyed stays so (R331). -/
def Plane.fillImported (p : Plane) (h : Nat) : Plane :=
  let r := p.keyRec h
  if bit (r.u 3 1) 0 then (if p.kiln.expired.contains h then p.onSlotK h (fun s => { s with state := 3 }) else p) else
  let blob := sget (fun _ => []) p.nv.kiln.blobs h
  let ver := sget (fun _ => 0) p.nv.kiln.vers h
  let parent := r.u 6 2
  if blob.length ≠ 28 + algBytes (r.u 1 1) ∨ p.keyOk parent 5 = false then p
  else
    match openBlob (p.keySlot parent).key (serialBe ++ beBytes 2 h ++ beBytes 4 ver) blob with
    | some k => p.onSlotK h (·.filled (r.u 8 4) k)
    | none => p

/-- Every slot of the truss filled in handle order; uses and freshness states restored from the region, with 65,536 added to every
transmit FV of an unclean region (R321). -/
def Plane.fillSlots (p : Plane) (root : Option (List Byte)) : Plane :=
  let n := bytesAt p.keys (keysKeyOff p.keys) 4
  let clean := p.nv.kiln.clean
  let p := p.onKiln (fun k => { k with slots := [] })
  let p := (List.range n).foldl (fun p h =>
    let r := p.keyRec h
    let base : KeySlot := ⟨0, [], r.u 8 4, 0, 0, 0⟩
    let s := match sget (fun _ => none) p.nv.kiln.fv h with
      | some (rx, tx, uses) => { base with
          uses := if r.u 8 4 = 0 then 0 else min uses (r.u 8 4)
          fvRx := rx, fvTx := if clean then tx else (tx + 65536) % 2 ^ 64 }
      | none => base
    p.onSlotK h (fun _ => s)) p
  let p := (List.range n).foldl (fun p h =>
    let kind := (p.keyRec h).u 0 1
    if kind = 1 then p.fillDerived root h
    else if kind = 2 then p.fillImported h
    else if kind = 3 then p.fillGenerated h
    else p) p
  let sealKey := root.elim [] (fun r => Config.kdf r (ascii "RICKSEAL") (serialBe ++ beBytes 2 0xFFFE) 32)
  p.onRick (fun r => { r with sealKey := sealKey })

/-- Handles whose keys a DEVICE-domain reset destroys (R331): those with EXPIRE_AT_RESET that hold one, or held one at the last. -/
def Plane.expiring (p : Plane) : List Nat :=
  p.kiln.expired ++ (p.kiln.slots.map (·.1)).filter (fun h => bit ((p.keyRec h).u 3 1) 0 = true ∧ (p.keySlot h).state ≠ 0 ∧
    ¬ p.kiln.expired.contains h)

/-- Freshness states and use counters committed to the region, which is marked clean (R321). -/
def Plane.kilnCommit (p : Plane) : Plane :=
  let fv := p.kiln.slots.map (fun e => (e.1, some (e.2.fvRx, e.2.fvTx, e.2.uses)))
  { p with nv := { p.nv with kiln := { p.nv.kiln with fv := fv, clean := true } } }

/-! Frame authentication. -/

/-- One failure of a handle counted, with at most one EVENT AUTH_FAIL in a governor window (R318). -/
def Plane.authFail (p : Plane) (h reason : Nat) : Plane :=
  let reg := selKey h (if reason = 3 then CPH_KREPLAY else CPH_KFAIL)
  let p := (p.onRegs (·.inc reg)).onSlotK h (fun s => { s with winFail := s.winFail + 1 })
  if p.kiln.toldHandles.contains h then p
  else
    (p.onKiln (fun k => { k with toldHandles := k.toldHandles ++ [h] })).event 0x0901 noId noId
      (leBytes 2 h ++ leBytes 1 reason ++ leBytes 1 0 ++ leBytes 4 (p.keySlot h).winFail)

/-- The candidate freshness value (R317), in 64 bits. -/
def fvCandidate (a carried bytes : Nat) : Nat :=
  if bytes = 8 then carried
  else
    let m := 2 ^ (8 * bytes)
    let c := a / m * m + carried
    if c ≤ a then (c + m) % 2 ^ 64 else c

/-- The verdict of a unit under a handle (R316-R318): 0 PASSED, 1 SHORT, 2 KEY, 3 REPLAY, 4 MAC, with its effects on the handle. -/
def Plane.verify (p : Plane) (h : Nat) (tenant : Nat) (payload : List Byte) : Plane × Nat :=
  let r := p.keyRec h
  let fvb := r.u 14 1
  let tagb := r.u 15 1
  let n := payload.length
  if n < fvb + tagb then (p.authFail h 1, 1)
  else if p.keyOk h 3 = false ∨ (r.u 4 2 ≠ 0xFFFF ∧ r.u 4 2 ≠ tenant) then (p.authFail h 2, 2)
  else
    let s := p.keySlot h
    let body := payload.take (n - fvb - tagb)
    let c := fvCandidate s.fvRx (beAt payload (n - fvb - tagb) fvb) fvb
    let tag := fitBytes tagb (Config.cmac s.key (beBytes 2 (r.u 12 2) ++ body ++ beBytes 8 c))
    let p := p.takeUse h
    if c ≤ s.fvRx ∨ r.u 16 4 < c - s.fvRx then (p.authFail h 3, 3)
    else if tag ≠ payload.drop (n - tagb) then (p.authFail h 4, 4)
    else ((p.onSlotK h (fun s => { s with fvRx := c })).onRegs (·.inc (selKey h CPH_KPASS)), 0)

/-- A SECURE build (R320): the transmit FV rises, and freshness bytes and tag take the end of the payload; none where the key cannot
make a tag, or is bound to a tenant (R331). -/
def Plane.secureTx (p : Plane) (h : Nat) (payload : List Byte) : Plane × Option (List Byte) :=
  let r := p.keyRec h
  let fvb := r.u 14 1
  let tagb := r.u 15 1
  let n := payload.length
  if p.keyOk h 2 = false ∨ r.u 4 2 ≠ 0xFFFF ∨ n < fvb + tagb then (p.onRegs (·.inc (selKey h CPH_KTXFAIL)), none)
  else
    let p := p.onSlotK h (fun s => { s with fvTx := (s.fvTx + 1) % 2 ^ 64 })
    let fv := (p.keySlot h).fvTx
    let body := payload.take (n - fvb - tagb)
    let tag := fitBytes tagb (Config.cmac (p.keySlot h).key (beBytes 2 (r.u 12 2) ++ body ++ beBytes 8 fv))
    (p.takeUse h, some (body ++ (beBytes 8 fv).drop (8 - fvb) ++ tag))

/-! Workshop sessions. -/

/-- A tenant's live session. -/
def Plane.session (p : Plane) (tenant : Nat) : Option WSess := p.kiln.sess.find? (·.tenant = tenant)

/-- The place of a management core in secure state among the tenants of a guarded write (R58); no host has this number. -/
def secureCore : Nat := 65536

/-- Whether a tenant holds a live session, or is a secure core (R58). -/
def Plane.hasSession (p : Plane) (tenant : Nat) : Bool := tenant = secureCore || (p.session tenant).isSome

/-- Whether a tenant's session carries a right (bit 0 LIFECYCLE, bit 1 DEBUG). -/
def Plane.hasRight (p : Plane) (tenant k : Nat) : Bool :=
  tenant = secureCore || (p.session tenant).elim false (fun s => bit s.rights k)

/-- The LEGAL record and EVENT SESSION_END of a tenant's session (R337). -/
def Plane.recordEnd (p : Plane) (tenant cause : Nat) : Plane :=
  let d := leBytes 2 tenant ++ leBytes 1 cause
  (p.legalEvent 6 (leBytes 2 0x0903 ++ d)).event 0x0903 tenant noId d

/-- A session ends (R337). -/
def Plane.endSession (p : Plane) (s : WSess) (cause : Nat) : Plane :=
  (p.onKiln (fun k => { k with sess := k.sess.filter (· ≠ s) })).recordEnd s.tenant cause

/-- Every session that satisfies `q` ends. -/
def Plane.endSessions (p : Plane) (q : WSess → Bool) (cause : Nat) : Plane :=
  (p.kiln.sess.filter q).foldl (fun p s => p.endSession s cause) p

/-- CTRL MODE payload (R448). -/
def ctrlModeBody (step frm target ps cause src tenant : Nat) : List Byte :=
  leBytes 2 7 ++ leBytes 1 step ++ leBytes 1 frm ++ leBytes 1 target ++ leBytes 1 ps ++ leBytes 1 cause ++ leBytes 1 src ++
    leBytes 2 tenant ++ leBytes 6 0

/-- A CTRL MODE shingle, whose CAUSE PWR_STAT shows (R473). -/
def Eaves.ctrlMode (e : Eaves) (step frm target ps cause src tenant : Nat) : Eaves :=
  (e.onRegs (·.set 0 PWR_STAT_CAUSE cause)).ctrl 256 (ctrlModeBody step frm target ps cause src tenant)

/-- The mode is WORKSHOP while a session is live (R337, R443, R445); CTRL MODE DONE with cause SESSION tells of a change. Its TENANT is the
opener's at the change to WORKSHOP (log entry 119). -/
def Machine.Field.refreshMode (f : Machine.Field) : Machine.Field :=
  let sess := f.lead.kiln.sess
  if f.e.mode = .service ∧ sess ≠ [] then
    f.onE (fun e => ({ e with mode := .workshop } : Eaves).ctrlMode 2 1 2 e.pstate.code 5 0 (sess.getLast?.elim 0xFFFF (·.tenant)))
  else if f.e.mode = .workshop ∧ sess = [] then
    f.onE (fun e => ({ e with mode := .service } : Eaves).ctrlMode 2 2 1 e.pstate.code 5 0 0xFFFF)
  else f

/-- Time for which OPEN is refused after `n` failures, in s (R338). -/
def lockTime (n : Nat) : Nat := if n < 3 then 0 else min 3600 (10 * 2 ^ (n - 3))

/-- Job STATUS or session STATUS codes. -/
def stDenied : Nat := 7
/-- NOT_READY. -/
def stNotReady : Nat := 8

/-- Whether a pending request of tick `since` applies at the plane's TICK: the first TICK after admission. -/
def Plane.due (p : Plane) (l : Later) : Bool := decide (l.since < p.st.tick)

/-- A request to OPEN or SUBMIT (R336) as its access performs it: 0 OK, 3 BUSY. -/
def Plane.askSession (p : Plane) (what tenant ep : Nat) : Plane × Nat :=
  let busy := p.kiln.ask.isSome || (what = 1 && ((p.kiln.chal.elim false (fun c => c.tenant ≠ tenant)) ||
    decide (4 ≤ p.kiln.sess.length)))
  if busy then (p, 3)
  else ((p.onKiln (fun k => { k with ask := some ⟨what, tenant, ep, p.st.tick⟩ })).onRegs (·.set 0 CPH_SESS_STAT_PENDING 1), 0)

/-- The request leaves and its status shows. -/
def Plane.sessionDone (p : Plane) (status : Nat) : Plane :=
  (p.onKiln (fun k => { k with ask := none })).onRegs (fun m => (m.set 0 CPH_SESS_STAT_PENDING 0).set 0 CPH_SESS_STAT_STATUS status)

/-- OPEN applies (R336, R338): a challenge for 60 s, or NOT_READY, or LOCKED. -/
def Plane.sessionOpen (p : Plane) : Plane :=
  match p.kiln.ask with
  | some l =>
    if l.what ≠ 1 ∨ p.due l = false then p
    else if p.st.tick < p.kiln.lockUntil then p.sessionDone 10
    else if !p.kiln.randSeen then p.sessionDone stNotReady
    else
      match p.drawPool 0 32 with
      | none => p.awaitRand 0
      | some (bs, p) =>
        let p := p.onKiln (fun k => { k with chal := some ⟨l.tenant, bs, p.st.tick + 6000000⟩ })
        let p := (List.range 8).foldl (fun p i => p.onRegs (·.wr (CPH_SESS_CHAL i) (BitVec.ofNat 32 (bytesAt bs (4 * i) 4)))) p
        p.sessionDone 0
  | none => p

/-- The 52-byte message of R336. -/
def sessionMsg (p : Plane) (c : Challenge) (tenant rights lifetime wkey : Nat) : List Byte :=
  leBytes 4 0x50534B57 ++ c.bytes ++ serialBe ++ beBytes 2 tenant ++ leBytes 1 p.kiln.lc ++ leBytes 1 rights ++
    beBytes 2 lifetime ++ leBytes 1 wkey ++ leBytes 1 0

/-- Whether a SUBMIT's signature opens a session (R336). -/
def Plane.submitOk (p : Plane) (tenant : Nat) : Bool :=
  let rights := p.regs.get 0 CPH_SESS_REQ_RIGHTS
  let life := p.regs.get 0 CPH_SESS_REQ_LIFETIME
  let w := p.regs.get 0 CPH_SESS_CTL_WKEY
  let o := keysWkeyOff p.keys
  let r := recAt p.keys (o + 8) 112 w
  let sig := (List.range 24).flatMap (fun i => leBytes 4 (p.regs.rd (CPH_SESS_SIG i)).toNat)
  match p.kiln.chal with
  | none => false
  | some c =>
    c.tenant = tenant && decide (p.st.tick < c.until_) && decide (1 ≤ life ∧ life ≤ 480) && decide (w < bytesAt p.keys o 4) &&
      bit (r.u 98 1) p.kiln.lc && decide (rights &&& r.u 97 1 = rights) &&
      Config.ecdsaVerify (r.bytes 97) (sessionMsg p c tenant rights life w) sig

/-- SUBMIT applies (R336-R338). -/
def Plane.sessionSubmit (p : Plane) : Plane :=
  match p.kiln.ask with
  | some l =>
    if l.what ≠ 2 ∨ p.due l = false then p
    else
      let good := p.submitOk l.tenant
      let p := p.onKiln (fun k => { k with chal := k.chal.filter (fun c => c.tenant ≠ l.tenant) })
      if good then
        let s : WSess := ⟨l.tenant, l.ep, p.regs.get 0 CPH_SESS_REQ_RIGHTS, p.regs.get 0 CPH_SESS_CTL_WKEY,
          p.regs.get 0 CPH_SESS_REQ_LIFETIME, p.st.tick + p.regs.get 0 CPH_SESS_REQ_LIFETIME * 6000000⟩
        let d := leBytes 2 s.tenant ++ leBytes 1 s.rights ++ leBytes 1 s.wkey ++ leBytes 2 s.lifetime
        let p := p.onKiln (fun k => { k with sess := k.sess.filter (·.tenant ≠ s.tenant) ++ [s] })
        let p := { p with nv := { p.nv with kiln := { p.nv.kiln with fails := 0 } } }
        ((p.legalEvent 6 (leBytes 2 0x0902 ++ d)).event 0x0902 s.tenant noId d).sessionDone 0
      else
        let n := p.nv.kiln.fails + 1
        let p := { p with nv := { p.nv with kiln := { p.nv.kiln with fails := n } } }
        let p := p.onKiln (fun k => { k with lockUntil := p.st.tick + lockTime n * 100000 })
        ((p.onRegs (·.inc CPH_SESS_FAIL)).event 0x0904 l.tenant noId (leBytes 2 l.tenant ++ leBytes 2 (lockTime n))).sessionDone
          stDenied
  | none => p

end Sys2Proof
end

