-- ==== Sys2Proof/Machine/Kiln.lean ====
section
/-!
DEFINITION. The Kiln's events: MKA (R325), life cycle and provisioning (R327-R329), destruction of keys (R332), sessions
(R336-R338), cipher jobs (R339, R334), tamper (R341), entropy (R342-R344).
-/

namespace Sys2Proof.Machine

/-- A guarded access that fails the guard, or lacks the LIFECYCLE right, is ignored and counted (R59, R346). -/
def guardMiss (f : Field) : Field := f.onE (·.onRegs (·.inc DEVICE_GUARD_CNT))

/-! Life cycle. -/

/-- Whether the table of R327 allows a transition, with the needs of VENDOR → OEM. -/
def lcAllowed (o : Otp) (tgt : Nat) : Bool :=
  let lc := o.lc
  if lc = 1 ∧ tgt = 2 then o.rootO.isSome && o.digests.any (·.1 = 2) && o.retention.isSome
  else if lc = 1 then tgt = 5
  else if lc = 2 then tgt = 3 || tgt = 4 || tgt = 5
  else if lc = 3 then tgt = 4 || tgt = 5
  else if lc = 4 then tgt = 5
  else false

/-- A write of ARM to KILN_LC_CMD (R327, R346). -/
def armLc (f : Field) (o : Otp) (tenant tgt confirm : Nat) : Field :=
  if !f.lead.hasRight tenant 0 then guardMiss f
  else if confirm = 0xC0DE ∧ lcAllowed o tgt = true then
    f.onTaking (fun q => ({ q with nv := { q.nv with kiln := { q.nv.kiln with armed := some tgt } } } : Plane).onRegs
      (fun m => ((m.set 0 KILN_LC_STAT_ARMED 1).set 0 KILN_LC_STAT_TARGET tgt).set 0 KILN_LC_STAT_RESULT 0))
  else f.onTaking (·.onRegs (·.set 0 KILN_LC_STAT_RESULT 2))

/-- LC_ARM (R327). -/
def execLcArm (tenant : Fin 4096) (target : Fin 16) (confirm : Fin 65536) (s : State) : Host.Outcome State Fault Refusal :=
  s.ok (armLc s.f s.otpA tenant.val target.val confirm.val)

/-- A write of DISARM to KILN_LC_CMD (R346). -/
def disarmLc (f : Field) (tenant : Nat) : Field :=
  if !f.lead.hasRight tenant 0 then guardMiss f
  else f.onTaking (fun q => ({ q with nv := { q.nv with kiln := { q.nv.kiln with armed := none } } } : Plane).onRegs
    (fun m => (m.set 0 KILN_LC_STAT_ARMED 0).set 0 KILN_LC_STAT_TARGET 0))

/-- LC_DISARM (R327). -/
def execLcDisarm (tenant : Fin 4096) (s : State) : Host.Outcome State Fault Refusal := s.ok (disarmLc s.f tenant.val)

/-- KILN_LC as the OTP has it. -/
def showOtp (o : Otp) (q : Plane) : Plane :=
  q.onRegs (fun m => ((m.set 0 KILN_LC_STATE o.lc).set 0 KILN_LC_FUSED o.fusedBits).set 0 KILN_LC_REVOKED o.revokedBits)

/-- The device with the OTP of both planes changed alike (R326: fused at the same commands). -/
def State.fused (s : State) (f : Field) (g : Otp → Otp) : State :=
  { s with f := { f with a := showOtp (g s.otpA) f.a, b := showOtp (g s.otpB) f.b }, otpA := g s.otpA, otpB := g s.otpB }

/-- The same as an outcome. -/
def State.fuse (s : State) (f : Field) (g : Otp → Otp) : Host.Outcome State Fault Refusal := .next (s.fused f g)

/-- Slots that the state accepts, fused and not revoked, with `k` revoked. -/
def slotsLeft (o : Otp) (k : Nat) : List Nat :=
  (lcSlots o.lc).filter (fun i => i ≠ k ∧ o.digests.any (·.1 = i) = true ∧ ¬ o.revoked.contains i)

/-- A write of GO to KILN_REVOKE (R328): refused if it would leave the state without a fused, unrevoked slot that it accepts. -/
def revokeSlot (s : State) (tenant slot : Nat) : State :=
  if !s.f.lead.hasRight tenant 0 then { s with f := guardMiss s.f }
  else if slotsLeft s.otpA slot = [] ∨ s.otpA.revoked.contains slot = true then s
  else s.fused s.f (fun o => { o with revoked := o.revoked ++ [slot] })

/-- KILN_REVOKE (R328). -/
def execKilnRevoke (tenant : Fin 4096) (slot : Fin 4) (s : State) : Host.Outcome State Fault Refusal :=
  .next (revokeSlot s tenant.val slot.val)

/-! Provisioning. -/

/-- A provisioning command ends with a status. -/
def provDone (f : Field) (status : Nat) : Field :=
  f.onTaking (fun q => (q.onKiln (fun k => { k with prov := none })).onRegs
    (fun m => (m.set 0 KILN_PROV_STAT_PENDING 0).set 0 KILN_PROV_STAT_STATUS status))

/-- Whether provisioning command `c` waits. -/
def provPending (f : Field) (c : Nat) : Bool := f.lead.kiln.prov.elim false (fun l => l.what = c)

/-- The first `n` bytes of the PROV_DATA window. -/
def provData (q : Plane) (n : Nat) : List Byte :=
  ((List.range 32).flatMap (fun i => leBytes 4 (q.regs.rd (KILN_PROV_DATA i)).toNat)).take n

/-- PROV_ROOT_O (R329): the blob opens under TK, or nothing is fused and STATUS is AUTH_FAIL; refused outside VENDOR and on a fused
item. -/
def execProvRootO (s : State) : Host.Outcome State Fault Refusal :=
  if !provPending s.f 1 then s.ok s.f
  else if s.otpA.lc ≠ 1 ∨ s.otpA.rootO.isSome = true then s.ok (provDone s.f 2)
  else
    match openBlob (Config.kdf Config.rootV (ascii "OEMROOT") serialBe 32) serialBe (provData s.f.lead 60) with
    | none => s.ok (provDone s.f 6)
    | some k => s.fuse (provDone s.f 0) (fun o => { o with rootO := some k })

/-- A truss key digest fused (R329). -/
def provDigest (s : State) (c slot : Nat) (allowed : Bool) : Host.Outcome State Fault Refusal :=
  if !provPending s.f c then s.ok s.f
  else if allowed = false ∨ s.otpA.digests.any (·.1 = slot) = true then s.ok (provDone s.f 2)
  else
    let d := provData s.f.lead 48
    s.fuse (provDone s.f 0) (fun o => { o with digests := o.digests ++ [(slot, d)] })

/-- PROV_DIGEST2 (R329): in VENDOR. -/
def execProvDigest2 (s : State) : Host.Outcome State Fault Refusal := provDigest s 2 2 (s.otpA.lc = 1)

/-- PROV_DIGEST3 (R329): in VENDOR and OEM. -/
def execProvDigest3 (s : State) : Host.Outcome State Fault Refusal := provDigest s 3 3 (s.otpA.lc = 1 || s.otpA.lc = 2)

/-- PROV_RETENTION (R329): 365-1,095 days, in VENDOR. -/
def execProvRetention (s : State) : Host.Outcome State Fault Refusal :=
  if !provPending s.f 4 then s.ok s.f
  else
    let days := (s.f.lead.regs.rd (KILN_PROV_DATA 0)).toNat
    if s.otpA.lc ≠ 1 ∨ s.otpA.retention.isSome = true ∨ days < 365 ∨ 1095 < days then s.ok (provDone s.f 2)
    else s.fuse (provDone s.f 0) (fun o => { o with retention := some days })

/-- PROV_ESCROW (R329): the blob of DUS under the escrow key, with a nonce from the pool, in OEM; with a short pool it waits (R29). -/
def execProvEscrow (s : State) : Host.Outcome State Fault Refusal :=
  if !provPending s.f 5 then s.ok s.f
  else if s.otpA.lc ≠ 2 then s.ok (provDone s.f 2)
  else if !s.f.lead.kiln.randSeen then s.ok (provDone s.f 8)
  else if !s.f.lead.mayDraw 1 12 then s.ok (s.f.onTaking (·.awaitRand 1))
  else
    let key := Config.kdf (s.otpA.rootO.getD []) (ascii "ESCROW") serialBe 32
    let f := s.f.onTaking (fun q =>
      match q.drawPool 1 12 with
      | none => q
      | some (nonce, q) =>
        let text := Config.gcmText key nonce serialBe Config.dus
        let blob := nonce ++ text ++ Config.gcmTag key nonce serialBe text
        (List.range 15).foldl (fun q i => q.onRegs (·.wr (KILN_PROV_DATA i) (BitVec.ofNat 32 (bytesAt blob (4 * i) 4)))) q)
    s.ok (provDone f 0)

/-! Destruction of keys. -/

/-- A write of GO to KILN_DESTROY (R332): the handle is destroyed at the first TICK after admission. -/
def askDestroy (f : Field) (tenant h : Nat) : Field :=
  if !f.lead.hasSession tenant then guardMiss f
  else f.onTaking (fun q => q.onKiln (fun k => { k with destroyQ := k.destroyQ ++ [(h, q.st.tick)] }))

/-- KILN_DESTROY (R332). -/
def execKilnDestroy (tenant : Fin 4096) (handle : Fin 1024) (s : State) : Host.Outcome State Fault Refusal :=
  s.ok (askDestroy s.f tenant.val handle.val)

/-- A slot destroyed: the key and its uses are gone. -/
def destroySlot (q : Plane) (h : Nat) : Plane := q.onSlotK h (fun s => { s with state := 3, key := [], uses := 0 })

/-- KEY_DESTROY_APPLY (R332). -/
def execKeyDestroyApply (s : State) : Host.Outcome State Fault Refusal :=
  s.ok (s.f.onTaking (fun q =>
    let now := q.kiln.destroyQ.filter (fun x => x.2 < q.st.tick)
    let q := q.onKiln (fun k => { k with destroyQ := k.destroyQ.filter (fun x => ¬ x.2 < q.st.tick) })
    now.foldl (fun q x => destroySlot q x.1) q))

/-! Sessions. -/

/-- SESSION_OPEN (R336, R338, R343). -/
def execSessionOpen (s : State) : Host.Outcome State Fault Refusal := s.ok (s.f.onTaking (·.sessionOpen))

/-- SESSION_SUBMIT (R336-R338). -/
def execSessionSubmit (s : State) : Host.Outcome State Fault Refusal := s.ok ((s.f.onTaking (·.sessionSubmit)).refreshMode)

/-- A write of CLOSE (R337): the writer's session ends. -/
def execSessionClose (tenant : Fin 4096) (s : State) : Host.Outcome State Fault Refusal :=
  s.ok ((s.f.onTaking (fun q => q.endSessions (fun x => x.tenant = tenant.val) 1)).refreshMode)

/-- A challenge reaches 60 s (R336). -/
def execChallengeExpire (s : State) : Host.Outcome State Fault Refusal :=
  s.ok (s.f.onTaking (fun q =>
    if q.kiln.chal.elim false (fun c => c.until_ ≤ q.st.tick) then q.onKiln (fun k => { k with chal := none }) else q))

/-- LIFETIME elapses (R337). -/
def execSessionLifetimeExpire (s : State) : Host.Outcome State Fault Refusal :=
  s.ok ((s.f.onTaking (fun q => q.endSessions (fun x => x.until_ ≤ q.st.tick) 2)).refreshMode)

/-- The lockout elapses (R338): OPEN is accepted again. -/
def execSessionLockoutExpire (s : State) : Host.Outcome State Fault Refusal :=
  s.ok (s.f.onTaking (fun q =>
    if q.kiln.lockUntil ≤ q.st.tick then
      (q.onKiln (fun k => { k with lockUntil := 0 })).onRegs (fun m =>
        if m.get 0 CPH_SESS_STAT_STATUS = 10 then m.set 0 CPH_SESS_STAT_STATUS 0 else m)
    else q))

/-! Cipher jobs. -/

/-- Bytes of a job window's DATA. -/
def jobBytes (q : Plane) (n off len : Nat) : List Byte :=
  (((List.range 80).flatMap (fun i => leBytes 4 (q.regs.rd (CPH_JOB_DATA n i)).toNat)).drop off).take len

/-- Bytes written into a job window's DATA. -/
def putJobBytes (q : Plane) (n off : Nat) (bs : List Byte) : Plane :=
  let all := jobBytes q n 0 320
  let new := all.take off ++ bs ++ all.drop (off + bs.length)
  (List.range 80).foldl (fun q i => q.onRegs (·.wr (CPH_JOB_DATA n i) (BitVec.ofNat 32 (bytesAt new (4 * i) 4)))) q

/-- `k` words of the IV (at 0) or TAG registers as bytes. -/
def jobWords (q : Plane) (reg : Nat → Nat) (k : Nat) : List Byte :=
  (List.range k).flatMap (fun i => leBytes 4 (q.regs.rd (reg i)).toNat)

/-- Bytes written into IV or TAG registers. -/
def putJobWords (q : Plane) (reg : Nat → Nat) (bs : List Byte) : Plane :=
  (List.range ((bs.length + 3) / 4)).foldl (fun q i => q.onRegs (·.wr (reg i) (BitVec.ofNat 32 (bytesAt bs (4 * i) 4)))) q

/-- A job ends with a status. -/
def jobDone (q : Plane) (n status : Nat) : Plane :=
  (q.onKiln (fun k => { k with jobs := sput (fun _ => none) k.jobs n none })).onRegs
    (fun m => (m.set 0 (CPH_JOB_STAT_PENDING n) 0).set 0 (CPH_JOB_STAT_STATUS n) status)

/-- Lengths out of range (R345). -/
def jobRange (q : Plane) (n : Nat) : Bool :=
  decide (q.regs.get 0 (CPH_JOB_LEN_TAG_LEN n) < 4 ∨ 16 < q.regs.get 0 (CPH_JOB_LEN_TAG_LEN n) ∨
    64 < q.regs.get 0 (CPH_JOB_LEN_AAD_LEN n) ∨ 256 < q.regs.get 0 (CPH_JOB_LEN_TEXT_LEN n))

/-- Why a job may not use its key (R331): 9 EXHAUSTED, 7 DENIED; none where it may. -/
def jobKey (q : Plane) (h tenant : Nat) (usage : Nat → Bool) : Option Nat :=
  if (q.keySlot h).state = 2 then some 9
  else if (q.keySlot h).state ≠ 1 ∨ (q.keyRec h).u 4 2 ≠ tenant ∨ usage ((q.keyRec h).u 2 1) = false then some stDenied
  else none

/-- The pending job of command `c` in window `n` that is due at the plane's TICK. -/
def jobOf (q : Plane) (n c : Nat) : Option Later :=
  match sget (fun _ => none) q.kiln.jobs n with
  | some l => if l.what = c ∧ q.due l = true then some l else none
  | none => none

/-- A job with a key: range, key and usage checks, then `run` with the key's bytes. -/
def keyJob (s : State) (n c : Nat) (usage : Nat → Bool) (run : Plane → List Byte → Plane) : Host.Outcome State Fault Refusal :=
  s.ok (s.f.onTaking (fun q =>
    match jobOf q n c with
    | none => q
    | some l =>
      let h := q.regs.get 0 (CPH_JOB_KEY_HANDLE n)
      if jobRange q n then jobDone q n 3
      else match jobKey q h l.tenant usage with
        | some st => jobDone q n st
        | none => run q (q.keySlot h).key))

/-- Associated data of a job. -/
def jobAad (q : Plane) (n : Nat) : List Byte := jobBytes q n 0 (q.regs.get 0 (CPH_JOB_LEN_AAD_LEN n))
/-- Text of a job. -/
def jobText (q : Plane) (n : Nat) : List Byte :=
  jobBytes q n (q.regs.get 0 (CPH_JOB_LEN_AAD_LEN n)) (q.regs.get 0 (CPH_JOB_LEN_TEXT_LEN n))
/-- The use that a job takes. -/
def jobUse (q : Plane) (n : Nat) : Plane := q.takeUse (q.regs.get 0 (CPH_JOB_KEY_HANDLE n))

/-- GCM_ENCRYPT (R339): with RAND_IV the nonce comes from the pool, or the job ends NOT_READY with DATA and IV unchanged. -/
def execGcmEncrypt (n : Fin 4) (s : State) : Host.Outcome State Fault Refusal :=
  keyJob s n.val 1 (bit · 0) (fun q key =>
    let k := n.val
    let rand := q.regs.get 0 (CPH_JOB_KEY_RAND_IV k) = 1
    if rand ∧ q.kiln.randSeen = false then jobDone q k stNotReady
    else
      let drawn := if rand then q.drawPool (2 + k) 12 else some (jobWords q (CPH_JOB_IV k) 3, q)
      match drawn with
      | none => q.awaitRand (2 + k)
      | some (iv, q) =>
        let q := if rand then putJobWords q (CPH_JOB_IV k) iv else q
        let aad := jobAad q k
        let ct := fitBytes (jobText q k).length (Config.gcmText key iv aad (jobText q k))
        let q := putJobBytes q k aad.length ct
        let tag := fitBytes (q.regs.get 0 (CPH_JOB_LEN_TAG_LEN k)) (Config.gcmTag key iv aad ct)
        jobDone (jobUse (putJobWords q (CPH_JOB_TAG k) tag) k) k 0)

/-- GCM_DECRYPT (R339, R315): plaintext is written whatever the tag says. -/
def execGcmDecrypt (n : Fin 4) (s : State) : Host.Outcome State Fault Refusal :=
  keyJob s n.val 2 (bit · 1) (fun q key =>
    let k := n.val
    let iv := jobWords q (CPH_JOB_IV k) 3
    let aad := jobAad q k
    let ct := jobText q k
    let len := q.regs.get 0 (CPH_JOB_LEN_TAG_LEN k)
    let good := fitBytes len (Config.gcmTag key iv aad ct) = (jobWords q (CPH_JOB_TAG k) 4).take len
    let q := putJobBytes q k aad.length (fitBytes ct.length (Config.gcmText key iv aad ct))
    jobDone (jobUse q k) k (if good then 0 else 6))

/-- CTR (R339). -/
def execCtrCrypt (n : Fin 4) (s : State) : Host.Outcome State Fault Refusal :=
  keyJob s n.val 3 (fun u => bit u 0 || bit u 1) (fun q key =>
    let k := n.val
    let t := jobText q k
    let q := putJobBytes q k (jobAad q k).length (fitBytes t.length (Config.ctrText key (jobWords q (CPH_JOB_IV k) 4) t))
    jobDone (jobUse q k) k 0)

/-- MAC_GEN (R339). -/
def execMacGen (n : Fin 4) (s : State) : Host.Outcome State Fault Refusal :=
  keyJob s n.val 4 (bit · 2) (fun q key =>
    let k := n.val
    let tag := fitBytes (q.regs.get 0 (CPH_JOB_LEN_TAG_LEN k)) (Config.cmac key (jobText q k))
    jobDone (jobUse (putJobWords q (CPH_JOB_TAG k) tag) k) k 0)

/-- MAC_VERIFY (R339): STATUS only. -/
def execMacVerify (n : Fin 4) (s : State) : Host.Outcome State Fault Refusal :=
  keyJob s n.val 5 (bit · 3) (fun q key =>
    let k := n.val
    let len := q.regs.get 0 (CPH_JOB_LEN_TAG_LEN k)
    let good := fitBytes len (Config.cmac key (jobText q k)) = (jobWords q (CPH_JOB_TAG k) 4).take len
    jobDone (jobUse q k) k (if good then 0 else 6))

/-- RANDOM (R339, R343). -/
def execRandomBytes (n : Fin 4) (s : State) : Host.Outcome State Fault Refusal :=
  s.ok (s.f.onTaking (fun q =>
    let k := n.val
    match jobOf q k 6 with
    | none => q
    | some _ =>
      if jobRange q k then jobDone q k 3
      else if !q.kiln.randSeen then jobDone q k stNotReady
      else
        match q.drawPool (2 + k) (q.regs.get 0 (CPH_JOB_LEN_TEXT_LEN k)) with
        | none => q.awaitRand (2 + k)
        | some (bs, q) => jobDone (putJobBytes q k (q.regs.get 0 (CPH_JOB_LEN_AAD_LEN k)) bs) k 0))

/-- IMPORT (R334): the target handle is filled where requester, version and tag pass. The use is the WRAP key's. -/
def execImportKey (n : Fin 4) (s : State) : Host.Outcome State Fault Refusal :=
  s.ok (s.f.onTaking (fun q =>
    let k := n.val
    match jobOf q k 7 with
    | none => q
    | some l =>
      let h := q.regs.get 0 (CPH_JOB_KEY_HANDLE k)
      let r := q.keyRec h
      let par := r.u 6 2
      let ver := (q.regs.rd (CPH_JOB_IV k 0)).toNat
      let blob := jobBytes q k (q.regs.get 0 (CPH_JOB_LEN_AAD_LEN k)) (28 + algBytes (r.u 1 1))
      let allowed := (r.u 4 2 = l.tenant) || q.hasSession l.tenant
      if jobRange q k then jobDone q k 3
      else if r.u 0 1 ≠ 2 ∨ allowed = false then jobDone q k stDenied
      else if (q.keySlot par).state = 2 then jobDone q k 9
      else if q.keyOk par 5 = false ∨ ver ≤ sget (fun _ => 0) q.nv.kiln.vers h then jobDone q k stDenied
      else
        let key := (q.keySlot par).key
        let q := q.takeUse par
        match openBlob key (serialBe ++ beBytes 2 h ++ beBytes 4 ver) blob with
        | none => jobDone q k 6
        | some bs =>
          let q := q.onSlotK h (fun x => { x with state := 1, key := bs, uses := r.u 8 4, fvRx := 0, fvTx := 0 })
          let nv := q.nv.kiln
          let nv := { nv with
            vers := sput (fun _ => 0) nv.vers h ver
            blobs := if bit (r.u 3 1) 0 then nv.blobs else sput (fun _ => []) nv.blobs h blob }
          jobDone { q with nv := { q.nv with kiln := nv } } k 0))

/-! Tamper. -/

/-- The latch (R341): a further activation ORs its source and leaves the time. -/
def latchTamper (e : Eaves) (src : Nat) : Eaves :=
  e.onRegs (fun m =>
    let m := if m.get 0 BBR_TAMPER_LATCHED = 1 then m else m.wr64 BBR_TAMPER_S_LO e.calSec
    ((m.set 0 BBR_TAMPER_LATCHED 1).set 0 BBR_TAMPER_SOURCE (m.get 0 BBR_TAMPER_SOURCE ||| 2 ^ src)).set 0 BBR_FORMAT_FORMAT 1)

/-- Zeroisation in a plane: every slot DESTROYED, internal keys and associations cleared, sessions ended (R341, R337). -/
def zeroise (q : Plane) : Plane :=
  let q := q.endSessions (fun _ => true) 6
  let q := (List.range 1024).foldl destroySlot q
  (q.onKiln (fun k => { k with ms := [], chal := none })).onRick (fun r => { r with sealKey := [] })

/-- Whether an enabled TAMPER input (0-3) stands at its active level, or the mesh (4) fails (R340). -/
def tamperActive (e : Eaves) (k : Nat) : Bool :=
  bit e.seqr.tamperEn k && (if k = 4 then bit e.seqr.tamperHigh 4 else bit e.seqr.tamperHigh k == bit e.seqr.tamperPol k)

/-- Zeroisation with power (R341): the latch, every key of both planes, TAMPER at the Flue, SAFE with hold TAMPER. -/
def tamperNow (f : Field) (src : Nat) : Field :=
  let f := ((f.onE (latchTamper · src)).onBoth zeroise).refreshMode
  (f.raise 13 false true).onE (·.setHold 1)

/-- Inputs that the enables and polarities just loaded find at their active level count as active at once (R340). -/
def checkTamper (f : Field) : Field := ((List.range 5).filter (tamperActive f.e)).foldl tamperNow f

/-- A session's write of 1 to KILN_TAMPER.LATCHED (R341). -/
def clearTamper (f : Field) (tenant : Nat) : Field :=
  if !f.lead.hasSession tenant then guardMiss f
  else f.onE (·.onRegs (fun m => ((m.set 0 BBR_TAMPER_LATCHED 0).set 0 BBR_TAMPER_SOURCE 0).wr64 BBR_TAMPER_S_LO 0))

/-- TAMPER_LATCH_CLEAR (R341). -/
def execTamperLatchClear (tenant : Fin 4096) (s : State) : Host.Outcome State Fault Refusal := s.ok (clearTamper s.f tenant.val)

/-! Semaphores under a session. -/

/-- SEMA_FORCE (R302): BUSERR without a WORKSHOP session. -/
def execSemaForce (ep : Fin 8) (tenant : Fin 4096) (tag : Nat) (index : Fin 64) (s : State) : Host.Outcome State Fault Refusal :=
  s.ok (s.f.onAdmitted ep.val tenant.val clsSema tag (saysSema 4 index.val) (fun q =>
    if q.hasSession tenant.val then semaDone q ep.val tenant.val tag index.val 0 none
    else semaDone q ep.val tenant.val tag index.val 2 (semaAt q index.val)))

/-! Entropy. -/

/-- ENTROPY_READY (R342): RAND follows the next TICK. -/
def execEntropyReady (s : State) : Host.Outcome State Fault Refusal := s.ok (s.f.onE (fun e => { e with entropyReady := true }))

/-- ENTROPY_START_TIMEOUT (R342). -/
def execEntropyStartTimeout (s : State) : Host.Outcome State Fault Refusal :=
  if s.f.e.entropyReady then s.ok s.f else s.ok (s.f.raise 10 false true)

/-- ENTROPY_HEALTH_FAIL (R344): INFO against ENTROPY_HT. -/
def execEntropyHealthFail (s : State) : Host.Outcome State Fault Refusal := s.ok (s.f.onE (·.info 11))

/-- ENTROPY_RESERVE_EMPTY (R344). -/
def execEntropyReserveEmpty (s : State) : Host.Outcome State Fault Refusal := s.ok (s.f.raise 12 false true)

end Sys2Proof.Machine
end

