-- ==== Sys2Proof/Machine/PortOps.lean ====
section
/-!
DEFINITION. Ports as shared operations: what a restart, a stop and a change of link do to a bus slot (R97, R98, R132), an Ethernet
port (R155, R156, R163, R190) and a T1S port (R153, R154).
-/

namespace Sys2Proof

/-- Slot number of a unified port, Ethernet and T1S numbers. -/
def ethPort (n : Nat) : Nat := 128 + n
/-- Unified number of T1S port `n`. -/
def t1sPort (n : Nat) : Nat := 152 + n

/-- The first candidate at the transmit stages for a port, and the stage without it. -/
def Eaves.takeStage (e : Eaves) (port : Nat) : Option (Cand × Eaves) :=
  match e.stage.find? (fun c => c.port = port) with
  | none => none
  | some c => some (c, { e with stage := e.stage.erase c })

/-- Personality of a slot. -/
def Eaves.pers (e : Eaves) (n : Nat) : Nat := e.sl n SLOT_CTL_PERSONALITY

/-- Whether a slot has a slow personality (R131). -/
def Eaves.isSlow (e : Eaves) (n : Nat) : Bool := persSlow (e.pers n)

/-- The PORT-domain registers of the block at `base` cleared (R42). -/
def Eaves.clearPort (e : Eaves) (slow : Bool) (base : Nat) : Eaves :=
  e.onRegs (·.clear (fun k => decide (base ≤ k ∧ k < base + 0x1000) &&
    (match rowAt slow k with | some r => r.dom = .port | none => true)))

/-- Ethernet port `n`'s transmit stage. -/
def Eaves.eth (e : Eaves) (n : Nat) : EthSt := sget (fun _ => EthSt.init) e.eths n
/-- Ethernet port `n`'s transmit stage changed. -/
def Eaves.onEth (e : Eaves) (n : Nat) (g : EthSt → EthSt) : Eaves := { e with eths := supd (fun _ => EthSt.init) e.eths n g }
/-- T1S port `n`. -/
def Eaves.t1 (e : Eaves) (n : Nat) : T1sSt := sget (fun _ => T1sSt.init) e.t1s n
/-- T1S port `n` changed. -/
def Eaves.onT1 (e : Eaves) (n : Nat) (g : T1sSt → T1sSt) : Eaves := { e with t1s := supd (fun _ => T1sSt.init) e.t1s n g }

/-! Slots. -/

/-- Whether a slot's course is held after a wake (R455). -/
def Eaves.courseHeld (e : Eaves) (n : Nat) : Bool := bit (e.regs.get 0 BBR_PAD_HELD_COURSES) (n / 8)

/-- What BANK_SLOTS keeps of a slot in BANKED (R452, R472): 0 stopped, 1 WAKE_ONLY, 2 ACTIVE. -/
def Eaves.bankMode (e : Eaves) (n : Nat) : Nat := bits (bytesAt (e.live.sec 0x11) 32 32) (2 * n + 1) (2 * n)

/-- Whether a slot is in WAKE_ONLY operation (R452). -/
def Eaves.wakeOnly (e : Eaves) (n : Nat) : Bool := e.mode = .banked && e.bankMode n = 1

/-- The operating mode in force: LISTEN_ONLY while the course is held or the slot is in WAKE_ONLY operation (R97, R452, R455). -/
def Eaves.opmode (e : Eaves) (n : Nat) : Nat := if e.courseHeld n || e.wakeOnly n then 1 else (e.slot n).can.opmode

/-- A transmit drop: its counter and SLOT_TXLAST (R117). Causes: 1 RETRY, 2 AGE, 3 OVERFLOW, 4 CANCELLED, 5 RESTARTED,
6 NOT_ACTIVE, 7 FORMAT. -/
def Eaves.txDrop (e : Eaves) (n cause id : Nat) : Eaves :=
  let off := if cause = 1 then SLOT_TXDROP_RETRY else if cause = 2 then SLOT_TXDROP_AGE else if cause = 3 then SLOT_TXDROP_OVFL
    else if cause = 4 then SLOT_TXDROP_CANCEL else SLOT_TXDROP_OTHER
  ((e.slInc n off).slSet n SLOT_TXLAST_CAUSE cause).slSet n SLOT_TXLAST_ID id

/-- A drop on a slow slot: CANCELLED does not occur there, where its counter holds collisions. -/
def Eaves.txDrops (e : Eaves) (n cause : Nat) (ids : List Nat) : Eaves := ids.foldl (fun e i => e.txDrop n cause i) e

/-- A timing register's values are possible (R100): SJW within SEG2, a bit of at least 8 slot clocks. -/
def timingOk (w : Word) : Bool :=
  let f := fun (hi lo : Nat) => bits w.toNat hi lo
  decide (f 6 0 ≤ f 14 8 ∧ 8 ≤ (f 31 24 + 1) * (f 23 16 + f 14 8 + 3))

/-- The timings that a CAN slot of a personality uses are possible (R99, R100). -/
def Eaves.canTimingOk (e : Eaves) (n : Nat) : Bool :=
  let w := fun off => e.regs.rd (slotBase n + off)
  timingOk (w SLOT_NBT) && (e.pers n = 1 || timingOk (w SLOT_DBT)) && (e.pers n ≠ 3 || timingOk (w SLOT_XBT))

/-- What a slot's queues hold, as identifiers for SLOT_TXLAST. -/
def Slot.queued (s : Slot) : List Nat :=
  s.can.tx.map (fun t => t.frame.canId) ++ s.slow.txq.map (·.id) ++ s.slow.pub.map (·.1) ++ s.slow.diag.map (fun _ => 60)

/-- STATE of a slot. -/
def Eaves.slotState (e : Eaves) (n : Nat) : Nat := e.sl n SLOT_STAT_STATE

/-- A slot restarts (R98, R132): queues emptied with cause RESTARTED, mailboxes and counters cleared, GEN raised and announced; an
enabled slot with possible settings integrates, an impossible one stays STOPPED and sets TIMING. A slot that was passive, bus-off or ALONE
sends BUS_STATE as its counters clear (R122). -/
def Eaves.slotRestart (e : Eaves) (n : Nat) : Eaves :=
  let slow := e.isSlow n
  let ids := (e.slot n).queued
  let e := if e.sl n SLOT_STAT_CONF ≠ 0 ∨ e.sl n SLOT_STAT_ALONE ≠ 0 then e.ctrl n (ctrlBusState 0 0 0 0) else e
  let e := e.clearPort slow (slotBase n)
  let e := e.onSlot n (fun _ => Slot.init)
  let e := e.txDrops n 5 ids
  let e := e.announceRestart n
  if e.pers n = 0 ∨ 6 < e.pers n ∨ e.sl n SLOT_CTL_ENABLE = 0 then e
  else if (if slow then slowCfgOk (e.pers n) (e.regs.rd (slotBase n + SLOT_SB_CFG)) (e.regs.rd (slotBase n + SLOT_SB_FRAME))
      else e.canTimingOk n) = false then e.slSet n SLOT_ERRFLAG_TIMING 1
  else
    let w := fun off => e.regs.rd (slotBase n + off)
    let e := e.onCan n (fun c => { c with
      nbt := w SLOT_NBT, dbt := w SLOT_DBT, xbt := w SLOT_XBT, opmode := e.sl n SLOT_CTL_OPMODE })
    let e := if slow then e.onSlow n (fun s => { s with cfg := w SLOT_SB_CFG, frame := w SLOT_SB_FRAME }) else e
    e.slSet n SLOT_STAT_STATE 1

/-- Whether a frame of a slot's bus can be under way as the slot stops (R97): one that it sends, a packet that it receives, or, on a CAN slot
that takes part in its bus, whatever the bus carries. -/
def Eaves.busHeld (e : Eaves) (n : Nat) : Bool :=
  let s := e.slot n
  s.can.tx.any (·.committed) || s.slow.txq.any (·.committed) || s.slow.inPkt ||
    (persCan (e.pers n) && (e.slotState n = 2 || e.slotState n = 3) && e.sl n SLOT_STAT_CONF ≠ 2)

/-- A slot stops (R97): pending frames drop with cause NOT_ACTIVE; the frame on the bus ends first, also one that the slot receives. On a
CAN slot whose bus is idle the stop comes at the next point that OPMODE_APPLY marks (log entry 83). -/
def Eaves.slotStop (e : Eaves) (n : Nat) : Eaves :=
  let s := e.slot n
  let busy := e.busHeld n
  let ids := (s.can.tx.filter (!·.committed)).map (fun t => t.frame.canId) ++ (s.slow.txq.filter (!·.committed)).map (·.id) ++
    s.slow.pub.map (·.1) ++ s.slow.diag.map (fun _ => 60)
  let e := e.onSlot n (fun s =>
    { can := { s.can with tx := s.can.tx.filter (·.committed), stopping := busy },
      slow := if s.slow.inPkt then
          { s.slow with txq := s.slow.txq.filter (·.committed), pub := [], diag := [], reqPend := false, sleepPend := false,
                        running := false, altRet := [], altPend := none, pulseEnd := none }
        else { SlowSt.init with txq := s.slow.txq.filter (·.committed), cfg := s.slow.cfg, frame := s.slow.frame } })
  let e := e.txDrops n 6 ids
  if busy then e else e.slSet n SLOT_STAT_STATE 0

/-- The frame on the bus has ended: a slot that is to stop, stops (R97). -/
def Eaves.slotEnded (e : Eaves) (n : Nat) : Eaves :=
  if (e.slot n).can.stopping && !(e.slot n).slow.inPkt && !(e.slot n).can.tx.any (·.committed) then
    (e.onCan n (fun c => { c with stopping := false })).slSet n SLOT_STAT_STATE 0
  else e

/-! Ethernet ports. -/

/-- A field of an Ethernet port. -/
def Eaves.et (e : Eaves) (n : Nat) (f : Fld) : Nat := e.regs.get (ethBase n) f
/-- A field of an Ethernet port set. -/
def Eaves.etSet (e : Eaves) (n : Nat) (f : Fld) (v : Nat) : Eaves := e.onRegs (·.set (ethBase n) f v)
/-- A counter of an Ethernet port counts. -/
def Eaves.etAdd (e : Eaves) (n off k : Nat) : Eaves := e.onRegs (·.addCnt (ethBase n + off) k)

/-- PCS, forced speed and largest frame that a port can run (R155, R163). -/
def ethModeOk (n : Nat) (w : Word) : Bool :=
  let pcs := bits w.toNat 31 28
  let sp := bits w.toNat 27 24
  let mx := bits w.toNat 13 0
  decide (1518 ≤ mx ∧ mx ≤ 9216) &&
    (if n < 8 then (pcs = 1 && (sp = 15 || sp = 5)) || (pcs = 2 && (sp = 15 || decide (2 ≤ sp ∧ sp ≤ 5)))
     else (pcs = 3 && (sp = 15 || decide (sp ≤ 2))) || (pcs = 4 && (sp = 15 || sp = 3)))

/-- Rate of a SPEED code in kb/s. -/
def speedKbps (sp : Nat) : Nat :=
  if sp = 0 then 10000 else if sp = 1 then 100000 else if sp = 2 then 1000000 else if sp = 3 then 2500000 else if sp = 4 then 5000000
  else if sp = 5 then 10000000 else 0

/-- The frames in a port's transmit buffer are discarded and counted; a frame in transmission is cut and not counted (R190). -/
def Eaves.ethFlush (e : Eaves) (n : Nat) : Eaves :=
  (e.etAdd n ETH_TXDROP_LINK (e.eth n).buf.length).onEth n (fun s => { s with buf := [], sending := none, credit := [] })

/-- An Ethernet port loses link (R156, R190). -/
def Eaves.ethLinkDown (e : Eaves) (n : Nat) : Eaves :=
  if e.et n ETH_STAT_LINK = 0 then e
  else
    let e := e.ethFlush n
    let e := ((e.etSet n ETH_STAT_LINK 0).etSet n ETH_STAT_PCS_LOCK 0).etSet n ETH_STAT_SPEED 15
    let e := (e.etSet n ETH_ERRFLAG_LINK_LOSS 1).etAdd n ETH_LINK_DOWN_CNT 1
    e.ctrl (ethPort n) ctrlLinkDown

/-- Idle slopes of a port's shaped classes, kb/s. -/
def Eaves.slopes (e : Eaves) (n : Nat) : Nat :=
  (List.range 8).foldl (fun s c => let w := (e.regs.rd (ethBase n + ETH_CBS c)).toNat; if bit w 31 then s + bits w 23 0 else s) 0

/-- An Ethernet port gains link at a speed (R156, R175). -/
def Eaves.ethLinkUp (e : Eaves) (n sp : Nat) : Eaves :=
  let e := ((e.etSet n ETH_STAT_LINK 1).etSet n ETH_STAT_PCS_LOCK 1).etSet n ETH_STAT_SPEED sp
  let e := if 3 * speedKbps sp < 4 * e.slopes n then e.etSet n ETH_ERRFLAG_CONFIG 1 else e
  e.ctrl (ethPort n) (ctrlLinkUp sp)

/-- ETH_ERRFLAG.PHY_INT follows a low input that the port selects (R164). -/
def Eaves.phyLevel (e : Eaves) (n : Nat) : Eaves :=
  if e.seqr.phyLow.contains (bits (e.eth n).phy.toNat 3 0) then e.etSet n ETH_ERRFLAG_PHY_INT 1 else e

/-- An Ethernet port restarts (R163, R43, R190): link is lost (R156); a transaction of the port on its MDIO bus goes on (R164). -/
def Eaves.ethRestart (e : Eaves) (n : Nat) : Eaves :=
  let e := (e.ethLinkDown n).ethFlush n
  let e := e.clearPort false (ethBase n)
  let e := if e.seqr.mdio.any (fun x => x.port = n) then e.etSet n ETH_MDIO_RES_BUSY 1 else e
  let e := e.onRegs (fun m => m.wrAll (ethBase n) (ethLsas e.live n))
  let w := fun off => e.regs.rd (ethBase n + off)
  let on := decide (e.et n ETH_CTL_ENABLE = 1) && ethModeOk n (w ETH_MODE)
  let e := (e.onEth n (fun s => { s.emptied with
    mode := if on then w ETH_MODE else 0, lat := w ETH_TS_LAT, phy := w ETH_PHY })).phyLevel n
  let e := if e.et n ETH_CTL_ENABLE = 1 ∧ e.et n ETH_MODE_PCS ≠ 0 ∧ ethModeOk n (e.regs.rd (ethBase n + ETH_MODE)) = false then
      e.etSet n ETH_ERRFLAG_CONFIG 1 else e
  e.announceRestart (ethPort n)

/-- An Ethernet port stops: transmitter idle, PCS off (R163). -/
def Eaves.ethStop (e : Eaves) (n : Nat) : Eaves := (e.ethLinkDown n).onEth n (fun s => { s.emptied with lat := s.lat, phy := s.phy })

/-! T1S ports. -/

/-- A field of a T1S port. -/
def Eaves.t1f (e : Eaves) (n : Nat) (f : Fld) : Nat := e.regs.get (t1sBase n) f
/-- A field of a T1S port set. -/
def Eaves.t1Set (e : Eaves) (n : Nat) (f : Fld) (v : Nat) : Eaves := e.onRegs (·.set (t1sBase n) f v)
/-- A counter of a T1S port counts one. -/
def Eaves.t1Inc (e : Eaves) (n off : Nat) : Eaves := e.onRegs (·.inc (t1sBase n + off))

/-- A T1S port gains link (R154). -/
def Eaves.t1LinkUp (e : Eaves) (n : Nat) : Eaves :=
  if e.t1f n T1S_STAT_LINK = 1 then e else (e.t1Set n T1S_STAT_LINK 1).ctrl (t1sPort n) (ctrlLinkUp 0)

/-- A T1S port loses link: its frames are discarded (R154, R190). -/
def Eaves.t1LinkDown (e : Eaves) (n : Nat) : Eaves :=
  if e.t1f n T1S_STAT_LINK = 0 then e
  else
    let e := ((e.t1Set n T1S_STAT_LINK 0).t1Set n T1S_STAT_BEACON_OK 0).onT1 n (fun s => { s with txq := [] })
    e.ctrl (t1sPort n) ctrlLinkDown

/-- A T1S port restarts (R154): its PLCA settings are applied; a coordinator has link at once; node identity 255 stays stopped. -/
def Eaves.t1Restart (e : Eaves) (n : Nat) : Eaves :=
  let e := (e.t1LinkDown n).clearPort false (t1sBase n)
  let e := e.onRegs (fun m => m.wrAll (t1sBase n) (t1sLsas e.live n))
  let e := e.onT1 n (fun _ => { T1sSt.init with
    nodeId := e.t1f n T1S_PLCA_CFG_NODE_ID, nodeCount := e.t1f n T1S_PLCA_CFG_NODE_COUNT, toTimer := e.t1f n T1S_PLCA_TMR_TO_TIMER,
    maxBc := e.t1f n T1S_PLCA_TMR_MAX_BC, burstTmr := e.t1f n T1S_PLCA_TMR_BURST_TMR, linkHold := e.t1f n T1S_LINK_CFG_LINK_HOLD })
  let e := e.announceRestart (t1sPort n)
  if e.t1f n T1S_CTL_ENABLE = 1 ∧ e.t1f n T1S_PLCA_CFG_NODE_ID = 0 then e.t1LinkUp n else e

/-- Every port that a truss puts into operation, restarted, as after the load of a bank at KINDLING; `skip` names ports that run
already. -/
def Eaves.startPorts (e : Eaves) (skip : Nat → Bool) : Eaves :=
  let e := (List.range 128).foldl (fun e n => if e.pers n = 0 ∨ skip n = true then e else e.slotRestart n) e
  let e := (List.range 24).foldl (fun e n => if e.et n ETH_CTL_ENABLE = 1 then e.ethRestart n else e) e
  (List.range 16).foldl (fun e n => if e.t1f n T1S_CTL_ENABLE = 1 then e.t1Restart n else e) e

end Sys2Proof
end

