-- ==== Sys2Proof/Machine/TimeOps.lean ====
section
/-!
DEFINITION. Time as shared operations: the TIME section (R405), TIME_ADJUST shingles (R388, R389), the servo (R390-R393, R544).
-/

namespace Sys2Proof

/-- A number of the TIME section; a truss without one has the defaults of R405 (`d`). -/
def Plane.tm (p : Plane) (off size d : Nat) : Nat :=
  if p.truss.sec 0x0F = [] then d else bytesAt (p.truss.sec 0x0F) off size

/-- CTRL TIME_ADJUST (R388). -/
def ctrlTimeAdjust (kind tq src utc : Nat) (before after : Int) (err : Nat) (stepSum : Int) : List Byte :=
  leBytes 2 8 ++ leBytes 1 kind ++ leBytes 1 tq ++ leBytes 1 src ++ leBytes 1 0 ++ leBytes 2 utc ++
    leBytes 8 (unsigned 64 before) ++ leBytes 8 (unsigned 64 after) ++ leBytes 4 (min err 0xFFFFFFFF) ++ leBytes 4 0 ++
    leBytes 8 (unsigned 64 stepSum)

/-- TIME_ADJUST created now, with the values that the leading plane's firmware has written. -/
def Eaves.timeAdjust (e : Eaves) (kind : Nat) (before after : Int) : Eaves :=
  e.ctrl 256 (ctrlTimeAdjust kind (e.regs.get 0 TIME_STAT_TQ) (e.regs.get 0 TIME_STAT_SRC) (e.regs.get 0 TIME_STAT_UTC_OFFSET)
    before after (e.regs.rd TIME_ERR).toNat e.stepSum)

/-- A plane takes a TIME_ADJUST (R388, R389): STEP_SUM and TIME_BASE as it carries them (the base in `info`, log entry 20), the LEGAL TIME
record, the EVENT of its KIND. -/
def Plane.takeTimeAdjust (p : Plane) (sh : Shingle) : Plane :=
  let b := sh.body
  let kind := bytesAt b 2 1
  let before := signed 64 (bytesAt b 8 8)
  let after := signed 64 (bytesAt b 16 8)
  let sum := signed 64 (bytesAt b 32 8)
  let d := sum - p.st.stepSum
  let p := { p with
    st := { p.st with stepSum := sum }
    servo := { p.servo with
      stepSum := sum
      base := if sh.info = [] then p.servo.base else bytesAt sh.info 0 8
      gptpOfs := p.servo.gptpOfs - d } }
  let p := if kind = 6 ∧ p.runsJournal = false then { p with servo := { p.servo with reload := some (p.st.ts, p.st.stream, b) } }
    else p.legalEvent 0x0003 b
  if kind = 2 then p.event 0x0602 noId noId (leBytes 8 (unsigned 64 (after - before)) ++ leBytes 8 (unsigned 64 sum))
  else if kind = 3 then
    p.event 0x0601 noId noId (leBytes 1 (unsigned 8 before) ++ leBytes 1 (unsigned 8 after) ++ leBytes 1 (bytesAt b 4 1) ++
      leBytes 1 0 ++ leBytes 4 (bytesAt b 24 4))
  else if kind = 4 then p.event 0x0603 noId noId (leBytes 1 (unsigned 8 before) ++ leBytes 1 (unsigned 8 after))
  else if kind = 5 then p.event 0x0604 noId noId (leBytes 2 (unsigned 16 before) ++ leBytes 2 (unsigned 16 after))
  else p

/-! The servo. -/

/-- Lock threshold of a source, ns (R390). -/
def lockThreshold (src : Nat) : Int := if src = 3 then 1000000 else 1000

/-- Error of a source while LOCKED, µs (R390). -/
def lockedErr (s : Servo) (src : Nat) : Nat := if src = 3 then max 1000 (s.set.elim 0 (·.errUs)) else 1

/-- Ticks of 2^n seconds, n signed in a byte (R396, R405). -/
def logTicks (v : Nat) : Nat := if v < 128 then 100000 * 2 ^ v else 100000 / 2 ^ (256 - v)

/-- Whether each interval of a list of times is 1 s ± 1 ms. -/
def spaced : List Nat → Bool
  | a :: b :: rest => decide (a + 999000000 ≤ b ∧ b ≤ a + 1001000000) && spaced (b :: rest)
  | _ => true

/-- Whether a source is valid (R390). -/
def Plane.srcValid (p : Plane) (src : Nat) : Bool :=
  let s := p.servo
  let t := p.st.tick
  let within := fun (x : Option Nat) (n : Nat) => x.elim false (fun v => decide (t ≤ v + n))
  if src = 1 then
    !bit (p.tm 0 1 0) 0 && within s.syncTick (3 * logTicks (p.tm 6 1 0xFD)) && within s.pdelayTick (3 * logTicks (p.tm 7 1 0))
  else if src = 2 then
    bit (p.tm 0 1 0) 2 && decide (s.pps.length = 4) && spaced s.pps && (s.pps.getLast?.elim false (fun x => decide (10000 * t ≤ x + 2 * 10 ^ 9))) &&
      (s.labelled || decide (s.err < 400000))
  else if src = 3 then s.set.elim false (fun x => decide (t ≤ x.tick + p.tm 20 2 60 * 100000))
  else false

/-- The source list in priority order (R390). -/
def Plane.srcList (p : Plane) : List Nat := (List.range (p.tm 1 1 0)).map (fun i => p.tm (2 + i) 1 0)

/-- Offset of a source: its time minus PTP time (R391, R400). -/
def Plane.offsetOf (p : Plane) (src : Nat) : Int :=
  let s := p.servo
  if src = 1 then s.gptpOfs
  else if src = 2 then
    let t : Int := s.pps.getLast?.getD 0 + p.st.stepSum
    let r := t % 1000000000
    if r < 500000000 then -r else 1000000000 - r
  else if src = 3 then
    match s.set with
    | some x => (x.ptp : Int) - ((s.base : Int) * 10 ^ 9 + x.ref + (p.st.stepSum - x.stepSum))
    | none => 0
  else 0

/-- A number of ns as µs, rounded up. -/
def ceilUs (ns : Nat) : Nat := (ns + 999) / 1000

/-- Selection (R391 step 1): the source and, while a better one qualifies, since when it has been valid. -/
def Plane.selectSrc (p : Plane) : Nat × Option (Nat × Nat) :=
  let valid := p.srcList.filter p.srcValid
  let cur := p.servo.src
  match valid with
  | [] => (0, none)
  | best :: _ =>
    if cur = 0 ∨ valid.contains cur = false ∨ best = cur then (best, none)
    else
      let since := match p.servo.better with
        | some (b, t) => if b = best then t else p.st.tick
        | none => p.st.tick
      if since + p.tm 10 2 10 * 100000 ≤ p.st.tick then (best, none) else (cur, some (best, since))

/-- Quality after a run and the new error, none where ERR stays as it is (R393): the first matching row. -/
def nextQuality (tq src : Nat) (good : Nat) (anyValid : Bool) (theta thr : Nat) (srcErr err limit : Nat) : Nat × Option Nat :=
  if src ≠ 0 ∧ 4 ≤ good then (0, some srcErr)
  else if tq = 0 ∧ src = 0 then (1, none)
  else if tq = 0 ∧ 2 * thr < theta then (3, some (ceilUs (theta + 1000 * srcErr)))
  else if (tq = 1 ∨ tq = 2) ∧ src ≠ 0 ∧ thr < theta then (3, some (ceilUs (theta + 1000 * srcErr)))
  else if tq = 3 ∧ anyValid = false then (if err ≤ limit then 1 else 2, none)
  else if tq = 1 ∧ limit < err then (2, none)
  else (tq, none)

/-- UTC_OFFSET under R385. -/
def Plane.utcOffset (p : Plane) (src : Nat) : Nat :=
  match p.servo.gptpUtc, p.servo.hostUtc with
  | some u, some h => if src = 1 then u else h
  | some u, none => if src = 1 then u else p.tm 22 2 37
  | none, some h => h
  | none, none => p.tm 22 2 37

/-- What a servo run asks of Eaves (R33, R389): the changes to announce as (KIND, before, after), and a step. -/
structure ServoOut where
  changes : List (Nat × Int × Int)
  step : Option Int

/-- θ rounded to the nearest multiple of 10,000 ns, halves away from zero (R391). -/
def roundStep (t : Int) : Int :=
  let a := (t.natAbs + 5000) / 10000 * 10000
  if t < 0 then -(a : Int) else a

/-- One servo run (R391, R393). The frequency correction is the firmware's, a function of the servo's inputs kept within 2,000 ppb (R544). A valid
source is followed whatever it says (R395). -/
def Plane.servoRun (p : Plane) : Plane × ServoOut :=
  let s := p.servo
  let t := p.st.tick
  let limit := p.tm 12 4 10000
  let (src, better) := p.selectSrc
  let anyValid := p.srcList.any p.srcValid
  let theta := p.offsetOf src
  let f := if src = 0 then s.freq else clampI (-2000) 2000 (Config.servoFreq t src theta s.freq)
  let step := if src ≠ 0 ∧ 1000000000 < theta.natAbs then some (roundStep theta) else none
  let rest := theta - step.getD 0
  let thr := (lockThreshold src).natAbs
  let slew :=
    if src = 0 then 0
    else if step.isSome then s.slew
    else if thr < theta.natAbs then clampI (-200000 - f) (200000 - f) theta
    else 0
  let good := if src ≠ 0 ∧ rest.natAbs ≤ thr then s.good + 1 else 0
  let grown := if (s.tq = 1 ∨ s.tq = 2) ∧ s.errBase ≠ 0xFFFFFFFF then s.errAcc + (t - s.lastRun) * 10000 * p.tm 16 2 250 else s.errAcc
  let err := if s.errBase = 0xFFFFFFFF then s.errBase else min 0xFFFFFFFE (s.errBase + (grown + 10 ^ 12 - 1) / 10 ^ 12)
  let srcErr := lockedErr s src
  let utc := p.utcOffset src
  let (tq, newErr) := nextQuality s.tq src good anyValid rest.natAbs thr srcErr err limit
  let base := newErr.getD s.errBase
  let acc := if newErr.isSome then 0 else grown
  let errNow := if base = 0xFFFFFFFF then base else min 0xFFFFFFFE (base + (acc + 10 ^ 12 - 1) / 10 ^ 12)
  let changes :=
    (if (s.slew = 0) = (slew = 0) then [] else [(1, s.slew, slew)]) ++
    (if s.tq = tq then [] else [(3, (s.tq : Int), (tq : Int))]) ++
    (if s.src = src then [] else [(4, (s.src : Int), (src : Int))]) ++
    (if s.utc = utc then [] else [(5, (s.utc : Int), (utc : Int))])
  let s := { s with
    src := src, better := better, freq := f, slew := slew, good := good, tq := tq, errBase := base, errAcc := acc, err := errNow,
    utc := utc, lastRun := t, stepReq := step.getD 0, labelled := s.labelled || src = 1 || src = 3 }
  ({ p with servo := s }, ⟨changes, step⟩)

/-- The servo's fields as Eaves shows them of a plane (R406). -/
def servoFields (s : Servo) : List (Fld × Nat) :=
  [(TIME_STAT_TQ, s.tq), (TIME_STAT_SRC, s.src), (TIME_STAT_UTC_OFFSET, s.utc), (⟨TIME_ERR, 31, 0⟩, s.err),
   (⟨TIME_FREQ, 31, 0⟩, unsigned 32 s.freq), (⟨TIME_SLEW, 31, 0⟩, unsigned 32 s.slew), (⟨TIME_GPTP_PDELAY, 31, 0⟩, s.pdelay % 2 ^ 32),
   (⟨TIME_GPTP_OFS, 31, 0⟩, unsigned 32 (clampI (-0x80000000) 0x7FFFFFFF s.gptpOfs))]

/-- Fields of Eaves set. -/
def Eaves.setFields (e : Eaves) (l : List (Fld × Nat)) : Eaves := e.onRegs (fun m => l.foldl (fun m x => m.set 0 x.1 x.2) m)

/-- Eaves as it shows a servo. -/
def Eaves.showServo (e : Eaves) (s : Servo) : Eaves := e.setFields (servoFields s)

end Sys2Proof
end

