-- ==== Sys2Proof/Machine/TrussTab.lean ====
section
/-!
DEFINITION. Reading the truss's tables without a plane: sections that are lists of tables (R198, R223, R251, R274), keys of hashed tables
(R207, R216), route entries (R204), signal definitions (R225-R227).
-/

namespace Sys2Proof

/-- Where table `k` of a section of tables with the given entry sizes starts, and its count. -/
def subTable (bs : List Byte) : List Nat → Nat → Nat → Nat × Nat
  | [], _, off => (off, 0)
  | sz :: rest, k, off =>
    let n := bytesAt bs off 4
    if k = 0 then (off + 8, n) else subTable bs rest (k - 1) ((off + 8 + sz * n + 7) / 8 * 8)

/-- Entry sizes of the TABLES section (R223). -/
def tablesSizes : List Nat := [16, 16, 32, 8, 16, 16, 32, 8192]

/-- Entry sizes of the TENANTS section (R274). -/
def tenantsSizes : List Nat := [96, 16, 16]

/-- The entries of sub-table `k` of a section. -/
def subEntries (bs : List Byte) (sizes : List Nat) (k : Nat) : List Rec :=
  if bs = [] then []
  else
    let (off, n) := subTable bs sizes k 0
    let sz := sizes.getD k 8
    (List.range n).map (fun i => recAt bs off sz i)

/-- The bucket of a MAC key (R207); `mac` as the number that its six bytes in transmission order spell. -/
def macBucket (seed fid mac : Nat) : Nat := Config.crc32c (leBytes 4 seed ++ leBytes 2 fid ++ beBytes 6 mac) % 2 ^ 14

/-- H of a prefix (R216). -/
def lpmHash (seed dom len w key : Nat) : Nat := Config.crc32c (leBytes 4 seed ++ leBytes 1 dom ++ leBytes 1 len ++ beBytes (w / 8) key)

/-- A big-endian field of a record. -/
def Rec.be (r : Rec) (off n : Nat) : Nat := beAt (r.bytes 128) off n

/-- Table, width in bits, offset of LEN of a family: IPv4 or IPv6 (R216). -/
def lpmFam (v6 : Bool) : Nat × Nat × Nat := if v6 then (6, 128, 16) else (5, 32, 4)

/-- Buckets of a family's store. -/
def lpmBuckets (v6 : Bool) : Nat := if v6 then 2 ^ 11 else 2 ^ 13

/-- Whether a route is VALID (R204). -/
def routeValid (r : Rec) : Bool := r.f 32 0 0 = 1

/-- The DEST of a route as a list of ports in ascending order. -/
def routeDest (r : Rec) : List Nat := (List.range 179).filter (fun q => r.f 0 q q = 1)

/-- AUTH_MODE of a route. -/
def routeAuth (r : Rec) : Nat := r.u 35 1

/-- Entry sizes of the SIGROUTES section. -/
def sigroutesSizes : List Nat := [24, 2048, 16]

/-- SIGNED. -/
def sigSigned (s : Rec) : Bool := s.f 5 1 1 = 1

/-- LEN in bits. -/
def sigLen (s : Rec) : Nat := s.u 4 1

/-- CODES; they apply to UNSIGNED signals only (R227). -/
def sigCodes (s : Rec) : Nat := if sigSigned s then 0 else s.u 6 1

/-- INIT. -/
def sigInit (s : Rec) : Int := signed 64 (s.u 8 8)

/-- SUBST. -/
def sigSubst (s : Rec) : Int := signed 64 (s.u 16 8)

/-- The first raw value that is NOT_AVAILABLE, the valid maximum, and the packed ERROR and NA codes of an UNSIGNED signal with codes. -/
def codeTable (codes len : Nat) : Nat × Nat × Nat × Nat :=
  if codes = 2 then (2 ^ len - 1, 2 ^ len - 3, 2 ^ len - 2, 2 ^ len - 1)
  else if len = 2 then (3, 1, 2, 3)
  else if len = 4 then (15, 13, 14, 15)
  else if len = 8 then (255, 250, 254, 255)
  else if len = 16 then (0xFF00, 0xFAFF, 0xFE00, 0xFFFF)
  else (0xFF000000, 0xFAFFFFFF, 0xFE000000, 0xFFFFFFFF)

/-- The largest valid value of an UNSIGNED signal. -/
def sigMax (s : Rec) : Nat := if sigCodes s = 0 then 2 ^ sigLen s - 1 else (codeTable (sigCodes s) (sigLen s)).2.1

/-- The range of a signal (R232). -/
def sigRange (s : Rec) : Int × Int :=
  if sigSigned s then (-(2 ^ (sigLen s - 1) : Nat), ((2 ^ (sigLen s - 1) : Nat) : Int) - 1) else (0, (sigMax s : Nat))

/-- The bit positions of a big-endian signal from `p` down in significance. -/
def bigPos (p : Nat) : Nat → List Nat
  | 0 => []
  | n + 1 => p :: bigPos (if p % 8 = 0 then p + 15 else p - 1) n

/-- The bit positions of a signal, least significant first. -/
def sigPos (s : Rec) : List Nat :=
  if s.f 5 0 0 = 1 then (bigPos (s.u 2 2) (sigLen s)).reverse else (List.range (sigLen s)).map (s.u 2 2 + ·)

end Sys2Proof
end

