-- ==== Sys2Proof/Machine/TrussCheck.lean ====
section
/-!
DEFINITION. The rules of the chapters that reject an image with ERROR 6 (R73 step 6): one check for each section, and those that tie
sections together.
-/

namespace Sys2Proof

/-- Ranges `(from, to)` of which no two overlap. -/
def disjoint : List (Nat × Nat) → Bool
  | [] => true
  | r :: rs => rs.all (fun x => decide (r.2 ≤ x.1 ∨ x.2 ≤ r.1)) && disjoint rs

/-- The RICK section's ranges (R382). -/
def rickOk (b : List Byte) : Bool :=
  let u := bytesAt b
  b = [] || (b.length = 64 && decide (1 ≤ u 1 1 ∧ u 1 1 ≤ 4 ∧ 1 ≤ u 2 2 ∧ u 2 2 ≤ 4096 ∧ 10 ≤ u 4 2 ∧ u 4 2 ≤ 3600 ∧ u 6 1 ≤ 120 ∧
    1 ≤ u 7 1 ∧ u 7 1 ≤ 120 ∧ 10 ≤ u 8 2 ∧ u 8 2 ≤ 600 ∧ 1 ≤ u 12 4 ∧ u 12 4 ≤ 1024 ∧ u 16 4 ≤ 8192 ∧ 512 ≤ u 24 2 ∧ u 24 2 ≤ 8192 ∧
    512 ≤ u 26 2 ∧ u 26 2 ≤ 16384 ∧ 100 ≤ u 28 2 ∧ u 28 2 ≤ 4000 ∧ u 0 1 ≤ 1 ∧ u 10 2 < 8 ∧ u 30 34 = 0))

/-- The TIME section's ranges, with R396's rules (R405). -/
def timeOk (b : List Byte) : Bool :=
  let u := bytesAt b
  let src := (List.range (u 1 1)).map (fun i => u (2 + i) 1)
  b = [] || (b.length = 64 && decide (u 1 1 ≤ 3 ∧ u 5 1 ≤ 127 ∧ (u 6 1 = 0 ∨ 251 ≤ u 6 1) ∧ u 7 1 ≤ 3 ∧ 1 ≤ u 8 2 ∧ u 8 2 ≤ 500 ∧ 1 ≤ u 10 2 ∧
    u 10 2 ≤ 600 ∧ 1 ≤ u 12 4 ∧ u 12 4 ≤ 60000000 ∧ 10 ≤ u 16 2 ∧ u 16 2 ≤ 1000 ∧ 1 ≤ u 20 2 ∧ u 20 2 ≤ 3600 ∧ u 22 2 ≤ 255 ∧ 1 ≤ u 25 1 ∧ u 0 1 < 16 ∧ u 26 2 = 0 ∧
      u 28 4 < 2 ^ 24 ∧ u 32 32 = 0) &&
    src.all (fun x => decide (1 ≤ x ∧ x ≤ 3)) && decide src.Nodup &&
    (if bit (u 0 1) 0 then u 24 1 = 0xFF && !src.contains 1 else decide (u 24 1 = 0xFF ∨ (u 24 1 < 24 ∧ bit (u 28 4) (u 24 1) = false))))

/-- The EARLY section's ranges (R77): only slots, at most 32, RIDs in ascending order. -/
def earlyOk (b : List Byte) : Bool :=
  let n := bytesAt b 32 2
  let rid := fun i => bytesAt b (36 + 2 * i) 2
  b = [] || (decide (1 ≤ n ∧ n ≤ 1024) && bytesAt b 16 16 = 0 &&
    decide (((List.range 128).filter (fun p => bit (bytesAt b 0 16) p)).length ≤ 32) &&
    (List.range (n - 1)).all (fun i => decide (rid i < rid (i + 1))))

/-- The CARRY section (R79, R80): actions in range, SATURATE for SIGNAL only, new ranges of one KIND disjoint. -/
def carryOk (b : List Byte) : Bool :=
  let es := (List.range (b.length / 16)).map (fun i => recAt b 0 16 i)
  es.all (fun e => decide (1 ≤ e.u 0 1 ∧ e.u 0 1 ≤ 10 ∧ e.u 1 1 ≤ 2 ∧ (e.u 1 1 = 2 → e.u 0 1 = 2) ∧ 1 ≤ e.u 12 4)) &&
    (List.range 11).all (fun k => disjoint ((es.filter (fun e => e.u 0 1 = k)).map (fun e => (e.u 8 4, e.u 8 4 + (if k = 9 then 4 else 1) * e.u 12 4))))

/-- A descriptor that Eaves can make (R23): a TYPE of its own, a slot, Ethernet, T1S, endpoint or internal PORT number (R25). -/
def descOk (d : List Byte) : Bool :=
  let w2 := bytesAt d 16 8
  let w3 := bytesAt d 24 8
  decide (w2 % 16 ≤ 11 ∧ w2 % 16 ≠ 8 ∧ bits w3 63 55 ≤ 256 ∧ (bits w3 63 55 ≤ 178 ∨ bits w3 63 55 = 256)) && bits w3 33 25 = 0 && w3 % 2 ^ 17 = 0

/-- Metadata bytes of a TYPE (R104, R136, R161, R36, R248): the header of a HOST shingle. -/
def metaLen (ty : Nat) : Nat := if ty = 2 ∨ ty = 5 ∨ ty = 6 ∨ ty = 7 ∨ ty = 8 then 16 else if ty ≤ 4 then 8 else 0

/-- Bytes that an entry's BODY holds, from its descriptor on (R82): metadata and payload; for a HOST shingle the Ridge header with the payload
that the header counts. -/
def entryLen (d : List Byte) : Nat :=
  let ty := bytesAt d 16 8 % 16
  metaLen ty + (if ty = 7 then bits (bytesAt d 32 8) 37 24 else bits (bytesAt d 24 8) 54 41)

/-- Input entries of a check record (R82) from an offset: `fuel` entries, the last of which ends at `stop`; STREAM rises and TS does not
fall. The STREAM and TS of the last entry, where all are good. -/
def entriesFrom (b : List Byte) (stop : Nat) : Nat → Nat → Option (Nat × Nat) → Option (Nat × Nat)
  | 0, off, last => if off = stop then last else none
  | n + 1, off, last =>
    let len := bytesAt b off 4
    let d := (b.drop (off + 8)).take 32
    let ts := bytesAt d 0 8
    let stream := bytesAt d 8 8
    let used := 40 + entryLen (b.drop (off + 8))
    if (decide (len % 8 = 0 ∧ used ≤ len ∧ len < used + 8 ∧ off + len ≤ stop) && bytesAt b (off + 4) 4 = 0 && descOk d &&
      bytesAt b (off + used) (len - used) = 0 && last.elim true (fun l => decide (l.1 < stream ∧ l.2 ≤ ts))) = true then
      entriesFrom b stop n (off + len) (some (stream, ts))
    else none

/-- CHECKS records from an offset (R82): `fuel` records, the first with FRESH; `last` is the entry before, where the run goes on. -/
def checksFrom (b : List Byte) : Nat → Nat → Option (Nat × Nat) → Bool → Bool
  | 0, off, _, _ => decide (off ≤ b.length)
  | n + 1, off, last, first =>
    let len := bytesAt b off 4
    let flags := bytesAt b (off + 4) 2
    let cnt := bytesAt b (off + 6) 2
    (!first || bit flags 0) && decide (flags ≤ 1 ∧ len % 8 = 0 ∧ 40 ≤ len ∧ off + len ≤ b.length ∧ 1 ≤ cnt ∧ cnt ≤ 4096) &&
      (match entriesFrom b (off + len) cnt (off + 40) (if bit flags 0 then none else last) with
        | some l => checksFrom b n (off + len) (some l) false
        | none => false)

/-- The CHECKS section (R82). -/
def checksOk (b : List Byte) : Bool :=
  let n := bytesAt b 0 4
  decide (1 ≤ n ∧ n ≤ 65536) && checksFrom b n 8 none true

/-- The KEYS section (R331, R335): limits, PARENTs that are earlier handles with the right usage, MAC parameters, reserved bits at 0, MACSEC
records. -/
def keysOk (b : List Byte) : Bool :=
  let n := bytesAt b (keysKeyOff b) 4
  let w := bytesAt b (keysWkeyOff b) 4
  let m := bytesAt b (keysMsOff b) 4
  let key := fun i => recAt b (keysKeyOff b + 8) 48 i
  let parentOk := fun (h p usage : Nat) => decide (p < h) && bit ((key p).u 2 1) usage
  let one := fun h =>
    let r := key h
    let mac := bit (r.u 2 1) 2 || bit (r.u 2 1) 3
    r.u 0 1 = 0 || (decide (r.u 0 1 ≤ 3 ∧ 1 ≤ r.u 1 1 ∧ r.u 1 1 ≤ 2 ∧ r.u 2 1 < 64 ∧ r.u 8 4 ≤ 16777215) &&
      (r.u 2 1 < 16 || r.u 2 1 = 16 || r.u 2 1 = 32) && (!bit (r.u 3 1) 0 || r.u 0 1 = 2) &&
      (r.u 0 1 ≠ 1 || ((r.u 6 2 = 0xFFFF || parentOk h (r.u 6 2) 4) && decide (1 ≤ r.u 20 1 ∧ r.u 20 1 ≤ 16))) &&
      (r.u 0 1 ≠ 2 || parentOk h (r.u 6 2) 5) &&
      (!mac || decide (1 ≤ r.u 14 1 ∧ r.u 14 1 ≤ 8 ∧ 3 ≤ r.u 15 1 ∧ r.u 15 1 ≤ 16 ∧ 1 ≤ r.u 16 4)) &&
      decide (r.u 3 1 < 4 ∧ r.u 21 3 = 0 ∧ r.u 40 8 = 0))
  let wk := fun i =>
    let r := recAt b (keysWkeyOff b + 8) 112 i
    decide (r.u 97 1 < 4 ∧ r.u 98 1 < 64 ∧ r.u 99 13 = 0)
  let ms := fun i =>
    let r := recAt b (keysMsOff b + 8) 48 i
    let cak := key (r.u 2 2)
    decide (r.u 0 1 < 24 ∧ 1 ≤ r.u 1 1 ∧ r.u 1 1 ≤ 2 ∧ 1 ≤ r.u 7 1 ∧ r.u 7 1 ≤ 32 ∧ r.u 2 2 < n ∧
      (cak.u 0 1 = 1 ∨ cak.u 0 1 = 2) ∧ cak.u 4 2 = 0xFFFF ∧ r.u 4 1 < 4 ∧ r.u 40 8 = 0) && bit (cak.u 2 1) 4
  b = [] || (decide (bytesAt b 0 4 ≤ 1 ∧ n ≤ 1024 ∧ w ≤ 16 ∧ m ≤ 24) &&
    (bytesAt b 0 4 = 0 || decide (bytesAt b 8 1 < 32 ∧ bytesAt b 9 1 < 16 ∧ bytesAt b 10 14 = 0)) &&
    (List.range n).all one && (List.range w).all wk && (List.range m).all ms)

/-! The slots' sections. -/

/-- Personality of a slot's record. -/
def persOf (t : Truss) (n : Nat) : Nat := (slotRec t n).u 0 1

/-- FILTERS (R108): lists disjoint and inside the pool, COUNT at most 4,096 and above 0 only with a CAN personality. -/
def filtersOk (t : Truss) : Bool :=
  let ls := (List.range 128).map (fun n => (n, filterList t n))
  ls.all (fun l => decide (l.2.2 ≤ 4096 ∧ l.2.1 + l.2.2 ≤ 65536) && (l.2.2 = 0 || persCan (persOf t l.1))) &&
    disjoint ((ls.filter (fun l => l.2.2 ≠ 0)).map (fun l => (l.2.1, l.2.1 + l.2.2)))

/-- A schedule entry's frame in bytes: the frame table's LEN, 8 for FIDs 60 and 61 (R142, R144). -/
def linFrameBytes (t : Truss) (n fid : Nat) : Nat := linLen t n fid

/-- Whether a DELAY in ms holds TFrame_Maximum of a frame of `len` bytes at a BAUD_DIV (R143, R151). -/
def delayOk (delay len div : Nat) : Bool := decide (14 * (34 + 10 * (len + 1)) * div ≤ 12800000 * delay)

/-- A schedule entry of a LIN commander (R144, R151). -/
def schedEntryOk (t : Truss) (n div : Nat) (e : Rec) : Bool :=
  let spors := ((List.range 3).map (fun i => e.u (5 + i) 1)).filter (fun f => f ≠ 0xFF)
  decide (e.u 0 1 ≤ 15 ∧ e.u 1 1 ≤ 4 ∧ e.u 2 1 < 64 ∧ 1 ≤ e.u 3 1) &&
    (e.u 1 1 ≠ 1 || decide (e.u 4 1 ≤ 15)) && (e.u 1 1 ≠ 2 || spors.all (fun f => decide (f < 64))) &&
    (if e.u 1 1 ≤ 1 then delayOk (e.u 3 1) (linFrameBytes t n (e.u 2 1)) div
     else if e.u 1 1 = 2 then spors.all (fun f => delayOk (e.u 3 1) (linFrameBytes t n f) div)
     else if e.u 1 1 = 4 then delayOk (e.u 3 1) 8 div else true)

/-- The SLOTS record of a slow slot (R133, R134, R142-R144, R151): limits, reserved values and reserved bytes. -/
def slowRecOk (t : Truss) (n : Nat) : Bool :=
  let r := slotRec t n
  let frame := BitVec.ofNat 32 (r.u 3 1 * 2 ^ 24 + r.u 8 2 % 4096 * 2 ^ 12 + r.u 10 1 % 4 * 2 ^ 10 + r.u 11 1)
  let sched := (List.range (r.u 22 2)).map (fun k => recAt (t.sec 0x02) (schedOff t) 8 (r.u 20 2 + k))
  let tabs := sched.map (fun e => e.u 0 1)
  decide (r.u 16 2 + r.u 18 2 ≤ 4096 ∧ r.u 20 2 + r.u 22 2 ≤ 4096 ∧ r.u 22 2 ≤ 1024) &&
    decide (r.f 1 7 5 = 0 ∧ r.f 1 1 1 = 0 ∧ r.f 1 3 2 ≤ 2 ∧ r.f 4 23 21 = 0 ∧ r.u 8 2 < 4096 ∧ r.u 10 1 ≤ 2 ∧ r.u 14 2 = 0 ∧ r.u 24 40 = 0) &&
    slowCfgOk (r.u 0 1) (BitVec.ofNat 32 (r.u 4 4)) frame &&
    (if r.u 0 1 = 4 then
       decide (r.u 18 2 = 64 ∧ 13 ≤ r.u 12 1 ∧ r.u 12 1 ≤ 26 ∧ 1 ≤ r.u 13 1 ∧ r.u 13 1 ≤ 4) &&
       (List.range 64).all (fun f => let m := mapEntry t n f
         decide (m.u 0 1 < 8) && (m.u 0 1 % 4 = 0 || m.u 0 1 % 4 = 3 || decide (1 ≤ m.u 1 1 ∧ m.u 1 1 ≤ 8)) &&
           (f < 60 || 61 < f || m.u 0 1 % 4 = 0 || m.u 1 1 = 8)) &&
       sched.all (schedEntryOk t n (r.f 4 20 0)) &&
       (List.range 16).all (fun k => decide ((sched.filter (fun e => e.u 0 1 = k)).length ≤ 64)) &&
       (tabs.zip (tabs.drop 1)).all (fun x => decide (x.1 ≤ x.2))
     else r.u 18 2 ≤ 64)

/-- A T1S record with ENABLE set (R153, R154): node identity, opportunities, timers and reserved bytes. -/
def t1sRecOk (r : Rec) : Bool :=
  r.f 0 0 0 = 0 || decide (r.u 0 1 = 1 ∧ r.u 1 1 ≤ 254 ∧ (r.u 1 1 ≠ 0 ∨ 1 ≤ r.u 2 1) ∧ 1 ≤ r.u 3 1 ∧ 1 ≤ r.u 6 1 ∧ r.u 7 1 ≤ 8 ∧ r.u 56 8 = 0)

/-- A CAN slot's record (R130): its reserved bits and the place of its assist entries. -/
def canRecOk (r : Rec) : Bool :=
  decide (r.f 1 7 7 = 0 ∧ r.u 23 1 = 0 ∧ r.u 58 2 ≤ 512 ∧ r.u 56 2 + r.u 58 2 ≤ 1024 ∧ r.u 60 4 = 0)

/-- The limits of the slots' records and of the T1S ports (R130, R151). -/
def slowOk (t : Truss) : Bool :=
  (List.range 128).all (fun n => (!persSlow (persOf t n) || slowRecOk t n) && (!persCan (persOf t n) || canRecOk (slotRec t n))) && (List.range 16).all (fun n => t1sRecOk (t1sRec t n))

/-! Ethernet. -/

/-- Whether a port's truss record enables it: ETHPORTS, T1SPORTS, HOSTS, SLOTS; ports 176-178 always (R165). -/
def portEnabled (t : Truss) (p : Nat) : Bool :=
  if p < 128 then persOf t p ≠ 0 && (slotRec t p).f 1 0 0 = 1
  else if p < 152 then (ethRec t (p - 128)).f 0 0 0 = 1
  else if p < 168 then (t1sRec t (p - 152)).f 0 0 0 = 1
  else if p < 176 then (recAt (t.sec 0x14) 16 32 (p - 168)).f 0 0 0 = 1
  else true

/-- Cells reserved (R165): 128 for each queue of an enabled port. -/
def reserves (t : Truss) : Nat :=
  (List.range 179).foldl (fun n p => if portEnabled t p then n + 128 * (if 128 ≤ p ∧ p < 176 then 8 else 1) else n) 0

/-- A 4-bit field list whose nibbles are at most 7. -/
def nibblesOk (r : Rec) (off n : Nat) : Bool := (List.range (2 * n)).all (fun k => decide (r.f off (4 * k + 3) (4 * k) ≤ 7))

/-- The limits of the switch header (R170, R192, R193, R197). -/
def switchOk (h : Rec) : Bool :=
  nibblesOk h 16 8 && decide (h.f 10 3 0 ≤ 7) &&
    decide (4 ≤ h.u 1 1 ∧ h.u 1 1 ≤ 32 ∧ 26 ≤ h.u 2 1 ∧ h.u 2 1 ≤ 31 ∧ 1000 ≤ h.u 4 4 ∧ h.u 4 4 ≤ 24000 ∧ 1 ≤ h.u 8 2 ∧ h.u 8 2 ≤ 1000)

/-- The limits of a port record (R163, R170, R189, R197). What only an enabled port uses is checked of enabled ports. -/
def ethportOk (r : Rec) : Bool :=
  nibblesOk r 24 4 && (r.f 0 0 0 = 0 ||
    decide (1518 ≤ r.u 4 2 ∧ r.u 4 2 ≤ 9216 ∧ r.u 11 1 ≤ 7 ∧ 1 ≤ r.u 12 2 ∧ r.u 12 2 ≤ 1000 ∧ r.u 20 1 ≤ 8 ∧
      (r.u 3 1 < 8 ∨ r.u 3 1 = 0xFF)))

/-- The enabled members of an aggregate. -/
def lagPorts (t : Truss) (l : Nat) : List Nat := (List.range 24).filter (fun n => (ethRec t n).f 0 0 0 = 1 && (ethRec t n).u 3 1 = l)

/-- An aggregate has 2 to 8 members of one PCS and one forced speed, and so of one speed (R189); one without members is not defined. -/
def lagOk (t : Truss) (l : Nat) : Bool :=
  match lagPorts t l with
  | [] => true
  | n :: rest =>
    decide (1 ≤ rest.length ∧ rest.length ≤ 7) &&
      rest.all (fun m => (ethRec t m).u 1 1 = (ethRec t n).u 1 1 && (ethRec t m).u 2 1 = (ethRec t n).u 2 1)

/-- ETHPORTS (R197, R198) and the reserves (R165). -/
def ethportsOk (t : Truss) : Bool :=
  (t.sec 0x03 = [] || (switchOk (recAt (t.sec 0x03) 0 64 0) && (List.range 24).all (fun n => ethportOk (ethRec t n)) &&
    (List.range 8).all (lagOk t))) && decide (reserves t ≤ 65536)

/-- The lowest rate at which an Ethernet port can have link, and the top one, in kb/s (R155, R175). -/
def ethRates (t : Truss) (n : Nat) : Nat × Nat :=
  let r := ethRec t n
  let fixed := fun sp : Nat => if sp = 0 then 10000 else if sp = 1 then 100000 else if sp = 2 then 1000000 else if sp = 3 then 2500000
    else if sp = 4 then 5000000 else 10000000
  if r.u 1 1 = 1 then (10000000, 10000000)
  else if r.u 1 1 = 4 then (2500000, 2500000)
  else if r.u 2 1 ≠ 15 then (fixed (r.u 2 1), fixed (r.u 2 1))
  else if r.u 1 1 = 2 then (1000000, 10000000)
  else if r.u 1 1 = 3 then (10000, 1000000)
  else (0, 0)

/-- The idle slopes of a port's shaped classes (R175, R198). -/
def cbsTotal (r : Rec) : Nat :=
  (List.range 8).foldl (fun s c => if r.f (4 * c) 31 31 = 1 then s + r.f (4 * c) 23 0 else s) 0

/-- The TSN section (R175, R176, R182-R186, R198): counts, indexes, limits. -/
def tsnOk (t : Truss) : Bool :=
  let tab := tsnTable t
  let all := fun (k : Nat) (g : Rec → Bool) => (List.range (tab k).1).all (fun i => g ((tab k).2 i))
  let cnt := fun k : Nat => (tab k).1
  let maxes := [24, 6144, 24, 16384, 16384, 4096, 256, 16384, 1024]
  t.sec 0x09 = [] ||
    ((List.range 9).all (fun k => decide (cnt k ≤ maxes.getD k 0)) &&
      all 0 (fun r => decide (r.u 0 1 < 24 ∧ r.u 2 2 ≤ 256 ∧ r.u 4 2 + r.u 2 2 ≤ cnt 1) &&
        (r.u 1 1 % 2 = 0 || decide (1000 ≤ r.u 16 4 ∧ r.u 16 4 ≤ 1000000000))) &&
      decide ((List.range (cnt 0)).map (fun i => ((tab 0).2 i).u 0 1)).Nodup &&
      all 1 (fun r => decide (100 ≤ r.u 0 4)) &&
      (List.range (cnt 2)).all (fun n => let s := cbsTotal ((tab 2).2 n)
        s = 0 || (ethRates t n).1 = 0 || decide (4 * s ≤ 3 * (ethRates t n).1)) &&
      all 3 (fun r => decide (r.u 0 1 ≤ 1 ∧ r.u 12 2 < cnt 4 ∧ r.u 2 2 < 4096 ∧ (r.u 10 2 = 0xFFFF ∨ (128 ≤ r.u 10 2 ∧ r.u 10 2 < 168)))) &&
      all 4 (fun r => (r.u 2 2 = 0xFFFF || decide (r.u 2 2 < cnt 5)) && (r.u 4 1 = 0xFF || decide (r.u 4 1 < cnt 6)) &&
        (r.u 6 2 = 0xFFFF || decide (r.u 6 2 < cnt 8))) &&
      all 6 (fun r => decide (1000 ≤ r.u 8 4 ∧ r.u 8 4 ≤ 1000000000 ∧ 1 ≤ r.u 14 1 ∧ r.u 14 1 ≤ 64 ∧ r.u 12 2 + r.u 14 1 ≤ cnt 7)) &&
      all 7 (fun r => decide (100 ≤ r.u 0 4)) &&
      all 8 (fun r => r.u 0 1 = 1 || (r.u 0 1 = 2 && decide (2 ≤ r.u 2 1 ∧ r.u 2 1 ≤ 32 ∧ 1 ≤ r.u 4 2 ∧ r.u 4 2 ≤ 10000))))

/-! Routes and tables. -/

/-- The listed routes. -/
def routesOf (t : Truss) : List Rec := (List.range ((t.sec 0x07).length / 64)).map (recAt (t.sec 0x07) 0 64)
/-- The listed route of a RID. -/
def routeOf (t : Truss) (rid : Nat) : Option Rec := (routesOf t).find? (fun r => r.u 52 2 = rid)

/-- RIDs that filter elements give (R223): those whose action forwards, not DISABLED. -/
def filterRids (t : Truss) : List Nat :=
  (poolOf t).filterMap (fun e =>
    let w := e.2.u 0 4
    if bits w 29 28 ≠ 3 ∧ 1 ≤ bits w 27 25 ∧ bits w 27 25 ≤ 4 then some (bits w 15 0) else none)

/-- RIDs that map entries give (R137): every entry of SERIAL and J1708 slots, SUBSCRIBE entries of LIN slots. -/
def mapRids (t : Truss) : List Nat :=
  (List.range 128).flatMap (fun n =>
    if persSlow (persOf t n) then
      ((List.range ((slotRec t n).u 18 2)).map (mapEntry t n)).filterMap (fun m =>
        if persOf t n = 4 ∧ m.u 0 1 % 4 ≠ 2 then none else some (m.u 2 2))
    else [])

/-- RIDs that assist entries give. -/
def assistRids (t : Truss) : List Nat := (List.range 128).flatMap (fun n => (slotAssists t n).map (fun a => a.2.u 2 2))

/-- RIDs whose routes R223 wants listed: of VLANs, static MAC entries and prefixes. -/
def tableRids (t : Truss) : List Nat :=
  let sub := subEntries (t.sec 0x08) tablesSizes
  (sub 2).flatMap (fun v => [v.u 22 2, v.u 24 2, v.u 26 2]) ++ (sub 4).map (·.u 12 2) ++ (sub 5).map (·.u 6 2) ++
    (sub 6).map (·.u 18 2)

/-- RIDs that the switch tables give to units: those, and the domains' misses (R206). -/
def givenRids (t : Truss) : List Nat :=
  tableRids t ++ ((subEntries (t.sec 0x08) tablesSizes 1).flatMap (fun d => [d.u 8 2, d.u 10 2])).filter (fun x => x ≠ 0xFFFF)

/-- RIDs of the EARLY list (R77). -/
def earlyRids (t : Truss) : List Nat :=
  let b := t.sec 0x15
  if b = [] then [] else (List.range (bytesAt b 32 2)).map (fun i => bytesAt b (36 + 2 * i) 2)

/-- EARLY routes (R77): inside the early set, not to Thatcher, no authentication, journal class NONE or ROLLING. -/
def earlyRoutesOk (t : Truss) : Bool :=
  (earlyRids t).all (fun rid => match routeOf t rid with
    | none => false
    | some r => (routeDest r).all (fun q => bit (bytesAt (t.sec 0x15) 0 32) q) && r.f 32 1 1 = 0 && r.u 35 1 = 0 && decide (r.u 34 1 ≤ 1))

/-- FIXED tenants: records of the TENANTS section. -/
def fixedOf (t : Truss) : List Rec := subEntries (t.sec 0x0D) tenantsSizes 1
/-- The template records. -/
def templatesOf (t : Truss) : List Rec := subEntries (t.sec 0x0D) tenantsSizes 0

/-- The ROUTES section (R204, R223, R255, R274, R316). -/
def routesOk (t : Truss) : Bool :=
  let rs := routesOf t
  let named := filterRids t ++ mapRids t ++ assistRids t
  let byTables := givenRids t
  let pols := (subEntries (t.sec 0x0D) tenantsSizes 2).map (·.u 0 2)
  let fixed := (fixedOf t).map (·.u 0 2)
  (rs.zip (rs.drop 1)).all (fun x => decide (x.1.u 52 2 < x.2.u 52 2)) &&
    rs.all (fun r => decide (r.u 42 2 ≤ 1000) && fixed.contains (r.u 38 2) && (r.u 40 2 = 0xFFFF || pols.contains (r.u 40 2)) &&
      (r.u 35 1 = 0 || named.contains (r.u 52 2) || !byTables.contains (r.u 52 2))) &&
    (named ++ tableRids t ++ earlyRids t).all (fun rid => (routeOf t rid).isSome)

/-- Keys whose bucket holds at most 8 (R207, R216). -/
def bucketsOk (ks : List Nat) : Bool := ks.all (fun k => decide ((ks.filter (· = k)).length ≤ 8))

/-- The buckets of a family's prefixes. -/
def prefixBuckets (seed : Nat) (v6 : Bool) (rs : List Rec) : List Nat :=
  let (_, w, o) := lpmFam v6
  rs.map (fun r => lpmHash seed (r.u (o + 1) 1) (r.u o 1) w (r.be 0 (w / 8)) % lpmBuckets v6)

/-- A domain's GW_MAC differs from every LSA of the member ports of its VLANs (R206). -/
def gwOk (t : Truss) (vlans : List Rec) (d : Rec) : Bool :=
  (List.range 40).all (fun i =>
    let lsas := if i < 24 then (List.range ((ethRec t i).u 20 1)).map (fun k => beAt (t.sec 0x03) (96 + 96 * i + 6 * k) 6)
      else (List.range ((t1sRec t (i - 24)).u 7 1)).map (fun k => beAt (t.sec 0x04) (64 * (i - 24) + 8 + 6 * k) 6)
    !vlans.any (fun v => v.f 18 3 3 = 1 && v.u 20 1 = d.u 7 1 && bit (v.u 0 8) i) || !lsas.contains (d.be 0 6))

/-- The TABLES section (R206, R223). -/
def tablesOk (t : Truss) : Bool :=
  let sub := subEntries (t.sec 0x08) tablesSizes
  let b := t.sec 0x08
  let maxes := [1, 16, 4096, 48, 65536, 65536, 16384, 256]
  let h := (sub 0).headD 0
  let doms := (sub 1).map (fun d => d.u 7 1)
  b = [] ||
    ((List.range 8).all (fun k => decide ((subTable b tablesSizes k 0).2 ≤ maxes.getD k 0)) &&
      (subTable b tablesSizes 0 0).2 = 1 && (sub 1).all (fun d => decide (d.u 7 1 < 16) && gwOk t (sub 2) d) &&
      (sub 2).all (fun v => decide (v.u 28 2 < 4096 ∧ v.u 20 1 < 16) && (v.f 18 3 3 = 0 || doms.contains (v.u 20 1))) &&
      (sub 5).all (fun x => doms.contains (x.u 5 1)) && (sub 6).all (fun x => doms.contains (x.u 17 1)) &&
      (sub 3).all (fun p => decide (p.u 6 1 < 48)) &&
      bucketsOk ((sub 4).map (fun r => macBucket (h.u 0 4) (r.u 6 2) (r.be 0 6))) &&
      bucketsOk (prefixBuckets (h.u 4 4) false (sub 5)) && bucketsOk (prefixBuckets (h.u 4 4) true (sub 6)))

/-! Thatcher. -/

/-- Signal definitions of a truss. -/
def signalsOf (t : Truss) : List Rec := (List.range ((t.sec 0x0A).length / 32)).map (recAt (t.sec 0x0A) 0 32)
/-- PDU layouts of a truss. -/
def layoutsOf (t : Truss) : List Rec :=
  if t.sec 0x0B = [] then [] else (List.range (bytesAt (t.sec 0x0B) 0 4)).map (recAt (t.sec 0x0B) 4 64)
/-- Bytes of the template pool. -/
def poolLen (t : Truss) : Nat := bytesAt (t.sec 0x0B) (4 + 64 * bytesAt (t.sec 0x0B) 0 4) 4

/-- One signal definition (R225-R228). -/
def signalOk (sigs lays : List Rec) (i : Nat) (s : Rec) : Bool :=
  let l := lays.getD (s.u 0 2) 0
  let own := s.u 7 1 ≠ 0
  decide (s.u 7 1 ≤ 2 ∧ 1 ≤ sigLen s ∧ sigLen s ≤ 64) &&
    (s.u 6 1 = 0 || (!sigSigned s && (if s.u 6 1 = 1 then [2, 4, 8, 16, 32].contains (sigLen s) else decide (2 ≤ sigLen s ∧ sigLen s ≤ 63)))) &&
    decide ((sigRange s).1 ≤ sigInit s ∧ sigInit s ≤ (sigRange s).2 ∧ (sigRange s).1 ≤ sigSubst s ∧ sigSubst s ≤ (sigRange s).2) &&
    (if own then decide (s.u 0 2 < lays.length ∧ l.u 0 1 = s.u 7 1 ∧ l.u 40 2 ≤ i ∧ i < l.u 40 2 + l.u 42 2) &&
        (l.u 1 1 = 8 || (sigPos s).all (fun q => decide (q < 8 * l.u 2 2)))
     else s.u 0 2 = 0xFFFF) &&
    (s.f 5 4 4 = 0 || (s.u 7 1 = 1 && decide (s.u 24 2 < i) &&
      (let m := sigs.getD (s.u 24 2) 0; m.u 7 1 = 1 && m.f 5 4 4 = 0 && m.u 0 2 = s.u 0 2)))

/-- LEN of a TX layout for its FORMAT (R230). -/
def formatLenOk (fmt len : Nat) : Bool :=
  if fmt = 0 then decide (len ≤ 8) else if fmt = 1 then decide (len ≤ 64) else if fmt = 2 then decide (1 ≤ len ∧ len ≤ 2048)
  else if fmt = 3 then decide (1 ≤ len ∧ len ≤ 8) else if fmt = 4 then decide (1 ≤ len ∧ len ≤ 2048)
  else if fmt = 5 then decide (60 ≤ len ∧ len ≤ 2048) else if fmt = 8 then decide (16 ≤ len ∧ len ≤ 2048 ∧ len % 16 = 0) else false

/-- LEN of a TX layout against its egress ports (R230): the LIN frame table, a slow slot's check bytes, MAXFRM. -/
def egressLenOk (t : Truss) (l : Rec) (q : Nat) : Bool :=
  let r := slotRec t q
  if l.u 1 1 = 3 ∧ q < 128 ∧ persOf t q = 4 then linFrameBytes t q (l.f 24 5 0) = l.u 2 2
  else if l.u 1 1 = 4 ∧ q < 128 ∧ persOf t q = 5 then
    decide (l.u 2 2 + (if r.f 4 26 24 = 0 then 0 else if r.f 4 26 24 = 4 then 2 else 1) ≤ 2048)
  else if l.u 1 1 = 4 ∧ q < 128 ∧ persOf t q = 6 then decide (l.u 2 2 + 1 ≤ r.u 8 2)
  else if l.u 1 1 = 5 ∧ 128 ≤ q ∧ q < 152 then decide (l.u 2 2 + 4 ≤ (ethRec t (q - 128)).u 4 2)
  else if l.u 1 1 = 5 ∧ 152 ≤ q ∧ q < 168 then decide (l.u 2 2 + 4 ≤ 1522)
  else true

/-- One PDU layout (R229, R230, R235, R248, R320). -/
def layoutOk (t : Truss) (sigs lays : List Rec) (li : Nat) (l : Rec) : Bool :=
  let mine := (List.range (l.u 42 2)).map (fun k => sigs.getD (l.u 40 2 + k) 0)
  let ps := mine.flatMap sigPos
  let key := recAt (t.sec 0x12) (keysKeyOff (t.sec 0x12) + 8) 48 (l.u 44 2)
  decide (l.u 2 2 ≤ 2048 ∧ l.u 42 2 ≤ 1024 ∧ l.u 40 2 + l.u 42 2 ≤ sigs.length) && mine.all (fun s => s.u 0 2 = li && s.u 7 1 = l.u 0 1) &&
    (if l.u 0 1 = 1 then decide ((lays.filter (fun x => x.u 0 1 = 1 ∧ x.u 4 2 = l.u 4 2)).length ≤ 1)
     else l.u 0 1 = 2 && formatLenOk (l.u 1 1) (l.u 2 2) && decide (l.u 20 4 + l.u 2 2 ≤ poolLen t) &&
       (l.u 1 1 = 8 || decide ps.Nodup) &&
       (l.u 44 2 = 0xFFFF || (decide (l.u 44 2 < bytesAt (t.sec 0x12) (keysKeyOff (t.sec 0x12)) 4) && key.u 0 1 ≠ 0 &&
         (l.u 1 1 = 8 || (decide (key.u 14 1 + key.u 15 1 ≤ l.u 2 2) &&
           ps.all (fun q => decide (q < 8 * (l.u 2 2 - (key.u 14 1 + key.u 15 1)))))))) &&
       (match routeOf t (l.u 4 2) with
        | none => false
        | some r => r.u 35 1 = 0 && r.f 32 1 1 = 0 && (routeDest r).all (egressLenOk t l) &&
            (l.u 1 1 ≠ 8 || (routeDest r).all (fun q => decide (168 ≤ q ∧ q ≤ 175)))))

/-- Signal routes without a cycle: routes whose source no remaining route writes go first, in `fuel` rounds. -/
def acyclic : Nat → List (Nat × Nat) → Bool
  | 0, rs => rs.isEmpty
  | fuel + 1, rs =>
    let left := rs.filter (fun r => rs.any (fun x => x.2 = r.1))
    if left.length = rs.length then rs.isEmpty else acyclic fuel left

/-- Dependency order (R231): a source is an RX signal, a VALUE signal that hosts write, or the destination of an earlier route. -/
def routesOrdered (sigs : List Rec) : List (Nat × Nat) → List Nat → Bool
  | [], _ => true
  | r :: rs, done =>
    let s := sigs.getD r.1 0
    (s.u 7 1 = 1 || (s.u 7 1 = 0 && s.f 5 3 3 = 1) || done.contains r.1) && routesOrdered sigs rs (r.2 :: done)

/-- SIGNALS, PDUS and SIGROUTES (R225-R251). -/
def thatcherOk (t : Truss) : Bool :=
  let sigs := signalsOf t
  let lays := layoutsOf t
  let b := t.sec 0x0C
  let sr := subEntries b sigroutesSizes 0
  let luts := if b = [] then 0 else (subTable b sigroutesSizes 1 0).2
  let sups := subEntries b sigroutesSizes 2
  let edges := sr.map (fun r => (r.u 0 2, r.u 2 2))
  decide (sigs.length ≤ 65536 ∧ lays.length ≤ 16384 ∧ sr.length ≤ 32768 ∧ luts ≤ 256 ∧ sups.length ≤ 65536 ∧ poolLen t ≤ 8388608) &&
    sigs.zipIdx.all (fun x => signalOk sigs lays x.2 x.1) && lays.zipIdx.all (fun x => layoutOk t sigs lays x.2 x.1) &&
    sr.all (fun r => decide (r.u 0 2 < sigs.length ∧ r.u 2 2 < sigs.length) &&
      (r.u 4 1 ≠ 2 || decide (r.u 7 1 < luts)) && (sigs.getD (r.u 2 2) 0).u 7 1 ≠ 1) &&
    routesOrdered sigs edges [] && acyclic edges.length edges &&
    sups.all (fun s => (if s.u 0 1 = 1 then decide (s.u 2 2 < sigs.length ∧ (sigs.getD (s.u 2 2) 0).u 7 1 = 1)
       else s.u 0 1 = 2 && decide (s.u 2 2 < lays.length ∧ (lays.getD (s.u 2 2) 0).u 0 1 = 1)))

/-! Tenants and the governor. -/

/-- A port that the governor can govern: a CAN, SERIAL or J1708 slot, or a T1S port (R254, R274); `lin` admits LIN slots. -/
def governable (t : Truss) (lin : Bool) (q : Nat) : Bool :=
  if q < 128 then decide (1 ≤ persOf t q ∧ persOf t q ≤ 6) && (lin || persOf t q ≠ 4) else decide (152 ≤ q ∧ q ≤ 167)

/-- Whether an identity kind can use a port (R256, R274): the ports whose units present it. -/
def kindPort (t : Truss) (k q : Nat) : Bool :=
  if k = 1 ∨ k = 2 then decide (q < 128) && persCan (persOf t q)
  else if k = 3 then decide (128 ≤ q ∧ q < 168)
  else if k = 4 then decide (128 ≤ q ∧ q < 152)
  else decide (168 ≤ q ∧ q < 176)

/-- One template (R254). -/
def templateOk (t : Truss) (m : Rec) : Bool :=
  let p0 := m.f 15 0 0 = 1
  let p1 := m.f 15 2 2 = 1
  let ports := (List.range 256).filter (fun q => m.f 64 q q = 1)
  decide (1 ≤ m.u 0 1 ∧ m.u 0 1 ≤ 6) && (4 < m.u 0 1 || decide (m.u 2 2 ≤ m.u 4 2 ∧ m.u 4 2 < 4096)) &&
    (4 < m.u 0 1 || ports.all (kindPort t (m.u 0 1))) &&
    (m.u 10 2 = 0xFFFF || governable t false (m.u 10 2)) &&
    (!p0 || decide (1 ≤ m.u 24 4 ∧ 1 ≤ m.u 28 4)) &&
    (!p1 || decide (1 ≤ m.u 32 4 ∧ 1 ≤ m.u 36 4 ∧ m.u 40 4 ≤ m.u 32 4 ∧ m.u 32 4 ≤ m.u 44 4)) &&
    (m.f 1 1 1 = 0 || (p1 && m.u 10 2 ≠ 0xFFFF))

/-- A FIXED tenant of a kind on a port that the kind can use (R256, R274). -/
def fixedOk (t : Truss) (tpls : List Rec) (r : Rec) : Bool :=
  let k := (tpls.getD (r.u 2 2) 0).u 0 1
  let q := r.u 4 2
  decide (r.u 0 2 < 4096 ∧ r.u 2 2 < tpls.length) && k ≠ 4 &&
    (k = 6 || kindPort t k q)

/-- TENANTS and GOVERNOR (R254, R255, R270, R274). -/
def tenantsOk (t : Truss) : Bool :=
  let b := t.sec 0x0D
  let tpls := templatesOf t
  let fixed := fixedOf t
  let pols := subEntries b tenantsSizes 2
  let ranges := (tpls.filter (fun m => m.u 0 1 ≤ 4)).map (fun m => (m.u 2 2, m.u 4 2 + 1))
  let g := t.sec 0x0E
  let gov := if g = [] then [] else (List.range (bytesAt g 0 4)).map (recAt g 4 16)
  decide (tpls.length ≤ 256 ∧ fixed.length ≤ 4096 ∧ pols.length ≤ 8192 ∧ gov.length ≤ 144) && tpls.all (templateOk t) &&
    fixed.all (fixedOk t tpls) && decide (fixed.map (fun r => r.u 0 2)).Nodup && disjoint ranges &&
    fixed.all (fun r => ranges.all (fun x => decide (r.u 0 2 < x.1 ∨ x.2 ≤ r.u 0 2))) &&
    pols.all (fun r => decide (8192 ≤ r.u 0 2 ∧ r.u 0 2 ≤ 16383)) && decide (pols.map (fun r => r.u 0 2)).Nodup &&
    gov.all (fun r => governable t (r.f 2 0 0 = 0) (r.u 0 2))

/-! Hosts, modes, networks, battens. -/

/-- The FIXED HOST tenants with their ports. -/
def hostTenants (t : Truss) : List (Nat × Nat) :=
  ((fixedOf t).filter (fun r => ((templatesOf t).getD (r.u 2 2) 0).u 0 1 = 5)).map (fun r => (r.u 0 2, r.u 4 2))

/-- The plain limits of the HOSTS section (R309): the tables lie in the section, an enabled endpoint's ranges in the tables, MAX_SPEED is a speed,
queue pairs have indexes of their own below the endpoint's count, reserved bytes are 0. -/
def hostLimits (b : List Byte) : Bool :=
  let nq := bytesAt b 1 2
  let nd := bytesAt b 3 2
  let ep := fun e => recAt b 16 32 e
  let dm := 272 + 8 * nq
  b = [] || (decide (dm + 8 * nd ≤ b.length) && bits (bytesAt b 0 1) 7 2 = 0 && bytesAt b 5 11 = 0 &&
    (List.range nq).all (fun i => (recAt b 272 8 i).u 5 3 = 0) &&
    (List.range nd).all (fun i => let r := recAt b dm 8 i; decide (r.u 0 2 ≤ r.u 2 2) && r.u 6 2 = 0) &&
    (List.range 8).all (fun e => (ep e).u 3 1 = 0 && (ep e).u 20 12 = 0 && bits ((ep e).u 0 1) 7 1 = 0 && ((ep e).f 0 0 0 = 0 ||
      (decide (1 ≤ (ep e).u 2 1 ∧ (ep e).u 2 1 ≤ 4 ∧ 1 ≤ (ep e).u 12 2 ∧ (ep e).u 12 2 ≤ 256 ∧ (ep e).u 10 2 + (ep e).u 12 2 ≤ nq ∧
          (ep e).u 16 2 ≤ 1024 ∧ (ep e).u 14 2 + (ep e).u 16 2 ≤ nd) &&
        (let ix := (List.range ((ep e).u 12 2)).map (fun k => (recAt b 272 8 ((ep e).u 10 2 + k)).u 4 1)
         ix.all (fun q => decide (q < (ep e).u 12 2)) && decide ix.Nodup)))))

/-- The HOSTS section (R303, R309). A host never sends HEARTBEAT, CREDIT, MGMT_RSP or EVENT (R295). -/
def hostsOk (t : Truss) : Bool :=
  let b := t.sec 0x14
  let ep := fun e => recAt b 16 32 e
  let on := fun e : Nat => (ep e).f 0 0 0 = 1
  let grouped := fun e : Nat => (ep e).u 1 1 ≠ 0xFF
  let qps := fun e : Nat => (List.range ((ep e).u 12 2)).map (fun k => recAt b 272 8 ((ep e).u 10 2 + k))
  let primary := fun e : Nat => if grouped e then min e ((ep e).u 1 1) else e
  let sum := fun (h : Nat) (g : Nat → Nat) => ((List.range 4).filter (fun k => on (4 * h + k))).foldl (fun n k => n + g (4 * h + k)) 0
  hostLimits b && (List.range 8).all (fun e => !on e ||
    ((!grouped e || (decide ((ep e).u 1 1 < 8 ∧ (ep e).u 1 1 / 4 ≠ e / 4) && (ep ((ep e).u 1 1)).u 1 1 = e &&
        decide (qps e = qps ((ep e).u 1 1)))) &&
      (qps e).all (fun r => (hostTenants t).contains (r.u 0 2, 168 + primary e) &&
        (List.range 16).all (fun c => !bit (r.u 2 2) c || [2, 4, 5, 7, 8, 9, 10, 11].contains c)))) &&
    (List.range 2).all (fun h => decide (sum h (fun e => (ep e).u 12 2) ≤ 512 ∧ sum h (fun e => (ep e).u 18 2) ≤ 7896))

/-- The MODES section (R472). -/
def modesOk (t : Truss) : Bool :=
  let b := t.sec 0x11
  let m := bytesAt b 32 32
  b.length = 64 && decide (bytesAt b 0 1 < 4 ∧ bytesAt b 1 1 < 64 ∧ bytesAt b 6 1 < 16 ∧ bytesAt b 7 1 = 0 ∧ bytesAt b 10 6 = 0) &&
  (!bit (bytesAt b 0 1) 1 || ((fixedOf t).map (·.u 0 2)).contains (bytesAt b 2 2)) &&
    (List.range 128).all (fun s => let k := bits m (2 * s + 1) (2 * s)
      k = 0 || (decide (k ≤ 2) && persOf t s ≠ 0))

/-- Top rate of an enabled Ethernet port, kb/s. -/
def topRate (t : Truss) (n : Nat) : Nat := if (ethRec t n).f 0 0 0 = 1 then (ethRates t n).2 else 0

/-- The MACSEC records. -/
def msRecs (t : Truss) : List Rec :=
  let b := t.sec 0x12
  if b = [] then [] else (List.range (bytesAt b (keysMsOff b) 4)).map (recAt b (keysMsOff b + 8) 48)

/-- The MACsec load in tenths of 1 kb/s (R314): twice the top speed of each MACsec port, 1.4 times over under GCM-AES-256. -/
def macsecLoad (t : Truss) : Nat :=
  ((List.range 24).filter (fun n => (ethRec t n).f 0 1 1 = 1)).foldl (fun s n =>
    s + 2 * topRate t n * (if ((msRecs t).find? (fun r => r.u 0 1 = n)).elim 1 (·.u 1 1) = 2 then 14 else 10)) 0

/-- The DEVICE section's ranges (R470); R471: the planes carry the image's load at DVFS_MIN. The AES rate at 800 MHz is 327.68 Gb/s (R310). -/
def deviceOk (t : Truss) : Bool :=
  let u := bytesAt (t.sec 0x01)
  let f := 200 * (min 3 (bytesAt (t.sec 0x01) 2 1) + 1)
  let load := ((List.range 24).map (topRate t)).foldl (· + ·) 0 + 10000 * ((List.range 16).filter (fun n => portEnabled t (152 + n))).length
  decide ((t.sec 0x01).length = 64 ∧ u 0 1 < 4 ∧ u 1 1 ≤ 3 ∧ u 2 1 ≤ u 1 1 ∧ u 3 1 = 0 ∧ 650 ≤ u 4 2 ∧ u 4 2 ≤ u 6 2 ∧ u 6 2 ≤ 850 ∧ u 8 2 ≤ 600 ∧
    100 ≤ u 10 2 ∧ u 10 2 ≤ 10000 ∧ u 12 52 = 0) &&
  decide (3 * load ≤ 2 * (512 * f * 1000) ∧ 11 * macsecLoad t ≤ 327680000 * f / 800 * 100)

/-- The NETWORKS section (R498). -/
def networksOk (t : Truss) : Bool :=
  let b := t.sec 0x05
  let n := bytesAt b 0 1
  let total := bytesAt b 2 2
  let net := fun i => recAt b 16 48 i
  let ka := fun i => recAt b (16 + 48 * n) 16 i
  b = [] ||
    (decide (n ≤ 64 ∧ bytesAt b 1 1 = 0 ∧ total ≤ 1024 ∧ bytesAt b 4 2 ≤ 1000 ∧ bytesAt b 6 2 ≤ 1000 ∧ bytesAt b 10 6 = 0) &&
      (List.range n).all (fun i => decide ((net i).u 0 1 < 8 ∧ (net i).u 1 1 ≤ 60 ∧ (net i).u 6 10 = 0 ∧ (net i).u 2 2 + (net i).u 4 2 ≤ total ∧ (net i).u 16 32 < 2 ^ 168)) &&
      (List.range 168).all (fun q => decide (((List.range n).filter (fun i => bit ((net i).u 16 32) q)).length ≤ 1)) &&
      (List.range total).all (fun i => decide (1 ≤ (ka i).u 0 1 ∧ (ka i).u 0 1 ≤ 2 ∧ (ka i).u 1 1 = 0 ∧ (ka i).u 14 2 = 0 ∧ ((ka i).u 0 1 = 2 ∨ (ka i).u 2 2 ≤ (ka i).u 4 2))))

/-- The BATTEN section (R499): the ranges of SWEEP_MS, FS_UNITS and BUS_FILT are checked on the chains that are enabled (log entry 120). -/
def battenOk (t : Truss) : Bool :=
  let b := t.sec 0x13
  let ch := fun i => recAt b 0 16 i
  let port := fun c k : Nat => bytesAt b (64 + 2 * (128 * c + k)) 2
  let bound := (List.range 4).flatMap (fun c => ((List.range 128).filter (fun k => port c k ≠ 0xFFFF)).map (fun k => (c, k)))
  b = [] ||
    ((List.range 4).all (fun c => decide ((ch c).u 0 1 < 2 ∧ (ch c).u 1 1 ≤ 16 ∧ (ch c).u 6 10 = 0) && ((ch c).f 0 0 0 = 0 ||
        decide (1 ≤ (ch c).u 2 2 ∧ (ch c).u 2 2 ≤ 1000 ∧ 1 ≤ (ch c).u 4 1 ∧ (ch c).u 4 1 ≤ 64 ∧
          ((ch c).u 5 1 = 0 ∨ (2 ≤ (ch c).u 5 1 ∧ (ch c).u 5 1 ≤ 20)) ∧ (1 + 9 * (ch c).u 1 1) * 256 + 10000 ≤ 10000 * (ch c).u 2 2))) &&
      bound.all (fun x => decide (x.2 < 8 * (ch x.1).u 1 1 ∧ (port x.1 x.2 < 128 ∨ (152 ≤ port x.1 x.2 ∧ port x.1 x.2 < 168)))) &&
      decide (bound.map (fun x => port x.1 x.2)).Nodup)

/-- TIME names a FIXED HOST tenant or none (R405). -/
def timeTenantOk (t : Truss) : Bool :=
  let b := t.sec 0x0F
  b = [] || bytesAt b 18 2 = 0xFFFF || (hostTenants t).any (fun x => x.1 = bytesAt b 18 2)

/-- A MACSEC record names a port with MACSEC set (R335), and the load of R314 stays within 300 Gb/s. -/
def macsecOk (t : Truss) : Bool :=
  (msRecs t).all (fun r => (ethRec t (r.u 0 1)).f 0 1 1 = 1) && decide (macsecLoad t ≤ 3000000000)

/-- Record rules whose breach rejects an image with ERROR 6 (R73). -/
def sectionsOk (t : Truss) : Bool :=
  rickOk (t.sec 0x10) && timeOk (t.sec 0x0F) && earlyOk (t.sec 0x15) && carryOk (t.sec 0x16) && checksOk (t.sec 0x17) &&
    keysOk (t.sec 0x12) && filtersOk t && slowOk t && ethportsOk t && tsnOk t && routesOk t && earlyRoutesOk t && tablesOk t &&
    thatcherOk t && tenantsOk t && hostsOk t && modesOk t && deviceOk t && networksOk t && battenOk t && macsecOk t &&
    timeTenantOk t

end Sys2Proof
end

