-- ==== Sys2Proof/Machine/TrussOps.lean ====
section
/-!
DEFINITION. The truss as shared operations: flash slots (R68), the image and its verification (R70-R73), the other slot's state and
its events (R92), loading a truss into a plane.
-/

namespace Sys2Proof

/-! The image. -/

/-- What a verification compares with (R73, R326): silicon, firmware, the truss key digests that the state accepts, the floor, the
ACTIVE VERSION that a staged truss must differ from (none for an ACTIVE image). -/
structure VerEnv where
  sil : Nat
  fw : Nat
  keys : List (Nat × List Byte)
  floor : Nat
  differs : Option Nat

/-- Section table entry `i` of an image. -/
def secEntry (img : List Byte) (i : Nat) : Rec := recAt img 256 32 i

/-- The sections of an image by type. -/
def imageSections (img : List Byte) : List (Nat × List Byte) :=
  (List.range (bytesAt img 16 2)).map (fun i =>
    let e := secEntry img i
    (e.u 0 2, (img.drop (e.u 4 4)).take (e.u 8 4)))

/-- The truss that an image spells (R70). -/
def parseTruss (img : List Byte) : Truss :=
  ⟨bytesAt img 8 4, bytesAt img 18 2, bytesAt img 48 4, bytesAt img 52 2, bytesAt img 54 2, bytesAt img 36 8, imageSections img⟩

/-- IMAGE_SIZE of a flash slot's header. -/
def FlashSlot.size (s : FlashSlot) : Nat := leNat (s.bytes 12 4)

/-- The image in a flash slot; empty where IMAGE_SIZE reaches past the bytes received without a gap (R75). -/
def FlashSlot.image (s : FlashSlot) : List Byte := if s.held < s.size then [] else s.bytes 0 s.size

/-- Types that must be present (R71). -/
def requiredSecs : List Nat := [0x01, 0x02, 0x06, 0x07, 0x0D, 0x11, 0x14, 0x17]

/-- Every byte between the section table and the signature block that no section holds is padding, and 0 (R70). -/
def paddingOk (img : List Byte) (es : List Rec) : Bool :=
  (img.zipIdx.take (img.length - 512)).all (fun b =>
    decide (b.2 < 256 + 32 * es.length) || b.1 = 0 || es.any (fun e => decide (e.u 4 4 ≤ b.2 ∧ b.2 < e.u 4 4 + e.u 8 4)))

/-- COUNT of a section whose format says what its records are (R71, R79, R82, R108, R204, R251; log entry 80): with the entry's LENGTH. -/
def countOk (img : List Byte) (e : Rec) : Bool :=
  let b := (img.drop (e.u 4 4)).take (e.u 8 4)
  let n := e.u 12 4
  let ty := e.u 0 2
  if ty = 0x06 then n = ((List.range 128).map (fun i => bytesAt b (4 * i + 2) 2)).sum && e.u 8 4 = 512 + 16 * n
  else if ty = 0x07 then e.u 8 4 = 64 * n
  else if ty = 0x0A then e.u 8 4 = 32 * n
  else if ty = 0x16 then e.u 8 4 = 16 * n
  else if ty = 0x17 then n = bytesAt b 0 4
  else true

/-- The section table rules of R70 and R71, and every section DIGEST. -/
def tableOk (img : List Byte) : Bool :=
  let n := bytesAt img 16 2
  let es := (List.range n).map (secEntry img)
  let types := es.map (·.u 0 2)
  decide (4 ≤ n ∧ n ≤ 64) && decide types.Nodup && requiredSecs.all (fun t => types.contains t) &&
    types.all (fun t => decide ((1 ≤ t ∧ t ≤ 0x17) ∨ (0x80 ≤ t ∧ t ≤ 0xFF))) &&
    es.all (fun e => decide (e.u 2 2 = 0 ∧ e.u 4 4 % 64 = 0 ∧ 256 + 32 * n ≤ e.u 4 4 ∧ e.u 4 4 + e.u 8 4 + 512 ≤ img.length)) &&
    disjoint (es.map (fun e => (e.u 4 4, e.u 4 4 + e.u 8 4))) &&
    paddingOk img es && es.all (countOk img) && es.all (fun e => leBytes 16 (e.u 16 16) = (Config.sha384 ((img.drop (e.u 4 4)).take (e.u 8 4))).take 16)

/-- Verification steps 1-7 of R73 in order: 0, or the ERROR of the first that fails. Reserved header fields count among those of step 2. R72
rejects a signature block with another MAGIC or ALG, or with reserved bytes set, and names no step for it: DESIGN CHOICE, step 5 (log entry 77). -/
def verifySlot (s : FlashSlot) (v : VerEnv) : Nat :=
  let size := s.size
  let img := s.image
  let u := bytesAt img
  if s.held < 16 ∨ s.held < size then 1
  else if u 0 4 ≠ 0x53535254 ∨ u 4 2 ≠ 1 ∨ u 6 2 ≠ 256 ∨ size < 1024 ∨ 33554432 < size ∨ size % 64 ≠ 0 ∨ u 8 4 = 0 ∨
    u 52 2 < 10 ∨ 1000 < u 52 2 ∨ u 54 2 < 500 ∨ 10000 < u 54 2 ∨ u 16 2 < 4 ∨ 64 < u 16 2 ∨ 1 < u 18 2 ∨ u 23 1 ≠ 0 ∨ u 88 168 ≠ 0 then 2
  else if u 20 2 ≠ 0x4096 ∨ v.sil < u 22 1 ∨ v.fw < u 24 4 ∨ (u 28 8 ≠ 0 ∧ u 28 8 ≠ Config.serial) then 3
  else
    let sig := img.drop (size - 512)
    let pub := (sig.drop 8).take 97
    match v.keys.find? (fun k => k.1 = bytesAt sig 6 2) with
    | none => 4
    | some k =>
      if k.2 ≠ Config.sha384 pub then 4
      else if bytesAt sig 0 4 ≠ 0x47495354 ∨ bytesAt sig 4 2 ≠ 1 ∨ bytesAt sig 105 3 ≠ 0 ∨ bytesAt sig 204 308 ≠ 0 ∨
        Config.ecdsaVerify pub (img.take (size - 512) ++ sig.take 108) ((sig.drop 108).take 96) = false then 5
      else if !(tableOk img && sectionsOk (parseTruss img)) then 6
      else if u 8 4 < v.floor ∨ v.differs = some (u 8 4) then 7
      else 0

/-- The truss key digests that a life-cycle state accepts (R326, R328). -/
def Otp.keysFor (o : Otp) (lc : Nat) : List (Nat × List Byte) :=
  o.digests.filter (fun d => (lcSlots lc).contains d.1 && !o.revoked.contains d.1)

/-- What verifications in a plane compare with. -/
def Machine.Field.verEnv (f : Machine.Field) (p : PlaneId) (o : Otp) (lc : Nat) (differs : Option Nat) : VerEnv :=
  ⟨Config.siliconRev % 256, (f.e.regs.rd DEVICE_FW_VER).toNat, o.keysFor lc,
    (f.plane p).nv.floor, differs⟩

/-! The other slot. -/

/-- The mirror of the floor in the battery-backed words, with its complement (R74, R469). -/
def Eaves.mirrorFloor (e : Eaves) (v : Nat) : Eaves :=
  e.onRegs (fun m => ((m.wr BBR_FLOOR (BitVec.ofNat 32 v)).wr BBR_FLOOR_INV (~~~ (BitVec.ofNat 32 v))).set 0 BBR_FORMAT_FORMAT 1)

/-- A staging operation refused (R76): ERROR 10, the slot keeps its state. -/
def Plane.stageRefused (p : Plane) : Plane :=
  ({ p with nv := { p.nv with slotRec := { p.nv.slotRec with otherErr := 10 } } } : Plane).showTruss

end Sys2Proof
end

