-- ==== Sys2Proof/Machine/Restart.lean ====
section
/-!
DEFINITION. Restarts and loads: the PLANE-domain restart (R42, R410), the truss that a plane runs from its flash (R69), where the
journal stands when a plane starts (R348, R353, R373).
-/

namespace Sys2Proof

/-- Whether a register key belongs to the PLANE or PORT domain (R42). -/
def planeDomain (key : Nat) : Bool :=
  match rowAt false (key % addrSpan) with
  | some r => r.dom = .plane || r.dom = .port
  | none => true

/-- What a restart leaves of Rick (R42): the drives' and the head's content. The drives' links go down (R350), and the DRAM with the chunks staged
for them is invalid. -/
def Rick.restart (r : Rick) : Rick :=
  { Rick.init with
    geom := r.geom
    granules := r.granules
    nextGran := r.nextGran
    recs := r.recs
    link := r.link
    legalNext := r.legalNext
    durable := r.durable
    committedRseq := r.committedRseq
    firstUnsealed := r.firstUnsealed
    chunks := r.chunks.filter (·.written)
    incs := r.incs
    incOpen := r.incOpen
    incNextOff := r.incNextOff
    drives := smap (fun _ => Drive.absent) (fun d => { d with state := 0, gen := 0, timeoutAt := none, errors := 0 }) r.drives
    holes := r.holes }

/-- A PLANE-domain restart: PGEN rises (R410); what R42 keeps in the plane's own memories stays. -/
def Plane.restart (p : Plane) : Plane :=
  { p with
    regs := p.regs.clear planeDomain
    st := { PStream.init p.st.me with pgen := (p.st.pgen + 1) % 65536 }
    host := { PHost.init with dgen := p.host.dgen }
    bus := []
    servo := Servo.init
    nets := []
    rick := p.rick.restart
    kiln := { Kiln.init with lc := p.kiln.lc, randSeen := p.kiln.randSeen, expired := p.kiln.expired }
    fwd := Fwd.init
    thr := Thr.init }

/-- A plane restarts: Eaves shows the new PGEN and drops what it held of the plane (R410, R411), and both its Ridge pairs have to retrain (R277). A slot that is RECEIVING becomes
REJECTED with ERROR 1 GAP (R76). -/
def Machine.Field.restartPlane (f : Machine.Field) (p : PlaneId) : Machine.Field :=
  let f := (f.onPlane p Plane.restart).onH (fun h => (h.cutPair .HA p).cutPair .HB p)
  let f := if f.lead.nv.slotRec.otherState = 1 then f.onBoth (fun q => q.setOther 5 1 q.nv.slotRec.otherVer) else f
  f.onE (fun e => (e.dropPlane p).onRegs (·.set 0 ⟨planeStat p, 15, 0⟩ (f.plane p).st.pgen))

/-- STAGE of a plane's rejoin (R442). -/
def Eaves.stageOf (e : Eaves) (p : PlaneId) : Nat := e.regs.get 0 ⟨planeStat p, 31, 28⟩

/-- STAGE set, with the time at which the stage begins. -/
def Eaves.setStage (e : Eaves) (p : PlaneId) (st : Nat) : Eaves :=
  (e.onRegs (·.set 0 ⟨planeStat p, 31, 28⟩ st)).onRj p (fun r => { r with stageAt := e.counter })

/-- Where the journal stands with a truss (R348, R353, R374): OFF, GENESIS_WAIT, or RUN, in a warning HOLD, with GEOM_DIFF. -/
def Plane.startRick (p : Plane) : Plane :=
  if p.truss.sec 0x10 = [] then p.onRegs (·.set 0 RICK_STAT_STATE 0)
  else
    match p.rick.geom with
    | none => p.onRegs (·.set 0 RICK_STAT_STATE 1)
    | some g =>
      let diff := decide (g.drives ≠ p.rk 1 1 ∨ g.legalGib ≠ p.rk 12 4 ∨ g.incGib ≠ p.rk 16 4)
      p.onRegs (fun m => (m.set 0 RICK_STAT_STATE (if p.rick.warnTick.isSome then 3 else 2)).set 0 RICK_STAT_GEOM_DIFF (if diff then 1 else 0))

/-- A plane runs a truss: its sections, its key slots (R330), its time settings, its journal. -/
def Plane.runTruss (p : Plane) (t : Truss) (root : Option (List Byte)) : Plane :=
  let p := { p with truss := t }
  let p := p.fillSlots root
  let p := { p with servo := { p.servo with utc := p.tm 22 2 37 } }
  p.startRick

/-- The verification of a plane's ACTIVE image (R69): 0, or the ERROR of the first check that fails. -/
def Machine.Field.checkActive (f : Machine.Field) (p : PlaneId) (o : Otp) : Nat :=
  verifySlot (f.plane p).nv.activeFlash (f.verEnv p o o.lc none)

/-- A plane's ACTIVE image is good, or is repaired from the other plane's (R69): the device and whether an image passes. -/
def Machine.Field.fixActive (f : Machine.Field) (p : PlaneId) (o : Otp) : Machine.Field × Bool :=
  if f.checkActive p o = 0 then (f, true)
  else if f.checkActive p.other o = 0 then
    let img := (f.plane p.other).nv.activeFlash
    let ver := (f.plane p.other).nv.slotRec.activeVer
    let f := f.onPlane p (fun q =>
      ({ q with nv := { (q.nv.setFlash q.nv.slotRec.active img) with slotRec := { q.nv.slotRec with activeVer := ver } } } : Plane).showTruss)
    (f.onE (·.info (planeSrc p 27)), true)
  else (f, false)

/-- The LEGAL record and EVENT of a repair of plane `n`'s ACTIVE image (R69, R92). -/
def Plane.recordRepair (q : Plane) (n ver : Nat) : Plane :=
  (q.legalEvent 0x0004 (leBytes 4 ver ++ leBytes 4 ver ++ leBytes 1 2 ++ leBytes 7 0)).event 0x0305 noId noId
    (leBytes 1 n ++ leBytes 3 0 ++ leBytes 4 ver)

/-- A repair of plane `p`'s ACTIVE image (R69): recorded at the running planes' position, or, before a plane leads, by the first that does. -/
def Machine.Field.noteRepair (f : Machine.Field) (p : PlaneId) : Machine.Field :=
  let ver := (f.plane p).nv.slotRec.activeVer
  if f.e.leader.isSome then f.onRunning (·.recordRepair p.num ver)
  else f.onE (·.onSeq (fun s => { s with repairs := s.repairs ++ [(p.num, ver)] }))

/-- A plane loads its ACTIVE truss (R69) as it rejoins: the device and whether a truss runs. -/
def Machine.Field.loadActive (f : Machine.Field) (p : PlaneId) (o : Otp) : Machine.Field × Bool :=
  let repair := f.checkActive p o ≠ 0
  let (f, good) := f.fixActive p o
  if good then
    let f := f.onPlane p (fun q => (q.runTruss (parseTruss q.nv.activeFlash.image) o.root).showTruss)
    (if repair then f.noteRepair p else f, true)
  else (f, false)

end Sys2Proof
end

