-- ==== Sys2Proof/Machine/ModeOps.lean ====
section
/-!
DEFINITION. Modes and power states as shared operations (R443-R468): CTRL MODE, resets, the start of KINDLING, pads, wakes (R456,
R458, R485), the ENTER checks (R448), the sequences' steps, DVFS (R462).
-/

namespace Sys2Proof

/-- A number of the MODES section (R472). -/
def modesSec (t : Truss) (off size : Nat) : Nat := bytesAt (t.sec 0x11) off size

/-! Announcements. -/

/-- CTRL SUPPLY (R464). -/
def ctrlSupply (state src durUs warnTs : Nat) : List Byte :=
  leBytes 2 0xE ++ leBytes 1 state ++ leBytes 1 src ++ leBytes 4 (min durUs 0xFFFFFFFF) ++ leBytes 8 warnTs

/-- CTRL WAKE (R485). -/
def ctrlWake (src flags idx others wakeTs : Nat) : List Byte :=
  leBytes 2 9 ++ leBytes 1 src ++ leBytes 1 flags ++ leBytes 2 idx ++ leBytes 2 others ++ leBytes 8 wakeTs

/-! Resets (R42, R466, R468). -/

/-- Whether a reset clears a register: the field side's registers of every domain narrower than the reset (R42). -/
def resetClears (cold : Bool) (key : Nat) : Bool :=
  match rowAt false (key % addrSpan) with
  | some r => if r.dom = .vbat then false else if r.dom = .cold then cold else true
  | none => true

/-- Eaves after a DEVICE-domain reset, or a COLD one: the VBAT domain stays, and in a DEVICE reset the time counter, LOW_SUPPLY, Flue
and the entropy start-up state (R42, R343). Levels of pins stay as they are. -/
def Eaves.reset (e : Eaves) (cold : Bool) : Eaves :=
  let low := e.regs.get 0 PWR_STAT_LOW_SUPPLY
  let keep := fun (m : Regs) (f : Fld) => m.set 0 f (e.regs.get 0 f)
  let m := e.regs.clear (resetClears cold)
  let m := keep (keep (keep (keep m PWR_STAT_BROWN_N) PWR_STAT_PGOOD) PWR_STAT_PWR_EN) ⟨NS_WAKE_PINS, 31, 0⟩
  let m := (List.range 4).foldl (fun m n => m.set (battenBase n) BT_STAT_INT (e.regs.get (battenBase n) BT_STAT_INT)) m
  let m := if cold then m else m.set 0 PWR_STAT_LOW_SUPPLY low
  let s := e.seqr
  { e with
    regs := m
    counter := if cold then 0 else e.counter
    mode := .kindling
    pstate := .p0
    roleA := .offline
    roleB := .offline
    seqr := { Seqr.init with
      latched := s.latched, others := s.others, said := 0, wakeTs := s.wakeTs, cold := cold, resetLow := s.resetLow, resetDeaf := s.resetDeaf, resetHigh := s.resetHigh,
      holdEnd := s.holdEnd, afterSafe := s.afterSafe, cal := s.cal, sleepCal := s.sleepCal, refA := s.refA, refB := s.refB, phyLow := s.phyLow,
      tamperEn := s.tamperEn, tamperPol := s.tamperPol, wakeEn := s.wakeEn, wakeCFilt := s.wakeCFilt, wakeNFilt := s.wakeNFilt,
      ppsLast := if cold then none else s.ppsLast, ppsStep := !cold && s.ppsStep,
      tamperHigh := s.tamperHigh, ended := s.ended, reload := s.reload, late := if cold then [] else s.late, kinAt := if cold then 0 else e.counter, safeAt := s.safeAt, warnAt := s.warnAt, warnSrc := s.warnSrc }
    rjA := Rejoin.init
    rjB := Rejoin.init
    merger := ⟨[], 0, [], [], false, [], [], [], [], e.merger.rands, if cold then 0 else e.merger.lastTick,
      if cold then 0 else e.merger.lastTickAt⟩
    sel := ⟨[], [], [], none, 0, false, [], [], 0⟩
    stage := []
    flue := if cold then [] else e.flue
    live := Truss.empty
    inact := Truss.empty
    pool := []
    poolIn := []
    slots := []
    t1s := []
    eths := []
    chains := []
    gens := []
    snaps := []
    holds := []
    posted := []
    entropyReady := !cold && e.entropyReady }

/-- UTC_OFFSET of a truss, 37 without a TIME section (R405). -/
def trussUtc (t : Truss) : Nat := if t.sec 0x0F = [] then 37 else bytesAt (t.sec 0x0F) 22 2

/-- The counter has been loaded (R389, R402, R403): CAL_VALID, UTC_OFFSET of the truss, and TIME_ADJUST RELOAD to come with the value before. -/
def Eaves.timeLoaded (e : Eaves) (utc before : Nat) : Eaves :=
  (e.onRegs (fun m => (m.set 0 TIME_STAT_CAL_VALID (m.get 0 TIME_CAL_STAT_VALID)).set 0 TIME_STAT_UTC_OFFSET utc)).onSeq (fun s => { s with
    reload := some before })

/-- A plane after a DEVICE-domain reset: PGEN belongs to that domain (R410), DGEN rises with the KINDLING that follows (R282). -/
def Plane.deviceReset (p : Plane) (cold : Bool) : Plane :=
  let q := p.restart
  { q with
    regs := p.regs.clear (resetClears true)
    st := PStream.init p.st.me
    host := { PHost.init with dgen := (p.host.dgen + 1) % 2 ^ 32, kindling := true }
    servo := { q.servo with labelled := !cold && p.servo.labelled }
    kiln := { q.kiln with randSeen := !cold && q.kiln.randSeen, expired := p.expiring } }

/-- The host die's Ridge ends after a field-side reset (R42): pairs down, contexts and what was in flight gone; requests stay
tracked for the DGEN change (R282). -/
def HostDie.fieldReset (h : HostDie) : HostDie :=
  let h := [PlaneId.A, PlaneId.B].foldl (fun h p => showPair (showPair h .HA p false) .HB p false) h
  { h with hb := [], toDev := [], hbFly := [], credFly := [], next := [], hold := [], used := [], owed := [], waiting := [] }

end Sys2Proof

namespace Sys2Proof.Machine

/-- A field-side reset (R42): host links stay trained. The sessions that it ends wait for their record (R337). -/
def Field.deviceReset (f : Field) (cold : Bool) : Field :=
  let f := f.onE (·.onSeq (fun q => { q with ended := q.ended ++ f.lead.kiln.sess.map (·.tenant) }))
  { f with
    e := f.e.reset cold
    a := f.a.deviceReset cold
    b := f.b.deviceReset cold
    h := f.h.fieldReset
    turn := Turn.idle
    dump := none
    copy := none }

/-- Hold LIMIT ends, and with it the record of SAFE entries (R439, R440). -/
def clearLimit (e : Eaves) : Eaves :=
  if e.regs.get 0 BBR_SAFE_IDX_LIMIT = 1 then e.onRegs (fun m => (m.set 0 BBR_SAFE_IDX_LIMIT 0).set 0 BBR_SAFE_IDX_COUNT 0) else e

/-! Start of KINDLING (R449). -/

/-- A restart rejects a staging that was RECEIVING or VERIFYING with ERROR 1 (R76): what its slot holds counts no more. -/
def rejectStaging (q : Plane) : Plane :=
  let r := q.nv.slotRec
  if r.otherState = 1 ∨ r.otherState = 2 then
    ({ q with nv := q.nv.setFlash (1 - r.active) { q.nv.otherFlash with got := [] } } : Plane).setOther 5 1 r.otherVer
  else q.showTruss

/-- The floor at KINDLING (R74): the highest of its three copies; a lower one is rewritten. A mirror that fails its complement check counts
as 0. -/
def raiseFloors (f : Field) : Field :=
  let v := f.e.regs.rd BBR_FLOOR
  let mirror := if f.e.regs.rd BBR_FLOOR_INV = ~~~ v then v.toNat else 0
  let top := max mirror (max f.a.nv.floor f.b.nv.floor)
  let f := f.onBoth (fun q => { q with nv := { q.nv with floor := top } })
  if mirror < top then f.onE (·.mirrorFloor top) else f

/-- A plane leaves reset with what its own memories, the fuses and Eaves give it: the slot record, the fuses, an armed transition
(R93, R346), TIME_BASE, STEP_SUM, quality and error (R402, R403). -/
def planeOut (e : Eaves) (q : Plane) (o : Otp) : Plane :=
  let q := showOtp o (rejectStaging q)
  let err := (e.regs.rd TIME_ERR).toNat
  let q := { q with
    st := { q.st with stepSum := e.stepSum, tick := e.merger.lastTick }
    servo := { q.servo with
      base := e.regs.rd64 TIME_BASE_LO, stepSum := e.stepSum, tq := e.regs.get 0 TIME_STAT_TQ, err := err, errBase := err,
      lastRun := e.merger.lastTick } }
  let q := q.onKiln (fun k => { k with lc := o.lc })
  match q.nv.kiln.armed with
  | some t => q.onRegs (fun m => (m.set 0 KILN_LC_STAT_ARMED 1).set 0 KILN_LC_STAT_TARGET t)
  | none => q

/-- Step 3 of R449: PGOOD1-3 are high, RESET_OUT_N rises, the floor's copies are compared (R74), both planes start their self-test and take the stream. A latched wake is
announced (R458). -/
def Field.kindlingStep3 (f : Field) (oA oB : Otp) : Field :=
  let f := raiseFloors f
  let f := { f with a := planeOut f.e f.a oA, b := planeOut f.e f.b oB }
  let f := f.onBoth (fun q => { q with st := { q.st with takes := true } })
  f.onE (fun e =>
    let e := e.onSeq (fun s => { s with kin := 3, resetOutN := true, kinAt := if s.cold then s.kinAt else e.counter })
    match e.seqr.latched with
    | some (src, idx) => (e.ctrl 256 (ctrlWake src 0 idx e.seqr.others e.counter)).onSeq (fun s => { s with said := s.others })
    | none => e)

/-- Wake sources seen after the CTRL WAKE shingle of a KINDLING and before its CTRL MODE shingle with STEP DONE (R485). -/
def unsaid (e : Eaves) : Nat := ((List.range 16).filter (fun i => bit e.seqr.others i && !bit e.seqr.said i)).length

/-- KINDLING starts where the Eaves rails are up: PWR_EN1-3 rise, and step 3 follows once PGOOD1-3 are high (R449). A field side that
is held in reset waits (R466, R468). -/
def Field.startKindling (f : Field) (oA oB : Otp) : Field :=
  let f := f.onE (fun e => (e.onRegs (fun m => ((m.set 0 PWR_STAT_PWR_EN 15).inc BBR_KINDLE_CNT).set 0 BBR_FORMAT_FORMAT 1)).onSeq (fun s => { s with kin := 1, pwrAt := e.counter, pgLow := 0 }))
  let held := f.e.seqr.holdEnd.isSome || (f.e.seqr.resetLow.isSome && !f.e.seqr.resetDeaf)
  if held = false ∧ f.e.regs.get 0 PWR_STAT_PGOOD = 15 then f.kindlingStep3 oA oB else f

/-- A DEVICE reset and KINDLING. -/
def Field.rekindle (f : Field) (oA oB : Otp) : Field := (f.deviceReset false).startKindling oA oB

/-! Pads (R454, R455). -/

/-- Courses with power: one with a slot that is not OFF must be powered, another is taken to be unpowered (R507, log entry 50). -/
def powered (t : Truss) (c : Nat) : Bool := (List.range 8).any (fun k => (slotRec t (8 * c + k)).u 0 1 ≠ 0)

/-- The pads of every powered course latched: at PAD_SLEEP for a sleep. -/
def latchPads (e : Eaves) (level : Nat → Bool) : Eaves :=
  let cs := (List.range 16).filter (powered e.live)
  let held := (e.regs.rd BBR_PAD_HELD).toNat
  let held := cs.foldl (fun n c => if bit n c then n else n + 2 ^ c) held
  let e := e.onRegs (·.set 0 BBR_PAD_HELD_COURSES held)
  (List.range 4).foldl (fun e w =>
    let old := (e.regs.rd (BBR_PAD_LEVEL w)).toNat
    let v := (List.range 32).foldl (fun n b =>
      let on := if cs.contains ((32 * w + b) / 8) then level (32 * w + b) else bit old b
      if on then n + 2 ^ b else n) 0
    e.onRegs (·.wr (BBR_PAD_LEVEL w) (BitVec.ofNat 32 v))) e

/-- Courses released (R455); the overrides of their channels clear (R489). -/
def releaseCourses (e : Eaves) (mask : Nat) : Eaves :=
  let held := e.regs.get 0 BBR_PAD_HELD_COURSES
  let rel := (List.range 16).filter (fun c => bit held c && bit mask c)
  let e := e.onRegs (·.set 0 BBR_PAD_HELD_COURSES (rel.foldl (fun n c => n - 2 ^ c) held))
  (List.range 4).foldl (fun e n =>
    (List.range 128).foldl (fun e k =>
      let p := e.regs.get (battenBase n) (BT_MAP_PORT k)
      if p < 128 ∧ rel.contains (p / 8) = true then e.onRegs (·.wr (battenBase n + BT_OVR k) 0) else e) e) e

/-! DVFS and voltage (R461-R463). -/

/-- Lowest voltage of a point, mV. -/
def pointLow (k : Nat) : Nat := if k = 0 then 650 else if k = 1 then 690 else if k = 2 then 745 else 800
/-- Nominal voltage of a point, mV. -/
def pointNom (k : Nat) : Nat := if k = 0 then 650 else if k = 1 then 700 else if k = 2 then 770 else 850
/-- Island clock of a point, MHz. -/
def pointMhz (k : Nat) : Nat := 200 * (k + 1)

/-- The point that the device is to run at (R461). -/
def dvfsTarget (e : Eaves) : Nat :=
  if e.pstate = .p2 then 0
  else max (e.regs.get 0 PWR_DVFS_MIN) (min (e.regs.get 0 PWR_DVFS_REQ) e.seqr.thermal)

/-- Both planes' core voltage set, kept within the point's lowest, AVS_VMIN and AVS_VMAX; a point is entered at its nominal voltage
(log entry 51). -/
def setVolt (e : Eaves) (k : Nat) : Eaves :=
  let lo := max (pointLow k) (e.regs.get 0 PWR_AVS_VMIN)
  let v := max lo (min (pointNom k) (e.regs.get 0 PWR_AVS_VMAX))
  e.onRegs (fun m => (m.set 0 PWR_VOLT_VOLT_A v).set 0 PWR_VOLT_VOLT_B v)

/-- Both planes' core voltage kept within the bounds in force and the present point's lowest (R463); where the bounds lie below that, the voltage
stays and the refusal is counted (R462). -/
def fitVolt (e : Eaves) : Eaves :=
  let hi := e.regs.get 0 PWR_AVS_VMAX
  let low := pointLow (e.regs.get 0 PWR_DVFS_CUR)
  if hi < low then (e.onRegs (·.inc PWR_SEQ_REFUSE_CNT)).info 15
  else
    let fit := fun (x : Nat) => min hi (max x (max low (e.regs.get 0 PWR_AVS_VMIN)))
    e.onRegs (fun m => (m.set 0 PWR_VOLT_VOLT_A (fit (m.get 0 PWR_VOLT_VOLT_A))).set 0 PWR_VOLT_VOLT_B (fit (m.get 0 PWR_VOLT_VOLT_B)))

/-- One DVFS step towards the target (R462), announced by CTRL MODE; a raise whose lowest voltage exceeds AVS_VMAX is refused.
CAUSE: 7 where the thermal loop bounds the point, else 8. -/
def dvfsStep (e : Eaves) : Eaves :=
  let cur := e.regs.get 0 PWR_DVFS_CUR
  let tgt := dvfsTarget e
  if cur = tgt then e
  else if cur < tgt ∧ e.regs.get 0 PWR_AVS_VMAX < pointLow (cur + 1) then
    (e.onRegs (fun m => (m.set 0 PWR_DVFS_REFUSED 1).inc PWR_SEQ_REFUSE_CNT)).info 15
  else
    let k := if cur < tgt then cur + 1 else cur - 1
    let e := (setVolt e k).onRegs (·.set 0 PWR_DVFS_CUR k)
    let cause := if e.seqr.thermal < e.regs.get 0 PWR_DVFS_REQ then 7 else 8
    e.ctrlMode 4 e.mode.code e.mode.code k cause 0 0xFFFF

/-- Every step to the target (a sleep or a wake). -/
def dvfsAll (e : Eaves) : Eaves := dvfsStep (dvfsStep (dvfsStep e))

/-! Wakes (R456, R458, R459, R485). -/

/-- Whether the device sleeps or a sequence runs, so that a source registers a wake. -/
def asleep (e : Eaves) : Bool := e.mode = .banked || e.mode = .ember || e.seqr.off || e.seqr.kind ≠ .idle

/-- The power states in which a source acts (R458); while a sequence runs every source is latched (R456). -/
def wakeActs (e : Eaves) (src : Nat) : Bool :=
  if e.seqr.kind ≠ .idle then true
  else if e.seqr.off then src = 3 || src = 5 || src = 6
  else if e.mode = .ember then src = 2 || src = 3 || src = 5 || src = 6 || src = 7 || src = 8 || src = 10
  else src ≠ 6 && src ≠ 8

/-- The device wakes from BANKED (R459): PWR_EN3 rises, the DVFS request is restored, ports and slots that were stopped restart, CTRL
MODE DONE. -/
def wakeBanked (f : Field) (src idx : Nat) : Field :=
  f.onE (fun e =>
    let e := e.ctrl 256 (ctrlWake src 0 idx e.seqr.others e.seqr.wakeTs)
    let e := e.onRegs (fun m => m.set 0 PWR_STAT_PWR_EN (m.get 0 PWR_STAT_PWR_EN % 8 + 8))
    let e := { e with mode := .service, pstate := .p0 }
    let e := dvfsAll e
    let e := (List.range 128).foldl (fun e n => if e.pers n ≠ 0 ∧ e.bankMode n = 0 then e.slotRestart n else e) e
    let e := (List.range 24).foldl (fun e n => if e.et n ETH_CTL_ENABLE = 1 then e.ethRestart n else e) e
    let e := (List.range 16).foldl (fun e n => if e.t1f n T1S_CTL_ENABLE = 1 then e.t1Restart n else e) e
    let e := e.ctrlMode 2 3 1 0 3 src 0xFFFF
    e.onSeq (fun s => { s with latched := none, others := 0 }))

/-- The counter set to a value, with the TICK grid that goes with it (R28). -/
def setCounter (e : Eaves) (c : Nat) : Eaves :=
  let t := e.steady c / 10000
  { e with counter := c, merger := { e.merger with lastTick := t, lastTickAt := c - e.steady c % 10000 } }

/-- The device wakes from P3 (R403, R445): a DEVICE reset and KINDLING, with the counter moved on by the calendar time that has passed;
ERR grows by 50 ppm of it, and the quality is HOLDOVER or FREE. -/
def wakeDeep (f : Field) (oA oB : Otp) : Field :=
  let gone := f.e.seqr.cal - f.e.seqr.sleepCal
  let now := f.e.regs.rd64 BBR_SLEEP_CNT_LO + gone
  let err := (f.e.regs.rd TIME_ERR).toNat
  let err := if err = 0xFFFFFFFF then err else min 0xFFFFFFFE (err + gone * 50 / 10 ^ 9)
  let t := parseTruss f.a.nv.activeFlash.image
  let limit := if t.sec 0x0F = [] then 10000 else bytesAt (t.sec 0x0F) 12 4
  let before := f.e.regs.rd64 BBR_SLEEP_CNT_LO
  let f := f.deviceReset false
  let f := f.onE (fun e =>
    let e := setCounter e now
    let e := e.onRegs (fun m => (m.wr TIME_ERR (BitVec.ofNat 32 err)).set 0 TIME_STAT_TQ (if err ≤ limit then 1 else 2))
    e.timeLoaded (trussUtc t) before)
  f.startKindling oA oB

/-- A latched wake is served as soon as no sequence runs (R456, R459). -/
def serveWake (f : Field) (oA oB : Otp) : Field :=
  match f.e.seqr.latched with
  | none => f
  | some (src, idx) =>
    if f.e.seqr.kind ≠ .idle then f
    else if f.e.seqr.off then
      f.onE (fun e => e.onRegs (fun m => m.set 0 PWR_STAT_PWR_EN (m.get 0 PWR_STAT_PWR_EN / 2 * 2 + 1)))
    else if f.e.mode = .ember then wakeDeep f oA oB
    else if f.e.mode = .banked then (wakeBanked f src idx).refreshMode
    else f

/-- A wake source (R485): the first of a sleep is latched with its calendar time; a later one, until the CTRL MODE shingle with STEP DONE
of the wake, sets its bit in OTHERS. -/
def registerWake (f : Field) (oA oB : Otp) (src idx : Nat) : Field :=
  if !(asleep f.e && wakeActs f.e src) && !(decide (f.e.mode = .kindling) && f.e.seqr.latched.isSome) then f
  else
    match f.e.seqr.latched with
    | some _ =>
      f.onE (fun e => e.onSeq (fun s => { s with others := if bit s.others src then s.others else s.others + 2 ^ src }))
    | none =>
      let f := f.onE (fun e =>
        let e := e.onRegs (fun m => (((m.set 0 BBR_WAKE_SOURCE src).set 0 BBR_WAKE_INDEX idx).wr64 BBR_WAKE_S_LO e.calSec).set 0 BBR_FORMAT_FORMAT 1)
        e.onSeq (fun s => { s with latched := some (src, idx), others := 0, wakeTs := e.counter }))
      serveWake f oA oB

/-! ENTER (R448). -/

/-- NETWORKS section: count and record. -/
def netCount (t : Truss) : Nat := bytesAt (t.sec 0x05) 0 1
/-- Network record `i` (R498). -/
def netRec (t : Truss) (i : Nat) : Rec := recAt (t.sec 0x05) 16 48 i

/-- A network of a plane. -/
def netOf (q : Plane) (i : Nat) : Net := sget (fun _ => Net.init) q.nets i

/-- Networks without EXCLUDE that are AWAKE (R477). -/
def notReady (q : Plane) : Nat :=
  ((List.range (netCount q.truss)).filter (fun i => !bit ((netRec q.truss i).u 0 1) 0 && !(netOf q i).ready)).length

/-- Whether an ENTER's TARGET is the present mode, with no sequence running. -/
def sameMode (e : Eaves) (target : Nat) : Bool :=
  e.seqr.kind = .idle && ((target = 1 && e.mode = .service) || (target = 3 && e.mode = .banked))

/-- The STATUS of an ENTER (R448): 0 where it is taken. In a turn every MODE request is BUSY (R83), before the present mode is looked at. -/
def enterStatus (f : Field) (target : Nat) (force : Bool) : Nat :=
  let e := f.e
  let q := f.lead
  let st := q.nv.slotRec.otherState
  let down := decide (target = 3 ∨ target = 4 ∨ target = 6)
  if f.phase ≠ 0 then 2
  else if sameMode e target then 0
  else if st = 1 ∨ st = 2 then 2
  else if e.seqr.kind ≠ .idle then if target = 1 then 0 else 2
  else if down = true ∧ e.regs.get 0 PWR_OVERRIDE_NO_SLEEP = 1 then 6
  else if down = true ∧ q.kiln.sess ≠ [] then 5
  else if ¬ ((e.mode = .service ∧ down = true) ∨ (e.mode = .banked ∧ (target = 1 ∨ target = 4 ∨ target = 6))) then 1
  else if down = true ∧ 0 < notReady q ∧ (force = false ∨ bit (modesSec q.truss 0 1) 0 = false) then 3
  else 0

/-- A sequence starts with CTRL MODE START: BANKED entry, or the EMBER steps where the device is BANKED (R451, R453). -/
def startSeq (f : Field) (goal cause tenant : Nat) : Field :=
  f.onE (fun e =>
    let banked := e.mode = .banked
    let e := e.ctrlMode 1 e.mode.code (if banked then 4 else 3) e.pstate.code cause 0 tenant
    e.onSeq (fun s => { s with
      kind := if banked then (if goal = 6 then .off else .ember) else .banked, step := 1, goal := goal, cause := cause, tenant := tenant,
      latched := none, others := 0 }))

/-- An ENTER that is taken: a sequence, or a wake of source HOST (R448, R458). -/
def takeEnter (f : Field) (oA oB : Otp) (target cause tenant : Nat) : Field :=
  if sameMode f.e target then f
  else if target = 1 then registerWake f oA oB 4 0
  else startSeq f target cause tenant

/-- A MODE response (R446). -/
def modeRsp (f : Field) (q : Plane) (ep tenant tag status : Nat) : Plane :=
  q.respond ep clsMode tenant tag
    (leBytes 1 status ++ leBytes 1 f.e.mode.code ++ leBytes 1 f.e.pstate.code ++ leBytes 1 (min 255 (notReady q)) ++
      leBytes 8 q.st.ts ++ leBytes 4 0)

/-! Steps of the sequences at TICKs (R451, R453). -/

/-- Overrides of every chain cleared (R489). -/
def clearOverrides (e : Eaves) : Eaves :=
  (List.range 4).foldl (fun e n => (List.range 128).foldl (fun e k => e.onRegs (·.wr (battenBase n + BT_OVR k) 0)) e) e

/-- Whether the planes that take the stream have made their part of the sleep entry. -/
def slept (f : Field) : Bool := [f.a, f.b].all (fun q => !q.st.takes || decide (f.e.seqr.sleepTick ≤ q.st.tick))

/-- Rick's and the Kiln's part of a sleep: a SEAL, a commit of the head, freshness states committed (R321, R358, R370). -/
def planeSleep (q : Plane) (clean : Bool) : Plane :=
  let q := q.seal
  let q := q.onRick (fun r => { r with noTap := true })
  let q := if clean then q.finalCommit
    else if q.runsJournal then (q.commitAll false false (q.rick.recs.length + 1)).showHead else q
  q.kilnCommit

/-- Steps 2-4 of BANKED entry at the first TICK after the admission; the planes make theirs as they take that TICK. -/
def bankedTick (f : Field) : Field :=
  f.onE (fun e =>
    let e := clearOverrides e
    let e := (List.range 128).foldl (fun e n => if e.pers n ≠ 0 ∧ e.bankMode n = 0 ∧ e.slotState n ≠ 0 then e.slotStop n else e) e
    e.onSeq (fun s => { s with step := 4, sleepTick := e.merger.lastTick }))

/-- Steps 2-5 of EMBER and OFF entry at the first TICK, with which the planes make their CLEAN commits: transceivers to sleep, pads latched, counter and calendar
saved, BBR_SHUTDOWN (1 EMBER, 2 OFF, 3 WARN_OFF). -/
def emberTick (f : Field) : Field :=
  f.onE (fun e =>
    let e := clearOverrides e
    let e := latchPads e (fun s => bit (modesSec e.live 16 16) s)
    let kind := if e.seqr.cause = 4 then 3 else if e.seqr.goal = 6 then 2 else 1
    let e := e.onRegs (fun m => (((m.wr64 BBR_SLEEP_CNT_LO e.counter).wr64 BBR_SLEEP_CAL_LO e.calSec).set 0 BBR_SHUTDOWN_KIND kind).set 0
      BBR_FORMAT_FORMAT 1)
    e.onSeq (fun s => { s with step := 5, sleepCal := s.cal, sleepTick := e.merger.lastTick }))

/-- Step 6 of EMBER and OFF entry, at a TICK after their commits: the planes stop, PWR_EN1 and PWR_EN2 fall. -/
def planesStop (f : Field) : Field :=
  let f := f.failAttempts.onBoth (fun q => { q.halt with host := { q.halt.host with asks := [] } })
  f.onE (fun e =>
    let e := (e.setRole .A .offline).setRole .B .offline
    let e := e.onRegs (fun m => m.set 0 PWR_STAT_PWR_EN (m.get 0 PWR_STAT_PWR_EN / 8 * 8 + m.get 0 PWR_STAT_PWR_EN % 2))
    e.onSeq (fun s => { s with step := 6 }))

/-- What the sequencer does at a TICK. -/
def seqTick (f : Field) : Field :=
  let step := f.e.seqr.step
  let deep := if step = 1 then emberTick f else if step = 5 ∧ slept f = true then planesStop f else f
  match f.e.seqr.kind with
  | .idle => f
  | .banked => if step = 1 then bankedTick f else f
  | .ember => deep
  | .off => deep

end Sys2Proof.Machine
end

