-- ==== Sys2Proof/Machine/Time.lean ====
section
/-!
DEFINITION. Time's events (R387-R404), without the step itself, which falls at a TICK.
-/

namespace Sys2Proof.Machine

/-- A write of the TIME block as Eaves performs it (R33, R387, R389, R401): fields, then one TIME_ADJUST for each change in the order of KIND, the
step to apply (a step write replaces a pending one), the calendar's setting, with BUSY until it arrives. -/
def timeApply (e : Eaves) (w : TimeWrite) : Eaves :=
  let e := e.setFields w.fields
  let e := w.changes.foldl (fun e c => e.timeAdjust c.1 c.2.1 c.2.2) e
  let e := w.step.elim e (fun d => { e with seqr := { e.seqr with timeStep := some d } })
  w.cal.elim e (fun c => { e with regs := e.regs.set 0 TIME_CAL_STAT_BUSY 1, seqr := { e.seqr with calNew := some c } })

/-- The registers of a PPS_IN capture, in the order in which a run reads them (R391). -/
def ppsRegs : List Nat := [TIME_PPS_IN_LO, TIME_PPS_IN_HI, TIME_PPS_IN_CNT]

/-- Whether an address is one of them. -/
def isPps (a : Nat) : Bool := ppsRegs.contains a

/-- A plane's firmware has read the PPS_IN capture (R391): a new edge joins the last four, in steady time, and the run is due. -/
def readPps (q : Plane) : Plane :=
  let w := fun (a : Nat) => (sget (fun _ => (0 : Word)) q.servo.ppsBuf a).toNat
  let cnt := w TIME_PPS_IN_CNT
  let cap := w TIME_PPS_IN_HI * 2 ^ 32 + w TIME_PPS_IN_LO
  let q := { q with servo := { q.servo with due := true } }
  if cnt = q.servo.ppsCnt ∨ cap = 0 then q
  else
    let l := q.servo.pps ++ [q.std cap]
    { q with servo := { q.servo with ppsCnt := cnt, ppsCap := cap, pps := l.drop (l.length - 4) } }

/-- A word of the capture read (R33). -/
def ppsWord (q : Plane) (a : Nat) (v : Word) : Plane :=
  let q := { q with servo := { q.servo with ppsBuf := sput (fun _ => (0 : Word)) q.servo.ppsBuf a v } }
  if a = TIME_PPS_IN_CNT then readPps q else q

/-- A run in one plane, whose writes go up the Rafter (R33, R391). -/
def planeServo (q : Plane) : Plane :=
  if q.servo.due then
    let (q, o) := ({ q with servo := { q.servo with due := false } } : Plane).servoRun
    q.timeWrite ⟨servoFields q.servo, o.changes, o.step, none⟩
  else q

/-- SERVO_RUN (R391, R393, R544): a run that began at a TICK whose number is a multiple of 10,000, in each plane that has read the PPS_IN capture
for it. -/
def execServoRun (s : State) : Host.Outcome State Fault Refusal := s.ok (s.f.onTaking planeServo)

/-- PPS_IN_EDGE (R397): the counter is captured; an edge more than 1 ms off 1 s after the previous one is counted as bad. -/
def execPpsInEdge (dt : Nat) (s : State) : Host.Outcome State Fault Refusal :=
  s.ok (s.f.onE (fun e =>
    let e := e.at dt
    let prev := e.regs.rd64 TIME_PPS_IN_LO
    let had := (e.regs.rd TIME_PPS_IN_CNT).toNat ≠ 0 ∨ prev ≠ 0
    let gap := e.steady e.counter - e.steady prev
    let bad := had ∧ ¬ (999000000 ≤ gap ∧ gap ≤ 1001000000)
    let e := e.onRegs (fun m => (m.wr64 TIME_PPS_IN_LO e.counter).inc TIME_PPS_IN_CNT)
    if bad then e.onRegs (·.inc TIME_PPS_IN_BAD) else e))

/-- PPS_IN_LOST (R390): 2 s after the last edge that a plane has read the source is invalid, with EVENT PPS_IN_LOST. -/
def planePpsLost (q : Plane) : Plane :=
  match q.servo.pps.getLast? with
  | some x =>
    if x + 2 * 10 ^ 9 ≤ 10000 * q.st.tick then
      ({ q with servo := { q.servo with pps := [] } } : Plane).event 0x0605 noId noId (leBytes 8 q.servo.ppsCap)
    else q
  | none => q

/-- PPS_IN_LOST (R390, R31): each plane counts on its own TICKs. -/
def execPpsInLost (s : State) : Host.Outcome State Fault Refusal := s.ok (s.f.onTaking planePpsLost)

/-- The field supplies run: P0 to P2. -/
def awake (e : Eaves) : Bool := e.pstate ≠ .p3 && e.pstate ≠ .p4

/-- PPS_OUT_PULSE (R398, R399): at a whole second of PTP time at least 500 ms of steady time after the last pulse; the first pulse after
a step sets STEPPED. -/
def execPpsOutPulse (dt : Nat) (s : State) : Host.Outcome State Fault Refusal :=
  let e := s.f.e.at dt
  let now := e.steady e.counter
  let far := e.seqr.ppsLast.elim true (fun t => decide (t + 500000000 ≤ now))
  if e.regs.get 0 TIME_PPS_STATUS_OUT_EN = 1 ∧ e.counter % 1000000000 = 0 ∧ far = true ∧ awake e = true then
    let seq := (e.regs.get 0 TIME_PPS_STATUS_SEQ + 1) % 65536
    let e := e.onRegs (fun m => (m.set 0 TIME_PPS_STATUS_SEQ seq).set 0 TIME_PPS_STATUS_TQ (m.get 0 TIME_STAT_TQ))
    let e := if e.seqr.ppsStep then
        e.onRegs (fun m => (m.set 0 TIME_PPS_STATUS_STEPPED 1).set 0 TIME_PPS_STEP_SEQ_SEQ seq)
      else e
    s.ok { s.f with e := { e with seqr := { e.seqr with ppsLast := some now, ppsStep := false } } }
  else s.ok { s.f with e := e }

/-! Host time messages (R400). -/

/-- A TIME response. -/
def timeRsp (q : Plane) (ep tenant tag status : Nat) : Plane :=
  let c := q.st.ts
  q.respond ep clsTime tenant tag
    (leBytes 1 status ++ leBytes 1 q.servo.tq ++ leBytes 1 q.servo.src ++ leBytes 1 0 ++ leBytes 4 q.servo.err ++ leBytes 8 c ++
      leBytes 8 (q.servo.base * 10 ^ 9 + c) ++ leBytes 2 q.servo.utc ++ leBytes 6 0)

/-- The tenant that may SET and UTC. -/
def timeTenant (q : Plane) : Nat := q.tm 18 2 0xFFFF

/-- TIME_REPORT: the 16 most recent of HOST_TENANT are kept. -/
def execTimeReport (ep : Fin 8) (tenant : Fin 4096) (tag : Nat) (s : State) : Host.Outcome State Fault Refusal :=
  s.ok (s.f.onAdmitted ep.val tenant.val clsTime tag (saysFields [(0, 1, 1)]) (fun q =>
    let q := if tenant.val = timeTenant q then
        let l := q.servo.reports ++ [(q.st.ts, q.st.stepSum)]
        { q with servo := { q.servo with reports := l.drop (l.length - 16) } }
      else q
    timeRsp q ep.val tenant.val tag 0))

/-- TIME_SET: REF must be the COUNTER of a kept REPORT. -/
def execTimeSet (ep : Fin 8) (tenant : Fin 4096) (tag ref ptp errUs : Nat) (s : State) : Host.Outcome State Fault Refusal :=
  s.ok (s.f.onAdmitted ep.val tenant.val clsTime tag (saysFields [(0, 1, 2), (4, 4, errUs), (8, 8, ref), (16, 8, ptp)]) (fun q =>
    if tenant.val ≠ timeTenant q then timeRsp q ep.val tenant.val tag 1
    else
      match q.servo.reports.find? (fun r => r.1 = ref) with
      | none => timeRsp q ep.val tenant.val tag 1
      | some r =>
        let q := { q with servo := { q.servo with set := some ⟨ptp, ref, r.2, errUs, q.st.tick⟩ } }
        timeRsp q ep.val tenant.val tag 0))

/-- UTC_OFFSET under R385, with the write that announces a change (R389). -/
def setUtc (q : Plane) : Plane :=
  let old := q.servo.utc
  let new := q.utcOffset q.servo.src
  let q := { q with servo := { q.servo with utc := new } }
  if new = old then q else q.timeWrite ⟨[(TIME_STAT_UTC_OFFSET, new)], [(5, (old : Int), (new : Int))], none, none⟩

/-- TIME_UTC: sets UTC_OFFSET when HOST is selected or no source supplies it, else is held (R385). -/
def execTimeUtc (ep : Fin 8) (tenant : Fin 4096) (tag utc : Nat) (s : State) : Host.Outcome State Fault Refusal :=
  s.ok (s.f.onAdmitted ep.val tenant.val clsTime tag (saysFields [(0, 1, 3), (2, 2, utc)]) (fun q =>
    if tenant.val ≠ timeTenant q then timeRsp q ep.val tenant.val tag 1
    else timeRsp (setUtc { q with servo := { q.servo with hostUtc := some (utc % 65536) } }) ep.val tenant.val tag 0))

/-! Calendar, motion. -/

/-- The calendar's setting in one plane (R401): while LOCKED, once in each whole minute of PTP time as its stream position gives it. -/
def planeCalendar (q : Plane) : Plane :=
  let ptp := q.servo.base * 10 ^ 9 + q.st.ts
  let sec := ptp / 10 ^ 9
  if q.servo.tq = 0 ∧ bit (q.tm 0 1 0) 3 = true ∧ sec % 60 = 0 ∧ q.servo.calMin ≠ sec / 60 then
    ({ q with servo := { q.servo with calMin := sec / 60 } } : Plane).timeWrite
      ⟨[], [], none, some (ptp, Config.calTrim q.st.tick % 65536, sec, q.servo.err)⟩
  else q

/-- CALENDAR_SYNC (R401): the planes write the calendar, the trim (the firmware's), SETAT and ERR; the leading plane's write acts (R33). -/
def execCalendarSync (s : State) : Host.Outcome State Fault Refusal := s.ok (s.f.onTaking planeCalendar)

/-- MOTION_EDGE (R404). -/
def execMotionEdge (n : Fin 2) (s : State) : Host.Outcome State Fault Refusal :=
  if awake s.f.e then s.ok (s.f.onE (·.onRegs (·.inc (if n.val = 0 then TIME_MOTION0 else TIME_MOTION1)))) else s.ok s.f

end Sys2Proof.Machine
end

