-- ==== Sys2Proof/Machine/Batten.lean ====
section
/-!
DEFINITION. The batten chains (R486-R495): refreshes, sweeps, transactions, mode writes, restarts.
-/

namespace Sys2Proof

/-- Chain `n`. -/
def Eaves.chain (e : Eaves) (n : Nat) : Chain := sget (fun _ => Chain.init) e.chains n

/-- Chain `n` changed. -/
def Eaves.onChain (e : Eaves) (n : Nat) (g : Chain → Chain) : Eaves := { e with chains := supd (fun _ => Chain.init) e.chains n g }

/-- A field of chain `n`. -/
def Eaves.bt (e : Eaves) (n : Nat) (f : Fld) : Nat := e.regs.get (battenBase n) f

/-- A field of chain `n` set. -/
def Eaves.btSet (e : Eaves) (n : Nat) (f : Fld) (v : Nat) : Eaves := e.onRegs (·.set (battenBase n) f v)

/-- The mode of channel `k` under R489: none where it stays unchanged. -/
def Eaves.channelMode (e : Eaves) (n k : Nat) : Option Nat :=
  let p := e.bt n (BT_MAP_PORT k)
  let slot := decide (p < 128)
  let sleeping := decide (e.mode = .ember) || ((e.seqr.kind = .ember || e.seqr.kind = .off) && decide (3 ≤ e.seqr.step))
  let banked := decide (e.mode = .banked) || (e.seqr.kind = .banked && decide (3 ≤ e.seqr.step))
  let stopped := if slot then decide (e.sl p SLOT_CTL_ENABLE = 0 ∨ e.slotState p = 0) else decide (e.t1f (p - 152) T1S_CTL_ENABLE = 0)
  if p = 0x1FF ∨ (slot = true ∧ e.pers p = 0) then some 0
  else if sleeping then some 1
  else if e.bt n (BT_OVR_OVR_EN k) = 1 then some (e.bt n (BT_OVR_MODE k))
  else if slot = true ∧ e.courseHeld p = true then none
  else if banked = true ∧ (slot = false ∨ e.bankMode p = 0) then some 1
  else if banked = true ∧ e.bankMode p = 1 then some 2
  else if stopped then some 1
  else if slot = true ∧ (e.slotState p = 2 ∨ e.opmode p = 1) then some 3
  else some 4

/-- The mode last written to a channel. -/
def Chain.modeOf (c : Chain) (k : Nat) : Option Nat := sget (fun _ => none) c.modes k

/-- A channel's mode written, where the rule gives one. -/
def Eaves.writeMode (e : Eaves) (n k : Nat) : Eaves :=
  match e.channelMode n k with
  | some m => e.onChain n (fun c => { c with modes := sput (fun _ => none) c.modes k (some m) })
  | none => e

/-- PKG_CFG as the chain's registers give it (R483, R488): BUS_FILT and FS_UNITS. -/
def Eaves.pkgCfg (e : Eaves) (n : Nat) : Nat := e.bt n BT_CFG_BUS_FILT * 256 + e.bt n BT_CFG_FS_UNITS

/-- Package `p` configured: PKG_CFG, then every channel's mode (R483, R493, R494). -/
def Eaves.writePackage (e : Eaves) (n p : Nat) : Eaves :=
  let e := e.onChain n (fun c => { c with cfgs := sput (fun _ => none) c.cfgs p (some (e.pkgCfg n)) })
  (List.range 8).foldl (fun e c => e.writeMode n (8 * p + c)) e

/-- Channels the master reaches: those of the packages of the chain, below a break (R493). -/
def Eaves.reached (e : Eaves) (n : Nat) : Nat :=
  8 * min (e.bt n BT_CFG_LEN) (if e.bt n BT_STAT_STATE = 3 then e.bt n BT_STAT_BREAK_POS else 16)

/-- The lowest channel whose mode is not what the rule gives (R489). -/
def Eaves.nextMode (e : Eaves) (n : Nat) : Option Nat :=
  findIdx (fun i => match e.channelMode n i with | some m => (e.chain n).modeOf i ≠ some m | none => false) (e.reached n)

/-- Every mode that a sleep entry changes, written at its third step (R451, R453, R489). -/
def Eaves.writeModes (e : Eaves) (n : Nat) : Eaves :=
  if e.bt n BT_CTL_ENABLE = 1 then (List.range (e.reached n)).foldl (fun e k => e.writeMode n k) e else e

/-- Word `w` (0 RSTAT, 1 PKG_STATUS, 2-9 CH_STATUS) of package `p` as the sweep has it; packages from `brk` on show NO_RESPONSE. -/
def Chain.resWord (c : Chain) (brk p w : Nat) : Word :=
  let v := sget (fun _ => (0 : Word)) c.res (10 * p + w)
  if brk ≤ p then (if w = 0 then 0x40000000 else 0) else v

/-- CTRL BATTEN (R492). -/
def ctrlBatten (n result len brk gen ts : Nat) (word : Nat → Nat → Word) : List Byte :=
  leBytes 2 0xA ++ leBytes 1 n ++ leBytes 1 result ++ leBytes 1 len ++ leBytes 1 brk ++ leBytes 1 gen ++ leBytes 1 0 ++ leBytes 8 ts ++
    (List.range len).flatMap (fun p => (List.range 10).flatMap (fun w => leBytes 4 (word p w).toNat))

/-- A sweep ends: RESULT 0 OK, or 1 BREAK or 2 LENGTH at a break (R492, R493). The shingle's `info` says what changes for the planes: 1 a
new break, 2 a chain restored (log entry 20). -/
def Eaves.endSweep (e : Eaves) (n result brk : Nat) : Eaves :=
  let c := e.chain n
  let len := e.bt n BT_CFG_LEN
  let was := e.bt n BT_STAT_STATE = 3
  let word := fun p w => c.resWord (if result = 0 then 256 else brk) p w
  let b := battenBase n
  let e := e.onRegs (fun m =>
    let m := (List.range len).foldl (fun m p => (List.range 10).foldl (fun m w => m.wr (b + BT_RES p w) (word p w)) m) m
    let m := (m.wr64 (b + BT_LAST_TS_LO) c.sweepTs).inc (b + (if result = 0 then BT_SWEEP_CNT else BT_BREAK_CNT))
    (m.set b BT_STAT_STATE (if result = 0 then 2 else 3)).set b BT_STAT_BREAK_POS (if result = 0 then 0xFF else brk))
  let e := e.onChain n (fun c => { c with
    sweeping := false, pkg := 0, word := 0, retried := false, res := [], cfgFrom := if result = 0 then none else some brk })
  let e := if result = 0 then e.clearLive (384 + n) else e.onSrc (384 + n) (fun s => if s.live then s else s.occur e.counter false true)
  let info := if result ≠ 0 ∧ ¬ was then [1] else if result = 0 ∧ was then [2] else []
  let sh := Shingle.mk0 .ctrl e.counter 256 0 (ctrlBatten n result len (if result = 0 then 0xFF else brk) (e.genOf (400 + n)) c.sweepTs word)
  e.place { sh with info := info }

/-- The chain master has its clock: P0 to P2, and not in SAFE (R490). -/
def Eaves.chainRuns (e : Eaves) (n : Nat) : Bool :=
  e.bt n BT_CTL_ENABLE = 1 && e.mode ≠ .safe && e.mode ≠ .ember && !e.seqr.off

/-- A chain restarts (R494): its PORT domain, GEN, posted overrides; every package is configured and a sweep starts. -/
def Eaves.chainRestart (e : Eaves) (n : Nat) : Eaves :=
  let b := battenBase n
  let low := e.bt n BT_STAT_INT
  let e := ((e.clearPort false b).btSet n BT_STAT_INT low).bumpGen (400 + n)
  let e := { e with posted := sput (fun _ => none) e.posted b none }
  let on := e.bt n BT_CTL_ENABLE = 1
  let e := e.onChain n (fun _ => { Chain.init with again := on })
  let e := if on then (List.range (e.bt n BT_CFG_LEN)).foldl (fun e p => e.writePackage n p) (e.btSet n BT_STAT_STATE 2) else e
  e.ctrl 256 (ctrlRestart (e.genOf (400 + n)) (0x10 + n))

/-- The sweep moves on after word `w` (0 PKG_STATUS to 8) of package `p`; after the last it ends. A return line that failed while every
package answered is a break at LEN (R493). -/
def Eaves.nextWord (e : Eaves) (n : Nat) : Eaves :=
  let c := e.chain n
  let last := decide (8 ≤ c.word)
  let p := if last then c.pkg + 1 else c.pkg
  let e := e.onChain n (fun c => { c with pkg := p, word := if last then 0 else c.word + 1, retried := false })
  let e := if last = true ∧ p < e.bt n BT_CFG_LEN ∧ (c.cfgFrom.elim false (fun k => decide (k ≤ p))) = true then e.writePackage n p else e
  if e.bt n BT_CFG_LEN ≤ p then
    if sget (fun _ => (0 : Word)) c.res 1000 = 0 then e.endSweep n 0 0xFF else e.endSweep n 1 (e.bt n BT_CFG_LEN)
  else e

end Sys2Proof

namespace Sys2Proof.Machine

/-- BATTEN_REFRESH (R490). -/
def execBattenRefresh (n : Fin 4) (dt : Nat) (s : State) : Host.Outcome State Fault Refusal :=
  s.ok (s.f.onE (fun e =>
    let e := e.at dt
    if e.chainRuns n.val = true ∧ (e.chain n.val).refreshAt + e.bt n.val BT_CFG_FS_UNITS * 4000000 ≤ e.counter then
      e.onChain n.val (fun c => { c with refreshAt := e.counter })
    else e))

/-- BATTEN_SWEEP_START (R490, R491): SWEEP_MS after the last sweep's start, or at once after BT_INT_N or a restart. -/
def execBattenSweepStart (n : Fin 4) (dt : Nat) (s : State) : Host.Outcome State Fault Refusal :=
  s.ok (s.f.onE (fun e =>
    let e := e.at dt
    let c := e.chain n.val
    if e.chainRuns n.val = true ∧ c.sweeping = false ∧
      (c.again = true ∨ c.sweepTs + e.bt n.val BT_SWEEP_MS * 1000000 ≤ e.counter) then
      let e := e.onChain n.val (fun c => { c with
        sweeping := true, again := false, pkg := 0, word := 0, retried := false, sweepTs := e.counter, refreshAt := e.counter, res := [] })
      let e := if e.bt n.val BT_STAT_STATE = 3 then e else e.btSet n.val BT_STAT_STATE 1
      if e.bt n.val BT_CFG_LEN = 0 then e.endSweep n.val 0 0xFF
      else if c.cfgFrom = some 0 then e.writePackage n.val 0 else e
    else e))

/-- BATTEN_TRANSACTION_DONE (R487, R491, R493): the response to the sweep's next read: STATUS (0xFF none), DATA, whether its CRC holds, and
the POS that BT_RET returned (none where it fails its check). -/
def execBattenTransactionDone (n : Fin 4) (status : Fin 256) (data : Word) (crcOk : Bool) (ret : Option (Fin 256)) (s : State) :
    Host.Outcome State Fault Refusal :=
  s.ok (s.f.onE (fun e =>
    let k := n.val
    let c := e.chain k
    let len := e.bt k BT_CFG_LEN
    if c.sweeping = false ∨ e.chainRuns k = false then e
    else
      let put := fun (e : Eaves) (i : Nat) (v : Word) => e.onChain k (fun c => { c with res := sput (fun _ => (0 : Word)) c.res i v })
      if status.val = 0xFF then
        if c.retried then e.endSweep k 1 c.pkg else e.onChain k (fun c => { c with retried := true })
      else
        let e := if ret.isNone then put e 1000 1 else e
        if ret.elim false (fun pos => pos.val ≠ len) then e.endSweep k 2 (ret.elim 0 (·.val))
        else if crcOk = false ∨ status.val % 4 ≠ 1 then
          if c.retried then
            let old := sget (fun _ => (0 : Word)) c.res (10 * c.pkg)
            ((put e (10 * c.pkg) (old ||| BitVec.ofNat 32 (2 ^ c.word))).onRegs (·.inc (battenBase k + BT_CRC_ERR))).nextWord k
          else e.onChain k (fun c => { c with retried := true })
        else (put e (10 * c.pkg + 1 + c.word) data).nextWord k))

/-- BATTEN_MODE_WRITE (R489): the lowest channel whose mode is not what the rule gives is written; writes to packages at and after a break
are dropped (R493). -/
def execBattenModeWrite (n : Fin 4) (s : State) : Host.Outcome State Fault Refusal :=
  s.ok (s.f.onE (fun e =>
    let k := n.val
    match e.nextMode k with
    | some i => if e.bt k BT_CTL_ENABLE = 1 ∧ awake e = true then e.writeMode k i else e
    | none => e))

/-- BATTEN_RESTART (R494): a write of RESTART. -/
def execBattenRestart (n : Fin 4) (s : State) : Host.Outcome State Fault Refusal := s.ok (s.f.onE (·.chainRestart n.val))

/-- BATTEN_INT (R491, R495): BT_INT_N has been low, or high, for 1 µs, and BT_STAT shows it. Low, it registers a wake in sleep, or has
the next sweep start at once. -/
def execBattenInt (n : Fin 4) (pin : IntPin) (s : State) : Host.Outcome State Fault Refusal :=
  let f := s.f.onE (fun e =>
    (if e.pstate = .p3 ∨ e.pstate = .p4 then e.onSeq (fun q => { q with cal := q.cal + pin.slept }) else e).btSet n.val BT_STAT_INT (if pin.low then 1 else 0))
  if f.e.seqr.off ∨ pin.low = false then s.ok f
  else if asleep f.e then s.ok (registerWake f s.otpA s.otpB 10 n.val)
  else s.ok (f.onE (fun e => if e.bt n.val BT_CTL_ENABLE = 1 then e.onChain n.val (fun c => { c with again := true }) else e))

end Sys2Proof.Machine
end

