-- ==== Sys2Proof/Machine/CanOps.lean ====
section
/-!
DEFINITION. CAN slots as shared operations: frames as units (R104), fault confinement (R118-R122), rate detection (R102), filter
lists and inspection mailboxes (R105-R111), transmit mailboxes (R113-R117).
-/

namespace Sys2Proof

/-- Data bytes that the DLC of an FD frame codes (ISO 11898-1). -/
def fdLen (dlc : Nat) : Nat := [0, 1, 2, 3, 4, 5, 6, 7, 8, 12, 16, 20, 24, 32, 48, 64].getD dlc 64

/-- The DLC that codes an FD length of `n` bytes or the next larger one. -/
def fdDlc (n : Nat) : Nat := ((List.range 16).find? (fun d => decide (n ≤ fdLen d))).getD 15

/-- Type of a format. -/
def CanFmt.utype : CanFmt → UType
  | .cc => .canCC
  | .fd => .canFD
  | .xl => .canXL

/-- Data length of a received frame (R104). -/
def CanRx.len (r : CanRx) : Nat :=
  match r.fmt with
  | .cc => if r.rmt then 0 else min (r.dlc % 16) 8
  | .fd => fdLen (r.dlc % 16)
  | .xl => max 1 (min 2048 r.data.length)

/-- Metadata word 0 of a received frame (R104). Of an XL DLC, whose value is LEN - 1, the field holds the low four bits. -/
def CanRx.word0 (r : CanRx) : Nat :=
  let xl := r.fmt = .xl
  let ide := r.ide && !xl
  bitAt ide 63 + bitAt (r.rmt && r.fmt = .cc) 62 + bitAt (r.fmt ≠ .cc) 61 + bitAt xl 60 + bitAt (r.brs && r.fmt = .fd) 59 +
    bitAt (r.esi && r.fmt ≠ .cc) 58 + bitAt (r.sec && xl) 57 + (if xl then (r.len - 1) % 16 else r.dlc % 16) * 2 ^ 52 +
    r.id % (if ide then 2 ^ 29 else 2 ^ 11)

/-- Metadata of a received frame (R104). -/
def CanRx.info (r : CanRx) : List Byte :=
  leBytes 8 r.word0 ++ (if r.fmt = .xl then leBytes 8 (r.sdt % 256 * 2 ^ 56 + r.vcid % 256 * 2 ^ 48 + r.af % 2 ^ 32) else [])

/-- A received frame as a shingle of slot `n`, before its RID. -/
def CanRx.shingle (r : CanRx) (e : Eaves) (n : Nat) : Shingle :=
  { Shingle.mk0 r.fmt.utype e.counter n (e.genOf n) (fitBytes r.len r.data) with info := r.info }

/-- Whether a personality receives, and transmits, a format (R94). -/
def persHas (pers : Nat) (t : UType) : Bool :=
  match t with
  | .canCC => persCan pers
  | .canFD => pers = 2 || pers = 3
  | .canXL => pers = 3
  | _ => false

/-- Whether a CAN slot takes part in the bus: integrated, not bus-off, with power. -/
def Eaves.canLive (e : Eaves) (n : Nat) : Bool :=
  persCan (e.pers n) && (e.slotState n = 2 || e.slotState n = 3) && e.sl n SLOT_STAT_CONF ≠ 2 && Machine.awake e

/-- Whether the error counters change (R118): not in LISTEN_ONLY or RESTRICTED, nor during rate detection. -/
def Eaves.counting (e : Eaves) (n : Nat) : Bool := e.slotState n = 3 && e.opmode n = 0

/-! Fault confinement (R118-R122). -/

/-- A flag of SLOT_ERRFLAG sets; bits 0-4 are ACK, CRC, FORM, STUFF, BIT. -/
def Eaves.errFlag (e : Eaves) (n k : Nat) : Eaves := e.slSet n ⟨SLOT_ERRFLAG, k, k⟩ 1

/-- The error state of the counters (R118): 256 in TEC is bus-off. -/
def confOf (tec rc : Nat) : Nat := if 255 < tec then 2 else if 127 < tec ∨ 127 < rc then 1 else 0

/-- TEC, REC and ALONE set, with what follows from them: CONF, WARN, the flags, SLOT_BUSOFF_CNT, and one BUS_STATE where CONF or ALONE
changes (R118-R122). -/
def Eaves.setErr (e : Eaves) (n tec rc alone : Nat) : Eaves :=
  let conf0 := e.sl n SLOT_STAT_CONF
  let alone0 := e.sl n SLOT_STAT_ALONE
  let warn0 := e.sl n SLOT_STAT_WARN
  let tec := min tec 256
  let rc := min rc 255
  let conf := confOf tec rc
  let warn := if 96 ≤ tec ∨ 96 ≤ rc then 1 else 0
  let e := (e.slSet n SLOT_ERRCNT_TEC tec).slSet n SLOT_ERRCNT_REC rc
  let e := ((e.slSet n SLOT_STAT_CONF conf).slSet n SLOT_STAT_WARN warn).slSet n SLOT_STAT_ALONE alone
  let e := if warn0 < warn then e.errFlag n 6 else e
  let e := if conf = 1 ∧ conf0 = 0 then e.errFlag n 7 else e
  let e := if conf = 2 ∧ conf0 ≠ 2 then (e.errFlag n 8).slInc n SLOT_BUSOFF_CNT else e
  let e := if alone0 < alone then e.errFlag n 9 else e
  if conf ≠ conf0 ∨ alone ≠ alone0 then e.ctrl n (ctrlBusState conf alone tec rc) else e

/-- TEC of a slot. -/
def Eaves.tec (e : Eaves) (n : Nat) : Nat := e.sl n SLOT_ERRCNT_TEC
/-- REC of a slot. -/
def Eaves.recv (e : Eaves) (n : Nat) : Nat := e.sl n SLOT_ERRCNT_REC

/-! Rate detection (R102). -/

/-- The enabled candidate after `k`, cyclically. The spec names no candidate for a CAND_MASK of 0 with ENABLE set: DESIGN CHOICE, detection
stays at `k`, which is 7 at START (log entry 84). -/
def nextCandidate (mask k : Nat) : Nat := (((List.range 8).map (fun i => (k + 1 + i) % 8)).find? (bit mask)).getD k

/-- TRY(k): a candidate is entered. -/
def Eaves.tryRate (e : Eaves) (n k : Nat) : Eaves :=
  (e.onCan n (fun c => { c with detK := k, detN := 0, detAt := e.steady e.counter })).slSet n SLOT_STAT_STATE 2

/-- START: the lowest enabled candidate. -/
def Eaves.startDetect (e : Eaves) (n : Nat) : Eaves := e.tryRate n (nextCandidate (e.sl n SLOT_DETECT_CAND_MASK) 7)

/-- An error, a protocol exception or the dwell's end in TRY(k). -/
def Eaves.nextRate (e : Eaves) (n : Nat) : Eaves :=
  e.tryRate n (nextCandidate (e.sl n SLOT_DETECT_CAND_MASK) (e.slot n).can.detK)

/-- ADOPT(k). -/
def Eaves.adoptRate (e : Eaves) (n : Nat) : Eaves :=
  let k := (e.slot n).can.detK
  let w := e.regs.rd (slotBase n + SLOT_CAND k)
  let e := e.onCan n (fun c => { c with nbt := w, freshRate := true })
  let e := ((e.slSet n SLOT_STAT_RATE_IDX k).errFlag n 10).slSet n SLOT_STAT_STATE 3
  e.ctrl n (ctrlRate k w.toNat)

/-- An error-free frame in TRY(k). -/
def Eaves.detectFrame (e : Eaves) (n : Nat) : Eaves :=
  let e := e.slInc n SLOT_DETECT_CNT
  let e := e.onCan n (fun c => { c with detN := c.detN + 1 })
  if 3 ≤ (e.slot n).can.detN then e.adoptRate n else e

/-- Integrated: after a restart (R98 steps 5 and 6), or again after a protocol exception (R95). A slot that is to stop, stops. -/
def Eaves.canIntegrated (e : Eaves) (n : Nat) : Eaves :=
  let c := (e.slot n).can
  let e := e.onCan n (fun c => { c with again := false })
  if c.stopping then e.slotEnded n
  else if c.again = false ∧ e.sl n SLOT_DETECT_ENABLE = 1 then e.startDetect n
  else e.slSet n SLOT_STAT_STATE 3

/-- Protocol exception (R95): the slot integrates to the bus again; in rate detection it goes on with the next candidate (R102). -/
def Eaves.canException (e : Eaves) (n : Nat) : Eaves :=
  let e := (e.slInc n SLOT_PXE_CNT).errFlag n 5
  if e.slotState n = 2 then e.nextRate n else (e.onCan n (fun c => { c with again := true })).slSet n SLOT_STAT_STATE 1

/-! Filter lists (R105-R109). -/

/-- BASE and COUNT of a slot's list. -/
def Eaves.filtList (e : Eaves) (n : Nat) : Nat × Nat := (e.sl n SLOT_FILT_BASE, e.sl n SLOT_FILT_COUNT)

/-- Element `i` of the live pool; one in no list is DISABLED (R108). -/
def Eaves.element (e : Eaves) (i : Nat) : Rec := sget (fun _ => feNone) e.pool i

/-- The element that decides a frame: the first that matches, in list order (R105, R106). -/
def Eaves.deciding (e : Eaves) (n : Nat) (sh : Shingle) : Option Rec :=
  let (b, c) := e.filtList n
  ((List.range c).map (fun i => e.element (b + i))).find? (fun el => feMatches el sh)

/-! Inspection mailboxes (R110, R111). -/

/-- Mailbox `m` of a slot. -/
def Eaves.mbox (e : Eaves) (n m : Nat) : MBox := sget (fun _ => MBox.empty) (e.slot n).can.mbx m

/-- Mailbox `m` of a slot changed. -/
def Eaves.onMbox (e : Eaves) (n m : Nat) (g : MBox → MBox) : Eaves :=
  e.onCan n (fun c => { c with mbx := supd (fun _ => MBox.empty) c.mbx m g })

/-- A frame copied to a mailbox: into the shadow buffer while the mailbox is locked (R110). -/
def Eaves.mboxCopy (e : Eaves) (n m : Nat) (fr : MFrame) : Eaves :=
  let locked := (e.slot n).can.lock.isSome && e.sl n SLOT_RXMB_SEL_MB = m
  e.onMbox n m (fun b =>
    if locked then { b with ovw := b.ovw || b.shadow.isSome, shadow := some fr }
    else { b with cur := some fr, ovw := b.ovw || b.new, new := true })

/-- The window's lock is released: an unpromoted shadow frame becomes the content (R111). -/
def Eaves.mboxRelease (e : Eaves) (n : Nat) : Eaves :=
  let e := e.onMbox n (e.sl n SLOT_RXMB_SEL_MB) (fun b =>
    match b.shadow with
    | some fr => { b with cur := some fr, new := true, shadow := none }
    | none => b)
  e.onCan n (fun c => { c with lock := none })

/-- Whether another initiator holds a slot's window. -/
def Eaves.mboxBusy (e : Eaves) (n who : Nat) : Bool :=
  match (e.slot n).can.lock with
  | some (h, _) => h ≠ who
  | none => false

/-- A read of SLOT_MB_STATUS (R111): the selected mailbox is locked to the reader; the content is no longer NEW. BUSY changes nothing. -/
def Eaves.mboxLock (e : Eaves) (n who : Nat) : Eaves :=
  match (e.slot n).can.lock with
  | some _ => e
  | none =>
    (e.onMbox n (e.sl n SLOT_RXMB_SEL_MB) (fun b => { b with new := false, ovw := false })).onCan n
      (fun c => { c with lock := some (who, e.steady e.counter) })

/-- A write of SLOT_RXMB_SEL (R111). -/
def Eaves.mboxSelect (e : Eaves) (n who m : Nat) : Eaves :=
  if e.mboxBusy n who then e
  else
    let e := if (e.slot n).can.lock.isSome then e.mboxRelease n else e
    e.slSet n SLOT_RXMB_SEL_MB m

/-- A read of SLOT_MB_DATA15 (R111): the holder's releases. -/
def Eaves.mboxLast (e : Eaves) (n who : Nat) : Eaves :=
  match (e.slot n).can.lock with
  | some (h, _) => if h = who then e.mboxRelease n else e
  | none => e

/-! Transmission (R113-R117). -/

/-- The arbitration field of a frame as a number: the smaller wins (ISO 11898-1). Base identifier, SRR or RTR, IDE, extension, RTR. -/
def arbKey (s : Shingle) : Nat :=
  let id := s.canId
  let r := if s.rmt then 1 else 0
  if s.ide && !s.xlf then (((id / 2 ^ 18 * 2 + 1) * 2 + 1) * 2 ^ 18 + id % 2 ^ 18) * 2 + r
  else ((id % 2 ^ 11 * 2 + r) * 2) * 2 ^ 18 * 2

/-- The order in which frames go: by arbitration field, then by passing (R114). -/
def TxMb.before (a b : TxMb) : Bool :=
  decide (arbKey a.frame < arbKey b.frame ∨ (arbKey a.frame = arbKey b.frame ∧ a.order ≤ b.order))

/-- The mailbox that a relation puts first. -/
def bestMb (r : TxMb → TxMb → Bool) : List TxMb → Option TxMb
  | [] => none
  | t :: ts => match bestMb r ts with
    | none => some t
    | some u => if r t u then some t else some u

/-- The PENDING mailboxes of a slot. -/
def CanSt.waiting (c : CanSt) : List TxMb := c.tx.filter (fun t => !t.committed)

/-- A mailbox emptied. -/
def CanSt.drop (c : CanSt) (m : Nat) : CanSt := { c with tx := c.tx.filter (fun t => t.idx ≠ m) }

/-- A mailbox changed. -/
def CanSt.onMb (c : CanSt) (m : Nat) (g : TxMb → TxMb) : CanSt := { c with tx := c.tx.map (fun t => if t.idx = m then g t else t) }

/-- A mailbox emptied with a cause (R117). -/
def Eaves.mbDrop (e : Eaves) (n cause : Nat) (t : TxMb) : Eaves := (e.onCan n (·.drop t.idx)).txDrop n cause t.frame.canId

/-- A frame as the slot takes it (R104, R113): DLC from LEN, except a classical frame of LEN 8 with DLC 9-15; of an XL DLC, whose value is
LEN - 1, the field holds the low four bits; FD data padded; ESI, which counts for nothing on egress, cleared. -/
def txFrame (pad : Nat) (s : Shingle) : Shingle :=
  let l := s.body.length
  let s := { s with info := putM0 s.info 58 58 0 }
  if s.utype = .canFD then
    let d := fdDlc l
    { s with info := putM0 s.info 55 52 d, body := s.body ++ List.replicate (fdLen d - l) (BitVec.ofNat 8 pad) }
  else if s.utype = .canCC then
    { s with info := putM0 s.info 55 52 (if l = 8 ∧ 9 ≤ s.dlc then s.dlc else l) }
  else if s.utype = .canXL then { s with info := putM0 s.info 55 52 ((l - 1) % 16) }
  else s

/-- ESI of the frame that goes out: the slot's own error state, in an FD frame (R104). -/
def ownEsi (passive : Bool) (s : Shingle) : Shingle := if s.utype = .canFD then { s with info := putM0 s.info 58 58 (if passive then 1 else 0) } else s

/-- A frame takes a free mailbox. -/
def Eaves.mbTake (e : Eaves) (n : Nat) (fr : Shingle) : Eaves :=
  e.onCan n (fun c =>
    let free := (findIdx (fun i => c.tx.all (fun t => t.idx ≠ i)) 32).getD 31
    { c with tx := c.tx ++ [⟨free, fr, c.order, 0, false⟩], order := c.order + 1 })

/-- A candidate at the transmit stage of a CAN slot (R113). R113 does not say which of several matching PENDING frames a REPLACE candidate
takes: DESIGN CHOICE, the first in the list of mailboxes (log entry 84). -/
def Eaves.canTake (e : Eaves) (n : Nat) (cd : Cand) : Eaves :=
  let fr := txFrame (e.sl n SLOT_TX_CFG_PAD) cd.unit
  let c := (e.slot n).can
  if cd.gen ≠ e.genOf n then e.txDrop n 5 fr.canId
  else if e.slotState n ≠ 3 ∨ e.opmode n ≠ 0 ∨ c.stopping = true then e.txDrop n 6 fr.canId
  else if persHas (e.pers n) fr.utype = false then e.txDrop n 7 fr.canId
  else
    let same := c.waiting.find? (fun t =>
      t.frame.canId = fr.canId && t.frame.ide = fr.ide && t.frame.utype = fr.utype && fr.replace && e.sl n SLOT_TX_CFG_REPLACE_EN = 1)
    match same with
    | some t =>
      let e := e.onCan n (fun c => { c.onMb t.idx (fun t => { t with frame := fr, order := c.order, attempts := 0 }) with order := c.order + 1 })
      e.txDrop n 4 t.frame.canId
    | none =>
      if c.tx.length < 32 then e.mbTake n fr
      else
        match bestMb (fun a b => b.before a) c.waiting with
        | some t =>
          if arbKey fr < arbKey t.frame then (e.mbDrop n 3 t).mbTake n fr else e.txDrop n 3 fr.canId
        | none => e.txDrop n 3 fr.canId

/-- Whether a PENDING frame is older than its limit (R116). -/
def Eaves.tooOld (e : Eaves) (fr : Shingle) : Bool := decide (fr.ts + fr.ageMs * 1000000 < e.steady e.counter)

/-- PENDING frames past their age limit dropped (R116). -/
def Eaves.mbAge (e : Eaves) (n : Nat) (q : Nat → Bool) : Eaves :=
  ((e.slot n).can.waiting.filter (fun t => q t.idx && e.tooOld t.frame)).foldl (fun e t => e.mbDrop n 2 t) e

/-- The frame that the slot sends, if any. -/
def Eaves.onBus (e : Eaves) (n : Nat) : Option TxMb := (e.slot n).can.tx.find? (·.committed)

/-- RETRY_LIMIT as it acts (R117); none for no limit. -/
def retryLimit (v : Nat) : Option Nat := if v = 31 then none else some (min v 15)

/-- The coding of the data phase of a frame that a slot starts (R124): PWM for an XL frame with PWM_EN, else plain NRZ. -/
def Eaves.coding (e : Eaves) (n : Nat) (fr : Shingle) : Option Pwm :=
  if fr.utype = .canXL ∧ e.sl n SLOT_XL_PWM_EN = 1 then some ⟨e.sl n SLOT_XL_PWMS, e.sl n SLOT_XL_PWML, e.sl n SLOT_XL_PWMO⟩ else none

/-- The transceiver is back in arbitration mode and the slot no longer sends (R124). -/
def Eaves.offBus (e : Eaves) (n : Nat) : Eaves := (e.onCan n (fun c => { c with pwm := none })).slSet n SLOT_STAT_TX_ACTIVE 0

/-- The loop delay measured in a frame that the slot has sent past its FDF or XLF bit (R101). -/
def Eaves.measured (e : Eaves) (n : Nat) (fr : Shingle) (delay : Nat) : Eaves :=
  if (fr.utype = .canFD ∨ fr.utype = .canXL) ∧ e.sl n SLOT_TDC_TDC_EN = 1 then e.slSet n SLOT_TDC_TDCV delay else e

/-- Commit (R114): the slot starts the frame whose arbitration field wins. -/
def Eaves.mbCommit (e : Eaves) (n : Nat) : Eaves :=
  if e.canLive n = true ∧ e.counting n = true ∧ (e.onBus n).isNone = true ∧ e.mode ≠ .safe ∧ (e.slot n).can.stopping = false then
    let e := e.mbAge n (fun _ => true)
    match bestMb TxMb.before (e.slot n).can.waiting with
    | some t =>
      (e.onCan n (fun c => { c.onMb t.idx (fun t => { t with committed := true, frame := ownEsi (e.sl n SLOT_STAT_CONF = 1) t.frame }) with
        pwm := e.coding n t.frame })).slSet n SLOT_STAT_TX_ACTIVE 1
    | none => e
  else e

/-- The frame on the bus succeeds (R117, R120); `delay` is its loop delay in slot clocks (R101). -/
def Eaves.mbSuccess (e : Eaves) (n delay : Nat) : Eaves :=
  match e.onBus n with
  | none => e
  | some t =>
    let e := (e.measured n t.frame delay).offBus n
    let e := (e.onCan n (fun c => { c.drop t.idx with alone := 0, freshRate := false })).slInc n SLOT_TX_OK
    let e := e.setErr n (e.tec n - 1) (e.recv n) 0
    e.slotEnded n

/-- The frame on the bus fails (R117-R120): `kind` is the bit of SLOT_ERRFLAG; `same` leaves TEC, as ISO 11898-1 does for some errors;
`eights` is how often TEC rises by 8 more, for a bit error in an active error or overload flag and for dominant bits after a flag; `delay`
is the loop delay, where the frame got past its FDF or XLF bit (R101). A slot that is to stop drops the frame with cause NOT_ACTIVE (R97). -/
def Eaves.mbError (e : Eaves) (n kind : Nat) (same : Bool) (eights : Nat) (delay : Option Nat) : Eaves :=
  match e.onBus n with
  | none => e
  | some t =>
    let e := delay.elim e (e.measured n t.frame)
    let keep := same && ((kind = 0 && e.sl n SLOT_STAT_CONF = 1) || kind = 3)
    let cnt := (e.slot n).can.alone + (if kind = 0 then 1 else 0)
    let e := (e.errFlag n kind).offBus n
    let e := e.onCan n (fun c => { c with alone := cnt })
    let e := e.setErr n ((if keep then e.tec n else e.tec n + 8) + 8 * eights) (e.recv n) (if 32 ≤ cnt then 1 else e.sl n SLOT_STAT_ALONE)
    let spent := match retryLimit (e.sl n SLOT_TX_CFG_RETRY_LIMIT) with
      | some k => decide (k < t.attempts + 1)
      | none => false
    let e := if (e.slot n).can.stopping then e.mbDrop n 6 t
      else if spent then e.mbDrop n 1 t
      else e.onCan n (·.onMb t.idx (fun t => { t with attempts := t.attempts + 1, committed := false }))
    e.slotEnded n

/-! Reception (R95, R105, R118). -/

/-- A receive error (R118, R102): REC grows by 1, or by 8 where the error is a bit error in an active error or overload flag that the slot
sends, and by 8 more for each of `eights`: a dominant bit after the error flag, and each 8 more dominant bits. Errors that take REC to 128
before the first frame at an adopted rate start detection again. -/
def Eaves.canRxError (e : Eaves) (n kind : Nat) (inFlag : Bool) (eights : Nat) : Eaves :=
  let e := e.errFlag n kind
  if e.slotState n = 2 then e.nextRate n
  else if e.counting n then
    let e := e.setErr n (e.tec n) (e.recv n + (if inFlag then 8 else 1) + 8 * eights) (e.sl n SLOT_STAT_ALONE)
    if (e.slot n).can.freshRate = true ∧ 128 ≤ e.recv n then (e.onCan n (fun c => { c with freshRate := false })).startDetect n else e
  else e

/-- A successful reception takes REC down by 1. From above 127 ISO 11898-1 allows any value of 119 to 127: DESIGN CHOICE, 127 (log
entry 84). -/
def Eaves.canRxGood (e : Eaves) (n : Nat) : Eaves :=
  let e := e.onCan n (fun c => { c with freshRate := false })
  if e.counting n ∧ e.recv n ≠ 0 then e.setErr n (e.tec n) (if 127 < e.recv n then 127 else e.recv n - 1) (e.sl n SLOT_STAT_ALONE)
  else e

end Sys2Proof

namespace Sys2Proof.Machine

/-- The filter list decides a frame (R105-R107, R110, R452). -/
def canFiltered (f : Field) (oA oB : Otp) (n : Nat) (sh : Shingle) : Field :=
  let wo := f.e.wakeOnly n
  match f.e.deciding n sh with
  | none => f.onE (·.slInc n (if wo then SLOT_RX_REJECT else SLOT_RX_NOMATCH))
  | some el =>
    let act := feAction el
    let wake := decide (act = 4 ∧ f.e.mode = .banked)
    let f := if !wo && feMbxEn el then f.onE (·.mboxCopy n (feMbx el) (MFrame.ofShingle sh)) else f
    let f := if wake then registerWake f oA oB 1 n else f
    if wo then (if wake then f else f.onE (·.slInc n SLOT_RX_REJECT))
    else if act = 0 then f.onE (·.slInc n SLOT_RX_REJECT)
    else f.deliver { sh with rid := feRid el, action := act } (·.slInc n SLOT_RX_OK)

/-- A frame becomes valid on a slot's bus (R95, R102, R105); a slot that is to stop, stops with its end (R97). -/
def canReceived (f : Field) (oA oB : Otp) (n : Nat) (r : CanRx) : Field :=
  let e := f.e
  if !(e.canLive n) then f
  else if !(persHas (e.pers n) r.fmt.utype) || (e.wakeOnly n && r.fmt ≠ .cc) then f.onE (·.canException n)
  else if e.slotState n = 2 then f.onE (fun e => (e.detectFrame n).slotEnded n)
  else (canFiltered (f.onE (·.canRxGood n)) oA oB n (r.shingle e n)).onE (·.slotEnded n)

end Sys2Proof.Machine
end

