-- ==== Sys2Proof/Machine/Can.lean ====
section
/-!
DEFINITION. The events of CAN slots (R94-R124), one meaning for each.
-/

namespace Sys2Proof.Machine

/-- Registers of the data path may be written (R51): not in SAFE. -/
def writable (e : Eaves) : Bool := e.mode ≠ .safe

/-- SLOT_RESTART (R98): a write of RESTART in SLOT_CTL. -/
def execSlotRestart (n : Fin 128) (s : State) : Host.Outcome State Fault Refusal :=
  s.ok (if writable s.f.e then s.f.onE (·.slotRestart n.val) else s.f)

/-- A write of 1 to ENABLE (R97). -/
def slotOn (e : Eaves) (n : Nat) : Eaves :=
  if e.sl n SLOT_CTL_ENABLE = 1 then e else (e.slSet n SLOT_CTL_ENABLE 1).slotRestart n

/-- A write of 0 to ENABLE (R97). -/
def slotOff (e : Eaves) (n : Nat) : Eaves :=
  if e.sl n SLOT_CTL_ENABLE = 0 then e else (e.slSet n SLOT_CTL_ENABLE 0).slotStop n

/-- SLOT_ENABLE (R97). -/
def execSlotEnable (n : Fin 128) (s : State) : Host.Outcome State Fault Refusal :=
  s.ok (if writable s.f.e then s.f.onE (slotOn · n.val) else s.f)

/-- SLOT_DISABLE (R97). -/
def execSlotDisable (n : Fin 128) (s : State) : Host.Outcome State Fault Refusal :=
  s.ok (if writable s.f.e then s.f.onE (slotOff · n.val) else s.f)

/-- OPMODE_APPLY (R97): the bus is idle or the slot integrates, and the written OPMODE comes into force; a slot that is to stop, stops. -/
def execOpmodeApply (n : Fin 128) (s : State) : Host.Outcome State Fault Refusal :=
  s.ok (s.f.onE (fun e =>
    if e.slotState n.val ≠ 0 ∧ (e.onBus n.val).isNone = true then
      (e.onCan n.val (fun c => { c with opmode := e.sl n.val SLOT_CTL_OPMODE })).slotEnded n.val
    else e))

/-- SLOT_INTEGRATED (R98, R132): 11 recessive bits, or one idle character on a slow slot. -/
def execSlotIntegrated (n : Fin 128) (dt : Nat) (s : State) : Host.Outcome State Fault Refusal :=
  let e := s.f.e.at dt
  s.ok { s.f with e := if e.slotState n.val = 1 ∧ awake e = true then
      (if e.isSlow n.val then e.slSet n.val SLOT_STAT_STATE 3 else e.canIntegrated n.val) else e }

/-- CAN_FRAME_RECEIVED (R24, R105): the frame's TS is the counter at the last-but-one bit of its end-of-frame. -/
def execCanFrameReceived (n : Fin 128) (r : CanRx) (dt : Nat) (s : State) : Host.Outcome State Fault Refusal :=
  s.ok (canReceived (s.f.onE (·.at dt)) s.otpA s.otpB n.val r)

/-- PROTOCOL_EXCEPTION (R95). -/
def execProtocolException (n : Fin 128) (dt : Nat) (s : State) : Host.Outcome State Fault Refusal :=
  let e := s.f.e.at dt
  s.ok { s.f with e := if e.canLive n.val = true ∧ e.pers n.val ≠ 3 then e.canException n.val else e }

/-- CAN_RX_ERROR (R118): `kind` is the error's bit in SLOT_ERRFLAG; a slot that is to stop, stops (R97). -/
def execCanRxError (n : Fin 128) (kind : Fin 5) (err : RxErr) (dt : Nat) (s : State) : Host.Outcome State Fault Refusal :=
  let e := s.f.e.at dt
  s.ok { s.f with e := if e.canLive n.val = true ∧ (e.onBus n.val).isNone = true then
    (e.canRxError n.val kind.val err.inFlag err.eights).slotEnded n.val else e }

/-- DETECT_DWELL_EXPIRE (R102): DWELL is in units of 10 ms. -/
def execDetectDwellExpire (n : Fin 128) (dt : Nat) (s : State) : Host.Outcome State Fault Refusal :=
  let e := s.f.e.at dt
  s.ok (s.f.onE (fun _ =>
    if persCan (e.pers n.val) = true ∧ e.slotState n.val = 2 ∧
        (e.slot n.val).can.detAt + e.sl n.val SLOT_DETECT_DWELL * 10000000 ≤ e.steady e.counter then e.nextRate n.val
    else e))

/-- A command written to SLOT_FE_IDX (R109): BUSY for a WRITE while a turn runs; FE_ERR for an IDX outside the list or both commands. -/
def feCommand (f : Field) (n idx : Nat) (wr rd : Bool) : Field :=
  let e := f.e
  let (b, c) := e.filtList n
  if !(writable e) || !(persCan (e.pers n)) || (wr && f.phase ≠ 0) then f
  else
    let bad := decide (c ≤ idx) || (wr && rd)
    let e := (e.slSet n SLOT_FE_IDX_IDX idx).slSet n SLOT_FE_IDX_FE_ERR (if bad && (wr || rd) then 1 else 0)
    let e := if bad then e
      else if wr then
        let el := (List.range 4).foldl (fun r w => Rec.put r (4 * w) 4 (e.regs.rd (slotBase n + SLOT_FE_DATA w)).toNat) (0 : Rec)
        { e with pool := sput (fun _ => feNone) e.pool (b + idx) el }
      else if rd then
        e.onRegs (fun m => m.wrAll (slotBase n) ((List.range 4).map (fun w => (SLOT_FE_DATA w, (e.element (b + idx)).u (4 * w) 4))))
      else e
    { f with e := e }

/-- FILTER_ELEMENT_WRITE (R109): `both` sets READ as well. -/
def execFilterElementWrite (n : Fin 128) (idx : Fin 4096) (both : Bool) (s : State) : Host.Outcome State Fault Refusal :=
  s.ok (feCommand s.f n.val idx.val true both)

/-- FILTER_ELEMENT_READ (R109). -/
def execFilterElementRead (n : Fin 128) (idx : Fin 4096) (s : State) : Host.Outcome State Fault Refusal :=
  s.ok (feCommand s.f n.val idx.val false true)

/-- MAILBOX_LOCK (R111): `who` is the reading initiator. -/
def execMailboxLock (n : Fin 128) (who : Fin 10) (dt : Nat) (s : State) : Host.Outcome State Fault Refusal :=
  let e := s.f.e.at dt
  s.ok { s.f with e := if persCan (e.pers n.val) then e.mboxLock n.val who.val else e }

/-- MAILBOX_RELEASE (R111): a read of SLOT_MB_DATA15. -/
def execMailboxRelease (n : Fin 128) (who : Fin 10) (s : State) : Host.Outcome State Fault Refusal :=
  s.ok (s.f.onE (·.mboxLast n.val who.val))

/-- MAILBOX_SELECT (R111). -/
def execMailboxSelect (n : Fin 128) (who : Fin 10) (m : Fin 64) (s : State) : Host.Outcome State Fault Refusal :=
  s.ok (s.f.onE (fun e => if writable e && persCan (e.pers n.val) then e.mboxSelect n.val who.val m.val else e))

/-- MAILBOX_LOCK_TIMEOUT (R111): 10 ms since the lock. -/
def execMailboxLockTimeout (n : Fin 128) (dt : Nat) (s : State) : Host.Outcome State Fault Refusal :=
  let e := s.f.e.at dt
  s.ok { s.f with e := match (e.slot n.val).can.lock with
    | some (_, t) => if t + 10000000 ≤ e.steady e.counter then (e.mboxRelease n.val).slInc n.val SLOT_MB_LOCKTO else e
    | none => e }

/-- SLOT_TX_CANDIDATE (R113). A slot without a personality of its own drops what reaches it. -/
def execSlotTxCandidate (n : Fin 128) (s : State) : Host.Outcome State Fault Refusal :=
  let e := s.f.e
  if e.isSlow n.val then s.ok s.f
  else
    match e.takeStage n.val with
    | some (c, e) => s.ok { s.f with e := e.canTake n.val c }
    | none => s.ok s.f

/-- TX_COMMIT (R114). -/
def execTxCommit (n : Fin 128) (dt : Nat) (s : State) : Host.Outcome State Fault Refusal :=
  s.ok (s.f.onE (fun e => (e.at dt).mbCommit n.val))

/-- ARBITRATION_LOST (R115): the frame returns to PENDING; a slot that is to stop drops it, and stops when the winner's frame ends (R97). -/
def execArbitrationLost (n : Fin 128) (s : State) : Host.Outcome State Fault Refusal :=
  s.ok (s.f.onE (fun e =>
    match e.onBus n.val with
    | none => e
    | some t =>
      let e := e.offBus n.val
      if (e.slot n.val).can.stopping then e.mbDrop n.val 6 t
      else e.onCan n.val (·.onMb t.idx (fun t => { t with committed := false }))))

/-- TX_SUCCESS (R101, R117). -/
def execTxSuccess (n : Fin 128) (x : TxEnd) (s : State) : Host.Outcome State Fault Refusal :=
  s.ok (s.f.onE (fun e => (e.at x.dt).mbSuccess n.val x.delay.val))

/-- TX_ERROR (R117): `kind` is the error's bit in SLOT_ERRFLAG. -/
def execTxError (n : Fin 128) (kind : Fin 5) (x : TxFail) (dt : Nat) (s : State) : Host.Outcome State Fault Refusal :=
  s.ok (s.f.onE (fun e => (e.at dt).mbError n.val kind.val x.same x.eights (x.delay.map (·.val))))

/-- TX_AGE_EXPIRE (R116): mailbox `m`, if PENDING and past its limit. -/
def execTxAgeExpire (n : Fin 128) (m : Fin 32) (dt : Nat) (s : State) : Host.Outcome State Fault Refusal :=
  s.ok (s.f.onE (fun e => (e.at dt).mbAge n.val (fun i => i = m.val)))

/-- A write of SLOT_TX_CANCEL (R115). -/
def txCancel (e : Eaves) (n mask : Nat) : Eaves :=
  ((e.slot n).can.waiting.filter (fun t => bit mask t.idx)).foldl (fun e t => e.mbDrop n 4 t) e

/-- TX_CANCEL (R115). -/
def execTxCancel (n : Fin 128) (mask : Word) (s : State) : Host.Outcome State Fault Refusal :=
  s.ok (if writable s.f.e then s.f.onE (txCancel · n.val mask.toNat) else s.f)

/-- BUSOFF_RECOVERY (R119): `k` more sequences of 11 recessive bits. R119 does not say what RECOV reads once recovery is complete: DESIGN
CHOICE, 0 (log entry 84). -/
def execBusoffRecovery (n : Fin 128) (k : Nat) (dt : Nat) (s : State) : Host.Outcome State Fault Refusal :=
  let e := s.f.e.at dt
  s.ok (s.f.onE (fun _ =>
    if persCan (e.pers n.val) = true ∧ e.sl n.val SLOT_STAT_CONF = 2 ∧ e.slotState n.val = 3 then
      let r := e.sl n.val SLOT_STAT_RECOV + k
      if 128 ≤ r then (e.slSet n.val SLOT_STAT_RECOV 0).setErr n.val 0 0 (e.sl n.val SLOT_STAT_ALONE)
      else e.slSet n.val SLOT_STAT_RECOV r
    else e))

end Sys2Proof.Machine
end

