-- ==== Sys2Proof/Machine/SlowOps.lean ====
section
/-!
DEFINITION. Slow slots as shared operations: the packer and packet boundaries (R133-R141), units and RID maps (R136, R137), LIN frames,
schedules and buffers (R142-R146), serial and J1708 transmission (R147-R149); the networks' keep-alives (R475, R478).
-/

namespace Sys2Proof

/-! Keep-alives. -/

/-- The network of a port (R474). -/
def netOfPort (t : Truss) (port : Nat) : Option Nat :=
  findIdx (fun i => bit ((Machine.netRec t i).u 16 32) port) (Machine.netCount t)

/-- A keep-alive at the plane's stream position (R475, R476, R478). -/
def Plane.keepAlive (q : Plane) (port kind id tenant : Nat) : Plane :=
  match netOfPort q.truss port with
  | none => q
  | some i => { q with nets := supd (fun _ => Net.init) q.nets i (fun x =>
      { x with lastKa := q.tickAt q.st.ts, kind := kind, id := id, tenant := tenant, kaCnt := satAdd 32 x.kaCnt 1 }) }

/-! Checks (R133, R143). -/

/-- Sum of bytes modulo 256. -/
def sum8 (bs : List Byte) : Nat := bs.foldl (fun s b => s + b.toNat) 0 % 256
/-- XOR of bytes. -/
def xor8 (bs : List Byte) : Nat := bs.foldl (fun s b => s ^^^ b.toNat) 0

/-- Check bytes that a SERIAL slot appends (R133). -/
def checkBytes (k : Nat) (bs : List Byte) : List Byte :=
  if k = 1 then leBytes 1 ((256 - sum8 bs) % 256)
  else if k = 2 then leBytes 1 (xor8 bs)
  else if k = 3 then leBytes 1 (Config.crc8 bs)
  else if k = 4 then beBytes 2 (Config.hcrc bs)
  else []

/-- Whether a packet passes its check: its last bytes are those of the rest. -/
def checkOk (k : Nat) (bs : List Byte) : Bool :=
  let c := if k = 0 then 0 else if k = 4 then 2 else 1
  decide (c ≤ bs.length) && bs.drop (bs.length - c) = checkBytes k (bs.take (bs.length - c))

/-- PID of a FID: the two parity bits of ISO 17987. -/
def linPid (fid : Nat) : Nat :=
  let b := fun k => bit fid k
  let p0 := xor (xor (b 0) (b 1)) (xor (b 2) (b 4))
  let p1 := !(xor (xor (b 1) (b 3)) (xor (b 4) (b 5)))
  fid % 64 + bitAt p0 6 + bitAt p1 7

/-- LIN checksum (ISO 17987): the inverted sum with carry; the enhanced model takes in the PID. -/
def linSum (enhanced : Bool) (fid : Nat) (bs : List Byte) : Nat :=
  255 - bs.foldl (fun s b => let t := s + b.toNat; if 256 ≤ t then t - 255 else t) (if enhanced then linPid fid else 0)

/-- RID of a SERIAL or J1708 packet: the first entry that covers its first byte (R137). -/
def serialRid (t : Truss) (n key : Nat) : Option Nat :=
  (((List.range ((slotRec t n).u 18 2)).map (mapEntry t n)).find? (fun m => decide (m.u 0 1 ≤ key ∧ key ≤ m.u 1 1))).map (·.u 2 2)

/-! Slots. -/

/-- A slow slot in operation. -/
def Eaves.slowLive (e : Eaves) (n : Nat) : Bool := e.isSlow n && e.slotState n = 3 && Machine.awake e

/-- Whether a slow slot may drive its line: NORMAL (R131), and not in SAFE. -/
def Eaves.slowDrives (e : Eaves) (n : Nat) : Bool := e.slowLive n && e.opmode n = 0 && e.mode ≠ .safe

/-- A field of SLOT_SB_CFG in force (R133). -/
def Eaves.sbCfg (e : Eaves) (n : Nat) (f : Fld) : Nat := f.get (e.slot n).slow.cfg
/-- A field of SLOT_SB_FRAME in force (R133). -/
def Eaves.sbFrame (e : Eaves) (n : Nat) (f : Fld) : Nat := f.get (e.slot n).slow.frame

/-- Time in ns of `k` bits of a bit time of `div` sixteenths of a slot clock (R133). -/
def bitsNs (div k : Nat) : Nat := k * div * 25 / 32

/-- Whether the slot drives characters. -/
def Eaves.slowSending (e : Eaves) (n : Nat) : Bool := (e.slot n).slow.txq.any (·.committed)

/-- A character's byte enters the packer (R138): eight bytes go on as a word. -/
def SlowSt.push (s : SlowSt) (b : Byte) : SlowSt :=
  let st := s.stages ++ [b]
  if st.length = 8 then { s with stages := [], asm := s.asm ++ st } else { s with stages := st }

/-- The packet in progress gone, the packer empty. -/
def SlowSt.noPacket (s : SlowSt) : SlowSt :=
  { s with stages := [], asm := [], raw := [], inPkt := false, marked := false, err := 0, linFid := none, linSub := false, linEvent := false }

/-- Bits of SLOT_SB_ERRFLAG set. -/
def Eaves.sbFlags (e : Eaves) (n bs : Nat) : Eaves :=
  (List.range 12).foldl (fun e k => if bit bs k then e.slSet n ⟨SLOT_SB_ERRFLAG, k, k⟩ 1 else e) e

/-- A packet discarded with errors (R150). -/
def Eaves.sbDiscard (e : Eaves) (n bs : Nat) : Eaves := (e.sbFlags n bs).slInc n SLOT_SB_RXERR

/-- An EVENT entry whose response collided or was corrupted (R144): table ALT comes next, once, and then the table that it interrupts goes
on after the entry. -/
def Eaves.linAlt (e : Eaves) (n : Nat) : Eaves :=
  let cur := e.sl n SLOT_LIN_SCHED_CUR
  let ent := e.sl n SLOT_LIN_SCHED_ENTRY
  match (schedTable e.live n cur)[ent]? with
  | some x => e.onSlow n (fun s => { s with altPend := some (x.u 4 1 % 16), altRet := (cur, ent + 1) :: s.altRet })
  | none => e

/-- Metadata of a slow unit (R136). -/
def slowInfo (mark enh : Bool) (endc fid : Nat) : List Byte := leBytes 8 (bitAt mark 63 + bitAt enh 62 + endc * 2 ^ 60 + fid)

/-- The protocol check of the packet as the receiver took it (R140). -/
def Eaves.packetOk (e : Eaves) (n : Nat) : Bool :=
  let s := (e.slot n).slow
  let pers := e.pers n
  if pers = 4 then
    let fid := s.linFid.getD 0
    let body := (s.raw.drop 1).take (s.raw.length - 2)
    s.raw.drop (s.raw.length - 1) = leBytes 1 (linSum (linEnh e.live n fid) fid body)
  else if pers = 6 then decide (2 ≤ s.raw.length) && checkOk 1 s.raw
  else checkOk (e.sbCfg n SLOT_SB_CFG_CHECK) s.raw

/-- RID, type and metadata of the packet (R136, R137). -/
def Eaves.packetUnit (e : Eaves) (n endc : Nat) : Option (Nat × UType × List Byte) :=
  let s := (e.slot n).slow
  if e.pers n = 4 then
    let fid := s.linFid.getD 0
    if linDir e.live n fid = 2 then
      some ((mapEntry e.live n fid).u 2 2, .lin, slowInfo false (linEnh e.live n fid) 0 fid)
    else none
  else
    (serialRid e.live n (bytesAt (s.asm ++ s.stages) 0 1)).map (fun r => (r, .serial, slowInfo s.marked false endc 0))

end Sys2Proof

namespace Sys2Proof.Machine

/-- A packet ends (R134, R137-R140, R150): a pending FLUSH discards it; errors discard it; else it becomes a unit. A slot that is to stop,
stops (R97). -/
def slowClose (f : Field) (n endc : Nat) : Field :=
  let e := f.e
  let s := (e.slot n).slow
  let got := s.asm ++ s.stages
  let unit := e.packetUnit n endc
  let ok := e.packetOk n
  let clean := fun (e : Eaves) => ((e.onSlow n SlowSt.noPacket).slSet n SLOT_PK_CTL_FLUSH_PEND 0).slotEnded n
  let alt := fun (e : Eaves) => if s.linEvent then e.linAlt n else e
  if e.sl n SLOT_PK_CTL_FLUSH_PEND = 1 then f.onE clean
  else if s.err ≠ 0 then f.onE (fun e => clean (alt (e.sbDiscard n s.err)))
  else if ok = false then f.onE (fun e => clean (alt (e.sbDiscard n 4)))
  else if got.length ≠ s.raw.length then f.onE (fun e => (clean (e.sbDiscard n 256)).info (256 + n))
  else
    match unit with
    | none => f.onE (fun e => clean (e.slInc n SLOT_RX_NOMATCH))
    | some (rid, ty, info) =>
      let sh := { Shingle.mk0 ty e.counter n (e.genOf n) got with rid := rid, info := info }
      (f.onE clean).deliver sh (·.slInc n SLOT_RX_OK)

/-- A character on a SERIAL or J1708 slot (R134, R135, R138, R150): `stage` is what the packer's stages make of it. R134 does
not say whether a character equal to DELIM that carries a framing or parity error ends the packet: DESIGN CHOICE, it does not (log entry
86). -/
def serialChar (f : Field) (n : Nat) (b : Byte) (stage : Option Byte) (mark framing parity : Bool) : Field :=
  let e := f.e
  let marks := e.pers n = 5 && e.sbCfg n SLOT_SB_CFG_DATABITS = 2
  let bad := (if framing then 1 else 0) + (if parity then 2 else 0)
  let e := if marks && mark && (e.slot n).slow.inPkt then (e.sbDiscard n 128).onSlow n SlowSt.noPacket else e
  if marks && !mark && !(e.slot n).slow.inPkt then { f with e := e.sbFlags n 128 }
  else
    let seven := fun (x : Byte) => if e.pers n = 5 ∧ e.sbCfg n SLOT_SB_CFG_DATABITS = 0 then x &&& 0x7F else x
    let e := e.onSlow n (fun s =>
      let s := if s.inPkt then s else { s with inPkt := true, marked := marks && mark }
      let s := { s with raw := s.raw ++ [seven b], err := s.err ||| bad }
      match stage with
      | some x => if bad = 0 then s.push (seven x) else s
      | none => s)
    let f := { f with e := e }
    let bd := e.sbFrame n SLOT_SB_FRAME_BOUNDARY
    if bd = 1 ∧ bad = 0 ∧ (seven b).toNat = e.sbFrame n SLOT_SB_FRAME_DELIM then slowClose f n 1
    else if e.sbFrame n SLOT_SB_FRAME_MAXLEN ≤ (e.slot n).slow.raw.length then
      if bd = 2 then slowClose f n 2
      else if e.pers n = 6 then slowClose (f.onE (·.onSlow n (fun s => { s with err := s.err ||| 64 }))) n 3
      else slowClose f n 3
    else f

end Sys2Proof.Machine

namespace Sys2Proof

/-! LIN frames and schedules. -/

/-- TFrame_Maximum of the frame under way in ns (R143): 1.4 times 34 + 10 (LEN + 1) bits of its bit time. -/
def Eaves.linFrameMax (e : Eaves) (n fid : Nat) : Nat :=
  14 * (34 + 10 * (linLen e.live n fid + 1)) * (e.slot n).slow.bitDiv * 25 / 320

/-- A frame whose break began at `start` and whose bit time is `div`; a commander drives its header, break and delimiter, sync byte and
PID, until the end of it (R143). -/
def Eaves.linHeader (e : Eaves) (n start div : Nat) : Eaves :=
  let drive := if e.sl n SLOT_LIN_CFG_COMMANDER = 1 then bitsNs div (e.sl n SLOT_LIN_CFG_BREAK_LEN + e.sl n SLOT_LIN_CFG_BDEL_LEN + 20) else 0
  e.onSlow n (fun s => { s with linStart := start, bitDiv := div, headEnd := start + drive })

/-- The response of a frame is received: the PID is its first byte. -/
def Eaves.linExpect (e : Eaves) (n fid : Nat) (event : Bool) : Eaves :=
  e.onSlow n (fun s =>
    let p := BitVec.ofNat 8 (linPid fid)
    { s.noPacket with raw := [p], stages := [p], inPkt := true, linFid := some fid, linSub := true, linEvent := event })

/-- A subscribed response is not complete in time (R143, R144). No byte at all counts as NORESP, which an SRF entry does not count. -/
def Eaves.linLate (e : Eaves) (n : Nat) (srf : Bool) : Eaves :=
  let s := (e.slot n).slow
  let none := s.raw.length ≤ 1 && s.err = 0
  let e := if e.sl n SLOT_PK_CTL_FLUSH_PEND = 1 then e.slSet n SLOT_PK_CTL_FLUSH_PEND 0
    else if none then (if srf then e else (e.sbFlags n 16).slInc n SLOT_SB_NORESP)
    else
      let e := e.sbDiscard n s.err
      if s.linEvent then e.linAlt n else e
  (e.onSlow n SlowSt.noPacket).slotEnded n

/-- Whether the schedule entry that runs is an SRF entry of a commander (R144). -/
def Eaves.linSrf (e : Eaves) (n : Nat) : Bool :=
  e.sl n SLOT_LIN_CFG_COMMANDER = 1 &&
    (schedTable e.live n (e.sl n SLOT_LIN_SCHED_CUR))[e.sl n SLOT_LIN_SCHED_ENTRY]?.elim false (fun x => x.u 1 1 = 4)

/-- Whether TFrame_Maximum of the frame under way has passed (R143). -/
def Eaves.linOver (e : Eaves) (n fid : Nat) : Bool := decide ((e.slot n).slow.linStart + e.linFrameMax n fid ≤ e.steady e.counter)

/-- A response or frame that the slot sends: data with its checksum (R143). -/
def linMsg (t : Truss) (n fid : Nat) (data : List Byte) : SlowMsg :=
  ⟨data ++ leBytes 1 (linSum (linEnh t n fid) fid data), fid, 0, false, 0, 0, 0, 0, true⟩

/-- A message committed on the bus. -/
def Eaves.linSend (e : Eaves) (n : Nat) (m : SlowMsg) : Eaves :=
  (e.onSlow n (fun s => { s with txq := [m] })).slSet n SLOT_STAT_TX_ACTIVE 1

/-- Whether content is past its age limit (R116, R145). -/
def tooOldAt (now ts age : Nat) : Bool := decide (ts + age * 1000000 < now)

/-- What is past its age limit in a slow slot is dropped with cause AGE (R145, R148). -/
def Eaves.slowAge (e : Eaves) (n : Nat) : Eaves :=
  let s := (e.slot n).slow
  let now := e.steady e.counter
  let oldM := s.txq.filter (fun m => !m.committed && tooOldAt now m.ts m.age)
  let oldP := s.pub.filter (fun x => tooOldAt now x.2.ts x.2.age)
  let oldD := s.diag.filter (fun x => tooOldAt now x.ts x.age)
  let e := e.onSlow n (fun s => { s with
    txq := s.txq.filter (fun m => m.committed || !tooOldAt now m.ts m.age)
    pub := s.pub.filter (fun x => !tooOldAt now x.2.ts x.2.age)
    diag := s.diag.filter (fun x => !tooOldAt now x.ts x.age) })
  e.txDrops n 2 (oldM.map (·.id) ++ oldP.map (·.1) ++ oldD.map (fun _ => 60))

/-- The publish buffer of a FID. -/
def SlowSt.pubOf (s : SlowSt) (fid : Nat) : Option PubBuf := (s.pub.find? (fun x => x.1 = fid)).map (·.2)

/-- The response of a FID sent from its publish buffer (R145). -/
def Eaves.linPublish (e : Eaves) (n fid : Nat) : Eaves :=
  match (e.slot n).slow.pubOf fid with
  | none => e
  | some p =>
    let e := e.onSlow n (fun s => { s with pub := s.pub.map (fun x => if x.1 = fid then (fid, { p with updated := false }) else x) })
    e.linSend n (linMsg e.live n fid p.data)

/-- A commander's entry begins (R144): the header of its frame and what follows it. A FID with DIR NONE is never scheduled, and one with
DIR IGNORE has its header sent and its response ignored (R142). -/
def Eaves.linEntry (e : Eaves) (n : Nat) : Eaves :=
  let cur := e.sl n SLOT_LIN_SCHED_CUR
  let ent := e.sl n SLOT_LIN_SCHED_ENTRY
  let now := e.steady e.counter
  let e := e.onSlow n (fun s => { s.noPacket with
    running := true, linStart := now, txq := s.txq.filter (fun m => !m.committed) })
  let e := (e.slSet n SLOT_STAT_TX_ACTIVE 0).slowAge n
  match (schedTable e.live n cur)[ent]? with
  | none => e.onSlow n (fun s => { s with running := false })
  | some x =>
    let fid := x.u 2 1 % 64
    let s := (e.slot n).slow
    let head := fun (e : Eaves) => e.linHeader n now (e.sbCfg n SLOT_SB_CFG_BAUD_DIV)
    if e.slowDrives n = false then e
    else if x.u 1 1 ≤ 1 then
      if linDir e.live n fid = 1 then (if (s.pubOf fid).isSome then (head e).linPublish n fid else e)
      else if linDir e.live n fid = 2 then (head e).linExpect n fid (x.u 1 1 = 1)
      else if linDir e.live n fid = 3 then head e
      else e
    else if x.u 1 1 = 2 then
      match [x.u 5 1, x.u 6 1, x.u 7 1].find? (fun k => k < 64 && (s.pubOf k).elim false (·.updated)) with
      | some k => (head e).linPublish n k
      | none => e
    else if x.u 1 1 = 3 then
      match s.diag with
      | d :: rest => ((head e).onSlow n (fun s => { s with diag := rest })).linSend n (linMsg e.live n 60 d.data)
      | [] => e
    else if x.u 1 1 = 4 then (head e).linExpect n 61 false
    else e

/-- The entry that runs has lasted its DELAY (R144). -/
def Eaves.linEntryOver (e : Eaves) (n : Nat) : Bool :=
  let s := (e.slot n).slow
  if s.running then
    match (schedTable e.live n (e.sl n SLOT_LIN_SCHED_CUR))[e.sl n SLOT_LIN_SCHED_ENTRY]? with
    | some x => decide (s.linStart + x.u 3 1 * 1000000 ≤ e.steady e.counter)
    | none => true
  else true

/-- Go-to-sleep (R146): FID 60 with 0x00 and seven 0xFF bytes; the schedule stops. -/
def Eaves.linGoSleep (e : Eaves) (n : Nat) : Eaves :=
  let e := e.onSlow n (fun s => { s.noPacket with sleepPend := false, running := false, altPend := none, altRet := [],
                                                  txq := s.txq.filter (fun m => !m.committed) })
  let e := if e.slowDrives n then (e.linHeader n (e.steady e.counter) (e.sbCfg n SLOT_SB_CFG_BAUD_DIV)).linSend n (linMsg e.live n 60 (0x00 :: List.replicate 7 0xFF)) else e
  e.slSet n SLOT_LIN_SCHED_ASLEEP 1

/-- Where the schedule goes on at the end of a table ALT (R144), and what is left to resume: the entry after the one that was interrupted,
or the first entry of the outermost table. -/
def linResume (t : Truss) (n : Nat) : List (Nat × Nat) → Option ((Nat × Nat) × List (Nat × Nat))
  | [] => none
  | (tab, i) :: rest =>
    if i < (schedTable t n tab).length then some ((tab, i), rest) else if rest = [] then some ((tab, 0), []) else linResume t n rest

/-- The next entry of a commander's schedule (R144, R146): a pending GOSLEEP, a requested table, table ALT, or the entry that follows. An ALT
that names a table without entries has run as soon as it starts. -/
def Eaves.linNext (e : Eaves) (n : Nat) : Eaves :=
  let e := if (e.slot n).slow.linFid.isSome then e.linLate n (e.linSrf n) else e
  let s := (e.slot n).slow
  let at' := fun (e : Eaves) (tab ent : Nat) => (e.slSet n SLOT_LIN_SCHED_CUR tab).slSet n SLOT_LIN_SCHED_ENTRY ent
  let resume := fun (e : Eaves) (cur : Nat) =>
    match linResume e.live n s.altRet with
    | some ((t, i), rest) => at' (e.onSlow n (fun s => { s with altPend := none, altRet := rest })) t i
    | none => at' e cur 0
  if s.sleepPend then e.linGoSleep n
  else
    let cur := e.sl n SLOT_LIN_SCHED_CUR
    let nx := e.sl n SLOT_LIN_SCHED_ENTRY + 1
    let e :=
      if s.reqPend then
        at' (e.onSlow n (fun s => { s with reqPend := false, altPend := none, altRet := [] })) (e.sl n SLOT_LIN_SCHED_REQ) 0
      else match s.altPend with
        | some t => if schedTable e.live n t = [] then resume e cur else at' (e.onSlow n (fun s => { s with altPend := none })) t 0
        | none =>
          if !s.running then e
          else if nx < (schedTable e.live n cur).length then at' e cur nx
          else resume e cur
    e.linEntry n

/-! Transmission. -/

/-- FID, PRIO and MARK of a slow unit's metadata (R136). -/
def Shingle.fid (s : Shingle) : Nat := bits s.m0 5 0
/-- PRIO of a J1708 message: 1-8, else 8. -/
def Shingle.prio (s : Shingle) : Nat := let p := bits s.m0 59 56; if 1 ≤ p ∧ p ≤ 8 then p else 8

/-- A LIN candidate (R145). -/
def Eaves.linTake (e : Eaves) (n : Nat) (cd : Cand) : Eaves :=
  let u := cd.unit
  let fid := u.fid
  let cmd := e.sl n SLOT_LIN_CFG_COMMANDER = 1
  if cd.gen ≠ e.genOf n then e.txDrop n 5 fid
  else if e.slotState n ≠ 3 ∨ e.opmode n ≠ 0 ∨ (e.slot n).can.stopping = true then e.txDrop n 6 fid
  else if u.utype ≠ .lin then e.txDrop n 7 fid
  else
    let b : PubBuf := ⟨u.body, true, u.ts, u.ageMs⟩
    if fid = 60 ∧ cmd then
      if u.body.length ≠ 8 then e.txDrop n 7 fid
      else if 4 ≤ (e.slot n).slow.diag.length then e.txDrop n 3 fid
      else e.onSlow n (fun s => { s with diag := s.diag ++ [b] })
    else if linDir e.live n fid ≠ 1 ∨ u.body.length ≠ linLen e.live n fid then e.txDrop n 7 fid
    else e.onSlow n (fun s => { s with pub := sins fid b (sdel fid s.pub) })

/-- A message inserted in sending order: after committed ones and those of no lower priority (R148). -/
def insMsg (m : SlowMsg) : List SlowMsg → List SlowMsg
  | [] => [m]
  | x :: xs => if x.committed || decide (x.prio ≤ m.prio) then x :: insMsg m xs else m :: x :: xs

/-- A message whose attempt collided back in its place: before those of its priority, which came after it (R148, R149). -/
def insBack (m : SlowMsg) : List SlowMsg → List SlowMsg
  | [] => [m]
  | x :: xs => if x.prio < m.prio then x :: insBack m xs else m :: x :: xs

/-- The queue cut to 16 messages and 2 KiB from its end, and the messages cut (R148). -/
def cutQueue : Nat → List SlowMsg → List SlowMsg × List SlowMsg
  | 0, q => (q, [])
  | k + 1, q =>
    if q.length ≤ 16 ∧ (q.flatMap (·.bytes)).length ≤ 2048 then (q, [])
    else
      match q.getLast? with
      | none => (q, [])
      | some m => if m.committed then (q, []) else let (r, d) := cutQueue k q.dropLast; (r, m :: d)

/-- A SERIAL slot starts its next message as soon as its line is free (R148). -/
def Eaves.serialStart (e : Eaves) (n : Nat) : Eaves :=
  if e.pers n = 5 ∧ e.slowDrives n = true ∧ (e.slot n).slow.gapWait = false ∧ e.slowSending n = false then
    let e := e.slowAge n
    match (e.slot n).slow.txq with
    | m :: ms => (e.onSlow n (fun s => { s with txq := { m with committed := true } :: ms })).slSet n SLOT_STAT_TX_ACTIVE 1
    | [] => e
  else e

/-- A SERIAL or J1708 candidate (R148): the slot appends the check bytes. -/
def Eaves.serialTake (e : Eaves) (n : Nat) (cd : Cand) : Eaves :=
  let u := cd.unit
  let j := e.pers n = 6
  let id := bytesAt u.body 0 1
  let chk := if j then 1 else e.sbCfg n SLOT_SB_CFG_CHECK
  let bytes := u.body ++ checkBytes chk u.body
  let most := if j then e.sbFrame n SLOT_SB_FRAME_MAXLEN else 2048
  if cd.gen ≠ e.genOf n then e.txDrop n 5 id
  else if e.slotState n ≠ 3 ∨ e.opmode n ≠ 0 ∨ (e.slot n).can.stopping = true then e.txDrop n 6 id
  else if u.utype ≠ .serial ∨ u.body = [] ∨ most < bytes.length then e.txDrop n 7 id
  else
    let m : SlowMsg := ⟨bytes, id, if j then u.prio else 0, bit u.m0 63, u.ts, u.ageMs, 0, 0, false⟩
    let (q, cut) := cutQueue 17 (insMsg m (e.slot n).slow.txq)
    let e := (e.onSlow n (fun s => { s with txq := q })).txDrops n 3 (cut.map (·.id))
    e.serialStart n

/-- The message on the bus ends or goes: `g` says what becomes of the queue. -/
def Eaves.slowOffBus (e : Eaves) (n : Nat) (g : List SlowMsg → List SlowMsg) : Eaves :=
  ((e.onSlow n (fun s => { s with txq := g s.txq })).slSet n SLOT_STAT_TX_ACTIVE 0).slotEnded n

/-- A character that the slot sends ends, and reads back as `back` (R148, R149). -/
def Eaves.charSent (e : Eaves) (n : Nat) (back : Byte) (framing : Bool) : Eaves :=
  match (e.slot n).slow.txq with
  | m :: rest =>
    if !m.committed then e
    else
      let wrong := framing || decide (m.bytes[m.sent]? ≠ some back)
      if wrong && e.pers n = 6 then
        let e := (e.sbFlags n 32).slInc n SLOT_SB_COLL
        let spent := match retryLimit (e.sl n SLOT_SB_TX_RETRY_LIMIT) with
          | some k => decide (k < m.attempts + 1)
          | none => false
        if (e.slot n).can.stopping then (e.slowOffBus n (fun _ => rest)).txDrop n 6 m.id
        else if spent then (e.slowOffBus n (fun _ => rest)).txDrop n 1 m.id
        else e.slowOffBus n (fun _ => insBack { m with attempts := m.attempts + 1, sent := 0, committed := false } rest)
      else if wrong && e.pers n = 4 then e.slowOffBus n (fun _ => rest)
      else if m.sent + 1 < m.bytes.length then e.onSlow n (fun s => { s with txq := { m with sent := m.sent + 1 } :: rest })
      else
        let e := (e.slowOffBus n (fun _ => rest)).slInc n SLOT_TX_OK
        if e.pers n = 5 then e.onSlow n (fun s => { s with gapWait := true }) else e
  | [] => e

end Sys2Proof

namespace Sys2Proof.Machine

/-- A character of a LIN response (R142, R143): a subscribed frame ends at the stop bit of its checksum byte, and one
that is complete after TFrame_Maximum is discarded. -/
def linChar (f : Field) (n : Nat) (b : Byte) (stage : Option Byte) (framing : Bool) : Field :=
  match (f.e.slot n).slow.linFid with
  | none => f
  | some fid =>
    let f := f.onE (·.onSlow n (fun s =>
      let s := { s with raw := s.raw ++ [b], err := if framing then s.err ||| 1 else s.err }
      match stage with
      | some x => if framing then s else s.push x
      | none => s))
    if linLen f.e.live n fid + 2 ≤ (f.e.slot n).slow.raw.length then
      (if f.e.linOver n fid then f.onE (fun e => e.linLate n (e.linSrf n)) else slowClose f n 0)
    else f

end Sys2Proof.Machine
end

