-- ==== Sys2Proof/Machine/Slow.lean ====
section
/-!
DEFINITION. The events of LIN, SERIAL and J1708 slots (R131-R151), one meaning for each.
-/

namespace Sys2Proof.Machine

/-- A character accepted on a slow slot: a slot never receives its own. -/
def slowChar (f : Field) (n : Nat) (b : Byte) (stage : Option Byte) (mark framing parity : Bool) : Field :=
  if f.e.slowLive n = false ∨ f.e.slowSending n = true then f
  else if f.e.pers n = 4 then linChar f n b stage framing
  else serialChar f n b stage mark framing parity

/-- CHARACTER_RECEIVED (R138): `stage` is the byte that leaves the packer's stages, none where it is lost in them (R140). -/
def execCharacterReceived (n : Fin 128) (b : Byte) (stage : Option Byte) (mark framing parity : Bool) (dt : Nat) (s : State) :
    Host.Outcome State Fault Refusal :=
  s.ok (slowChar (s.f.onE (·.at dt)) n.val b stage mark framing parity)

/-- PACKET_BOUNDARY (R134): the GAP-th idle character. -/
def execPacketBoundary (n : Fin 128) (dt : Nat) (s : State) : Host.Outcome State Fault Refusal :=
  let f := s.f.onE (·.at dt)
  s.ok (if f.e.slowLive n.val = true ∧ f.e.pers n.val ≠ 4 ∧ (f.e.slot n.val).slow.inPkt = true then slowClose f n.val 0 else f)

/-- A write of FLUSH (R139): at the boundary of the packet in progress, or at once where there is none. -/
def packerFlush (e : Eaves) (n : Nat) : Eaves :=
  if e.isSlow n && (e.slot n).slow.inPkt then e.slSet n SLOT_PK_CTL_FLUSH_PEND 1 else e

/-- PACKER_FLUSH (R139). -/
def execPackerFlush (n : Fin 128) (s : State) : Host.Outcome State Fault Refusal :=
  s.ok (if s.f.e.mode = .safe then s.f else s.f.onE (packerFlush · n.val))

/-- A LIN commander in operation. -/
def linCommander (e : Eaves) (n : Nat) : Bool := e.slowLive n && e.pers n = 4 && e.sl n SLOT_LIN_CFG_COMMANDER = 1

/-- LIN_SCHEDULE_ENTRY (R144, R146): the entry that runs has lasted its DELAY. -/
def execLinScheduleEntry (n : Fin 128) (dt : Nat) (s : State) : Host.Outcome State Fault Refusal :=
  s.ok (s.f.onE (fun e =>
    let e := e.at dt
    if linCommander e n.val = true ∧ e.sl n.val SLOT_LIN_SCHED_ASLEEP = 0 ∧ (e.slot n.val).slow.pulseEnd.isNone = true ∧
        e.linEntryOver n.val = true then e.linNext n.val
    else e))

/-- LIN_RESPONSE_TIMEOUT (R143): TFrame_Maximum since the break. -/
def execLinResponseTimeout (n : Fin 128) (dt : Nat) (s : State) : Host.Outcome State Fault Refusal :=
  s.ok (s.f.onE (fun e =>
    let e := e.at dt
    match (e.slot n.val).slow.linFid with
    | some fid => if e.slowLive n.val = true ∧ e.linOver n.val fid = true then e.linLate n.val (e.linSrf n.val) else e
    | none => e))

/-- Whether a measured bit time lies within 14 % of the nominal one (R143). -/
def syncOk (measured nominal : Nat) : Bool := decide (86 * nominal ≤ 100 * measured ∧ 100 * measured ≤ 114 * nominal)

/-- LIN_BREAK_DETECTED (R143): a responder reads the header; the bit time measured in the sync field serves for the frame if it is within
14 % of nominal. A PID whose parity bits are wrong is
ignored with a parity error (ISO 17987). -/
def execLinBreakDetected (n : Fin 128) (pid : Byte) (sync : LinSync) (dt : Nat) (s : State) : Host.Outcome State Fault Refusal :=
  s.ok (s.f.onE (fun e =>
    let e := e.at dt
    let k := n.val
    if e.slowLive k = true ∧ e.pers k = 4 ∧ e.sl k SLOT_LIN_CFG_COMMANDER = 0 ∧ e.slowSending k = false then
      let e := if (e.slot k).slow.linFid.isSome then e.linLate k false else e
      let fid := pid.toNat % 64
      if syncOk sync.bit (e.sbCfg k SLOT_SB_CFG_BAUD_DIV) = false then e.sbDiscard k 8
      else if linPid fid ≠ pid.toNat then e.sbDiscard k 2
      else
        let e := e.linHeader k (e.steady e.counter - sync.ago) sync.bit
        if linDir e.live k fid = 1 then (if e.slowDrives k then (e.slowAge k).linPublish k fid else e)
        else if linDir e.live k fid = 2 then e.linExpect k fid false
        else e
    else e))

/-- LIN_PUBLISH_UPDATE (R145): the next LIN candidate at the slot. -/
def execLinPublishUpdate (n : Fin 128) (s : State) : Host.Outcome State Fault Refusal :=
  if s.f.e.pers n.val ≠ 4 then s.ok s.f
  else
    match s.f.e.takeStage n.val with
    | some (c, e) => s.ok { s.f with e := e.linTake n.val c }
    | none => s.ok s.f

end Sys2Proof.Machine

namespace Sys2Proof

/-- A plane issues a write of SLOT_LIN_SCHED of a LIN commander (R146, R481): GOSLEEP puts the cluster to sleep as the plane knows it, and WAKE
to a sleeping one is a keep-alive of identity NONE at this position. -/
def Plane.linIssued (p : Plane) (a : Nat) (v : Word) : Plane :=
  let n := (a - 0x100000) / 0x1000
  let r := slotRec p.truss n
  if ¬ (0x100000 ≤ a ∧ a < 0x180000 ∧ a % 0x1000 = SLOT_LIN_SCHED) ∨ r.u 0 1 ≠ 4 ∨ r.f 1 4 4 = 0 then p
  else
    let was := (sget (fun _ => BusModel.init) p.bus n).asleep
    let wakes := was && bit v.toNat 30
    let p := if wakes then p.keepAlive n 0 0 0xFFFF else p
    { p with bus := supd (fun _ => BusModel.init) p.bus n (fun b => { b with asleep := bit v.toNat 31 || (was && !wakes) }) }

end Sys2Proof

namespace Sys2Proof.Machine

/-- A write of GOSLEEP (R146): it acts at the end of the current entry. -/
def linGoSleepReq (e : Eaves) (n : Nat) : Eaves :=
  if linCommander e n = true ∧ e.sl n SLOT_LIN_SCHED_ASLEEP = 0 then e.onSlow n (fun s => { s with sleepPend := true }) else e

/-- LIN_GOSLEEP (R146). -/
def execLinGosleep (n : Fin 128) (s : State) : Host.Outcome State Fault Refusal :=
  s.ok (if s.f.e.mode = .safe then s.f else
    (s.f.onE (linGoSleepReq · n.val)).onTaking (·.linIssued (slotBase n.val + SLOT_LIN_SCHED) (BitVec.ofNat 32 (2 ^ 31))))

/-- A wake of the cluster: the schedule starts 100 ms after the pulse's end (R146). -/
def linAwaken (e : Eaves) (n stop : Nat) : Eaves :=
  (e.onSlow n (fun s => { s with pulseEnd := some stop })).slSet n SLOT_LIN_SCHED_ASLEEP 0

/-- A write of WAKE (R146): a 1 ms pulse, unless the slot may not drive its line (R131). -/
def linWakeReq (f : Field) (n : Nat) : Field :=
  if linCommander f.e n = true ∧ f.e.slowDrives n = true ∧ f.e.sl n SLOT_LIN_SCHED_ASLEEP = 1 then
    f.onE (fun e => linAwaken e n (e.steady e.counter + 1000000))
  else f

/-- LIN_WAKE (R146, R481). -/
def execLinWake (n : Fin 128) (dt : Nat) (s : State) : Host.Outcome State Fault Refusal :=
  let f := s.f.onE (·.at dt)
  s.ok (if f.e.mode = .safe then f else
    (linWakeReq f n.val).onTaking (·.linIssued (slotBase n.val + SLOT_LIN_SCHED) (BitVec.ofNat 32 (2 ^ 30))))

/-- LIN_WAKE_PULSE (R146, R458, R481): a dominant pulse of `width` ns has ended. On a WAKE_ONLY slot it wakes the device; otherwise
CTRL WAKE carries NOT_DEVICE. -/
def execLinWakePulse (n : Fin 128) (width dt : Nat) (s : State) : Host.Outcome State Fault Refusal :=
  let f := s.f.onE (·.at dt)
  let e := f.e
  if linCommander e n.val = true ∧ e.sl n.val SLOT_LIN_SCHED_ASLEEP = 1 ∧ 150000 ≤ width ∧ width ≤ 5000000 then
    let f := f.onE (fun e => linAwaken e n.val (e.steady e.counter))
    s.ok (if e.wakeOnly n.val then registerWake f s.otpA s.otpB 9 n.val
      else f.onE (fun e => e.ctrl 256 (ctrlWake 9 1 n.val 0 e.counter)))
  else s.ok f

/-- LIN_SCHEDULE_RESUME (R146): table 0 starts. -/
def execLinScheduleResume (n : Fin 128) (dt : Nat) (s : State) : Host.Outcome State Fault Refusal :=
  s.ok (s.f.onE (fun e =>
    let e := e.at dt
    match (e.slot n.val).slow.pulseEnd with
    | some t =>
      if t + 100000000 ≤ e.steady e.counter then
        let e := e.onSlow n.val (fun s => { s with pulseEnd := none, running := false })
        ((e.slSet n.val SLOT_LIN_SCHED_CUR 0).slSet n.val SLOT_LIN_SCHED_ENTRY 0).linEntry n.val
      else e
    | none => e))

/-- SLOW_TX_CANDIDATE (R148): the next candidate at a SERIAL or J1708 slot. -/
def execSlowTxCandidate (n : Fin 128) (dt : Nat) (s : State) : Host.Outcome State Fault Refusal :=
  let e := s.f.e.at dt
  if e.pers n.val = 5 ∨ e.pers n.val = 6 then
    match e.takeStage n.val with
    | some (c, e) => s.ok { s.f with e := e.serialTake n.val c }
    | none => s.ok { s.f with e := e }
  else s.ok { s.f with e := e }

/-- SLOW_TX_AGE_EXPIRE (R145, R148): uncommitted messages and buffer contents past their limits. -/
def execSlowTxAgeExpire (n : Fin 128) (dt : Nat) (s : State) : Host.Outcome State Fault Refusal :=
  s.ok (s.f.onE (fun e => (e.at dt).slowAge n.val))

/-- J1708_ACCESS (R149): the bus has been idle for `idle` bit times. -/
def execJ1708Access (n : Fin 128) (idle dt : Nat) (s : State) : Host.Outcome State Fault Refusal :=
  s.ok (s.f.onE (fun e =>
    let e := (e.at dt).slowAge n.val
    match (e.slot n.val).slow.txq with
    | m :: ms =>
      if e.pers n.val = 6 ∧ e.slowDrives n.val = true ∧ m.committed = false ∧ (e.slot n.val).slow.inPkt = false ∧
          12 + 2 * m.prio ≤ idle then
        (e.onSlow n.val (fun s => { s with txq := { m with committed := true } :: ms })).slSet n.val SLOT_STAT_TX_ACTIVE 1
      else e
    | [] => e))

/-- SLOW_CHAR_SENT (R149): the character is read back as `back`, or with a framing error. -/
def execSlowCharSent (n : Fin 128) (back : Byte) (framing : Bool) (dt : Nat) (s : State) : Host.Outcome State Fault Refusal :=
  s.ok (s.f.onE (fun e => (e.at dt).charSent n.val back framing))

/-- SERIAL_GAP_END (R148): GAP idle characters after a message. -/
def execSerialGapEnd (n : Fin 128) (dt : Nat) (s : State) : Host.Outcome State Fault Refusal :=
  s.ok (s.f.onE (fun e =>
    let e := e.at dt
    if e.pers n.val = 5 ∧ (e.slot n.val).slow.gapWait = true then
      (e.onSlow n.val (fun s => { s with gapWait := false })).serialStart n.val
    else e))

end Sys2Proof.Machine
end

