-- ==== Sys2Proof/Machine/FwdTab.lean ====
section
/-!
DEFINITION. A plane's forwarding tables as shared operations: entries and where the truss puts them (R198, R204-R223, R253-R274), the
MAC table and learning notices (R207-R214), prefixes (R216, R217), tenants (R252-R261).
-/

namespace Sys2Proof

/-! Tables by number: 1-15 as in R224; 17 CONTEXT, 19 POLICER, 20 GOVPORT, 21 CHARGE as R273's tables 1, 3, 4, 5 (16 + n). -/

/-- The key of entry `i` of table `t`. -/
def tkey (t i : Nat) : Nat := t * 2 ^ 20 + i

/-- What an unlisted entry reads: a GOVPORT entry has TARGET 700 and HYST 50 (R274), a CHARGE entry no tenant (R273). -/
def tabDef (key : Nat) : Rec :=
  if key / 2 ^ 20 = 20 then ((0 : Rec).put 2 2 700).put 4 2 50 else if key / 2 ^ 20 = 21 then (0 : Rec).put 0 2 0xFFFF else 0

/-- Entry `i` of table `t`. -/
def Plane.tget (p : Plane) (t i : Nat) : Rec := sget tabDef p.fwd.tab (tkey t i)

/-- Entry `i` of table `t` as a lookup reads it: an entry with an uncorrectable error is a miss (R221). -/
def Plane.tsee (p : Plane) (t i : Nat) : Rec := if p.fwd.bad.contains (tkey t i) then 0 else p.tget t i

/-- A lookup has read these entries of table `t`: one with an error is a fault of the plane (R221). -/
def Plane.meets (p : Plane) (t : Nat) (is : List Nat) : Plane :=
  if is.any (fun i => p.fwd.bad.contains (tkey t i)) then p.onFwd (fun f => { f with metBad := true }) else p

/-- Entry `i` of table `t` written in one update (R199), with its check bits; the scrubber's partner keeps old values for four ticks (R221). -/
def Plane.tput (p : Plane) (t i : Nat) (v : Rec) : Plane :=
  p.onFwd (fun f => { f with
    tab := sput tabDef f.tab (tkey t i) v
    bad := f.bad.filter (· ≠ tkey t i)
    old := f.old.filter (fun o => p.st.tick < o.1 + 4) ++ [(p.st.tick, tkey t i, sget tabDef f.tab (tkey t i))] })

/-- Entry `i` of table `t` changed. -/
def Plane.tupd (p : Plane) (t i : Nat) (g : Rec → Rec) : Plane := p.tput t i (g (p.tget t i))

/-- The listed entries of table `t`, by index, lowest first. -/
def Plane.tlist (p : Plane) (t : Nat) : List (Nat × Rec) :=
  p.fwd.tab.filterMap (fun e => if e.1 / 2 ^ 20 = t then some (e.1 % 2 ^ 20, e.2) else none)

/-! Hashes (R207, R216). -/

/-- An address with the bits beyond `len` set to 0. -/
def lpmMask (w len a : Nat) : Nat := a / 2 ^ (w - len) * 2 ^ (w - len)

/-- A record with `n` bytes at `off` replaced in network order. -/
def Rec.putBe (r : Rec) (off n v : Nat) : Rec := r.put off n (leNat (beBytes n v))

/-! MAC entries. -/

/-- The entry is VALID. -/
def macValid (r : Rec) : Bool := r.f 14 0 0 = 1
/-- The entry is STATIC. -/
def macStatic (r : Rec) : Bool := r.f 14 1 1 = 1
/-- A learned entry. -/
def macLearned (r : Rec) : Bool := macValid r && !macStatic r
/-- Whether an entry holds a key. -/
def macHas (r : Rec) (fid mac : Nat) : Bool := macValid r && r.u 6 2 = fid && r.be 0 6 = mac

/-- A MAC entry. -/
def macEntry (mac fid ver target flags age : Nat) : Rec :=
  ((((((0 : Rec).putBe 0 6 mac).put 6 2 fid).put 8 4 ver).put 12 2 target).put 14 1 flags).put 15 1 age

/-- TBL_MAC_SEED. -/
def Plane.macSeed (p : Plane) : Nat := (p.regs.rd TBL_MAC_SEED).toNat

/-- The eight ways of a key's bucket (R207). -/
def Plane.macWays (p : Plane) (fid mac : Nat) : List Nat := (List.range 8).map (macBucket p.macSeed fid mac * 8 + ·)

/-- The index of the entry that holds a key: the lowest way (R207, R220). -/
def Plane.macFind (p : Plane) (fid mac : Nat) : Option Nat := (p.macWays fid mac).find? (fun i => macHas (p.tget 4 i) fid mac)

/-- The entry that a lookup finds under a key (R221). -/
def Plane.macSee (p : Plane) (fid mac : Nat) : Option Rec := ((p.macWays fid mac).map (p.tsee 4)).find? (fun r => macHas r fid mac)

/-- The lowest free way of a key's bucket (R207). -/
def Plane.macFree (p : Plane) (fid mac : Nat) : Option Nat :=
  (p.macWays fid mac).find? (fun i => !macValid (p.tget 4 i))

/-- Learned entries held against a port. -/
def Plane.macCount (p : Plane) (port : Nat) : Nat := ((p.tlist 4).filter (fun e => macLearned e.2 && e.2.u 12 2 = port)).length

/-- Learned entries held against a port at the last applied TICK (R212). -/
def Plane.countAt (p : Plane) (port : Nat) : Nat := sget (fun _ => 0) p.fwd.counts port

/-- What the next interval's candidates are decided against (R210, R212): the counts as they stand, and no entry removed since. -/
def Plane.countPorts (p : Plane) : Plane :=
  p.onFwd (fun f => { f with
    counts := (List.range 48).foldl (fun l k => sput (fun _ => 0) l (128 + k) (p.macCount (128 + k))) []
    flushed := [] })

/-- Valid MAC entries (TBL_MAC_USED). -/
def Plane.macUsed (p : Plane) : Nat := ((p.tlist 4).filter (fun e => macValid e.2)).length

/-- The tenant charged for a MAC entry (R264). -/
def Plane.chargeOf (p : Plane) (i : Nat) : Nat := (p.tget 21 i).u 0 2

/-- A tenant's context (R253). -/
def Plane.ctx (p : Plane) (t : Nat) : Rec := p.tget 17 t

/-- A tenant's context changed. -/
def Plane.onCtx (p : Plane) (t : Nat) (g : Rec → Rec) : Plane := p.tupd 17 t g

/-- A context counter of `n` bytes counts `v`, held at its all-ones value (R52, R253). -/
def Plane.ctxAdd (p : Plane) (t off n v : Nat) : Plane := p.onCtx t (fun r => r.put off n (satAdd (8 * n) (r.u off n) v))

/-- LEARN_COUNT of a tenant (R264): entries charged to it. -/
def Plane.setLearnCount (p : Plane) (t : Nat) : Plane :=
  if t = 0xFFFF then p
  else p.onCtx t (fun r => r.put 16 4 ((p.tlist 21).filter (fun e => e.2.u 0 2 = t)).length)

/-- Whom a MAC entry is charged to, changed (R264). -/
def Plane.setCharge (p : Plane) (i t : Nat) : Plane :=
  let o := p.chargeOf i
  ((p.tput 21 i ((0 : Rec).put 0 2 t)).setLearnCount o).setLearnCount t

/-- TBL_MAC_PEAK follows the number of valid entries (R53). -/
def Plane.macPeak (p : Plane) : Plane :=
  p.onRegs (fun m => m.peak TBL_MAC_PEAK_WM_EVENT TBL_MAC_PEAK_ENTRIES (m.get 0 TBL_MAC_WM_LEVEL) p.macUsed)

/-- The next learning version (R213). -/
def Plane.nextVer (p : Plane) : Nat × Plane :=
  let v := ((p.regs.rd TBL_LEARN_VER).toNat + 1) % 2 ^ 32
  (v, p.onRegs (·.wr TBL_LEARN_VER (BitVec.ofNat 32 v)))

/-- A notice applied: kept for the comparison and sent to the other plane (R215). -/
def Plane.notice (p : Plane) (n : Notice) : Plane :=
  p.onFwd (fun f => { f with mine := f.mine ++ [n], outbox := f.outbox ++ [n] })

/-- A MAC entry freed: its charge ends, whatever the cause (R264). -/
def Plane.macFreed (p : Plane) (i : Nat) : Plane :=
  let r := p.tget 4 i
  ((p.tput 4 i 0).setCharge i 0xFFFF).onFwd (fun f => { f with flushed := f.flushed ++ [r] })

/-- An entry removed, with a REMOVE notice (R213, R214). -/
def Plane.macRemove (p : Plane) (i cause : Nat) : Plane :=
  let r := p.tget 4 i
  let (v, p) := p.nextVer
  (p.macFreed i).notice ⟨4, cause, r.u 12 2, r.u 6 2, r.be 0 6, v, p.st.tick⟩

/-- The learned entries of a port that a removal of version `v` takes (R214). -/
def Plane.flushHits (p : Plane) (port v : Nat) : List Nat :=
  ((p.tlist 4).filter (fun e => macLearned e.2 && e.2.u 12 2 = port && serialLe 32 (e.2.u 8 4) v)).map (·.1)

/-- Every learned entry of a port removed under one version, with FLUSH_PORT (R190, R213, R214). -/
def Plane.flushLearned (p : Plane) (port : Nat) : Plane :=
  let (v, p) := p.nextVer
  ((p.flushHits port v).foldl Plane.macFreed p).notice ⟨5, 2, port, 0xFFFF, 0, v, p.st.tick⟩

/-- The version counter at least at a notice's version (R213). -/
def Plane.verAt (p : Plane) (v : Nat) : Plane :=
  if serialLe 32 v (p.regs.rd TBL_LEARN_VER).toNat then p else p.onRegs (·.wr TBL_LEARN_VER (BitVec.ofNat 32 v))

/-- A notice of another copy applied (R214): a removal that is at or after the entry, a LEARN or MOVE that is after it or finds no entry; a
repeat changes nothing. The rule says nothing of a REFRESH: DESIGN CHOICE, it clears the AGE of the entry that has its version (log entry 94). -/
def Plane.applyNotice (p : Plane) (n : Notice) : Plane :=
  let p := p.verAt n.version
  if n.op = 5 then (p.flushHits n.port n.version).foldl Plane.macFreed p
  else
    match p.macFind n.fid n.mac with
    | some i =>
      let r := p.tget 4 i
      if macStatic r then p
      else if n.op = 4 then (if serialLe 32 (r.u 8 4) n.version then p.macFreed i else p)
      else if n.op = 3 then (if r.u 8 4 = n.version then p.tput 4 i (r.put 15 1 0) else p)
      else if r.u 8 4 ≠ n.version ∧ serialLe 32 (r.u 8 4) n.version = true then p.tput 4 i (macEntry n.mac n.fid n.version n.port 1 0)
      else p
    | none =>
      if n.op = 1 ∨ n.op = 2 then
        match p.macFree n.fid n.mac with
        | some i => p.tput 4 i (macEntry n.mac n.fid n.version n.port 1 0)
        | none => p
      else p

/-- The PORTLEARN entry of a port (R223). -/
def Plane.portLearn (p : Plane) (port : Nat) : Rec := p.tget 9 (port - 128)

/-- A port counter of the TABLES or SWITCH block counts. -/
def Plane.portInc (p : Plane) (reg port : Nat) : Plane := p.onRegs (·.inc (selKey port reg))

/-- Whether the port's LIMIT is reached (R211, R212). -/
def Plane.portFull (p : Plane) (port : Nat) : Bool := decide (bits ((p.portLearn port).u 0 4) 17 0 ≤ p.macCount port)

/-- A pending candidate applied at its TICK (R210, R211, R264); tenant 0xFFFF stands for a unit that left the chain before step 7. A MOVE onto
a port at its LIMIT is refused as a LEARN is, so that the table never exceeds LIMIT (R212): DEDUCED (log entry 94). -/
def Plane.applyLearn (p : Plane) (c : Learn) : Plane :=
  match p.macFind c.fid c.mac with
  | some i =>
    let r := p.tget 4 i
    if macStatic r then p
    else if r.u 12 2 = c.port then
      if r.u 15 1 = 0 then p
      else (p.tput 4 i (r.put 15 1 0)).notice ⟨3, 0, c.port, c.fid, c.mac, r.u 8 4, p.st.tick⟩
    else if p.portFull c.port then p.portInc TBL_PORT_LEARN_FAIL c.port
    else
      let (v, p) := p.nextVer
      ((((p.tput 4 i (macEntry c.mac c.fid v c.port 1 0)).setCharge i c.tenant).portInc TBL_PORT_MOVE c.port).notice
        ⟨2, 0, c.port, c.fid, c.mac, v, p.st.tick⟩)
  | none =>
    let t := p.ctx c.tenant
    let refused := decide (c.tenant ≠ 0xFFFF ∧ t.u 12 4 ≤ t.u 16 4)
    if p.portFull c.port || refused then
      let p := p.portInc TBL_PORT_LEARN_FAIL c.port
      if refused then p.ctxAdd c.tenant 116 4 1 else p
    else
      match p.macFree c.fid c.mac with
      | none => p.onRegs (·.inc TBL_BUCKET_FULL)
      | some i =>
        let (v, p) := p.nextVer
        (((p.tput 4 i (macEntry c.mac c.fid v c.port 1 0)).setCharge i c.tenant).macPeak).notice
          ⟨1, 0, c.port, c.fid, c.mac, v, p.st.tick⟩

/-- The last candidate for each key, in stream order (R211). -/
def lastCands : List Learn → List Learn
  | [] => []
  | c :: cs => if cs.any (fun d => d.fid = c.fid && d.mac = c.mac) then lastCands cs else c :: lastCands cs

/-- LEARN_APPLY at a TICK (R211). -/
def Plane.learnTick (p : Plane) : Plane :=
  let cs := lastCands p.fwd.learns
  cs.foldl Plane.applyLearn (p.onFwd (fun f => { f with learns := [] }))

/-- Whether tick `t` is an aging point (R209). -/
def Plane.agingPoint (p : Plane) (t : Nat) : Bool :=
  let a := (p.regs.rd TBL_AGE_TIME).toNat
  a ≠ 0 && t % (25000 * a) = 0

/-- An aging point (R209). -/
def Plane.ageTick (p : Plane) : Plane :=
  (p.tlist 4).foldl (fun p e =>
    if !macLearned e.2 then p
    else if 4 ≤ e.2.u 15 1 then p.macRemove e.1 1
    else p.tput 4 e.1 (e.2.put 15 1 (e.2.u 15 1 + 1))) p

/-- Version renewal (R213). -/
def Plane.renewTick (p : Plane) : Plane :=
  let v := (p.regs.rd TBL_LEARN_VER).toNat
  (p.tlist 4).foldl (fun p e =>
    if macValid e.2 && decide (2 ^ 30 < (v + 2 ^ 32 - e.2.u 8 4) % 2 ^ 32) then
      p.tput 4 e.1 (e.2.put 8 4 ((v + 2 ^ 32 - 2 ^ 30) % 2 ^ 32)) else p) p

/-! Prefixes. -/

/-- Whether an entry holds a prefix key. -/
def lpmHas (v6 : Bool) (r : Rec) (dom len key : Nat) : Bool :=
  let (_, w, o) := lpmFam v6
  r.f (o + 4) 0 0 = 1 && r.u (o + 1) 1 = dom && r.u o 1 = len && r.be 0 (w / 8) = key

/-- The eight ways of a prefix key's bucket (R216). -/
def Plane.lpmWays (p : Plane) (v6 : Bool) (dom len key : Nat) : List Nat :=
  (List.range 8).map (lpmHash (p.regs.rd TBL_LPM_SEED).toNat dom len (lpmFam v6).2.1 key % lpmBuckets v6 * 8 + ·)

/-- The index of a prefix key (R217, R220). -/
def Plane.lpmFind (p : Plane) (v6 : Bool) (dom len key : Nat) : Option Nat :=
  (p.lpmWays v6 dom len key).find? (fun i => lpmHas v6 (p.tget (lpmFam v6).1 i) dom len key)

/-- The lowest free way for a prefix key. -/
def Plane.lpmFree (p : Plane) (v6 : Bool) (dom len key : Nat) : Option Nat :=
  let (t, _, o) := lpmFam v6
  (p.lpmWays v6 dom len key).find? (fun i => (p.tget t i).f (o + 4) 0 0 = 0)

/-- The entry that a lookup finds under a prefix key (R221). -/
def Plane.lpmSee (p : Plane) (v6 : Bool) (dom len key : Nat) : Option Rec :=
  ((p.lpmWays v6 dom len key).map (p.tsee (lpmFam v6).1)).find? (fun r => lpmHas v6 r dom len key)

/-- The longest matching prefix from length `len` down (R217); the length filters only skip probes that would miss. -/
def Plane.lpmFrom (p : Plane) (v6 : Bool) (dom a : Nat) : Nat → Option Rec
  | 0 => p.lpmSee v6 dom 0 0
  | len + 1 =>
    match p.lpmSee v6 dom (len + 1) (lpmMask (lpmFam v6).2.1 (len + 1) a) with
    | some r => some r
    | none => p.lpmFrom v6 dom a len

/-- The RID of an address in a domain (R217): that of its longest prefix, or the domain's miss RID; none where that is 0xFFFF (R206). -/
def Plane.lpm (p : Plane) (v6 : Bool) (dom a : Nat) : Option Nat :=
  let (_, w, o) := lpmFam v6
  match p.lpmFrom v6 dom a w with
  | some r => some (r.u (o + 2) 2)
  | none =>
    let m := (p.tget 3 dom).u (if v6 then 10 else 8) 2
    if m = 0xFFFF then none else some m

/-- The buckets of the prefix lengths from `len` down that a lookup reads, up to its match (R217, R221). -/
def Plane.lpmReads (p : Plane) (v6 : Bool) (dom a : Nat) : Nat → List Nat
  | 0 => p.lpmWays v6 dom 0 0
  | len + 1 =>
    let k := lpmMask (lpmFam v6).2.1 (len + 1) a
    p.lpmWays v6 dom (len + 1) k ++ (if (p.lpmSee v6 dom (len + 1) k).isSome then [] else p.lpmReads v6 dom a len)

/-- The filter of a family, domain and length (R217). -/
def bloomKey (v6 : Bool) (dom len : Nat) : Nat := (if v6 then 2 ^ 16 else 0) + dom * 2 ^ 8 + len

/-- The filter bits of a prefix key (R217). -/
def Plane.bloomBits (p : Plane) (w dom len key : Nat) : List Nat :=
  let s := (p.regs.rd TBL_LPM_SEED).toNat
  let h := lpmHash s dom len w key
  let g := lpmHash (2 ^ 32 - 1 - s) dom len w key
  [bits h 28 16, bits g 12 0, bits g 28 16]

/-- The filters after a prefix is placed (R217). -/
def Plane.bloomAdd (p : Plane) (v6 : Bool) (dom len key : Nat) : Plane :=
  let bs := p.bloomBits (lpmFam v6).2.1 dom len key
  p.onFwd (fun f => { f with bloom := supd (fun _ => []) f.bloom (bloomKey v6 dom len) (fun l => (l ++ bs).dedup) })

/-- Prefixes of a family at a length of a domain. -/
def Plane.lpmCount (p : Plane) (v6 : Bool) (dom len : Nat) : Nat :=
  let (t, _, o) := lpmFam v6
  ((p.tlist t).filter (fun e => e.2.f (o + 4) 0 0 = 1 && e.2.u (o + 1) 1 = dom && e.2.u o 1 = len)).length

/-- The filters after a prefix is removed: a length without prefixes has its filter cleared (R217). -/
def Plane.bloomDel (p : Plane) (v6 : Bool) (dom len : Nat) : Plane :=
  if p.lpmCount v6 dom len = 0 then p.onFwd (fun f => { f with bloom := sput (fun _ => []) f.bloom (bloomKey v6 dom len) [] }) else p

/-- Bucket probes of a lookup from length `len` down: present lengths whose filter passes, up to the match (R217). -/
def Plane.lpmProbes (p : Plane) (v6 : Bool) (dom a : Nat) : Nat → Nat
  | 0 => if p.lpmCount v6 dom 0 = 0 then 0 else 1
  | len + 1 =>
    let w := (lpmFam v6).2.1
    let k := lpmMask w (len + 1) a
    let fl := sget (fun _ => []) p.fwd.bloom (bloomKey v6 dom (len + 1))
    let pass := decide (0 < p.lpmCount v6 dom (len + 1)) && (p.bloomBits w dom (len + 1) k).all (fun b => fl.contains b)
    if pass then (if (p.lpmFind v6 dom (len + 1) k).isSome then 1 else 1 + p.lpmProbes v6 dom a len) else p.lpmProbes v6 dom a len

/-- A unit that needs more than eight probes counts in TBL_LPM_SLOW (R218). -/
def Plane.lpmSlow (p : Plane) (v6 : Bool) (dom a : Nat) : Plane :=
  if 8 < p.lpmProbes v6 dom a (lpmFam v6).2.1 then p.onRegs (·.inc TBL_LPM_SLOW) else p

/-! Routes. -/

/-- Whether a RID is in a route set (R219). -/
def Plane.inRouteSet (p : Plane) (set rid : Nat) : Bool := set = 0xFFFF || (p.tget 8 (set * 2048 + rid / 32)).f 0 (rid % 32) (rid % 32) = 1

/-! Templates and tenants. -/

/-- Template `i` of the running truss (R254). -/
def Plane.template (p : Plane) (i : Nat) : Rec :=
  let (off, n) := subTable (p.truss.sec 0x0D) tenantsSizes 0 0
  if p.truss.sec 0x0D = [] ∨ n ≤ i then 0 else recAt (p.truss.sec 0x0D) off 96 i

/-- Number of templates. -/
def Plane.templates (p : Plane) : Nat := if p.truss.sec 0x0D = [] then 0 else (subTable (p.truss.sec 0x0D) tenantsSizes 0 0).2

/-- STATE of a tenant: 0 FREE, 1 BOUND, 2 FIXED (R219, R252). -/
def Plane.tenState (p : Plane) (t : Nat) : Nat := (p.ctx t).u 0 1

/-- The identity of a context (R253). -/
def ctxIdent (r : Rec) : Ident := ⟨r.u 32 1, r.u 34 2, r.u 36 20⟩

/-- A policer as its owner's settings make it, with a full bucket (R261). -/
def policer (rate burst lo hi now flags gport : Nat) : Rec :=
  (((((((0 : Rec).put 0 4 rate).put 4 4 burst).put 8 4 lo).put 12 4 hi).put 16 8 (burst * 65536)).put 24 8 now).put 32 1 flags |>.put 34 2 gport

/-- A tenant's policers 2t and 2t + 1 as a template gives them (R261). -/
def Plane.setPolicers (p : Plane) (t : Nat) (m : Rec) (now : Nat) : Plane :=
  let fl := m.u 15 1
  let bytes := fun k : Nat => if bit fl k then 2 else 0
  let p0 : Rec := if bit fl 0 then policer (m.u 24 4) (m.u 28 4) (m.u 24 4) (m.u 24 4) now (1 + bytes 1) 0xFFFF else 0
  let gov := if bit (m.u 1 1) 1 then 4 else 0
  let p1 : Rec := if bit fl 2 then policer (m.u 32 4) (m.u 36 4) (m.u 40 4) (m.u 44 4) now (1 + bytes 3 + gov) (m.u 10 2) else 0
  (p.tput 19 (2 * t) p0).tput 19 (2 * t + 1) p1

/-- The context that a template gives a tenant (R219, R253, R258). -/
def ctxOf (t tpl state : Nat) (m : Rec) (id : Ident) (bindTick lastTick : Nat) : Rec :=
  let fl := m.u 15 1
  let r := (((((0 : Rec).put 0 1 state).put 1 1 (m.u 1 1 % 2)).put 2 2 tpl).put 4 2 (m.u 6 2)).put 6 2 (m.u 8 2)
  let r := (r.put 8 2 (if bit fl 0 then 2 * t else 0xFFFF)).put 10 2 (if bit fl 2 then 2 * t + 1 else 0xFFFF)
  let r := (((r.put 12 4 (m.u 48 4)).put 32 1 (if id.kind = 6 then 0 else id.kind)).put 34 2 id.port).put 36 20 id.value
  (r.put 56 8 bindTick).put 64 8 lastTick

/-- The template of a tenant. -/
def Plane.tplOf (p : Plane) (t : Nat) : Rec := p.template ((p.ctx t).u 2 2)

/-- Live tenants, ascending (R252). -/
def Plane.live (p : Plane) : List Nat := (p.tlist 17).filterMap (fun e => if e.2.u 0 1 = 0 then none else some e.1)

/-- BOUND tenants (TEN_BOUND). -/
def Plane.bound (p : Plane) : Nat := ((p.tlist 17).filter (fun e => e.2.u 0 1 = 1)).length

/-- TEN_BOUND_PEAK follows the number of BOUND tenants (R53). -/
def Plane.boundPeak (p : Plane) : Plane :=
  p.onRegs (fun m => m.peak TEN_BOUND_PEAK_WM_EVENT TEN_BOUND_PEAK_COUNT (m.get 0 TEN_BOUND_WM_LEVEL) p.bound)

/-- A tenant unbound (R259): its learned entries go with REMOVE notices, its context returns to FREE. -/
def Plane.unbind (p : Plane) (t cause : Nat) : Plane :=
  let hit := (p.tlist 21).filter (fun e => e.2.u 0 2 = t)
  let p := hit.foldl (fun p e => p.macRemove e.1 cause) p
  (((p.tput 17 t 0).tput 19 (2 * t) 0).tput 19 (2 * t + 1) 0).onFwd (fun f => { f with
    offers := sput (fun _ => (0, 0)) f.offers t (0, 0)
    offersNext := sput (fun _ => (0, 0)) f.offersNext t (0, 0) })

/-! What a truss puts into the tables. -/

/-- Entries written from a list, in list order, from index 0. -/
def Plane.tputAll (p : Plane) (t : Nat) (rs : List Rec) : Plane := (rs.zipIdx).foldl (fun p x => p.tput t x.2 x.1) p

/-- A static MAC entry placed in the lowest free way (R207, R223). -/
def Plane.placeMac (p : Plane) (r : Rec) : Plane :=
  match p.macFree (r.u 6 2) (r.be 0 6) with
  | some i => p.tput 4 i r
  | none => p

/-- A prefix placed in the lowest free way (R216, R223). -/
def Plane.placeLpm (v6 : Bool) (p : Plane) (r : Rec) : Plane :=
  let (t, w, o) := lpmFam v6
  match p.lpmFree v6 (r.u (o + 1) 1) (r.u o 1) (r.be 0 (w / 8)) with
  | some i => (p.tput t i r).bloomAdd v6 (r.u (o + 1) 1) (r.u o 1) (r.be 0 (w / 8))
  | none => p

/-- A PORTLEARN entry keyed by its PORT (R223, R224). -/
def Plane.placePort (p : Plane) (r : Rec) : Plane := p.tput 9 (r.u 6 1) r

/-- A FIXED tenant (R255, R274). -/
def Plane.placeFixed (p : Plane) (r : Rec) : Plane :=
  let t := r.u 0 2
  let m := p.template (r.u 2 2)
  let id : Ident := ⟨m.u 0 1, r.u 4 2, if m.u 0 1 = 6 then 0 else r.u 6 8⟩
  (p.tput 17 t (ctxOf t (r.u 2 2) 2 m id 0 0)).setPolicers t m (p.std p.st.ts)

/-- A route policer (R261, R274). -/
def Plane.placeRoutePol (p : Plane) (r : Rec) : Plane :=
  p.tput 19 (r.u 0 2) (policer (r.u 4 4) (r.u 8 4) (r.u 4 4) (r.u 4 4) (p.std p.st.ts) (1 + (if bit (r.u 2 1) 1 then 2 else 0)) 0xFFFF)

/-- A GOVERNOR record (R274). -/
def Plane.placeGov (p : Plane) (r : Rec) : Plane :=
  p.tupd 20 (r.u 0 2) (fun g => ((g.put 0 1 (r.u 2 1 % 2)).put 2 2 (r.u 4 2)).put 4 2 (r.u 6 2))

/-- A route set's bitmap as 2,048 words (R219, R224). -/
def Plane.placeSet (p : Plane) (bs : List Byte) (set : Nat) : Plane :=
  (List.range 2048).foldl (fun p w => p.tput 8 (set * 2048 + w) (Rec.ofBytes ((bs.drop (4 * w)).take 4))) p

/-- Every table as the running truss gives it (R198, R223, R254, R255, R274). -/
def Plane.loadTables (p : Plane) : Plane :=
  let t := p.truss
  let p := p.onFwd (fun f => { f with tab := [], bad := [], old := [], bloom := [] })
  let rs := t.sec 0x07
  let p := (List.range (rs.length / 64)).foldl (fun p i => let r := recAt rs 0 64 i; p.tput 1 (r.u 52 2) r) p
  let b := t.sec 0x08
  let sub := subEntries b tablesSizes
  let p := match (sub 0).head? with
    | some h => p.onRegs (fun m => ((m.wr TBL_MAC_SEED (BitVec.ofNat 32 (h.u 0 4))).wr TBL_LPM_SEED (BitVec.ofNat 32 (h.u 4 4))).wr
        TBL_AGE_TIME (BitVec.ofNat 32 (h.u 8 2)))
    | none => p.onRegs (·.wr TBL_AGE_TIME 300)
  let p := (sub 1).foldl (fun p r => p.tput 3 (r.u 7 1) r) p
  let p := (sub 2).foldl (fun p r => p.tput 2 (r.u 28 2) r) p
  let p := (sub 3).foldl Plane.placePort p
  let p := (sub 4).foldl Plane.placeMac p
  let p := (sub 5).foldl (Plane.placeLpm false) p
  let p := (sub 6).foldl (Plane.placeLpm true) p
  let (so, sn) := if b = [] then (0, 0) else subTable b tablesSizes 7 0
  let p := (List.range sn).foldl (fun p i => p.placeSet ((b.drop (so + 8192 * i)).take 8192) i) p
  let p := (List.range 6).foldl (fun p k =>
    let (n, g) := tsnTable t (3 + k)
    p.tputAll (10 + k) ((List.range n).map g)) p
  let tn := subEntries (t.sec 0x0D) tenantsSizes
  let p := (tn 1).foldl Plane.placeFixed p
  let p := (tn 2).foldl Plane.placeRoutePol p
  let g := t.sec 0x0E
  let p := (List.range (if g = [] then 0 else bytesAt g 0 4)).foldl (fun p i => p.placeGov (recAt g 4 16 i)) p
  (p.onFwd (fun f => { f with old := [] })).countPorts

end Sys2Proof
end

