-- ==== Sys2Proof/Machine/TxStage.lean ====
section
/-!
DEFINITION. The transmit stage of an Ethernet port (R171-R179): gates, credits and the choice of the next frame, as the port's hardware
and each plane's model of it run them.
-/

namespace Sys2Proof

/-- What a truss sets of a port's transmit stage: the gate list's BASE, CYCLE and (INTERVAL, GATES) entries where it is enabled, the idle
slopes in kb/s, MAXFRM, and the port's rate in kb/s; `since` is the time at which the list came into force. -/
structure TxCfg where
  base : Nat
  since : Nat
  cycle : Nat
  gcl : List (Nat × Nat)
  slopes : List (Nat × Nat)
  maxfrm : Nat
  rate : Nat
  deriving DecidableEq, Repr

/-- The transmit stage's settings of a port under a truss at a SPEED code, with a gate list that is in force from `since` on (R175, R176). -/
def txCfg (t : Truss) (n sp since : Nat) : TxCfg :=
  let g := gateRec t n
  let on := g.elim false (fun x => x.f 1 0 0 = 1)
  let cbs := if n < (tsnTable t 2).1 then (tsnTable t 2).2 n else 0
  { base := g.elim 0 (·.u 8 8), since := since, cycle := g.elim 0 (·.u 16 4)
    gcl := if on then (List.range (g.elim 0 (·.u 2 2))).map (gclEntry t n) else []
    slopes := (List.range 8).filterMap (fun c => if bit (cbs.u (4 * c) 4) 31 then some (c, bits (cbs.u (4 * c) 4) 23 0) else none)
    maxfrm := (ethRec t n).u 4 2
    rate := speedKbps sp }

/-- Bytes of a frame with its FCS, padded (R161). -/
def frameBytes (len : Nat) : Nat := max len 60 + 4

/-- Bits that a frame of `bytes` takes on the wire with preamble, SFD and interframe gap (R177). -/
def wireBits (bytes : Nat) : Nat := (bytes + 20) * 8

/-- Time in ns from the start of a frame's preamble to its message timestamp point, rounded down: preamble and SFD (R161, R177). -/
def preambleNs (rate : Nat) : Nat := if rate = 0 then 0 else 64 * 1000000 / rate

/-- Time in ns that a frame takes, rounded up. -/
def wireNs (rate bytes : Nat) : Nat := if rate = 0 then 0 else (wireBits bytes * 1000000 + rate - 1) / rate

/-! Gates. -/

/-- Walk along a gate list: the entry in force `pos` ns into the cycle, and when it ends; the last entry lasts until the cycle ends, and
the cycle cuts the list. -/
def gateWalk (cycle pos : Nat) : List (Nat × Nat) → Nat → Nat → Nat × Nat × Nat
  | [], i, _ => (i - 1, 0xFF, cycle)
  | [(_, g)], i, _ => (i, g, cycle)
  | (d, g) :: rest, i, at' => if pos < at' + d then (i, g, min cycle (at' + d)) else gateWalk cycle pos rest (i + 1) (at' + d)

/-- The first cycle start of a list that is not before `t` (R176). -/
def TxCfg.startFrom (c : TxCfg) (t : Nat) : Nat :=
  if t ≤ c.base then c.base else c.base + ((t - c.base + c.cycle - 1) / c.cycle) * c.cycle

/-- At time `t`: the entry in force, its gates, and the time at which it ends; none for gates that stay open. Before the first cycle start that
was not in the past as the list came into force, every gate is open (R176). -/
def TxCfg.gateAt (c : TxCfg) (t : Nat) : Option (Nat × Nat × Nat) :=
  let first := c.startFrom c.since
  if c.gcl = [] ∨ c.cycle = 0 then none
  else if t < first then some (0, 0xFF, first)
  else
    let start := t - (t - first) % c.cycle
    let (i, g, stop) := gateWalk c.cycle (t - start) c.gcl 0 0
    some (i, g, start + stop)

/-- The same with the states that a time step froze (R178). -/
def TxCfg.gates (c : TxCfg) (frozen : Option (Nat × Nat)) (t : Nat) : Option (Nat × Nat × Nat) :=
  match frozen with
  | some (g, til) => if t < til then some (0, g, til) else c.gateAt t
  | none => c.gateAt t

/-- The gate states that a time step leaves in force, until the next cycle start of the new time (R178). -/
def TxCfg.freeze (c : TxCfg) (frozen : Option (Nat × Nat)) (old new : Nat) : Option (Nat × Nat) :=
  if c.gcl = [] ∨ c.cycle = 0 then none
  else
    let g := (c.gates frozen old).elim 0xFF (·.2.1)
    some (g, c.startFrom new)

/-- When class `k`'s gate, open at `t`, next closes; none if it does not within the list's entries (R177). -/
def TxCfg.closes (c : TxCfg) (frozen : Option (Nat × Nat)) (k : Nat) : Nat → Nat → Option Nat
  | 0, _ => none
  | fuel + 1, t =>
    match c.gates frozen t with
    | none => none
    | some (_, g, stop) => if bit g k then c.closes frozen k fuel stop else some t

/-- Whether class `k` may start a frame of `bytes` at `t`: its gate is open and the frame fits (R177). -/
def TxCfg.mayStart (c : TxCfg) (frozen : Option (Nat × Nat)) (k bytes t : Nat) : Bool :=
  match c.gates frozen t with
  | none => true
  | some (_, g, _) =>
    bit g k && (match c.closes frozen k (c.gcl.length + 2) t with
      | none => true
      | some stop => decide (wireBits bytes * 1000000 ≤ (stop - t) * c.rate))

/-- The longest open stretch of a class in a cycle, in ns; none for a class that is never closed (R177). -/
def TxCfg.longest (c : TxCfg) (k : Nat) : Option Nat :=
  if c.gcl = [] ∨ c.cycle = 0 then none
  else
    let starts := (List.range c.gcl.length).map (fun i => (c.gcl.take i).foldl (fun s x => s + x.1) 0)
    let runs := starts.filterMap (fun p =>
      if p < c.cycle then
        match c.closes none k (c.gcl.length + 2) (c.startFrom c.since + p) with
        | none => some none
        | some t => some (some (t - (c.startFrom c.since + p)))
      else none)
    if runs.contains none then none else some (runs.foldl (fun m r => max m (r.getD 0)) 0)

/-! Credits (R175). Unit: 10^-6 bit. -/

/-- A class's credit. -/
def creditOf (l : List (Nat × Int)) (k : Nat) : Int := sget (fun _ => 0) l k

/-- Credits after `d` ns in which neither gates nor frames change: `waits k` says that class k holds frames, `sends` which class sends.
hiCredit and loCredit take one frame of MAXFRM. -/
def TxCfg.accrue (c : TxCfg) (l : List (Nat × Int)) (gates : Nat) (waits : Nat → Bool) (sends : Option Nat) (d : Nat) :
    List (Nat × Int) :=
  c.slopes.foldl (fun l x =>
    let (k, slope) := x
    let v := creditOf l k
    let hi : Int := if c.rate = 0 then 0 else ((c.maxfrm * 8 * slope * 1000000 / c.rate : Nat) : Int)
    let lo : Int := if c.rate = 0 then 0 else -((c.maxfrm * 8 * (c.rate - slope) * 1000000 / c.rate : Nat) : Int)
    let v' : Int :=
      if sends = some k then max lo (v + ((slope : Int) - (c.rate : Int)) * (d : Int))
      else if bit gates k = false then v
      else if waits k then min hi (v + (slope : Int) * (d : Int))
      else if v < 0 then min 0 (v + (slope : Int) * (d : Int))
      else 0
    sput (fun _ => 0) l k v') l

/-- Credits from `t0` to `t1`, split where gates change. -/
def TxCfg.accrueTo (c : TxCfg) (frozen : Option (Nat × Nat)) (waits : Nat → Bool) (sends : Option Nat) :
    Nat → List (Nat × Int) → Nat → Nat → List (Nat × Int)
  | 0, l, _, _ => l
  | fuel + 1, l, t0, t1 =>
    if t1 ≤ t0 then l
    else
      let (g, stop) := (c.gates frozen t0).elim (0xFF, t1) (fun x => (x.2.1, x.2.2))
      let stop := min t1 (max stop (t0 + 1))
      c.accrueTo frozen waits sends fuel (c.accrue l g waits sends (stop - t0)) stop t1

/-- Steps that `accrueTo` needs for a span: an entry lasts at least 100 ns (R176). -/
def accrueFuel (d : Nat) : Nat := d / 100 + 4

/-- The class whose head frame goes next (R174): the highest that holds a frame, may start it, and has no negative credit. `head` gives the
bytes of a class's head frame. -/
def TxCfg.choose (c : TxCfg) (frozen : Option (Nat × Nat)) (credit : List (Nat × Int)) (head : Nat → Option Nat) (t : Nat) : Option Nat :=
  [7, 6, 5, 4, 3, 2, 1, 0].find? (fun k =>
    match head k with
    | some b => c.mayStart frozen k b t && (!(c.slopes.any (fun x => x.1 = k)) || decide (0 ≤ creditOf credit k))
    | none => false)

/-- Whether a port's gate list stays as it is from one truss to another. -/
def gatesSame (a b : Truss) (n : Nat) : Bool :=
  let x := Sys2Proof.txCfg a n 0 0
  let y := Sys2Proof.txCfg b n 0 0
  decide (x.base = y.base ∧ x.cycle = y.cycle ∧ x.gcl = y.gcl)

/-- The gate lists that come into force now (R176): those of the ports that `same` does not name. -/
def Eaves.gatesNow (e : Eaves) (same : Nat → Bool) : Eaves :=
  (List.range 24).foldl (fun e n => if same n || (gateRec e.live n).isNone then e else e.onEth n (fun s => { s with gateFrom := e.counter })) e

end Sys2Proof
end

