-- ==== Sys2Proof/Machine/FwdQ.lean ====
section
/-!
DEFINITION. Output queues of a plane (R165-R170), link aggregates (R189), the plane's models of transmit stages and the release to
Eaves (R171-R178), and the tap ring (R192, R193).
-/

namespace Sys2Proof

/-! Ports. -/

/-- Ports with eight queues: Ethernet, T1S, host endpoints (R165). -/
def eightQueues (port : Nat) : Bool := decide (128 ≤ port ∧ port ≤ 175)
/-- An Ethernet or T1S port. -/
def isEthT1s (port : Nat) : Bool := decide (128 ≤ port ∧ port ≤ 167)
/-- A host endpoint's port. -/
def isHostPort (port : Nat) : Bool := decide (168 ≤ port ∧ port ≤ 175)

/-- Whether the truss record of a port enables it (R165). -/
def Plane.portOn (p : Plane) (port : Nat) : Bool :=
  if port < 128 then (slotRec p.truss port).f 1 0 0 = 1 && (slotRec p.truss port).u 0 1 ≠ 0
  else if port < 152 then p.truss.sec 0x03 ≠ [] && (ethRec p.truss (port - 128)).f 0 0 0 = 1
  else if port < 168 then (t1sRec p.truss (port - 152)).f 0 0 0 = 1
  else if port < 176 then p.epEnabled (port - 168)
  else decide (port ≤ 178)

/-- The number of a queue. -/
def qkey (port cls : Nat) : Nat := 8 * port + cls

/-- Every queue of an enabled port. -/
def Plane.allQueues (p : Plane) : List Nat :=
  (List.range 179).flatMap (fun port =>
    if p.portOn port then (List.range (if eightQueues port then 8 else 1)).map (qkey port) else [])

/-- The units in a queue. -/
def Plane.queue (p : Plane) (q : Nat) : List QUnit := sget (fun _ => []) p.fwd.queues q

/-- A queue set. -/
def Plane.setQueue (p : Plane) (q : Nat) (l : List QUnit) : Plane := p.onFwd (fun f => { f with queues := sput (fun _ => []) f.queues q l })

/-- Charged cells of a queue (R166, R168); the queue of port 176 is Thatcher's model (R249). -/
def Plane.level (p : Plane) (q : Nat) : Nat :=
  if q = qkey 176 0 then p.thr.jobs.foldl (fun n j => n + j.cells) 0 else (p.queue q).foldl (fun n u => n + u.cells) 0

/-- Every stored copy with its cells, once for each destination that holds it. -/
def Plane.stored (p : Plane) : List (Nat × Nat) :=
  p.fwd.queues.flatMap (fun e => e.2.map (fun u => (u.uid, u.cells))) ++ p.thr.jobs.map (fun j => (j.uid, j.cells))

/-- Cells stored, each copy counted once (R168). -/
def cellsOnce : List (Nat × Nat) → Nat
  | [] => 0
  | x :: xs => (if xs.any (·.1 = x.1) then 0 else x.2) + cellsOnce xs

/-- SW_BUF_USED. -/
def Plane.bufUsed (p : Plane) : Nat := cellsOnce p.stored

/-- F: the free shared cells (R166). -/
def Plane.freeCells (p : Plane) : Nat :=
  98304 - p.bufUsed - p.allQueues.foldl (fun n q => n + (128 - p.level q)) 0

/-- The admission rule of R166: `lvl` the queue's level, `n` the unit's cells, `alpha` its ALPHA, `free` F, `again` for a copy that
another destination has already stored. -/
def admits (lvl n alpha free : Nat) (again : Bool) : Bool :=
  let after := lvl + n - 128
  let taken := after - (lvl - 128)
  decide (16 * after ≤ 2 ^ alpha * free) && (again || decide (taken ≤ free))

/-- ALPHA of a queue. -/
def Plane.alpha (p : Plane) (q : Nat) : Nat := SW_Q_CFG_ALPHA.get (p.regs.rd (selKey q SW_Q_CFG))

/-- A queue counter counts. -/
def Plane.qInc (p : Plane) (reg q : Nat) : Plane := p.onRegs (·.inc (selKey q reg))

/-- Peaks after an admission (R53). -/
def Plane.peaks (p : Plane) (q : Nat) : Plane :=
  p.onRegs (fun m =>
    let at' := fun f : Fld => (⟨selKey q f.reg, f.hi, f.lo⟩ : Fld)
    let m := m.peak (at' SW_Q_PEAK_WM_EVENT) (at' SW_Q_PEAK_CELLS) (m.get 0 (at' SW_Q_WM_LEVEL)) (p.level q)
    m.peak SW_BUF_WM_WM_EVENT SW_BUF_PEAK_CELLS (m.get 0 SW_BUF_WM_LEVEL) p.bufUsed)

/-- Cells of a unit (R165). -/
def cellsOf (sh : Shingle) : Nat := (sh.size + 255) / 256

/-- A unit tested for a queue and, if admitted, stored there (R166, R168). `again` as in `admits`. -/
def Plane.pushQ (p : Plane) (port cls uid n ageMs : Nat) (sh : Shingle) (again : Bool) : Plane × Bool :=
  let q := qkey port cls
  if admits (p.level q) n (p.alpha q) p.freeCells again then
    ((p.setQueue q (p.queue q ++ [⟨uid, sh, n, p.std sh.ts, ageMs, p.genKnown port⟩])).peaks q, true)
  else (p.qInc SW_Q_DROP q, false)

/-- The age limit of a queue's units in ms (R170). -/
def Plane.ageLimit (p : Plane) (port : Nat) (u : QUnit) : Nat :=
  if port < 128 then (if u.ageMs = 0 then 1000 else u.ageMs)
  else if port < 152 then (let a := (ethRec p.truss (port - 128)).u 12 2; if p.truss.sec 0x03 = [] ∨ a = 0 then 500 else a)
  else if port < 168 then 500
  else if port < 176 then p.regs.get 0 SW_HOST_AGE_MS
  else 10

/-- The queue head's units that are too old are discarded (R170). -/
def Plane.ageQueue (p : Plane) (q now : Nat) : Plane :=
  let l := p.queue q
  let k := (l.takeWhile (fun u => decide (u.ts + p.ageLimit (q / 8) u * 1000000 < now))).length
  if k = 0 then p else (p.setQueue q (l.drop k)).onRegs (·.addCnt (selKey q SW_Q_AGED) k)

/-- Every queue at a TICK (R170). -/
def Plane.ageQueues (p : Plane) (now : Nat) : Plane := p.fwd.queues.foldl (fun p e => p.ageQueue e.1 now) p

/-! Links and aggregates. -/

/-- The plane's view of a port's link: none, or its SPEED (R196). -/
def Plane.linkOf (p : Plane) (port : Nat) : Option Nat :=
  let v := sget (fun _ => 0) p.fwd.links port
  if v = 0 then none else some (v - 1)

/-- The aggregate of an Ethernet port (R189, R197); a port that its record leaves disabled is a member of none. -/
def Plane.lagOf (p : Plane) (port : Nat) : Option Nat :=
  if p.truss.sec 0x03 = [] ∨ port < 128 ∨ 152 ≤ port ∨ (ethRec p.truss (port - 128)).f 0 0 0 = 0 then none
  else let l := (ethRec p.truss (port - 128)).u 3 1; if l < 8 then some l else none

/-- Members of an aggregate, ascending. -/
def Plane.lagMembers (p : Plane) (lag : Nat) : List Nat :=
  ((List.range 24).map (128 + ·)).filter (fun q => p.lagOf q = some lag)

/-- The anchor of a port's aggregate, or the port itself (R189). -/
def Plane.anchor (p : Plane) (port : Nat) : Nat :=
  match p.lagOf port with
  | some l => (p.lagMembers l).headD port
  | none => port

/-- Active members of an aggregate, ascending (R189). -/
def Plane.lagActive (p : Plane) (lag : Nat) : List Nat :=
  (p.lagMembers lag).filter (fun q => (p.linkOf q).isSome && sget (fun _ => false) p.fwd.lacp q)

/-! Transmit models (R172). -/

/-- What a plane knows of an Ethernet or T1S port's registers. -/
def Plane.portSet (p : Plane) (port : Nat) : PortSet := sget (fun _ => PortSet.init) p.fwd.portSets port

/-- The same changed. -/
def Plane.onPortSet (p : Plane) (port : Nat) (g : PortSet → PortSet) : Plane :=
  p.onFwd (fun f => { f with portSets := supd (fun _ => PortSet.init) f.portSets port g })

/-- The words that a truss gives the registers of an Ethernet or T1S port that a plane must know: ETH_MODE and LSA0 (R159, R163). -/
def portWords (t : Truss) (port : Nat) : List (Nat × Nat) :=
  if port < 152 then
    let r := ethRec t (port - 128)
    (0x08, r.u 1 1 % 16 * 2 ^ 28 + r.u 2 1 % 16 * 2 ^ 24 + r.u 4 2 % 2 ^ 14) :: (ethLsas t (port - 128)).take 2
  else (t1sLsas t (port - 152)).take 2

/-- Such a register as the plane knows it: the last write completion, or the truss's value. -/
def Plane.portWord (p : Plane) (port off : Nat) : Word :=
  match (p.portSet port).words.find? (fun x => x.1 = off) with
  | some x => x.2
  | none => BitVec.ofNat 32 (((portWords p.truss port).find? (fun x => x.1 = off)).elim 0 (·.2))

/-- A completed write of such a register. -/
def Plane.portKnows (p : Plane) (port off : Nat) (v : Word) : Plane :=
  p.onPortSet port (fun s => { s with words := s.words.filter (fun x => x.1 ≠ off) ++ [(off, v)] })

/-- A port's PORT_RESTART: MAXFRM takes effect, and the station addresses are the truss's again (R163). -/
def Plane.portSettles (p : Plane) (port : Nat) : Plane :=
  let m := bits (p.portWord port 0x08).toNat 13 0
  p.onPortSet port (fun s => ⟨s.words.filter (fun x => x.1 = 0x08), some m⟩)

/-- The largest frame of an Ethernet or T1S port, FCS included (R163, R169). -/
def Plane.maxFrm (p : Plane) (port : Nat) : Nat :=
  if port < 152 then (p.portSet port).maxfrm.getD ((ethRec p.truss (port - 128)).u 4 2) else 1522

/-- LSA0 of a port, the source of every frame that the device itself sends there (R159); none for a port without one. -/
def Plane.lsa0 (p : Plane) (port : Nat) : Option (List Byte) :=
  if port < 128 ∨ 168 ≤ port then none
  else some (beBytes 2 ((p.portWord port 0x104).toNat % 2 ^ 16) ++ beBytes 4 (p.portWord port 0x100).toNat)

/-- A port's model. -/
def Plane.model (p : Plane) (port : Nat) : TxModel := sget (fun _ => TxModel.init) p.fwd.models port

/-- The transmit settings that a plane's model of a port uses; a T1S port has neither gates nor shaping (R179) and serves at 10 Mb/s. -/
def Plane.modelCfg (p : Plane) (port : Nat) : TxCfg :=
  if port < 152 then { txCfg p.truss (port - 128) ((p.linkOf port).getD 15) (p.model port).gateFrom with maxfrm := p.maxFrm port }
  else { base := 0, since := 0, cycle := 0, gcl := [], slopes := [], maxfrm := 1522, rate := 10000 }

/-- A port's model set. -/
def Plane.setModel (p : Plane) (port : Nat) (m : TxModel) : Plane :=
  p.onFwd (fun f => { f with models := sput (fun _ => TxModel.init) f.models port m })

/-- The gate lists that come into force at the plane's stream position (R176): those of the ports that `same` does not name. -/
def Plane.gatesNow (p : Plane) (same : Nat → Bool) : Plane :=
  (List.range 24).foldl (fun p n =>
    if same n || (gateRec p.truss n).isNone then p else p.setModel (128 + n) { p.model (128 + n) with gateFrom := p.st.ts }) p

/-- Unfinished bytes of a class. -/
def TxModel.bytes (m : TxModel) (k : Nat) : Nat :=
  (m.waiting.filter (fun x => x.1 = k)).foldl (fun n x => n + x.2) 0 +
    (match m.sending with | some (c, b, _) => if c = k then b else 0 | none => 0)

/-- The model's credits brought up to `t`. -/
def TxModel.accrue (m : TxModel) (c : TxCfg) (t : Nat) : TxModel :=
  let l := c.accrueTo m.frozen (fun k => m.waiting.any (fun x => x.1 = k)) (m.sending.map (·.1)) (accrueFuel (t - m.now)) m.credit m.now t
  { m with credit := l, now := max m.now t }

/-- The next moment after `now` at which a waiting frame could become eligible: a gate change or a credit that returns to 0. -/
def TxModel.nextEvent (m : TxModel) (c : TxCfg) (t : Nat) : Nat :=
  let g := match c.gates m.frozen m.now with | some (_, _, stop) => stop | none => t
  let cr := c.slopes.filterMap (fun x =>
    let v := creditOf m.credit x.1
    if v < 0 ∧ 0 < x.2 then some (m.now + ((-v).toNat + x.2 - 1) / x.2) else none)
  max (m.now + 1) (min t (cr.foldl min g))

/-- The model run on to time `t` in at most `fuel` events (R172, R174-R178). -/
def TxModel.run (c : TxCfg) (t : Nat) : Nat → TxModel → TxModel
  | 0, m => m
  | fuel + 1, m =>
    match m.sending with
    | some (_, _, stop) =>
      if stop ≤ t then TxModel.run c t fuel { m.accrue c stop with sending := none } else m.accrue c t
    | none =>
      let head := fun k => (m.waiting.find? (fun x => x.1 = k)).map (·.2)
      match c.choose m.frozen m.credit head m.now with
      | some k =>
        match m.waiting.find? (fun x => x.1 = k) with
        | some x => TxModel.run c t fuel { m with waiting := m.waiting.erase x, sending := some (k, x.2, m.now + wireNs c.rate x.2) }
        | none => m
      | none => if m.now < t then TxModel.run c t fuel (m.accrue c (if m.waiting = [] then t else m.nextEvent c t)) else m

/-- Events that a run may need. -/
def TxModel.fuel (m : TxModel) (t : Nat) : Nat := 8 * accrueFuel (t - m.now) + 16 * m.waiting.length + 64

/-- A model run on to time `t`. -/
def TxModel.runTo (m : TxModel) (c : TxCfg) (t : Nat) : TxModel := m.run c t (m.fuel t)

/-- The class limit of a port (R172). -/
def classLimit (port : Nat) : Nat := if port < 136 then 16384 else if port < 152 then 8192 else 2048

/-- Whether a frame can ever fit its class's gate (R177). -/
def TxCfg.everFits (c : TxCfg) (k bytes : Nat) : Bool :=
  match c.longest k with
  | none => true
  | some d => decide (wireBits bytes * 1000000 ≤ d * c.rate)

/-- Whether a tick belongs to the governor's window that the next governor TICK opens (R265): a unit of that TICK's own time precedes it. -/
def Plane.nextWin (p : Plane) (tick : Nat) : Bool := decide (p.st.tick / 1000 < tick / 1000)

/-- A port's busy times of the window that holds a tick (R265, R266). -/
def Plane.onBusy (p : Plane) (port tick : Nat) (g : Nat × Nat → Nat × Nat) : Plane :=
  p.onFwd (fun f =>
    if p.nextWin tick then { f with busyNext := supd (fun _ => (0, 0)) f.busyNext port g }
    else { f with busy := supd (fun _ => (0, 0)) f.busy port g })

/-- Units released to a port charge the window of the stream position with their bus time (R265, R266). -/
def Plane.chargeLd (p : Plane) (port ns : Nat) : Plane := p.onBusy port (p.tickAt p.st.ts) (fun x => (x.1, x.2 + ns))

/-- Bus time of a frame on a T1S port (R266). -/
def t1sNs (len : Nat) : Nat := (max len 60 + 24) * 800

/-- The heads of one class released while its model has room (R172, R177): at most `fuel` units. `extra` is what MACsec adds to a frame and
`prot` protects one, or drops it (R324). -/
def Plane.releaseClass (extra : Nat) (prot : Plane → List Byte → Plane × Option (List Byte)) (p : Plane) (port k : Nat) : Nat → Plane
  | 0 => p
  | fuel + 1 =>
    let c := p.modelCfg port
    match p.queue (qkey port k) with
    | [] => p
    | u :: rest =>
      let m := p.model port
      let b := frameBytes (u.sh.body.length + extra)
      if classLimit port ≤ m.bytes k then p
      else
        let p := p.setQueue (qkey port k) rest
        if !c.everFits k b then Plane.releaseClass extra prot (p.portInc SW_PORT_GATE port) port k fuel
        else
          let (p, fr) := prot p u.sh.body
          match fr with
          | none => Plane.releaseClass extra prot p port k fuel
          | some body =>
            let p := p.setModel port { m with waiting := m.waiting ++ [(k, b)] }
            let p := if 152 ≤ port then p.chargeLd port (t1sNs u.sh.body.length) else p
            Plane.releaseClass extra prot (p.cand port u.gen (bit u.sh.m1 63) k { u.sh with body := body, ts := u.ts }) port k fuel

/-- A port's model brought to the plane's stream position, then its queues released from class 7 down (R172). -/
def Plane.releasePort (p : Plane) (extra : Nat) (prot : Plane → List Byte → Plane × Option (List Byte)) (port : Nat) : Plane :=
  if (p.linkOf port).isNone then p
  else
    let p := p.setModel port ((p.model port).runTo (p.modelCfg port) p.st.ts)
    [7, 6, 5, 4, 3, 2, 1, 0].foldl (fun p k => Plane.releaseClass extra prot p port k (p.queue (qkey port k)).length) p

/-- Every queue of a port flushed into SW_PORT_FLUSH (R190). -/
def Plane.flushPort (p : Plane) (port : Nat) : Plane :=
  let n := ((List.range 8).map (fun k => (p.queue (qkey port k)).length)).sum
  let p := (List.range 8).foldl (fun p k => p.setQueue (qkey port k) []) p
  p.onRegs (·.addCnt (selKey port SW_PORT_FLUSH) n)

/-- R190 at a LINK_DOWN or PORT_RESTART of an Ethernet or T1S port. -/
def Plane.portGone (p : Plane) (port : Nat) : Plane :=
  let p := (p.flushPort port).setModel port (p.model port).emptied
  let p := p.flushLearned port
  p.onFwd (fun f => { f with
    links := sput (fun _ => 0) f.links port 0, lacp := sput (fun _ => false) f.lacp port false,
    lacpEnd := sput (fun _ => 0) f.lacpEnd port 0 })

/-- A LINK_UP of an Ethernet or T1S port: its speed, an empty model (R156, R172). -/
def Plane.portLinked (p : Plane) (port sp : Nat) : Plane :=
  (p.setModel port { (p.model port).emptied with now := p.st.ts }).onFwd (fun f => { f with links := sput (fun _ => 0) f.links port (sp + 1) })

/-! The tap ring. -/

/-- Whether the tap runs (R192). -/
def Plane.tapOn (p : Plane) : Bool := p.regs.get 0 SW_TAP_CFG_ENABLE = 1

/-- Oldest records leave until the ring holds at most `room` bytes; they are counted (R193). -/
def tapDropTo (room : Nat) : List (List Byte × Nat) → Nat → Nat → List (List Byte × Nat) × Nat × Nat
  | [], _, n => ([], 0, n)
  | r :: rs, done, n =>
    if ((r :: rs).map (·.1.length)).sum - done ≤ room then (r :: rs, done, n) else tapDropTo room rs 0 (n + 1)

/-- A unit at port 178 (R192, R193). -/
def Plane.tap (p : Plane) (sh : Shingle) : Plane :=
  if !p.tapOn then p
  else
    let snap := 8 * p.regs.get 0 SW_TAP_CFG_SNAP
    let cap := if sh.utype = .eth ∨ sh.utype = .t1s ∨ sh.utype = .host then snap else sh.body.length
    let r := tapRec sh cap false
    let size := 2 ^ p.regs.get 0 SW_TAP_CFG_RING_LOG2
    let (ring, done, lost) := tapDropTo (size - r.length) p.fwd.tapRing p.fwd.tapDone 0
    let p := (p.inner 178 sh).onFwd (fun f => { f with tapRing := ring ++ [(r, sh.ts)], tapDone := done, tapGap := f.tapGap || decide (0 < lost) })
    p.onRegs (fun m => (m.addCnt SW_TAP_OVERWRITE lost).wr64 SW_TAP_HEAD_LO (m.rd64 SW_TAP_HEAD_LO + r.length))

/-- A tap record with GAP set in its RFLAGS (R193). -/
def withGap (r : List Byte) : List Byte := r.take 3 ++ [(r.getD 3 0) ||| 16] ++ r.drop 4

/-- The ring's model drains `budget` bytes; Rick takes each record that drains whole (R193, R361). -/
def Plane.tapDrain (p : Plane) (budget : Nat) : Nat → Plane
  | 0 => p
  | fuel + 1 =>
    match p.fwd.tapRing with
    | [] => p.onFwd (fun f => { f with tapDone := 0 })
    | (r, ts) :: rest =>
      if budget < r.length then p.onFwd (fun f => { f with tapDone := budget })
      else
        let p := p.tapRecord (if p.fwd.tapGap then withGap r else r) ts
        (p.onFwd (fun f => { f with tapRing := rest, tapGap := false })).tapDrain (budget - r.length) fuel

/-- The ring at a TICK. -/
def Plane.tapTick (p : Plane) : Plane :=
  p.tapDrain (p.fwd.tapDone + (p.regs.rd SW_TAP_RATE).toNat) (p.fwd.tapRing.length + 1)

/-! Switch settings of a truss (R197). -/

/-- The nibble `k` of a byte string. -/
def nibble (bs : List Byte) (k : Nat) : Nat := let b := bytesAt bs (k / 2) 1; if k % 2 = 0 then b % 16 else b / 16

/-- ALPHA of a queue as the truss gives it. -/
def alphaOf (t : Truss) (q : Nat) : Nat :=
  let b := t.sec 0x03
  let port := q / 8
  if b = [] then 4
  else if 128 ≤ port ∧ port < 152 then nibble ((ethRec t (port - 128)).bytes 96 |>.drop 24) (q % 8)
  else if eightQueues port then 4
  else bytesAt b 10 1 % 16

/-- The SWITCH block's registers from the running truss (R197). -/
def Plane.loadSwitch (p : Plane) : Plane :=
  let b := p.truss.sec 0x03
  let p := p.onRegs (fun m =>
    if b = [] then ((m.set 0 SW_TAP_CFG_ENABLE 1).set 0 SW_HOST_AGE_MS 100).wr SW_HASH_SEED 0
    else
      let m := (m.set 0 SW_TAP_CFG_ENABLE (bytesAt b 0 1)).set 0 SW_TAP_CFG_SNAP (bytesAt b 1 1)
      let m := (m.set 0 SW_TAP_CFG_RING_LOG2 (bytesAt b 2 1)).wr SW_TAP_RATE (BitVec.ofNat 32 (bytesAt b 4 4))
      (m.set 0 SW_HOST_AGE_MS (bytesAt b 8 2)).wr SW_HASH_SEED (BitVec.ofNat 32 (bytesAt b 12 4)))
  let p := p.allQueues.foldl (fun p q => p.onRegs (fun m =>
    (m.set 0 ⟨selKey q SW_Q_CFG, SW_Q_CFG_ALPHA.hi, SW_Q_CFG_ALPHA.lo⟩ (alphaOf p.truss q)))) p
  (List.range 8).foldl (fun p l => p.onRegs (·.wr (selKey l SW_LAG_MEMBERS)
    (BitVec.ofNat 32 ((p.lagMembers l).foldl (fun n q => n + 2 ^ (q - 128)) 0)))) p

end Sys2Proof
end

