-- ==== Sys2Proof/Machine/BusTime.lean ====
section
/-!
DEFINITION. Time on a slot's bus: the bits of a CAN frame under ISO 11898-1, exact for the governor (R266) and at their worst case for
the release model (R112), the times of slow units (R147, R266), and the release of a slot's queue.
-/

namespace Sys2Proof

/-- `v` as `n` bits, most significant first. -/
def natBits (n v : Nat) : List Bool := (List.range n).map (fun i => v.testBit (n - 1 - i))

/-- The CRC-15 of a classical frame (ISO 11898-1). -/
def crc15 (bs : List Bool) : Nat :=
  bs.foldl (fun c b => let n := xor b (c.testBit 14); let s := c * 2 % 2 ^ 15; if n then s ^^^ 0x4599 else s) 0

/-- Stuff bits that follow the bits of a span: one after five equal bits, and it starts the next run. The result says after which bits of
the span one stands. -/
def stuffAt : List Bool → Option Bool → Nat → List Bool
  | [], _, _ => []
  | b :: bs, last, run =>
    let r := if last = some b then run + 1 else 1
    if r = 5 then true :: stuffAt bs (some (!b)) 1 else false :: stuffAt bs (some b) r

/-- Stuff bits of a span from bit `i` on. -/
def stuffFrom (span : List Bool) (i : Nat) : Nat := (((stuffAt span none 0).drop i).filter (·)).length

/-- DLC on the bus of a frame (R104): `rx` of a received one, whose classical DLC is as received, or of one sent. -/
def dlcSent (sh : Shingle) (rx : Bool) : Nat :=
  if sh.utype = .canFD then fdDlc sh.body.length
  else if rx then sh.dlc
  else if sh.body.length = 8 ∧ 8 < sh.dlc then sh.dlc else sh.body.length

/-- Identifier bits from SOF: base or extended, `rtr` in the place of RTR, SRR and RRS as the format has them. -/
def headBits (sh : Shingle) (rtr : Bool) : List Bool :=
  if sh.ide then false :: natBits 11 (sh.canId / 2 ^ 18) ++ [true, true] ++ natBits 18 (sh.canId % 2 ^ 18) ++ [rtr]
  else false :: natBits 11 (sh.canId % 2 ^ 11) ++ [rtr, false]

/-- Data bits. -/
def dataBits (bs : List Byte) : List Bool := bs.flatMap (fun b => natBits 8 b.toNat)

/-- Bits of a classical frame from SOF to the CRC, before stuffing. -/
def ccSpan (sh : Shingle) (rx : Bool) : List Bool :=
  let h := headBits sh sh.rmt ++ (if sh.ide then [false, false] else [false]) ++ natBits 4 (dlcSent sh rx) ++ dataBits sh.body
  h ++ natBits 15 (crc15 h)

/-- Bits of an FD frame from SOF to BRS, and from ESI to the data's end, before stuffing. -/
def fdSpans (sh : Shingle) : List Bool × List Bool :=
  let pad := fdLen (fdDlc sh.body.length)
  (headBits sh false ++ [true, false, sh.brs], bit sh.m0 58 :: natBits 4 (dlcSent sh false) ++ dataBits (fitBytes pad sh.body))

/-- Nominal-rate and data-rate bits of a frame with intermission; `worst` takes every stuff bit that the span could hold (R112, R266), `rx`
says that the frame was received. A bit counts at the rate at which it starts. -/
def canBits (sh : Shingle) (rx worst : Bool) : Nat × Nat :=
  if sh.utype = .canXL then
    let arb := false :: natBits 11 sh.canId ++ [false, false, true, true, false]
    let st := if worst then (arb.length - 1) / 4 else stuffFrom arb 0
    let span := 8 + 1 + 11 + 3 + 13 + 8 + 32 + 8 * sh.body.length + 32
    (arb.length + st + 1 + 3 + 2 + 7 + 3, 3 + span + span / 10 + 4 + 1)
  else if sh.utype = .canFD then
    let (a, d) := fdSpans sh
    let total := if worst then (a.length + d.length - 1) / 4 else stuffFrom (a ++ d) 0
    let late := if worst then total - (a.length - 1) / 4 else stuffFrom (a ++ d) (a.length - 1)
    let crc := if fdLen (fdDlc sh.body.length) ≤ 16 then 27 else 32
    let nom := a.length + (total - late) + 2 + 7 + 3
    let dat := d.length + late + crc + 1
    if sh.brs then (nom, dat) else (nom + dat, 0)
  else
    let s := ccSpan sh rx
    (s.length + (if worst then (s.length - 1) / 4 else stuffFrom s 0) + 10 + 3, 0)

/-- Slot clocks of a bit under a timing register (R99). -/
def bitClocks (w : Word) : Nat := (bits w.toNat 31 24 + 1) * (1 + (bits w.toNat 23 16 + 1) + (bits w.toNat 14 8 + 1))

/-- Time in ns, rounded up, of nominal and data bits at 80 MHz. -/
def clocksNs (n d : Nat) : Nat := (n * 25 + d * 25 + 1) / 2

/-- Time of a CAN frame under a plane's timings of its slot. -/
def BusModel.canNs (b : BusModel) (sh : Shingle) (rx worst : Bool) : Nat :=
  let (n, d) := canBits sh rx worst
  (n * bitClocks b.nbt + d * bitClocks (if sh.utype = .canXL then b.xbt else b.dbt)) * 25 / 2 +
    (if worst then 1 else 0)

/-! Slow slots: the plane keeps SLOT_SB_CFG in `nbt` and SLOT_SB_FRAME in `dbt`. -/

/-- Bits of a character frame (R133). -/
def charBits (pers : Nat) (cfg : Word) : Nat :=
  if pers = 5 then
    let db := bits cfg.toNat 31 30
    1 + (if db = 0 then 7 else if db = 1 then 8 else 9) + (if bits cfg.toNat 29 28 = 0 then 0 else 1) + (if bit cfg.toNat 27 then 2 else 1)
  else 10

/-- ns of `n` bits, rounded down (R133); J1708 runs at 9,600 b/s. -/
def slowBitsNs (pers : Nat) (cfg : Word) (n : Nat) : Nat :=
  if pers = 6 then n * 312500 / 3 else n * bits cfg.toNat 20 0 * 25 / 32

/-- Bus time of a slow unit (R266): `out` for a released one. -/
def BusModel.slowNs (b : BusModel) (pers : Nat) (sh : Shingle) (out : Bool) : Nat :=
  let len := sh.body.length
  let ch := charBits pers b.nbt
  if pers = 4 then slowBitsNs pers b.nbt (34 + 10 * ((if out then len else len - 2) + 1))
  else if pers = 6 then slowBitsNs pers b.nbt ((if out then len + 1 else len) * ch + 12 + 2 * (if out then sh.prio else 8))
  else
    let chk := bits b.nbt.toNat 26 24
    let extra := if out then (if chk = 0 then 0 else if chk = 4 then 2 else 1) else 0
    slowBitsNs pers b.nbt ((len + extra + bits b.dbt.toNat 31 24) * ch)

/-- A plane's model of a slot. -/
def Plane.busOf (p : Plane) (n : Nat) : BusModel := sget (fun _ => BusModel.init) p.bus n

/-- A plane's model of a slot changed. -/
def Plane.onBus (p : Plane) (n : Nat) (g : BusModel → BusModel) : Plane := { p with bus := supd (fun _ => BusModel.init) p.bus n g }

/-- Personality of a slot under the plane's truss. -/
def Plane.pers (p : Plane) (n : Nat) : Nat := (slotRec p.truss n).u 0 1

/-- The words that a slot's record gives the timing registers that the plane models: offsets and values. -/
def Plane.timingWords (p : Plane) (n : Nat) : List (Nat × Nat) :=
  let r := slotRec p.truss n
  if persSlow (p.pers n) then [(0x08, r.u 4 4), (0x0C, bytesAt (leBytes 4 (r.u 3 1 * 2 ^ 24 + r.u 8 2 % 4096 * 2 ^ 12 + r.u 10 1 % 4 * 2 ^ 10 + r.u 11 1)) 0 4)]
  else [(0x10, r.u 4 4), (0x14, r.u 8 4), (0x1C, r.u 12 4)]

/-- A timing register as the plane knows it: the last write completion, or the truss's value (R112). -/
def Plane.timing (p : Plane) (n off : Nat) : Word :=
  match (p.busOf n).known.find? (fun x => x.1 = off) with
  | some x => x.2
  | none => BitVec.ofNat 32 (((p.timingWords n).find? (fun x => x.1 = off)).elim 0 (·.2))

/-- The model after a PORT_RESTART: empty, with the timings that the slot now uses (R112). -/
def Plane.busRestart (p : Plane) (n : Nat) : Plane :=
  let slow := persSlow (p.pers n)
  let (x, y, z) := if slow then (p.timing n 0x08, p.timing n 0x0C, 0) else (p.timing n 0x10, p.timing n 0x14, p.timing n 0x1C)
  p.onBus n (fun b => { b with ends := [], nbt := x, dbt := y, xbt := z, asleep := false })

/-- The model after a RATE: empty, with the adopted nominal timing (R112). -/
def Plane.busRate (p : Plane) (n timing : Nat) : Plane := p.onBus n (fun b => { b with ends := [], nbt := BitVec.ofNat 32 timing })

/-- A write of a slot's timing register that is known to have completed (R112). -/
def Plane.busKnows (p : Plane) (n off : Nat) (v : Word) : Plane :=
  p.onBus n (fun b => { b with known := b.known.filter (fun x => x.1 ≠ off) ++ [(off, v)] })

/-- The Ethernet or T1S port whose block an address is in. -/
def portAt (a : Nat) : Option Nat :=
  if 0x200000 ≤ a ∧ a < 0x218000 then some (128 + (a - 0x200000) / 0x1000)
  else if 0x280000 ≤ a ∧ a < 0x290000 then some (152 + (a - 0x280000) / 0x1000)
  else none

/-- A completed write at an address, as far as a plane's models need it: bit timings (R112), ETH_MODE and LSA0 (R159, R163). -/
def Plane.timingKnown (p : Plane) (addr : Nat) (v : Word) : Plane :=
  let n := (addr - 0x100000) / 0x1000
  if 0x100000 ≤ addr ∧ addr < 0x180000 ∧ ((p.timingWords n).any (fun w => w.1 = addr % 0x1000)) = true then p.busKnows n (addr % 0x1000) v
  else
    match portAt addr with
    | some port => if (portWords p.truss port).any (fun w => w.1 = addr % 0x1000) then p.portKnows port (addr % 0x1000) v else p
    | none => p

/-- The word that the plane knows at an address. -/
def Plane.knownAt (p : Plane) (a : Nat) : Option Word :=
  if 0x100000 ≤ a ∧ a < 0x180000 then ((p.busOf ((a - 0x100000) / 0x1000)).known.find? (fun x => x.1 = a % 0x1000)).map (·.2)
  else (portAt a).bind (fun port => ((p.portSet port).words.find? (fun x => x.1 = a % 0x1000)).map (·.2))

/-- The timings of every slot as the plane knows them, each under its register's offset: what the running bank holds (R112). -/
def Plane.timingsOf (p : Plane) (n : Nat) : List (Nat × Word) := (p.timingWords n).map (fun w => (w.1, p.timing n w.1))

/-- What a port's registers hold as a plane knows it, and MAXFRM in force: what the running bank holds. -/
def Plane.portSetOf (p : Plane) (port : Nat) : PortSet :=
  ⟨(portWords p.truss port).map (fun w => (w.1, p.portWord port w.1)), some (p.maxFrm port)⟩

/-- The change of bank at a cut (R87, R112): the new truss's registers, but for the words that the carry map takes over. -/
def Plane.cutTimings (p : Plane) : Plane :=
  let q := ({ p with bus := smap (fun _ => BusModel.init) (fun b => { b with known := [] }) p.bus } : Plane).onFwd (fun f => { f with
    portSets := smap (fun _ => PortSet.init) (fun s => { s with words := [] }) f.portSets })
  if p.regs.get 0 TRUSS_TURN_CTL_COLD_CARRY = 1 then q
  else (carryRegs p.truss).foldl (fun q w => (p.knownAt w.1).elim q (q.timingKnown w.2)) q

/-- Time of a unit on slot `n`: exact for the governor, or as the release model takes it. -/
def Plane.slotNs (p : Plane) (n : Nat) (sh : Shingle) (out worst : Bool) : Nat :=
  if persSlow (p.pers n) then (p.busOf n).slowNs (p.pers n) sh out else (p.busOf n).canNs sh (!out) worst

/-- Released frames that the model may hold unfinished: 28 (R112), or 14 messages of a SERIAL or J1708 slot (R147); a LIN slot has no
model. -/
def slotRoom (pers : Nat) : Option Nat := if pers = 4 then none else if persSlow pers then some 14 else some 28

/-- A slot's queue released while the model has room (R112, R147); at most `fuel` units. -/
def Plane.releaseSlotN (p : Plane) (n : Nat) : Nat → Plane
  | 0 => p
  | fuel + 1 =>
    match p.queue (qkey n 0) with
    | [] => p
    | u :: rest =>
      let live := (p.busOf n).ends.filter (fun e => p.std p.st.ts < e)
      if (match slotRoom (p.pers n) with | some k => decide (k ≤ live.length) | none => false) then p
      else
        let start := max (p.std p.st.ts) (live.getLast?.getD 0)
        let p := (p.setQueue (qkey n 0) rest).onBus n (fun b => { b with ends := live ++ [start + p.slotNs n u.sh true true] })
        let p := p.chargeLd n (p.slotNs n u.sh true false)
        (p.cand n u.gen false 0 { u.sh with ts := u.ts }).releaseSlotN n fuel

/-- SLOT_RELEASE at the plane's stream position (R112, R147). -/
def Plane.releaseSlot (p : Plane) (n : Nat) : Plane := p.releaseSlotN n (p.queue (qkey n 0)).length

end Sys2Proof
end

