-- ==== Sys2Proof/Machine/FwdEth.lean ====
section
/-!
DEFINITION. Ethernet frames in a plane: the tag and type that VLAN resolution reads (R201), routing (R205, R206), the flow hash (R187),
stream filters, meters and gates (R180-R184), sequence recovery (R185, R186), MACsec (R323, R324), learning candidates (R210, R212).
-/

namespace Sys2Proof

/-! Views of a frame. -/

/-- An outer tag with TPID 0x8100 (R201). -/
def ethTagged (fr : List Byte) : Bool := beAt fr 12 2 = 0x8100
/-- The EtherType that VLAN resolution reads (R201, R475). -/
def ethType (fr : List Byte) : Nat := if ethTagged fr then beAt fr 16 2 else beAt fr 12 2
/-- Where the payload after that EtherType starts. -/
def ethOff (fr : List Byte) : Nat := if ethTagged fr then 18 else 14
/-- PCP of the tag. -/
def ethPcp (fr : List Byte) : Option Nat := if ethTagged fr then some (beAt fr 14 2 / 8192) else none
/-- DA. -/
def ethDa (fr : List Byte) : Nat := beAt fr 0 6
/-- SA. -/
def ethSa (fr : List Byte) : Nat := beAt fr 6 6
/-- The group bit of an address. -/
def macGroup (a : Nat) : Bool := bit a 40
/-- The broadcast address. -/
def macBroadcast : Nat := 2 ^ 48 - 1

/-- The default VID of a port: PVID, or 1 on T1S ports (R201). -/
def Plane.pvid (p : Plane) (port : Nat) : Nat := if port < 152 then (ethRec p.truss (port - 128)).u 6 2 else 1
/-- DEF_PCP of a port (R197). -/
def Plane.defPcp (p : Plane) (port : Nat) : Nat := if port < 152 then (ethRec p.truss (port - 128)).u 11 1 % 8 else 0
/-- The class that a port's PCP map gives (R167, R197). -/
def Plane.pcpClass (p : Plane) (port pcp : Nat) : Nat :=
  if port < 152 then bits ((ethRec p.truss (port - 128)).u 8 3) (3 * pcp + 2) (3 * pcp)
  else if pcp = 0 then 1 else if pcp = 1 then 0 else pcp

/-- The VID of a frame, or none for VID 4095 (R201). -/
def Plane.resolveVid (p : Plane) (port : Nat) (fr : List Byte) : Option Nat :=
  let v := beAt fr 14 2 % 4096
  if ethTagged fr = false ∨ v = 0 then some (p.pvid port) else if v = 4095 then none else some v

/-- VLAN membership of a port 128-175 (R206). -/
def vlanHas (r : Rec) (port : Nat) : Bool := r.f 0 (port - 128) (port - 128) = 1
/-- UNTAGGED of a port. -/
def vlanUntagged (r : Rec) (port : Nat) : Bool := r.f 8 (port - 128) (port - 128) = 1

/-- A frame as it leaves a port under a VLAN (R203). -/
def Plane.tagFor (p : Plane) (vid port inPort : Nat) (fr : List Byte) : List Byte :=
  let bare := if ethTagged fr then fr.take 12 ++ fr.drop 16 else fr
  if vlanUntagged (p.tget 2 vid) port then bare
  else
    let tci := if ethTagged fr then beAt fr 14 2 / 4096 * 4096 + vid else p.defPcp inPort * 8192 + vid
    bare.take 12 ++ beBytes 2 0x8100 ++ beBytes 2 tci ++ bare.drop 12

/-! Flow hash (R187). -/

/-- The record flag HASH_L3L4 of a port. -/
def Plane.hashL3 (p : Plane) (port : Nat) : Bool := decide (128 ≤ port ∧ port < 152) && (ethRec p.truss (port - 128)).f 0 3 3 = 1

/-- Protocol of an IP frame, where its L4 header starts and its addresses, or none for another frame. -/
def ipView (fr : List Byte) : Option (Bool × Nat × Nat × List Byte × List Byte) :=
  let o := ethOff fr
  if ethType fr = 0x0800 then some (false, bytesAt fr (o + 9) 1, o + 4 * (bytesAt fr o 1 % 16), (fr.drop (o + 12)).take 4, (fr.drop (o + 16)).take 4)
  else if ethType fr = 0x86DD then some (true, bytesAt fr (o + 6) 1, o + 40, (fr.drop (o + 8)).take 16, (fr.drop (o + 24)).take 16)
  else none

/-- The flow key of a unit (R187): two-byte fields of the frame as they stand, other numbers least significant byte first. -/
def Plane.flowKey (p : Plane) (sh : Shingle) : List Byte :=
  let fr := sh.body
  let l2 := fr.take 12 ++ (if ethTagged fr then beBytes 2 (beAt fr 14 2 % 4096) else [0, 0]) ++ beBytes 2 (ethType fr)
  match sh.utype with
  | .eth | .t1s =>
    if p.hashL3 sh.port then
      match ipView fr with
      | some (_, proto, l4, src, dst) => src ++ dst ++ leBytes 1 proto ++ (if proto = 6 ∨ proto = 17 then (fr.drop l4).take 4 else [])
      | none => l2
    else l2
  | .canCC | .canFD | .canXL => leBytes 2 sh.port ++ leBytes 4 sh.canId
  | .lin | .serial => leBytes 2 sh.port ++ sh.body.take 1
  | .host => leBytes 2 sh.port ++ leBytes 2 sh.tenant
  | _ => leBytes 2 sh.port ++ leBytes 2 sh.rid

/-- H (R187). -/
def Plane.flowHash (p : Plane) (sh : Shingle) : Nat := Config.crc32c (leBytes 4 (p.regs.rd SW_HASH_SEED).toNat ++ p.flowKey sh)

/-! Routing (R205). -/

/-- The sum of 16-bit words of an IPv4 header with end-around carry. -/
def ipSum (hdr : List Byte) : Nat :=
  (List.range (hdr.length / 2)).foldl (fun s i => let t := s + beAt hdr (2 * i) 2; if 65536 ≤ t then t - 65535 else t) 0

/-- A frame routed: TTL or hop limit down by one and the IPv4 checksum updated, or none where R205 drops it. -/
def routeFrame (fr : List Byte) : Option (List Byte) :=
  let o := ethOff fr
  match ipView fr with
  | none => none
  | some (false, _, l4, _, _) =>
    let h := (fr.drop o).take (l4 - o)
    let ttl := bytesAt fr (o + 8) 1
    if ttl ≤ 1 ∨ ipSum h ≠ 0xFFFF then none
    else
      let h0 := h.take 8 ++ leBytes 1 (ttl - 1) ++ h.drop 9
      let z := h0.take 10 ++ [0, 0] ++ h0.drop 12
      some (fr.take o ++ (h0.take 10 ++ beBytes 2 (0xFFFF - ipSum z) ++ h0.drop 12) ++ fr.drop l4)
  | some (true, _, _, _, _) =>
    let hop := bytesAt fr (o + 7) 1
    if hop ≤ 1 then none else some (fr.take (o + 7) ++ leBytes 1 (hop - 1) ++ fr.drop (o + 8))

/-! Stream filters. -/

/-- Whether a STREAM_ID entry identifies a frame of `vid` from `port` (R180). -/
def sidHits (r : Rec) (vid port : Nat) (fr : List Byte) : Bool :=
  r.u 2 2 = vid && (r.u 10 2 = 0xFFFF || r.u 10 2 = port) && r.be 4 6 = (if r.u 0 1 = 1 then ethSa fr else ethDa fr) && decide (r.u 0 1 ≤ 1)

/-- Entries of the STREAM_ID table in the order of R180's ties: DA entries first, a named port before any port, then the lowest index. -/
def sidRank (r : Rec) : Nat := (if r.u 0 1 = 1 then 2 else 0) + (if r.u 10 2 = 0xFFFF then 1 else 0)

/-- The stream handle of a frame (R180, R220). -/
def Plane.streamHandle (p : Plane) (vid port : Nat) (fr : List Byte) : Option Nat :=
  let hits := ((p.tlist 10).map (·.2)).filter (fun r => sidHits r vid port fr)
  ([0, 1, 2, 3].filterMap (fun k => hits.find? (fun r => sidRank r = k))).head?.map (·.u 12 2)

/-- A stream gate at a unit's TS: whether it is open, and its IPV (R184). -/
def Plane.sgate (p : Plane) (g t : Nat) : Bool × Option Nat :=
  let r := p.tget 13 g
  let es := (List.range (r.u 14 1)).map (fun i => let x := p.tget 14 (r.u 12 2 + i); (x.u 0 4, x.u 4 1))
  let base := r.u 0 8
  let cyc := r.u 8 4
  if es = [] ∨ cyc = 0 ∨ t < base then (true, none)
  else
    let (_, st, _) := gateWalk cyc ((t - base) % cyc) es 0 0
    (bit st 0, if bit st 1 then some (bits st 4 2) else none)

/-- A unit of `len` bytes at a flow meter at time `t` (R182): the meter afterwards, and whether the unit passes. Tokens in 10^-6 bit. -/
def meterRun (r : Rec) (m : Option MeterSt) (len t : Nat) : MeterSt × Bool :=
  let cbs := r.u 4 4 * 8000000
  let ebs := r.u 12 4 * 8000000
  let fl := r.u 16 1
  let m := m.getD ⟨cbs, ebs, t, false⟩
  let dt := t - m.at_
  let c := m.c + r.u 0 4 * dt
  let spill := if bit fl 2 then c - cbs else 0
  let c := min cbs c
  let e := min ebs (m.e + r.u 8 4 * dt + spill)
  let need := len * 8000000
  if m.red then (⟨c, e, t, true⟩, false)
  else if need ≤ c then (⟨c - need, e, t, false⟩, true)
  else if need ≤ e then (⟨c, e - need, t, false⟩, !bit fl 0)
  else (⟨c, e, t, bit fl 1⟩, false)

/-- A stream handle's counts (R181). -/
def Plane.onStream (p : Plane) (h : Nat) (g : StreamSt → StreamSt) : Plane :=
  p.onFwd (fun f => { f with streams := supd (fun _ => StreamSt.init) f.streams h g })

/-- The R-TAG of a frame: its sequence number (R185, R186). -/
def rTag (fr : List Byte) : Option Nat := if ethType fr = 0xF1C1 then some (beAt fr (ethOff fr + 2) 2) else none
/-- A frame without its R-TAG. -/
def dropRTag (fr : List Byte) : List Byte := if ethType fr = 0xF1C1 then fr.take (ethOff fr - 2) ++ fr.drop (ethOff fr + 4) else fr
/-- A frame with an R-TAG after any VLAN tag (R185). -/
def addRTag (fr : List Byte) (n : Nat) : List Byte :=
  fr.take (ethOff fr - 2) ++ beBytes 2 0xF1C1 ++ beBytes 2 0 ++ beBytes 2 n ++ fr.drop (ethOff fr - 2)

/-- A sequence number at a recovery function under the vector algorithm of IEEE 802.1CB (R186): the state afterwards, and whether the copy passes. -/
def CbSt.recover (c : CbSt) (history n tick : Nat) : CbSt × Bool :=
  if !c.taken then ({ c with seq := n, taken := true, window := [n], tick := tick, pass := c.pass + 1 }, true)
  else
    let ahead := (n + 65536 - c.seq) % 65536
    let behind := (c.seq + 65536 - n) % 65536
    if ahead < 32768 ∧ 0 < ahead then
      if history ≤ ahead then ({ c with rogue := c.rogue + 1 }, false)
      else
        let w := (n :: c.window).filter (fun x => (n + 65536 - x) % 65536 < history)
        ({ c with seq := n, window := w, tick := tick, pass := c.pass + 1 }, true)
    else if history ≤ behind then ({ c with rogue := c.rogue + 1 }, false)
    else if c.window.contains n then ({ c with dup := c.dup + 1 }, false)
    else ({ c with window := n :: c.window, tick := tick, pass := c.pass + 1 }, true)

/-- A function's state. -/
def Plane.cb (p : Plane) (i : Nat) : CbSt := sget (fun _ => CbSt.init) p.fwd.cbs i
/-- A function's state set. -/
def Plane.setCb (p : Plane) (i : Nat) (c : CbSt) : Plane := p.onFwd (fun f => { f with cbs := sput (fun _ => CbSt.init) f.cbs i c })

/-- Whether a recovery function's RESET_MS expires at tick `t` (R186). -/
def Plane.cbDue (p : Plane) (i t : Nat) : Bool :=
  let r := p.tget 15 i
  r.u 0 1 = 2 && (p.cb i).taken && decide ((p.cb i).tick + 100 * r.u 4 2 ≤ t)

/-- CB_RECOVERY_RESET at a TICK. -/
def Plane.cbTick (p : Plane) (t : Nat) : Plane :=
  p.fwd.cbs.foldl (fun p e => if p.cbDue e.1 t then p.setCb e.1 (p.cb e.1).reset else p) p

/-- A unit's CB function (R185, R186): the frame, the number for an R-TAG, or none where the unit is discarded. R186 does not say which count
takes a discarded unit without R-TAG: DESIGN CHOICE, the rogue units' (log entry 88). -/
def Plane.cbUnit (p : Plane) (i : Nat) (fr : List Byte) (tick : Nat) : Plane × Option (List Byte × Option Nat) :=
  let r := p.tget 15 i
  let c := p.cb i
  if r.u 0 1 = 1 then (p.setCb i { c with seq := (c.seq + 1) % 65536 }, some (fr, some c.seq))
  else if r.u 0 1 = 2 then
    match rTag fr with
    | none =>
      if bit (r.u 1 1) 1 then (p.setCb i { c with tick := tick, pass := c.pass + 1 }, some (fr, none))
      else (p.setCb i { c with rogue := c.rogue + 1 }, none)
    | some n =>
      let (c, ok) := c.recover (r.u 2 1) n tick
      (p.setCb i c, if ok then some (if bit (r.u 1 1) 0 then fr else dropRTag fr, none) else none)
  else (p, some (fr, none))

/-- Step 3 of R200 (R181-R186): the frame, IPV and R-TAG number of a unit that passes, or none where it drops. -/
def Plane.filterStream (p : Plane) (vid : Nat) (sh : Shingle) (tick : Nat) : Plane × Option (List Byte × Option Nat × Option Nat) :=
  match p.streamHandle vid sh.port sh.body with
  | none => (p, some (sh.body, none, none))
  | some h =>
    let r := p.tget 11 h
    if r = 0 then (p, some (sh.body, none, none))
    else
      let st := sget (fun _ => StreamSt.init) p.fwd.streams h
      let big := decide (r.u 0 2 < sh.body.length + 4)
      let dropped := fun (p : Plane) => p.onStream h (fun s => { s with drop := s.drop + 1 })
      if big ∨ st.blocked = true then
        (dropped (p.onStream h (fun s => { s with blocked := s.blocked || (big && bit (r.u 5 1) 0) })), none)
      else
        let (open_, ipv) := if r.u 4 1 = 0xFF then (true, none) else p.sgate (r.u 4 1) sh.ts
        if !open_ then (dropped p, none)
        else
          let (p, ok) : Plane × Bool :=
            if r.u 2 2 = 0xFFFF then (p, true)
            else
              let (m, ok) := meterRun (p.tget 12 (r.u 2 2)) (sget (fun _ => none) p.fwd.meters (r.u 2 2)) (sh.body.length + 4) (p.std sh.ts)
              (p.onFwd (fun f => { f with meters := sput (fun _ => none) f.meters (r.u 2 2) (some m) }), ok)
          if !ok then (dropped p, none)
          else
            let p := p.onStream h (fun s => { s with pass := s.pass + 1 })
            if r.u 6 2 = 0xFFFF then (p, some (sh.body, ipv, none))
            else
              let (p, x) := p.cbUnit (r.u 6 2) sh.body tick
              (p, x.map (fun y => (y.1, ipv, y.2)))

/-! MACsec. -/

/-- MACsec of an Ethernet port as the truss sets it (R322, R335). -/
def Plane.msOn (p : Plane) (port : Nat) : Option Rec :=
  if port < 128 ∨ 152 ≤ port ∨ p.truss.sec 0x03 = [] ∨ (ethRec p.truss (port - 128)).f 0 1 1 = 0 then none else p.msRec (port - 128)

/-- Associations of a port. -/
def Plane.msPort (p : Plane) (port : Nat) : MsPort := sget (fun _ => MsPort.init) p.kiln.ms (port - 128)

/-- The associations of a port changed. -/
def Plane.onMs (p : Plane) (port : Nat) (g : MsPort → MsPort) : Plane :=
  p.onKiln (fun k => { k with ms := supd (fun _ => MsPort.init) k.ms (port - 128) g })

/-- The association of a receive channel (R322). -/
def MsPort.find (st : MsPort) (sci : List Byte) (an : Nat) : Option Assoc :=
  (st.rx.find? (fun c => c.1 = sci)).bind (fun c => c.2.find? (fun a => a.an = an))

/-- A PN accepted on a receive channel: the next one expected lies behind it. -/
def MsPort.seen (st : MsPort) (sci : List Byte) (an pn : Nat) : MsPort :=
  { st with rx := st.rx.map (fun c => if c.1 = sci then (c.1, c.2.map (fun (a : Assoc) => if a.an = an then { a with pn := max a.pn (pn + 1) } else a))
      else c) }

/-- A SAK installed for transmission and on every receive channel, which keeps two associations (R322, R325). -/
def MsPort.install (st : MsPort) (an : Nat) (sak : List Byte) : MsPort :=
  { st with
    tx := some ⟨an, sak, 1⟩
    rx := st.rx.map (fun c =>
      let l := c.2.filter (fun (a : Assoc) => a.an ≠ an) ++ [⟨an, sak, 1⟩]
      (c.1, l.drop (l.length - 2)))
    wantSak := false }

/-- A peer's receive channel (R322): at most four; a new one starts with the association in use. -/
def MsPort.channel (st : MsPort) (sci : List Byte) : MsPort :=
  if st.rx.any (fun c => c.1 = sci) ∨ 4 ≤ st.rx.length then st
  else { st with rx := st.rx ++ [(sci, (st.tx.map (fun a => { a with pn := 1 })).toList)] }

/-- A received frame on a MACsec port before step 2 (R323): the frame that continues, or none where it drops. `an`, `pn`, `enc` from the
SecTAG (IEEE 802.1AE): TCI and AN at byte 14, SL 15, PN 16-19, then the SCI where TCI.SC is set. -/
def Plane.msReceive (p : Plane) (port : Nat) (fr : List Byte) : Plane × Option (List Byte) :=
  match p.msOn port with
  | none => (p, some fr)
  | some r =>
    let fail := fun (p : Plane) (reg : Nat) => (p.onRegs (·.inc reg), (none : Option (List Byte)))
    let et := beAt fr 12 2
    if et ≠ 0x88E5 then (if et = 0x888E ∨ et = 0x88F7 then (p, some fr) else fail p CPH_MS_UNPROT)
    else
      let tci := bytesAt fr 14 1
      let an := tci % 4
      let off := if bit tci 5 then 28 else 20
      let pn := beAt fr 16 4
      let sl := bytesAt fr 15 1
      let n := if sl = 0 then fr.length else off + sl + 16
      let sci := if bit tci 5 then (fr.drop 20).take 8 else (fr.drop 6).take 6 ++ [0, 1]
      match (p.msPort port).find sci an with
      | none => fail p CPH_MS_RX_FAIL
      | some a =>
        let iv := sci ++ (fr.drop 16).take 4
        let text := (fr.drop off).take (n - off - 16)
        let enc := bit tci 3
        let aad := if enc then fr.take off else fr.take (n - 16)
        let tag := fitBytes 16 (Config.gcmTag a.sak iv aad (if enc then text else []))
        if bit tci 7 = true ∨ fr.length < n ∨ n < off + 16 ∨ pn = 0 ∨ pn + r.u 6 1 < a.pn ∨ tag ≠ (fr.drop (n - 16)).take 16 then
          fail p CPH_MS_RX_FAIL
        else
          let plain := if enc then fitBytes text.length (Config.gcmText a.sak iv aad text) else text
          (p.onMs port (·.seen sci an pn), some (fr.take 12 ++ plain))

/-- Bytes that MACsec adds to a frame on a port (R324): SecTAG with or without SCI, and the ICV. -/
def Plane.msExtra (p : Plane) (port : Nat) : Nat :=
  match p.msOn port with
  | some r => (if bit (r.u 4 1) 0 then 16 else 8) + 16
  | none => 0

/-- An egress frame protected at its release (R324); EAPOL and gPTP stay uncontrolled. None where no association may send it. -/
def Plane.msSend (p : Plane) (port : Nat) (fr : List Byte) : Plane × Option (List Byte) :=
  match p.msOn port with
  | none => (p, some fr)
  | some r =>
    let et := beAt fr 12 2
    if et = 0x888E ∨ et = 0x88F7 then (p, some fr)
    else
      let st := p.msPort port
      match st.tx with
      | none => (p.onRegs (·.inc CPH_MS_PN_EXH), none)
      | some a =>
        if 0xFFFFFFFF ≤ a.pn then (p.onRegs (·.inc CPH_MS_PN_EXH), none)
        else
          let withSci := bit (r.u 4 1) 0
          let conf := bit (r.u 4 1) 1
          let sci := (fr.drop 6).take 6 ++ [0, 1]
          let tci := (if withSci then 0x20 else 0) + (if conf then 0x0C else 0) + a.an % 4
          let text := fr.drop 12
          let sec := beBytes 2 0x88E5 ++ leBytes 1 tci ++ leBytes 1 (if text.length < 48 then text.length else 0) ++ beBytes 4 a.pn ++
            (if withSci then sci else [])
          let iv := sci ++ beBytes 4 a.pn
          let aad := fr.take 12 ++ sec ++ (if conf then [] else text)
          let ct := if conf then fitBytes text.length (Config.gcmText a.sak iv aad text) else text
          let icv := fitBytes 16 (Config.gcmTag a.sak iv aad (if conf then ct else []))
          let p := p.onMs port (fun st => { st with
            tx := some { a with pn := a.pn + 1 }, wantSak := st.wantSak || decide (0xC0000000 ≤ a.pn + 1) })
          (p, some (fr.take 12 ++ sec ++ ct ++ icv))

/-! Learning candidates. -/

/-- What the source check of step 5 says of a unit: whether it goes on, and its learning candidate, still without a tenant (R208, R210, R212).
Candidates are decided against the table of the last applied TICK, which a removal since then has not changed. -/
def Plane.sourceCheck (p : Plane) (vlan : Rec) (port sa : Nat) : Plane × Bool × Option Learn :=
  let fid := vlan.u 16 2
  let at' := p.anchor port
  let pl := p.portLearn at'
  let p := p.meets 4 (p.macWays fid sa)
  let may := macGroup sa = false && sa ≠ 0 && bit (vlan.u 18 2) 1 && (p.portLearn port).f 5 0 0 = 1
  let cand := fun (known : Option Rec) =>
    let none' := match known with | some r => r.u 12 2 = at' && r.u 15 1 = 0 | none => false
    if may && !none' then some ⟨fid, sa, at', 0xFFFF⟩ else none
  match p.macSee fid sa with
  | some r =>
    if macStatic r then
      let p := p.onRegs (·.inc TBL_LEARN_STATIC)
      if r.f 14 2 2 = 1 then (p.onRegs (·.inc TBL_SA_DISCARD), false, none) else (p, true, none)
    else (p, true, cand (some r))
  | none =>
    if bits (pl.u 0 4) 17 0 ≤ p.countAt at' then
      if pl.u 4 1 = 1 then (p.onRegs (·.inc TBL_LEARN_DROP), false, none) else (p, true, none)
    else (p, true, cand (p.fwd.flushed.find? (fun r => macHas r fid sa)))

/-- The routing domain whose GW_MAC a frame names, by its VLAN's DOMAIN (R206). -/
def Plane.gatewayOf (p : Plane) (vlan : Rec) (fr : List Byte) : Option Rec :=
  let dom := p.tget 3 (vlan.u 20 1)
  if dom ≠ 0 ∧ ethDa fr = dom.be 0 6 then some dom else none

/-- The IP family and destination with which a frame to GW_MAC goes to the prefix lookup; none for any other frame to it (R206). -/
def prefixView (vlan dom : Rec) (fr : List Byte) : Option (Bool × Nat) :=
  let et := ethType fr
  if bit (vlan.u 18 2) 3 ∧ ((et = 0x0800 ∧ dom.f 6 0 0 = 1) ∨ (et = 0x86DD ∧ dom.f 6 1 1 = 1)) then
    (ipView fr).map (fun x => (x.1, beNat x.2.2.2.2))
  else none

/-- Where the destination lookup of step 5 leads (R206-R208, R212): a RID, the port of a learned hit, whether the prefix table gave the RID;
or none where the unit drops into TBL_L3_DROP. -/
def Plane.destLookup (p : Plane) (vlan : Rec) (fr : List Byte) : Option (Nat × Option Nat × Bool) :=
  let da := ethDa fr
  match p.gatewayOf vlan fr with
  | some dom =>
    match prefixView vlan dom fr with
    | some (v6, dst) => (p.lpm v6 (vlan.u 20 1) dst).map (fun rid => (rid, none, true))
    | none => none
  | none =>
    match p.macSee (vlan.u 16 2) da with
    | some r =>
      if macStatic r then some (r.u 12 2, none, false)
      else if macGroup da then some (vlan.u (if da = macBroadcast then 24 else 26) 2, none, false)
      else some (vlan.u 22 2, some (r.u 12 2), false)
    | none => some (vlan.u (if macGroup da ∧ da ≠ macBroadcast then 26 else 24) 2, none, false)

/-- What the destination lookup reads: many prefix probes are counted (R218), a bad entry is noted (R221). -/
def Plane.countProbes (p : Plane) (vlan : Rec) (fr : List Byte) : Plane :=
  match p.gatewayOf vlan fr with
  | some dom =>
    match prefixView vlan dom fr with
    | some (v6, dst) =>
      let fam := lpmFam v6
      (p.lpmSlow v6 (vlan.u 20 1) dst).meets fam.1 (p.lpmReads v6 (vlan.u 20 1) dst fam.2.1)
    | none => p
  | none => p.meets 4 (p.macWays (vlan.u 16 2) (ethDa fr))

end Sys2Proof
end

