-- ==== Sys2Proof/Machine/FwdTen.lean ====
section
/-!
DEFINITION. Tenants in a plane: identities and attribution (R256, R257), binding and unbinding (R258, R259), policers and the tests of
step 8 (R261-R264), the governor's windows (R265-R271).
-/

namespace Sys2Proof

/-! Identities. -/

/-- Whether a template accepts identities on a port (R256). -/
def tplPort (m : Rec) (port : Nat) : Bool := m.f 64 port port = 1

/-- The DOIP identity of a unit (R256): ETH units carrying TCP to port 13400 on a DIAG port. -/
def Plane.doipIdent (p : Plane) (sh : Shingle) : Option Ident :=
  if sh.utype ≠ .eth ∨ sh.port < 128 ∨ 152 ≤ sh.port ∨ (ethRec p.truss (sh.port - 128)).f 0 4 4 = 0 then none
  else
    match ipView sh.body with
    | some (v6, proto, l4, src, _) =>
      if proto = 6 ∧ beAt sh.body (l4 + 2) 2 = 13400 then
        some ⟨4, sh.port, leNat (fitBytes 16 src) + beAt sh.body l4 2 * 2 ^ 128 + (if v6 then 6 else 4) * 2 ^ 144⟩
      else none
    | none => none

/-- TCP flags of a unit with a DOIP identity. -/
def tcpFlags (sh : Shingle) : Nat :=
  match ipView sh.body with
  | some (_, _, l4, _, _) => bytesAt sh.body (l4 + 13) 1
  | none => 0

/-- Every identity that a unit presents (R256). -/
def Plane.identities (p : Plane) (sh : Shingle) : List Ident :=
  if sh.utype.isCan then
    let ranges := (List.range p.templates).filter (fun i =>
      let m := p.template i
      m.u 0 1 = 2 && tplPort m sh.port && decide (m.u 16 4 ≤ sh.canId ∧ sh.canId ≤ m.u 20 4))
    (if sh.ide then [⟨1, sh.port, sh.canId % 256⟩] else []) ++ ranges.map (fun i => ⟨2, sh.port, i⟩)
  else if sh.utype = .eth ∨ sh.utype = .t1s then ⟨3, sh.port, leNat ((sh.body.drop 6).take 6)⟩ :: (p.doipIdent sh).toList
  else if sh.utype = .host then [⟨5, sh.port, sh.tenant⟩]
  else []

/-- Whether template `i` accepts an identity that a unit presents, as a binding candidate (R256, R257). -/
def Plane.tplAccepts (p : Plane) (i : Nat) (id : Ident) (tcp : Nat) : Bool :=
  let m := p.template i
  m.u 0 1 = id.kind && tplPort m id.port &&
    (if id.kind = 1 then decide (m.u 16 4 ≤ id.value ∧ id.value ≤ m.u 20 4)
     else if id.kind = 2 then id.value = i
     else if id.kind = 3 then true
     else if id.kind = 4 then bit tcp 1 && !bit tcp 4
     else false)

/-- The template with the lowest ID_FIRST of a list. -/
def Plane.lowestTpl (p : Plane) : List (Nat × Ident) → Option (Nat × Ident)
  | [] => none
  | x :: xs =>
    match p.lowestTpl xs with
    | some y => if (p.template y.1).u 2 2 < (p.template x.1).u 2 2 then some y else some x
    | none => some x

/-- The tenant of a unit at step 7 and the binding candidate it yields (R257). -/
def Plane.attribute (p : Plane) (route : Rec) (sh : Shingle) : Nat × Option Bind :=
  let dflt := route.u 38 2 % 4096
  if route.f 32 2 2 = 0 then (dflt, none)
  else
    let ids := p.identities sh
    match p.live.find? (fun t => (p.ctx t).u 32 1 ≠ 0 && ids.contains (ctxIdent (p.ctx t))) with
    | some t => (t, none)
    | none =>
      let fl := tcpFlags sh
      let hits := (List.range p.templates).flatMap (fun i => (ids.filter (fun id => p.tplAccepts i id fl)).map (fun id => (i, id)))
      (dflt, (p.lowestTpl hits).map (fun x => ⟨x.2, x.1, p.tickAt sh.ts⟩))

/-- BOUND tenants whose DoIP connection a segment with FIN or RST ends, whatever tenant the unit is attributed to (R259). -/
def Plane.doipEnds (p : Plane) (sh : Shingle) : List Nat :=
  match p.doipIdent sh with
  | some id =>
    if tcpFlags sh % 2 = 1 ∨ bit (tcpFlags sh) 2 = true then p.live.filter (fun t => p.tenState t = 1 && ctxIdent (p.ctx t) = id) else []
  | none => []

/-- A unit attributed to a tenant counts as offered in the window of its tick (R265, R267). -/
def Plane.offer (p : Plane) (t tick len : Nat) : Plane :=
  let g := fun (o : Nat × Nat) => (o.1 + 1, o.2 + len)
  p.onFwd (fun f =>
    if p.nextWin tick then { f with offersNext := supd (fun _ => (0, 0)) f.offersNext t g }
    else { f with offers := supd (fun _ => (0, 0)) f.offers t g })

/-- Step 7 of R200 in the plane: attribution with its LAST_TICK, offer and binding candidate (R257, R259, R267). -/
def Plane.takeTenant (p : Plane) (route : Rec) (sh : Shingle) : Plane × Nat :=
  let (t, b) := p.attribute route sh
  let tick := p.tickAt sh.ts
  let p := if p.tenState t = 0 then p else p.onCtx t (fun r => r.put 64 8 tick)
  ((p.offer t tick sh.body.length).onFwd (fun f => { f with
    binds := f.binds ++ b.toList
    doipEnd := f.doipEnd ++ p.doipEnds sh }), t)

/-! Binding. -/

/-- A binding candidate applied at a TICK (R258). -/
def Plane.bind (p : Plane) (b : Bind) : Plane :=
  if p.live.any (fun t => ctxIdent (p.ctx t) = b.ident) then p
  else
    let m := p.template b.template
    match ((List.range (m.u 4 2 + 1 - m.u 2 2)).map (m.u 2 2 + ·)).find? (fun t => p.tenState t = 0) with
    | none => p.onRegs (·.inc TEN_BIND_FAIL)
    | some t => ((p.tput 17 t (ctxOf t b.template 1 m b.ident p.st.tick b.tick)).setPolicers t m (p.std p.st.ts)).boundPeak

/-- Whether a BOUND tenant is unbound as idle at tick `t` (R259). -/
def Plane.idleDue (p : Plane) (ten t : Nat) : Bool :=
  let idle := (p.tplOf ten).u 12 2
  p.tenState ten = 1 && idle ≠ 0 && decide ((p.ctx ten).u 64 8 + idle * 100000 ≤ t)

/-- Whether a BOUND tenant still fits a template of the running truss (R259): its identity and its ID. -/
def Plane.fits (p : Plane) (ten : Nat) : Bool :=
  let id := ctxIdent (p.ctx ten)
  (List.range p.templates).any (fun i =>
    let m := p.template i
    m.u 0 1 = id.kind && tplPort m id.port && decide (m.u 2 2 ≤ ten ∧ ten ≤ m.u 4 2) &&
      (if id.kind = 1 then decide (m.u 16 4 ≤ id.value ∧ id.value ≤ m.u 20 4)
       else if id.kind = 2 then id.value = i
       else if id.kind = 4 then decide (128 ≤ id.port ∧ id.port < 152) && (ethRec p.truss (id.port - 128)).f 0 4 4 = 1
       else id.kind = 3))

/-- The CAUSE with which a BOUND tenant is unbound at tick `t`, if it is (R259, R260). -/
def Plane.unbindCause (p : Plane) (ten t : Nat) : Option Nat :=
  if p.tenState ten ≠ 1 then none
  else if p.idleDue ten t then some 1
  else if p.fwd.doipEnd.contains ten then some 0
  else if p.fwd.postCut && !p.fits ten then some 3
  else none

/-- Unbindings at a TICK, in ascending tenant ID (R260 step 2). -/
def Plane.unbindTick (p : Plane) (t : Nat) : Plane :=
  let p := p.live.foldl (fun p ten =>
    match p.unbindCause ten t with
    | some c => p.unbind ten c
    | none => p) p
  p.onFwd (fun f => { f with doipEnd := [], postCut := false })

/-- Binding candidates at a TICK, in stream order (R260 step 3). -/
def Plane.bindTick (p : Plane) : Plane :=
  let bs := p.fwd.binds
  bs.foldl Plane.bind (p.onFwd (fun f => { f with binds := [] }))

/-- Tenants bound to a port are unbound when it goes (R259). -/
def Plane.unbindPort (p : Plane) (port : Nat) : Plane :=
  p.live.foldl (fun p t => if p.tenState t = 1 ∧ (p.ctx t).u 34 2 = port then p.unbind t 2 else p) p

/-! Policers. -/

/-- A policer filled at time `t` (R262). -/
def polFill (r : Rec) (t : Nat) : Rec :=
  let lvl := min (r.u 4 4 * 65536) (r.u 16 8 + r.u 0 4 * (t - r.u 24 8) * 65536 / 10 ^ 9)
  (r.put 16 8 lvl).put 24 8 t

/-- A unit's cost at a policer in tokens × 65,536 (R262). -/
def polCost (r : Rec) (len : Nat) : Nat := (if r.f 32 1 1 = 1 then len else 1) * 65536

/-- The policers of test 4 (R263): the route's, POLICER0, and POLICER1 where DEST holds its GPORT. -/
def Plane.policersOf (p : Plane) (t : Nat) (route : Rec) : List Nat :=
  let c := p.ctx t
  let p1 := c.u 10 2
  let on := fun i => decide (i ≠ 0xFFFF) && (p.tget 19 i).f 32 0 0 = 1
  let gp := (p.tget 19 p1).u 34 2
  ([route.u 40 2, c.u 8 2].filter on) ++ (if on p1 && decide (gp < 179) && route.f 0 gp gp = 1 then [p1] else [])

/-- Step 8 (R263): whether a unit with RID `rid` of `len` bytes passes, with every count. -/
def Plane.police (p : Plane) (t : Nat) (route : Rec) (rid len ts : Nat) : Plane × Bool :=
  let c := p.ctx t
  if c.u 0 1 = 0 then (p.onRegs (·.inc TEN_FREE_DROP), false)
  else if c.f 33 0 0 = 1 then (p.ctxAdd t 112 4 1, false)
  else if p.inRouteSet (c.u 4 2) rid = false then (p.ctxAdd t 104 4 1, false)
  else
    let ps := p.policersOf t route
    let p := ps.foldl (fun p i => p.tupd 19 i (fun r => polFill r ts)) p
    let bad := ps.filter (fun i => (p.tget 19 i).u 16 8 < polCost (p.tget 19 i) len)
    if bad ≠ [] then
      ((bad.foldl (fun p i => p.tupd 19 i (fun r => r.put 40 4 (satAdd 32 (r.u 40 4) 1))) p).ctxAdd t 108 4 1, false)
    else
      let p := ps.foldl (fun p i => p.tupd 19 i (fun r =>
        (r.put 16 8 (r.u 16 8 - polCost r len)).put 36 4 (satAdd 32 (r.u 36 4) 1))) p
      ((p.ctxAdd t 88 8 1).ctxAdd t 96 8 len, true)

/-! The governor. -/

/-- Ports that the governor measures (R266, R273). -/
def govPort (port : Nat) : Bool := decide (port < 128 ∨ (152 ≤ port ∧ port < 168))

/-- Units from a port charge the window of their tick with their bus time (R265, R266). -/
def Plane.chargeLin (p : Plane) (port tick ns : Nat) : Plane := p.onBusy port tick (fun x => (x.1 + ns, x.2))

/-- What the window close says of a tenant's babbling (R269): the run afterwards, and the change, if any. -/
def babbleStep (m c : Rec) (units : Nat) : Nat × Option Bool :=
  let rate := m.u 56 2
  let on := c.f 33 0 0 = 1
  let hit := if on then decide (units ≤ rate / 2) else decide (rate < units)
  let run := if hit then c.u 84 1 + 1 else 0
  if m.u 14 1 ≤ run then (0, some (!on)) else (run, none)

/-- Babble evaluation of one tenant at a governor TICK (R269). -/
def Plane.babbleTenant (p : Plane) (t : Nat) : Plane :=
  let m := p.tplOf t
  if bit (m.u 1 1) 2 = false ∨ m.u 56 2 = 0 then p
  else
    let units := (p.ctx t).u 76 4
    let (run, change) := babbleStep m (p.ctx t) units
    let p := p.onCtx t (fun c => c.put 84 1 run)
    match change with
    | none => p
    | some true =>
      let p := p.onCtx t (fun c => c.putF 33 0 0 1)
      let p := p.onRegs (fun r => ((r.set 0 GOV_BABBLE_EVENT 1).set 0 GOV_BABBLE_TENANT t).inc GOV_BABBLE_CNT)
      p.event 0x0201 t noId []
    | some false => (p.onCtx t (fun c => c.putF 33 0 0 0)).event 0x0202 t noId []

/-- The governed policers of a port: POLICER1s of live, non-BABBLING tenants whose template sets GOVERNED with that GPORT (R270). -/
def Plane.governed (p : Plane) (port : Nat) : List Nat :=
  p.live.filterMap (fun t =>
    let m := p.tplOf t
    let p1 := (p.ctx t).u 10 2
    if bit (m.u 1 1) 1 && m.u 10 2 = port && (p.ctx t).f 33 0 0 = 0 && decide (p1 ≠ 0xFFFF) then some p1 else none)

/-- The factor k of the loop (R270). -/
def govK (target hyst l lin ld : Nat) : Nat :=
  if target < l ∨ l + hyst < target then
    (if ld = 0 then 81920 else min 81920 (max 32768 (65536 * (target - lin) / ld)))
  else 65536

/-- The end of a port's conflict, if it is in one (R271); a port whose loop has been turned off has no target to be in conflict with. -/
def Plane.endConflict (p : Plane) (port : Nat) : Plane :=
  if p.fwd.conflict.contains port then
    let w := (p.tget 20 port).u 20 4
    let p := p.onFwd (fun f => { f with conflict := f.conflict.filter (· ≠ port) })
    let p := p.onRegs (fun r => (r.set 0 GOV_CONFLICT_LAST_PORT port).set 0 GOV_CONFLICT_LAST_WINDOWS (min w (2 ^ 23 - 1)))
    p.event 0x0204 noId port (leBytes 4 w)
  else p

/-- A port's loop and conflict at a governor TICK (R270, R271). -/
def Plane.govLoop (p : Plane) (port : Nat) : Plane :=
  let g := p.tget 20 port
  let (bi, bo) := sget (fun _ => (0, 0)) p.fwd.busy port
  let lin := bi / 10000
  let ld := bo / 10000
  let l := lin + ld
  let loads := fun (g : Rec) => ((g.put 8 2 l).put 10 2 lin).put 12 2 ld
  if g.f 0 0 0 = 0 then (if l = 0 ∧ g.u 8 2 = 0 then p else p.tupd 20 port loads).endConflict port
  else
    let tgt := g.u 2 2
    let ps := p.governed port
    let conf := decide (tgt < l) && ps.all (fun i => (p.tget 19 i).u 0 4 ≤ (p.tget 19 i).u 8 4)
    let k := govK tgt (g.u 4 2) l lin ld
    let p := if k = 65536 ∧ ¬(tgt < l ∨ l + g.u 4 2 < tgt) then p
      else ps.foldl (fun p i => p.tupd 19 i (fun r => r.put 0 4 (min (r.u 12 4) (max (r.u 8 4) (r.u 0 4 * k / 65536))))) p
    let p := p.tupd 20 port (fun g => (loads g).put 16 4 k)
    let was := p.fwd.conflict.contains port
    if conf then
      let p := p.tupd 20 port (fun g => let g := g.put 20 4 (if was then g.u 20 4 + 1 else 1)
        if was then g else g.put 24 4 (satAdd 32 (g.u 24 4) 1))
      if was then p
      else
        let p := p.onFwd (fun f => { f with conflict := f.conflict ++ [port] })
        let p := p.onRegs (fun r => ((r.set 0 GOV_CONFLICT_EVENT 1).set 0 GOV_CONFLICT_PORT port).inc GOV_CONFLICT_CNT)
        p.event 0x0203 noId port []
    else p.endConflict port

/-- GOVERNOR_WINDOW_CLOSE at a governor TICK (R265-R271). -/
def Plane.govTick (p : Plane) (t : Nat) : Plane :=
  let p := p.live.foldl (fun p ten =>
    let (u, b) := sget (fun _ => (0, 0)) p.fwd.offers ten
    p.onCtx ten (fun c => (c.put 76 4 (min u (2 ^ 32 - 1))).put 80 4 (min b (2 ^ 32 - 1)))) p
  let p := p.onFwd (fun f => { f with offers := f.offersNext, offersNext := [] })
  let p := p.live.foldl Plane.babbleTenant p
  let p := ((List.range 168).filter govPort).foldl Plane.govLoop p
  let p := p.onFwd (fun f => { f with busy := f.busyNext, busyNext := [] })
  let p := p.onRegs (·.wr64 GOV_WINDOW_LO (t / 1000 - 1))
  p.onKiln (fun k => { k with toldTenants := [], toldHandles := [], slots := smap (fun _ => KeySlot.empty) (fun s => { s with winFail := 0 }) k.slots })

end Sys2Proof
end

