-- ==== Sys2Proof/Machine/Assist.lean ====
section
/-!
DEFINITION. Segmented transfer assist in a plane (R125-R129): SAE J1939-21 broadcast and connection-mode transfers and ISO 15765-2
transfers that the truss names. The frames' layouts are the standards' (log entry 60).
-/

namespace Sys2Proof

/-- The number of the next stored copy. -/
def Plane.newUid (p : Plane) : Plane × Nat := (p.onFwd (fun f => { f with nextUid := f.nextUid + 1 }), p.fwd.nextUid)

/-! Sessions and entries. -/

/-- Ticks in `ms` milliseconds. -/
def msTicks (ms : Nat) : Nat := ms * 100

/-- Sessions that count toward the 512 (R129). -/
def Plane.tpCount (p : Plane) : Nat := (p.fwd.tp.filter (fun s => s.role ≠ 0)).length

/-- A session put in, or put in place of the one it was. -/
def Plane.tpPut (p : Plane) (old : Option TpSess) (s : TpSess) : Plane :=
  p.onFwd (fun f => { f with tp := match old with | some o => f.tp.map (fun x => if x = o then s else x) | none => f.tp ++ [s] })

/-- A session ended. -/
def Plane.tpEnd (p : Plane) (s : TpSess) : Plane := p.onFwd (fun f => { f with tp := f.tp.erase s })

/-- Whether an assist entry reassembles (RX) or segments (TX), or is a proxy. -/
def asRx (r : Rec) : Bool := r.f 1 0 0 = 1
/-- TX. -/
def asTx (r : Rec) : Bool := r.f 1 1 1 = 1
/-- PROXY. -/
def asProxy (r : Rec) : Bool := r.f 1 2 2 = 1

/-- The N_TA or N_AE byte before the PCI in extended and mixed addressing. -/
def asLead (r : Rec) : List Byte := if 2 ≤ r.f 1 5 4 then leBytes 1 (r.u 15 1) else []

/-- A slot's entries. -/
def Plane.assists (p : Plane) (slot : Nat) : List Rec := (slotAssists p.truss slot).map (·.2)

/-- An entry of a slot for a J1939 PGN and destination. -/
def Plane.j1939Entry (p : Plane) (slot pgn dst : Nat) (q : Rec → Bool) : Option Rec :=
  (p.assists slot).find? (fun r => r.u 0 1 = 1 && q r && bits (r.u 4 4) 17 0 = pgn && r.u 7 1 = dst)

/-- An identifier as KEY and FC_ID hold it. -/
def idWord (s : Shingle) : Nat := s.canId + (if s.ide then 2 ^ 31 else 0)

/-- Whether two identifier words name one identifier. -/
def sameId (a b : Nat) : Bool := a % 2 ^ 29 = b % 2 ^ 29 && bit a 31 = bit b 31

/-! Frames that the device sends. -/

/-- A frame of a transfer on a slot: identifier word, whether it is an FD frame with or without BRS, data; TS, cause and tenant are those
of `base`. -/
def tpFrame (base : Shingle) (idw : Nat) (fd brs : Bool) (ageMs : Nat) (body : List Byte) : Shingle :=
  let w := idw % 2 ^ 29 + bitAt (bit idw 31) 63 + bitAt fd 61 + bitAt (fd && brs) 59 +
    (if fd then fdDlc body.length else body.length) * 2 ^ 52 + ageMs * 2 ^ 30
  { Shingle.mk0 (if fd then .canFD else .canCC) base.ts 177 0 body with
    stream := base.stream
    tenant := base.tenant
    info := leBytes 8 w }

/-- A frame handed to the slot's output queue, from which it reaches the transmit stage (R127). -/
def Plane.tpSend (p : Plane) (slot ageMs : Nat) (u : Shingle) : Plane :=
  let (p, uid) := p.newUid
  (p.pushQ slot 0 uid (cellsOf u) ageMs u false).1

/-- The 29-bit identifier of a J1939 TP frame: priority, PF, destination, source. -/
def tpId (prio pf da sa : Nat) : Nat := 2 ^ 31 + prio % 8 * 2 ^ 26 + pf * 2 ^ 16 + da * 2 ^ 8 + sa

/-- A TP.CM frame: control byte and three parameter bytes and one more, then the PGN. -/
def Plane.tpCm (p : Plane) (slot : Nat) (base : Shingle) (fd : Bool) (prio da sa pgn ageMs : Nat) (head : List Byte) : Plane :=
  p.tpSend slot ageMs (tpFrame base (tpId prio 0xEC da sa) fd base.brs ageMs (fitBytes 5 head ++ leBytes 3 pgn))

/-- TP.Conn_Abort with a reason (R129). -/
def Plane.tpAbort (p : Plane) (slot : Nat) (base : Shingle) (da sa pgn reason : Nat) : Plane :=
  p.tpCm slot base (base.utype = .canFD) 7 da sa pgn 0 (leBytes 1 255 ++ leBytes 1 reason ++ leBytes 3 0xFFFFFF)

/-- Data padded to what a frame carries: 8 bytes, or a valid FD length. The spec gives no padding byte for segments: DESIGN CHOICE, PAD of
the egress slot's record (log entry 85). -/
def Plane.tpPad (p : Plane) (slot : Nat) (fd : Bool) (bs : List Byte) : List Byte :=
  let n := if fd then max 8 (fdLen (fdDlc bs.length)) else 8
  bs ++ List.replicate (n - bs.length) (BitVec.ofNat 8 ((slotRec p.truss slot).u 22 1))

/-- An ISO 15765-2 frame of a session. -/
def Plane.isoSend (p : Plane) (s : TpSess) (base : Shingle) (idw : Nat) (bs : List Byte) : Plane :=
  let fd := decide (s.unit.utype = .canFD)
  p.tpSend s.slot s.ageMs (tpFrame base idw fd s.unit.brs s.ageMs (p.tpPad s.slot fd (asLead s.entry ++ bs)))

/-- Bytes of an ISO 15765-2 frame after the address byte. -/
def TpSess.cap (s : TpSess) : Nat := (if s.unit.utype = .canFD then 64 else 8) - (asLead s.entry).length

/-- The packets of a J1939 message. -/
def packets (total : Nat) : Nat := (total + 6) / 7

/-! Reception. -/

/-- The reassembled unit (R126), on the last frame. R126 does not say which frame of a transfer gives PRIORITY: DESIGN CHOICE, the last
one's identifier (log entry 85). -/
def tpUnit (s : TpSess) (last : Shingle) (data : List Byte) : Shingle :=
  let kind := if s.role = 1 then 1 else if s.role = 2 then 2 else 3
  let prio := if s.role = 3 then 0 else bits last.canId 28 26
  { last with
    rid := s.entry.u 2 2
    action := 1
    info := putM0 last.info 51 51 1
    body := leBytes 4 s.key ++ leBytes 1 s.sa ++ leBytes 1 s.da ++ leBytes 1 kind ++ leBytes 1 prio ++ data }

/-- A session with nothing received or sent yet. -/
def TpSess.start (role slot : Nat) (entry : Rec) (sa da key total : Nat) (u : Shingle) : TpSess :=
  { role := role, slot := slot, entry := entry, sa := sa, da := da, key := key, prio := 0, total := total, data := [], nxt := 1, pos := 0,
    left := 0, blockMax := 255, waits := 0, gapTicks := 0, gapAt := none, dueAt := none, ageMs := 0, unit := u }

/-- Packets per CTS that an entry asks for. -/
def asBlock (r : Rec) : Nat := if r.u 12 1 = 0 then 16 else r.u 12 1

/-- TP.CTS for the next block of a proxied transfer, and T2 (R128). -/
def Plane.tpCts (p : Plane) (s : TpSess) (base : Shingle) (now : Nat) : Plane × TpSess :=
  let n := min (min (asBlock s.entry) s.blockMax) (packets s.total + 1 - s.nxt)
  let p := if asProxy s.entry then
      p.tpCm s.slot base (s.unit.utype = .canFD) 7 s.sa s.da s.key 0 (leBytes 1 17 ++ leBytes 1 n ++ leBytes 1 s.nxt ++ leBytes 2 0xFFFF)
    else p
  (p, { s with left := n, dueAt := some (now + msTicks 1250) })

/-- A J1939 data packet of a running session: the plane and the reassembled unit, if it is the last one. -/
def Plane.tpData (p : Plane) (s : TpSess) (sh : Shingle) (now : Nat) : Plane × List Shingle :=
  if s.role = 0 then
    let p := p.onRegs (·.inc SW_ASSIST_REFUSED)
    (if packets s.total ≤ s.nxt then p.tpEnd s else p.tpPut (some s) { s with nxt := s.nxt + 1, dueAt := some (now + msTicks 750) }, [])
  else if bytesAt sh.body 0 1 ≠ s.nxt then
    (if s.role = 1 then (p.tpEnd s).onRegs (·.inc SW_ASSIST_ABORT) else p, [])
  else
    let data := s.data ++ fitBytes (min 7 (s.total - s.data.length)) (sh.body.drop 1)
    if s.total ≤ data.length then
      let p := (p.tpEnd s).onRegs (·.inc SW_ASSIST_DONE)
      let p := if s.role = 2 ∧ asProxy s.entry = true then
          p.tpCm s.slot sh (s.unit.utype = .canFD) 7 s.sa s.da s.key 0 (leBytes 1 19 ++ leBytes 2 s.total ++ leBytes 1 (packets s.total) ++ leBytes 1 0xFF)
        else p
      (p, [tpUnit s sh data])
    else
      let s' := { s with data := data, nxt := s.nxt + 1, left := s.left - 1, dueAt := some (now + msTicks 750) }
      if s.role = 2 ∧ s'.left = 0 then
        let (p, s') := p.tpCts s' sh now
        (p.tpPut (some s) s', [])
      else (p.tpPut (some s) s', [])

/-- A BAM (R129). -/
def Plane.tpBam (p : Plane) (r : Rec) (sh : Shingle) (now : Nat) : Plane :=
  let sa := sh.canId % 256
  let s := { TpSess.start 1 sh.port r sa 0xFF (bytesAt sh.body 5 3) (bytesAt sh.body 1 2) sh with dueAt := some (now + msTicks 750) }
  let old := p.fwd.tp.filter (fun x => x.slot = sh.port ∧ x.role ≤ 1 ∧ x.sa = sa)
  let p := old.foldl (fun p x => (p.tpEnd x).onRegs (fun m => if x.role = 0 then m else m.inc SW_ASSIST_ABORT)) p
  if 512 ≤ p.tpCount then (p.tpPut none { s with role := 0 }).onRegs (·.inc SW_ASSIST_REFUSED) else p.tpPut none s

/-- A connection-mode request to an address that an entry names (R128, R129). -/
def Plane.tpRts (p : Plane) (r : Rec) (sh : Shingle) (now : Nat) : Plane :=
  let sa := sh.canId % 256
  let da := bits sh.canId 15 8
  let pgn := bytesAt sh.body 5 3
  let refuse := fun (reason : Nat) =>
    let p := p.onRegs (·.inc SW_ASSIST_REFUSED)
    if asProxy r then p.tpAbort sh.port sh sa da pgn reason else p
  if p.fwd.tp.any (fun x => x.role = 2 && x.slot = sh.port && x.sa = sa && x.da = da) then refuse 1
  else if 512 ≤ p.tpCount then refuse 2
  else
    let s := { TpSess.start 2 sh.port r sa da pgn (bytesAt sh.body 1 2) sh with blockMax := bytesAt sh.body 4 1 }
    let (p, s) := p.tpCts s sh now
    p.tpPut none s

/-- The next segment of a transfer that the device sends: the session after it, or none at the end. -/
def Plane.tpNext (p : Plane) (s : TpSess) (base : Shingle) (now : Nat) : Plane × Option TpSess :=
  let fd := decide (s.unit.utype = .canFD)
  if s.role = 4 ∨ s.role = 5 then
    let bs := (s.data.drop (7 * (s.nxt - 1))).take 7
    let body := leBytes 1 s.nxt ++ bs ++ List.replicate (7 - bs.length) 0xFF
    let p := p.tpSend s.slot s.ageMs (tpFrame base (tpId s.prio 0xEB s.da s.sa) fd s.unit.brs s.ageMs body)
    if s.role = 4 ∧ packets s.total ≤ s.nxt then (p, none)
    else
      let s := { s with nxt := s.nxt + 1, left := s.left - 1 }
      (p, some (if s.role = 4 then { s with gapAt := some (now + s.gapTicks) }
        else { s with gapAt := if s.left = 0 then none else some now, dueAt := if s.left = 0 then some (now + msTicks 1250) else none }))
  else
    let bs := (s.data.drop s.pos).take (s.cap - 1)
    let p := p.isoSend s base s.key (leBytes 1 (0x20 + s.nxt % 16) ++ bs)
    let pos := s.pos + bs.length
    if s.total ≤ pos then (p, none)
    else
      let s := { s with pos := pos, nxt := s.nxt + 1, left := s.left - 1 }
      (p, some (if s.left = 0 then { s with gapAt := none, dueAt := some (now + msTicks 1000) }
        else { s with gapAt := some (now + s.gapTicks) }))

/-- The segments of a session that are due at `now`, at most `fuel` of them. -/
def Plane.tpRun (p : Plane) (base : Shingle) (now : Nat) : Nat → TpSess → Plane × Option TpSess
  | 0, s => (p, some s)
  | fuel + 1, s =>
    match s.gapAt with
    | none => (p, some s)
    | some g =>
      if now < g then (p, some s)
      else
        let (p, s') := p.tpNext s base now
        match s' with
        | some s' => p.tpRun base now fuel s'
        | none => (p, none)

/-- A session's due segments sent; a transfer that needs no acknowledgement is complete after its last one. -/
def Plane.tpGo (p : Plane) (s : TpSess) (s0 : Option TpSess) (base : Shingle) (now : Nat) : Plane :=
  let (p, r) := p.tpRun base now 4096 s
  match r, s0 with
  | some s', _ => p.tpPut s0 s'
  | none, some o => (p.tpEnd o).onRegs (·.inc SW_ASSIST_DONE)
  | none, none => p.onRegs (·.inc SW_ASSIST_DONE)

/-- TP.CTS, TP.CM_EndOfMsgAck or TP.Conn_Abort for a transfer of the device (R127). -/
def Plane.tpAnswer (p : Plane) (s : TpSess) (sh : Shingle) (ctl now : Nat) : Plane :=
  if ctl = 19 then (p.tpEnd s).onRegs (·.inc SW_ASSIST_DONE)
  else if ctl = 255 then (p.tpEnd s).onRegs (·.inc SW_ASSIST_ABORT)
  else
    let n := bytesAt sh.body 1 1
    if n = 0 then p.tpPut (some s) { s with gapAt := none, dueAt := some (now + msTicks 1050) }
    else
      let nx := bytesAt sh.body 2 1
      let n := min n (packets s.total + 1 - nx)
      if nx = 0 ∨ n = 0 then p
      else p.tpGo { s with nxt := nx, left := n, gapAt := some now, dueAt := none } (some s) sh now

/-- STmin in ticks (ISO 15765-2): 0-127 ms, 0xF1-0xF9 100-900 µs, else 127 ms. -/
def stMin (b : Nat) : Nat := if b ≤ 127 then msTicks b else if 0xF1 ≤ b ∧ b ≤ 0xF9 then (b - 0xF0) * 10 else msTicks 127

/-- Flow control for a transfer of the device (R127). -/
def Plane.isoFlow (p : Plane) (s : TpSess) (sh : Shingle) (now : Nat) : Plane :=
  let k := (asLead s.entry).length
  let fs := bytesAt sh.body k 1 % 16
  if fs = 0 then
    let bs := bytesAt sh.body (k + 1) 1
    p.tpGo { s with left := if bs = 0 then 65536 else bs, gapTicks := stMin (bytesAt sh.body (k + 2) 1), gapAt := some now, dueAt := none, waits := 0 }
      (some s) sh now
  else if fs = 1 ∧ s.waits < s.entry.u 14 1 then p.tpPut (some s) { s with waits := s.waits + 1, dueAt := some (now + msTicks 1000) }
  else (p.tpEnd s).onRegs (·.inc SW_ASSIST_ABORT)

/-- Flow control that the device sends (R128). -/
def Plane.isoFc (p : Plane) (s : TpSess) (base : Shingle) (fs : Nat) : Plane :=
  p.isoSend s base (s.entry.u 8 4) (leBytes 1 (0x30 + fs) ++ leBytes 1 (s.entry.u 12 1) ++ leBytes 1 (s.entry.u 13 1))

/-- N_SA and the N_TA or N_AE of the assist header (R126). -/
def isoAddrs (r : Rec) (idw : Nat) : Nat × Nat :=
  let m := r.f 1 5 4
  if m = 1 then (idw % 256, bits idw 15 8) else if m = 0 then (0, 0) else (0, r.u 15 1)

/-- A first frame (R128, R129). -/
def Plane.isoFirst (p : Plane) (r : Rec) (sh : Shingle) (now : Nat) : Plane :=
  let k := (asLead r).length
  let total := bytesAt sh.body k 1 % 16 * 256 + bytesAt sh.body (k + 1) 1
  let (a, b) := isoAddrs r (idWord sh)
  let s := { TpSess.start 3 sh.port r a b (idWord sh) total sh with
    data := (sh.body.drop (k + 2)).take total
    left := r.u 12 1
    dueAt := some (now + msTicks 1000) }
  let old := p.fwd.tp.filter (fun x => x.slot = sh.port ∧ x.role = 3 ∧ x.key = idWord sh ∧ x.entry = r)
  let p := old.foldl (fun p x => (p.tpEnd x).onRegs (·.inc SW_ASSIST_ABORT)) p
  if 512 ≤ p.tpCount then (p.isoFc s sh 2).onRegs (·.inc SW_ASSIST_REFUSED)
  else (p.isoFc s sh 0).tpPut none s

/-- A consecutive frame of a session: the reassembled unit after the last one. -/
def Plane.isoConsec (p : Plane) (s : TpSess) (sh : Shingle) (now : Nat) : Plane × List Shingle :=
  let k := (asLead s.entry).length
  if bytesAt sh.body k 1 % 16 ≠ s.nxt % 16 then ((p.tpEnd s).onRegs (·.inc SW_ASSIST_ABORT), [])
  else
    let data := s.data ++ (sh.body.drop (k + 1)).take (s.total - s.data.length)
    if s.total ≤ data.length then ((p.tpEnd s).onRegs (·.inc SW_ASSIST_DONE), [tpUnit s sh data])
    else
      let s' := { s with data := data, nxt := s.nxt + 1, left := s.left - 1, dueAt := some (now + msTicks 1000) }
      if s'.entry.u 12 1 ≠ 0 ∧ s'.left = 0 then ((p.isoFc s' sh 0).tpPut (some s) { s' with left := s'.entry.u 12 1 }, [])
      else (p.tpPut (some s) s', [])

/-- The kinds of frame that assist takes (R125, R127, R128). -/
inductive TpKind where
  | bam (r : Rec)
  | rts (r : Rec)
  | answer (s : TpSess) (ctl : Nat)
  | abort (s : TpSess)
  | data (s : TpSess)
  | first (r : Rec)
  | consec (s : TpSess)
  | flow (s : TpSess)
  deriving DecidableEq, Repr

/-- What a J1939 frame is to assist. -/
def Plane.j1939Kind (p : Plane) (sh : Shingle) : Option TpKind :=
  let pf := bits sh.canId 23 16
  let ps := bits sh.canId 15 8
  let sa := sh.canId % 256
  let mine := p.fwd.tp.filter (fun x => x.slot = sh.port)
  if sh.ide = false ∨ bits sh.canId 25 24 ≠ 0 ∨ sh.body.length < 8 then none
  else if pf = 0xEC then
    let ctl := bytesAt sh.body 0 1
    let pgn := bytesAt sh.body 5 3
    let ours := mine.find? (fun x => x.role = 5 && x.da = sa && x.sa = ps && x.key % 2 ^ 18 = pgn)
    let theirs := mine.find? (fun x => x.role = 2 && x.sa = sa && x.da = ps && x.key = pgn)
    if ctl = 32 ∧ ps = 0xFF then (p.j1939Entry sh.port pgn 0xFF asRx).map .bam
    else if ctl = 16 ∧ ps ≠ 0xFF then (p.j1939Entry sh.port pgn ps asRx).map .rts
    else if ctl = 17 ∨ ctl = 19 then ours.map (fun s => .answer s ctl)
    else if ctl = 255 then (match ours with | some s => some (.answer s ctl) | none => theirs.map .abort)
    else none
  else if pf = 0xEB then
    (mine.find? (fun x => (if ps = 0xFF then x.role ≤ 1 else x.role = 2) && x.sa = sa && x.da = ps)).map .data
  else none

/-- What an ISO 15765-2 frame is to assist. -/
def Plane.isoKind (p : Plane) (sh : Shingle) : Option TpKind :=
  let lead := fun (r : Rec) => (asLead r).isPrefixOf sh.body
  let pci := fun (r : Rec) => bytesAt sh.body (asLead r).length 1 / 16
  let mine := p.fwd.tp.filter (fun x => x.slot = sh.port)
  match mine.find? (fun s => s.role = 6 && sameId (s.entry.u 8 4) (idWord sh) && lead s.entry && pci s.entry = 3) with
  | some s => some (.flow s)
  | none =>
    match (p.assists sh.port).find? (fun r => r.u 0 1 = 2 && asRx r && sameId (r.u 4 4) (idWord sh) && lead r) with
    | none => none
    | some r =>
      if pci r = 1 then some (.first r)
      else if pci r = 2 then (mine.find? (fun s => s.role = 3 && s.entry = r && sameId s.key (idWord sh))).map .consec
      else none

/-- What an accepted frame is to assist, if it belongs to a named transfer (R125). -/
def Plane.tpKind (p : Plane) (sh : Shingle) : Option TpKind :=
  if 128 ≤ sh.port ∨ ¬(sh.utype = .canCC ∨ sh.utype = .canFD) ∨ sh.rmt = true ∨ persCan (p.pers sh.port) = false then none
  else
    match p.j1939Kind sh with
    | some k => some k
    | none => p.isoKind sh

/-- A frame that assist consumes: the plane, and the reassembled unit if it completes one. -/
def Plane.tpTake (p : Plane) (sh : Shingle) (k : TpKind) : Plane × List Shingle :=
  let now := p.tickAt sh.ts
  match k with
  | .bam r => (p.tpBam r sh now, [])
  | .rts r => (p.tpRts r sh now, [])
  | .answer s ctl => (p.tpAnswer s sh ctl now, [])
  | .abort s => ((p.tpEnd s).onRegs (·.inc SW_ASSIST_ABORT), [])
  | .data s => p.tpData s sh now
  | .first r => (p.isoFirst r sh now, [])
  | .consec s => p.isoConsec s sh now
  | .flow s => (p.isoFlow s sh now, [])

/-! Segmentation (R127). -/

/-- A first frame, and the wait for flow control. -/
def Plane.isoLong (p : Plane) (s : TpSess) (sh : Shingle) (key now : Nat) : Plane :=
  let n := s.cap - 2
  let p := p.isoSend s sh key (leBytes 1 (0x10 + s.total / 256 % 16) ++ leBytes 1 s.total ++ s.data.take n)
  p.tpPut none { s with pos := n, dueAt := some (now + msTicks 1000) }

/-- An ASSIST unit for a slot: a transfer starts under the slot's entry for the same key, or the unit drops. R127 is silent on a J1939 unit
for a pair that already has a transfer: DESIGN CHOICE, it is dropped and counted in SW_ASSIST_REFUSED (log entry 85). -/
def Plane.tpStart (p : Plane) (slot : Nat) (sh : Shingle) (ageMs : Nat) : Plane :=
  let key := bytesAt sh.body 0 4
  let sa := bytesAt sh.body 4 1
  let da := bytesAt sh.body 5 1
  let kind := bytesAt sh.body 6 1
  let msg := sh.body.drop 8
  let now := p.tickAt sh.ts
  let fd := decide (sh.utype = .canFD)
  let entry := if kind = 3 then (p.assists slot).find? (fun r => r.u 0 1 = 2 && asTx r && sameId (r.u 4 4) key)
    else p.j1939Entry slot (bits key 17 0) da asTx
  let noEntry := p.onRegs (·.inc SW_ASSIST_NOENTRY)
  match entry with
  | none => noEntry
  | some r =>
    if persCan (p.pers slot) = false ∨ (fd = true ∧ p.pers slot = 1) then noEntry
    else if 512 ≤ p.tpCount then p.onRegs (·.inc SW_ASSIST_REFUSED)
    else
      let role := if kind = 3 then 6 else if da = 0xFF then 4 else 5
      let gap := if r.u 13 1 = 0 then 50 else min 200 (max 10 (10 * r.u 13 1))
      let s := { TpSess.start role slot r sa da key msg.length sh with
        prio := bytesAt sh.body 7 1
        data := msg
        ageMs := ageMs
        gapTicks := if kind = 3 then 0 else msTicks gap }
      if role = 6 then
        if msg.length + 1 ≤ s.cap ∧ (msg.length ≤ 7 ∨ fd = true) then
          let head := if msg.length ≤ 7 then leBytes 1 msg.length else leBytes 1 0 ++ leBytes 1 msg.length
          if head.length + msg.length ≤ s.cap then (p.isoSend s sh key (head ++ msg)).onRegs (·.inc SW_ASSIST_DONE)
          else p.isoLong s sh key now
        else p.isoLong s sh key now
      else if p.fwd.tp.any (fun x => x.role = role && x.slot = slot && x.sa = sa && x.da = da) then p.onRegs (·.inc SW_ASSIST_REFUSED)
      else
        let ctl := if role = 4 then 32 else 16
        let p := p.tpCm slot sh fd s.prio da sa (bits key 17 0) ageMs
          (leBytes 1 ctl ++ leBytes 2 s.total ++ leBytes 1 (packets s.total) ++ leBytes 1 0xFF)
        p.tpPut none (if role = 4 then { s with gapAt := some (now + s.gapTicks) } else { s with dueAt := some (now + msTicks 1250) })

/-! Time (R127, R129). -/

/-- Sessions whose timeout has come at a tick. -/
def Plane.tpLate (p : Plane) (t : Nat) : List TpSess := p.fwd.tp.filter (fun s => match s.dueAt with | some d => decide (d ≤ t) | none => false)

/-- Sessions with a segment due at a tick. -/
def Plane.tpReady (p : Plane) (t : Nat) : List TpSess := p.fwd.tp.filter (fun s => match s.gapAt with | some d => decide (d ≤ t) | none => false)

/-- A timeout discards the transfer (R129). -/
def Plane.tpTimeout (p : Plane) (base : Shingle) (s : TpSess) : Plane :=
  let p := (p.tpEnd s).onRegs (fun m => if s.role = 0 then m else m.inc SW_ASSIST_TIMEOUT)
  if s.role = 2 ∧ asProxy s.entry = true then p.tpAbort s.slot base s.sa s.da s.key 3
  else if s.role = 5 then p.tpAbort s.slot base s.da s.sa (bits s.key 17 0) 3
  else p

/-- Assist at a TICK: timeouts, then segments whose gap has passed. -/
def Plane.tpTick (p : Plane) (base : Shingle) (t : Nat) : Plane :=
  let p := (p.tpLate t).foldl (fun p s => p.tpTimeout { base with utype := s.unit.utype, info := s.unit.info } s) p
  (p.tpReady t).foldl (fun p s => p.tpGo s (some s) { base with tenant := s.unit.tenant } t) p

/-- A restart of a slot ends its transfers. -/
def Plane.tpPortGone (p : Plane) (slot : Nat) : Plane := p.onFwd (fun f => { f with tp := f.tp.filter (fun s => s.slot ≠ slot) })

end Sys2Proof
end

