-- ==== Sys2Proof/Machine/FwdOut.lean ====
section
/-!
DEFINITION. The end of the lookup chain: refinement of the destination set (R202), traffic classes (R167), the unit as each port sends it
(R161, R203, R205, R236, R291), enqueue (R165-R169), delivery to hosts (R291, R292, R303), firmware on port 177 (R160).
-/

namespace Sys2Proof

/-- What the chain has found of a unit: the VLAN it leaves under, the port of a learned hit, whether it is routed by address, the IPV of a
stream gate, the number for an R-TAG. -/
structure Lk where
  vid : Option Nat
  learned : Option Nat
  routed : Bool
  ipv : Option Nat
  rtag : Option Nat
  deriving DecidableEq, Repr

/-- A unit without Ethernet findings. -/
def Lk.plain : Lk := ⟨none, none, false, none, none⟩

/-! Which type a unit counts as. A host-injected unit keeps its UTYPE as `action` 16 + UTYPE (log entry 6). -/

/-- The type and metadata as which a unit counts at enqueue and egress (R236, R291). -/
def Shingle.form (s : Shingle) : UType × List Byte :=
  let t := fun k : Nat => if k = 0 then UType.canCC else if k = 1 then .canFD else if k = 2 then .canXL else if k = 3 then .lin
    else if k = 4 then .serial else if k = 5 then .eth else .host
  if s.utype = .signal then
    let f := bits s.m1 63 60
    let m := if f = 2 then leBytes 8 s.m0 ++ leBytes 8 (bits s.m1 55 48 * 2 ^ 56 + bits s.m1 47 40 * 2 ^ 48 + bits s.m1 31 0)
      else if f = 5 then leBytes 8 0 ++ leBytes 8 s.m0 else leBytes 8 s.m0
    if bits s.m1 59 58 = 0 then (t f, m) else (.signal, s.info)
  else if s.utype = .host then (t (s.action - 16), s.info)
  else (s.utype, s.info)

/-- The type number that the TYPE_CLASS of R167 takes for a unit bound for a host endpoint. -/
def Shingle.classType (s : Shingle) : Nat :=
  if s.utype = .host then s.action - 16
  else if s.utype = .signal ∧ bits s.m1 59 58 = 0 then bits s.m1 63 60
  else s.utype.code

/-- The traffic class of a unit at a port (R167). -/
def Plane.classFor (p : Plane) (sh : Shingle) (lk : Lk) (port : Nat) : Nat :=
  if !eightQueues port then 0
  else
    match lk.ipv with
    | some v => v
    | none =>
      if sh.utype = .eth ∨ sh.utype = .t1s then p.pcpClass sh.port ((ethPcp sh.body).getD (p.defPcp sh.port))
      else if isEthT1s port then p.pcpClass port ((ethPcp sh.body).getD (p.defPcp port))
      else if p.truss.sec 0x03 = [] then 0 else nibble ((p.truss.sec 0x03).drop 16) sh.classType

/-- An Ethernet frame as a port sends it (R185, R203, R205). -/
def Plane.frameFor (p : Plane) (sh : Shingle) (lk : Lk) (port : Nat) : List Byte :=
  let fr := if lk.routed then (match p.lsa0 port with | some a => sh.body.take 6 ++ a ++ sh.body.drop 12 | none => sh.body) else sh.body
  let fr := match lk.vid with | some v => p.tagFor v port sh.port fr | none => fr
  match lk.rtag with
  | some n => addRTag fr n
  | none => fr

/-- The unit as a port sends it, or none where R169 drops it. `age` is the route's AGE. -/
def Plane.shape (p : Plane) (sh : Shingle) (lk : Lk) (age cls port : Nat) : Option Shingle :=
  let (ty, info) := sh.form
  if port < 128 then
    some { sh with utype := ty, info := if ty = .eth ∨ ty = .t1s then info else putM0 info 39 30 age }
  else if isEthT1s port then
    let fr := p.frameFor sh lk port
    if ¬(ty = .eth ∨ ty = .t1s) ∨ p.maxFrm port < fr.length + p.msExtra port + 4 then none
    else
      let w := if sh.utype = .eth ∨ sh.utype = .t1s then cls * 2 ^ 60
        else bits (bytesAt info 8 8) 63 63 * 2 ^ 63 + cls * 2 ^ 60
      some { sh with utype := ty, info := leBytes 8 0 ++ leBytes 8 w, body := fr }
  else if isHostPort port then
    some (if sh.utype = .eth ∨ sh.utype = .t1s then { sh with body := p.frameFor sh lk port } else sh)
  else some sh

/-! Delivery to hosts. -/

/-- Where the delivery map starts (R309). -/
def Plane.dmapOff (p : Plane) : Nat := 272 + 8 * bytesAt p.hosts 1 2

/-- The tenant that receives a unit with a RID on an endpoint (R292); none where the unit drops. -/
def Plane.deliverTo (p : Plane) (ep rid : Nat) : Option Nat :=
  let r := p.epRec ep
  let es := (List.range (r.u 16 2)).map (fun i => recAt p.hosts p.dmapOff 8 (r.u 14 2 + i))
  match es.find? (fun e => decide (e.u 0 2 ≤ rid ∧ rid ≤ e.u 2 2)) with
  | some e => some (e.u 4 2)
  | none => if r.u 8 2 = 0xFFFF then none else some (r.u 8 2)

/-- The unit as a message to an endpoint (R291). -/
def Plane.toHost (p : Plane) (ep : Nat) (u : Shingle) : Plane :=
  match p.deliverTo ep u.rid with
  | none => p
  | some t => p.sendFor u.stream ep (if u.utype = .signal ∧ bits u.m1 59 58 = 1 then clsSignal else clsFrame) t 0 false false false u.hostBytes

/-- An endpoint's queues released in class order once a member of its group is UP (R303). -/
def Plane.releaseHost (p : Plane) (ep : Nat) : Plane :=
  if p.groupUp ep = false then p
  else
    [7, 6, 5, 4, 3, 2, 1, 0].foldl (fun p k =>
      let q := qkey (168 + ep) k
      (p.queue q).foldl (fun p u => p.toHost ep u.sh) (p.setQueue q [])) p

/-! Release of every port. -/

/-- An Ethernet or T1S port's queues released, each frame protected where MACsec runs (R172, R324). -/
def Plane.releaseEth (p : Plane) (port : Nat) : Plane :=
  p.releasePort (p.msExtra port) (fun p b => p.msSend port b) port

/-- Every port with waiting units released at the plane's stream position, in ascending port order. -/
def Plane.releaseAll (p : Plane) : Plane :=
  let ports := (p.fwd.queues.map (fun e => e.1 / 8)).dedup
  ports.foldl (fun p port =>
    if port < 128 then p.releaseSlot port
    else if isEthT1s port then p.releaseEth port
    else if isHostPort port then p.releaseHost (port - 168)
    else p) p

/-! Firmware. -/

/-- A frame of the firmware (R32) in the queue of an Ethernet port: class 7 (log entry 89), LSA0 as its source (R159), TS_REQ where its
transmission time is asked for (R161). -/
def Plane.fwSend (p : Plane) (port : Nat) (tsReq : Bool) (frame : List Byte) : Plane :=
  if p.portOn port = false then p.portInc SW_PORT_FORMAT port
  else if (p.linkOf port).isNone then p.portInc SW_PORT_FLUSH port
  else
    let fr := (p.lsa0 port).elim frame (fun a => frame.take 6 ++ a ++ frame.drop 12)
    let w := (if tsReq then 2 ^ 63 else 0) + 7 * 2 ^ 60
    let sh := { Shingle.mk0 .eth p.st.ts 177 0 fr with info := leBytes 8 0 ++ leBytes 8 w, stream := p.st.stream }
    let (p, uid) := p.newUid
    (p.pushQ port 7 uid (cellsOf sh) 0 sh false).1

/-- A gPTP frame of the firmware on a port whose record sets GPTP (R32, R396). -/
def Plane.gptpSend (p : Plane) (kind n : Nat) (ts : Bool) : Plane :=
  if (ethRec p.truss n).f 0 2 2 = 1 then
    p.fwSend (128 + n) ts (Config.gptpFrame kind n (p.tm 5 1 0) (p.servo.base * 10 ^ 9 + p.st.ts) p.servo.utc)
  else p

/-- Sync and Follow_Up on every port of MASTER_PORTS (R396). -/
def Plane.gptpSync (p : Plane) : Plane :=
  ((List.range 24).filter (fun n => bit (p.tm 28 4 0) n)).foldl (fun q n => (q.gptpSend 0 n true).gptpSend 1 n false) p

/-- Whether a gPTP frame is of the device's domain (R396): domainNumber of the PTP header (IEEE 802.1AS-2020) is DOMAIN. -/
def Plane.gptpOurs (p : Plane) (fr : List Byte) : Bool := decide (bytesAt fr (ethOff fr + 4) 1 = p.tm 5 1 0)

/-- A received gPTP frame on SLAVE_PORT (R391, R395, R396): the servo's GPTP measurement; a time-aware bridge passes Sync and Follow_Up on. -/
def Plane.gptpReceive (p : Plane) (sh : Shingle) : Plane :=
  if bit (p.tm 0 1 0) 0 ∨ p.tm 24 1 0xFF ≠ sh.port - 128 ∨ p.gptpOurs sh.body = false then p
  else
    match Config.gptpSync sh.body with
    | none => p
    | some (ptp, utc) =>
      let ofs : Int := ((ptp + p.servo.pdelay : Nat) : Int) - ((p.servo.base * 10 ^ 9 + sh.m0 : Nat) : Int)
      ({ p with servo := { p.servo with syncTick := some p.st.tick, syncTs := sh.m0, gptpOfs := ofs, gptpUtc := some utc } } : Plane).gptpSync

/-- The ICK and KEK of a port (R325): deriving them from the CAK, which must be LOADED, takes a use of it (R331); they serve until the CAK
changes. -/
def Plane.mkaKeys (p : Plane) (port : Nat) (r : Rec) : Plane × Option (List Byte × List Byte) :=
  let h := r.u 2 2
  let cak := (p.keySlot h).key
  let held := decide (cak ≠ [] ∧ (p.msPort port).cak = cak)
  if held = false ∧ p.keyOk h 4 = false then (p, none)
  else
    let p := if held then p else (p.takeUse h).onMs port (fun st => { st with cak := cak })
    let id := fitBytes 16 ((r.bytes 48).drop 8 |>.take (r.u 7 1))
    let key := fun (s : String) => fitBytes cak.length (Config.mkaKdf cak (ascii s) id cak.length)
    (p, some (key "IEEE8021 ICK", key "IEEE8021 KEK"))

/-- A received MKA frame (R325), whose ICV the ICK checks: its sender's receive channel, and the SAK that it installs, unwrapped in the Kiln.
EAPOL (IEEE 802.1X-2020): body length at byte 16, the sender's SCI at 22, the ICV in the last 16 bytes of the body. -/
def Plane.mkaReceive (p : Plane) (sh : Shingle) : Plane :=
  match p.msOn sh.port with
  | none => p
  | some r =>
    match p.mkaKeys sh.port r with
    | (p, none) => p
    | (p, some (ick, kek)) =>
      let n := 18 + beAt sh.body 16 2
      if n < 46 ∨ sh.body.length < n ∨ fitBytes 16 (Config.cmac ick (sh.body.take (n - 16))) ≠ (sh.body.drop (n - 16)).take 16 then p
      else
        let p := p.onMs sh.port (·.channel ((sh.body.drop 22).take 8))
        match Config.mkaSak sh.body with
        | none => p
        | some (an, wrapped) =>
          match Config.keyUnwrap kek wrapped with
          | some sak => p.onMs sh.port (·.install (an % 4) (fitBytes (algBytes (r.u 1 1)) sak))
          | none => p

/-- A received LACP frame (R189, IEEE 802.1AX): whether its port collects and distributes, and how long what the partner said stands. -/
def Plane.lacpReceive (p : Plane) (sh : Shingle) : Plane :=
  p.onFwd (fun f => { f with
    lacp := sput (fun _ => false) f.lacp sh.port (Config.lacpUp sh.body)
    lacpEnd := sput (fun _ => 0) f.lacpEnd sh.port (p.st.tick + Config.lacpHold sh.body) })

/-- LACP of one member of an aggregate at a TICK (R189, R32): the partner's word runs out, and firmware sends its own frame when it is
due. -/
def Plane.lacpMember (p : Plane) (t : Nat) (port : Nat) : Plane :=
  let p := if sget (fun _ => 0) p.fwd.lacpEnd port ≤ t then p.onFwd (fun f => { f with lacp := sput (fun _ => false) f.lacp port false }) else p
  if (p.linkOf port).isSome && Config.lacpDue port t then p.fwSend port false (Config.lacpFrame port t) else p

/-- LACP at a TICK. -/
def Plane.lacpTick (p : Plane) (t : Nat) : Plane :=
  (((List.range 24).map (128 + ·)).filter (fun port => (p.lagOf port).isSome)).foldl (fun p port => p.lacpMember t port) p

/-- A unit that firmware takes on port 177 (R160). -/
def Plane.firmwareTakes (p : Plane) (sh : Shingle) : Plane :=
  let p := p.inner 177 sh
  let et := ethType sh.body
  if et = 0x88F7 then p.gptpReceive sh
  else if et = 0x888E then p.mkaReceive sh
  else if et = 0x8809 then p.lacpReceive sh
  else p

/-- Whether a protocol that firmware terminates runs on a port (R160): none for another EtherType. -/
def Plane.protoRuns (p : Plane) (port et : Nat) : Option Bool :=
  if et = 0x8809 then some (p.lagOf port).isSome
  else if et = 0x888E then some (p.msOn port).isSome
  else if et = 0x88F7 then some (decide (port < 152) && (ethRec p.truss (port - 128)).f 0 2 2 = 1)
  else none

/-- Step 4 of R200 (R160): none where the unit stays in the chain, else the plane after the unit has left it. -/
def Plane.leaves (p : Plane) (sh : Shingle) : Option Plane :=
  let da := ethDa sh.body
  let et := ethType sh.body
  let rsvd := p.portInc SW_PORT_RSVD sh.port
  if sh.loc then some (if p.protoRuns sh.port et = some true then p.firmwareTakes sh else rsvd)
  else if da / 16 = 0x0180C200000 then
    let fits := (et = 0x8809 ∧ da % 16 = 2) ∨ (et = 0x888E ∧ da % 16 = 3) ∨ (et = 0x88F7 ∧ da % 16 = 0xE)
    some (if fits ∧ p.protoRuns sh.port et = some true then p.firmwareTakes sh else rsvd)
  else none

/-! Refinement. -/

/-- Anchors replaced by the chosen member (R189, R202 step 6). -/
def Plane.pickMember (p : Plane) (h : Nat) (port : Nat) : Plane × List Nat :=
  match p.lagOf port with
  | none => (p, [port])
  | some l =>
    if p.anchor port ≠ port then (p, [port])
    else
      let act := p.lagActive l
      if act = [] then (p.portInc SW_PORT_NOLAG port, [])
      else (p, [act.getD (h / 65536 * act.length / 65536) port])

/-- The anchors of a destination set replaced. -/
def Plane.pickAll (p : Plane) (h : Nat) : List Nat → Plane × List Nat
  | [] => (p, [])
  | d :: ds =>
    let (p, a) := p.pickMember h d
    let (p, b) := p.pickAll h ds
    (p, a ++ b)

/-- Steps 2-5 of R202 for a set of ports: `route` the route's set with port 176 where THATCHER adds it. -/
def Plane.narrow (p : Plane) (sh : Shingle) (lk : Lk) (route : List Nat) : List Nat :=
  let eth := sh.utype = .eth ∨ sh.utype = .t1s
  let d := match lk.learned with | some q => q :: route.filter (fun x => 176 ≤ x ∧ x ≤ 178) | none => route
  let inA := p.anchor sh.port
  let d := if eth ∧ !lk.routed then
      (match lk.vid with
       | some v => d.filter (fun q => (!decide (128 ≤ q ∧ q ≤ 175) || vlanHas (p.tget 2 v) q) && decide (q ≠ inA))
       | none => d)
    else if lk.routed then
      (match lk.vid with | some v => d.filter (fun q => !decide (128 ≤ q ∧ q ≤ 175) || vlanHas (p.tget 2 v) q) | none => d)
    else d
  if sh.utype.isCan ∧ sh.action = 2 then d.filter isHostPort else d

/-- Steps 9 of R200 (R202): the refined set in ascending order, or none where the unit drops. -/
def Plane.refine (p : Plane) (sh : Shingle) (lk : Lk) (route : Rec) (h : Nat) (failed : Bool) : Plane × Option (List Nat) :=
  let set := routeDest route ++ (if route.f 32 1 1 = 1 ∧ route.f 0 176 176 = 0 then [176] else [])
  let (p, set) := if sh.utype = .signal ∧ set.contains 176 = true then (p.onRegs (·.inc THR_LOOP_STRIP), set.filter (· ≠ 176)) else (p, set)
  if (match lk.learned with | some q => q = sh.port || q = p.anchor sh.port | none => false) then (p.onRegs (·.inc TBL_SAME_PORT), none)
  else
    let d := p.narrow sh lk set
    let d := if failed then d.filter (fun q => 168 ≤ q) else d
    let (p, d) := p.pickAll h d
    if d = [] then (p.onRegs (·.inc TBL_NO_DEST), none)
    else (p, some ((List.range 179).filter (fun q => d.contains q)))

/-! Enqueue. -/

/-- Step 10 for one port other than 176 (R165-R169): whether the copy was stored there. -/
def Plane.enqueue (p : Plane) (sh : Shingle) (lk : Lk) (age uid n port : Nat) (again : Bool) : Plane × Bool :=
  if port = 178 then (p.tap sh, again)
  else if port = 177 then (p.firmwareTakes sh, again)
  else if p.portOn port = false then (p.portInc SW_PORT_FORMAT port, again)
  else if isEthT1s port ∧ (p.linkOf port).isNone = true then (p.portInc SW_PORT_FLUSH port, again)
  else if isHostPort port ∧ (p.deliverTo (port - 168) sh.rid).isNone = true then (p.portInc SW_PORT_FORMAT port, again)
  else if port < 128 ∧ sh.form.1.isCan = true ∧ bit (bytesAt sh.form.2 0 8) 51 = true then
    (p.tpStart port { sh with utype := sh.form.1, info := sh.form.2 } age, again)
  else
    let cls := p.classFor sh lk port
    match p.shape sh lk age cls port with
    | none => (p.portInc SW_PORT_FORMAT port, again)
    | some u =>
      let (p, ok) := p.pushQ port cls uid n age u again
      (p, again || ok)

/-- Step 10 for ports other than 176, ascending (R168): whether a copy has been stored. `again` says that one was stored before. -/
def Plane.enqueueAll (p : Plane) (sh : Shingle) (lk : Lk) (age uid : Nat) (ports : List Nat) (again : Bool) : Plane × Bool :=
  ports.foldl (fun (x : Plane × Bool) q => x.1.enqueue sh lk age uid (cellsOf sh) q x.2) (p, again)

end Sys2Proof
end

