-- ==== Sys2Proof/Machine/ThrVal.lean ====
section
/-!
DEFINITION. Thatcher's value side: definitions of the truss (R225-R230, R251), extraction and packing (R226-R228), the value store with its
overlay of pending values (R239), signal routes (R231-R233).
-/

namespace Sys2Proof

/-! Definitions. -/

/-- Number of signals. -/
def Plane.sigCount (p : Plane) : Nat := (p.truss.sec 0x0A).length / 32
/-- Signal definition `i`. -/
def Plane.sig (p : Plane) (i : Nat) : Rec := recAt (p.truss.sec 0x0A) 0 32 i
/-- Number of layouts. -/
def Plane.layCount (p : Plane) : Nat := bytesAt (p.truss.sec 0x0B) 0 4
/-- Layout `i`. -/
def Plane.lay (p : Plane) (i : Nat) : Rec := if i < p.layCount then recAt (p.truss.sec 0x0B) 4 64 i else 0
/-- Template bytes of a layout. -/
def Plane.layTemplate (p : Plane) (l : Rec) : List Byte :=
  fitBytes (l.u 2 2) ((p.truss.sec 0x0B).drop (8 + 64 * p.layCount + l.u 20 4))
/-- The offset and count of a table of the SIGROUTES section. -/
def Plane.srTable (p : Plane) (k : Nat) : Nat × Nat :=
  if p.truss.sec 0x0C = [] then (0, 0) else subTable (p.truss.sec 0x0C) sigroutesSizes k 0
/-- Number of signal routes. -/
def Plane.srCount (p : Plane) : Nat := (p.srTable 0).2
/-- Signal route `i`. -/
def Plane.sr (p : Plane) (i : Nat) : Rec := recAt (p.truss.sec 0x0C) (p.srTable 0).1 24 i
/-- Number of supervisors. -/
def Plane.supCount (p : Plane) : Nat := (p.srTable 2).2
/-- Supervisor `i`. -/
def Plane.sup (p : Plane) (i : Nat) : Rec := recAt (p.truss.sec 0x0C) (p.srTable 2).1 16 i
/-- Entry `e` of lookup table `t`: a written one, or the truss's (R232, R250). -/
def Plane.lut (p : Plane) (t e : Nat) : Nat :=
  match sget (fun _ => none) p.thr.luts (256 * t + e) with
  | some v => v
  | none => let (o, n) := p.srTable 1; if t < n then bytesAt (p.truss.sec 0x0C) (o + 2048 * t + 8 * e) 8 else 0

/-- The signals of a layout with a DIR. -/
def Plane.laySigs (p : Plane) (l : Rec) (dir : Nat) : List Nat :=
  ((List.range (l.u 42 2)).map (l.u 40 2 + ·)).filter (fun i => (p.sig i).u 7 1 = dir)

/-! Codes (R227). -/

/-- STATE of an extracted raw value (R227): 1 VALID, 2 ERROR, 3 NOT_AVAILABLE. -/
def sigState (s : Rec) (raw : Nat) : Nat :=
  if sigCodes s = 0 then 1
  else
    let (na, mx, _, _) := codeTable (sigCodes s) (sigLen s)
    if na ≤ raw then 3 else if mx < raw then 2 else 1

/-- The number that a signal packs for a VALUE and STATE (value states of R225). -/
def sigPacked (s : Rec) (v : Int) (st : Nat) : Int :=
  if st = 2 ∨ st = 3 then
    if sigCodes s = 0 then sigSubst s
    else let (_, _, er, na) := codeTable (sigCodes s) (sigLen s); ((if st = 2 then er else na : Nat) : Int)
  else v

/-! Bits (R226). -/

/-- The raw number that a signal has in a payload, or none where a bit lies beyond it. -/
def sigRaw (s : Rec) (bs : List Byte) : Option Nat :=
  let n := leNat bs
  let ps := sigPos s
  if ps.any (fun q => 8 * bs.length ≤ q) then none
  else some ((ps.zipIdx).foldl (fun a x => if n.testBit x.1 then a + 2 ^ x.2 else a) 0)

/-- The value of a raw number: sign- or zero-extended. -/
def sigValue (s : Rec) (raw : Nat) : Int := if sigSigned s then signed (sigLen s) raw else (raw : Nat)

/-- A signal's bits written into a payload (R228). -/
def packBits (s : Rec) (v : Int) (bs : List Byte) : List Byte :=
  let u := unsigned (sigLen s) v
  let n := ((sigPos s).zipIdx).foldl (fun n x =>
    let cleared := n - (if n.testBit x.1 then 2 ^ x.1 else 0)
    if u.testBit x.2 then cleared + 2 ^ x.1 else cleared) (leNat bs)
  leBytes bs.length n

/-- The extracted signals of a payload in index order with raw values, and how many were short (R226). -/
def Plane.extract (p : Plane) (l : Rec) (bs : List Byte) : List (Nat × Nat) × Nat :=
  let sigs := p.laySigs l 1
  let live := sigs.filter (fun i =>
    let s := p.sig i
    s.f 5 4 4 = 0 || (match sigRaw (p.sig (s.u 24 2)) bs with | some m => m = s.u 26 2 | none => false))
  (live.filterMap (fun i => (sigRaw (p.sig i) bs).map (fun r => (i, r))), (live.filter (fun i => (sigRaw (p.sig i) bs).isNone)).length)

/-! The value store. -/

/-- A committed entry (R225). -/
def Plane.cval (p : Plane) (i : Nat) : ValEnt :=
  (sget (fun _ => none) p.thr.vals i).getD ⟨sigInit (p.sig i), 0, p.thr.loadStream, p.thr.loadTick⟩

/-- Thatcher changed. -/
def Plane.onThr (p : Plane) (g : Thr → Thr) : Plane := { p with thr := g p.thr }

/-- Operations counted (R249). -/
def Plane.ops (p : Plane) (n : Nat) : Plane := p.onThr (fun t => { t with acc := t.acc + n })

/-- The STREAM of an entry's last write; an initial value is none (R225 lets it count for AGE and LAST_TICK alone). -/
def Plane.wroteAt (p : Plane) (i : Nat) : Nat := match sget (fun _ => none) p.thr.vals i with | some v => v.stream | none => 0

/-- The pending values of an entry that a later committed write has not superseded, in stream order, with their contributors' STREAMs (R239). -/
def Plane.overlays (p : Plane) (i : Nat) : List (Nat × (Option Int × Nat)) :=
  (p.thr.pend.filter (fun c => decide (p.wroteAt i < c.stream))).filterMap (fun c =>
    (c.vals.find? (fun v => v.1 = i)).map (fun v => (c.stream, v.2)))

/-- The contributor whose pending value of an entry stands, if any (R239): the last in stream order. -/
def Plane.overlay (p : Plane) (i : Nat) : Option Nat := ((p.overlays i).getLast?).map (·.1)

/-- VALUE and STATE as reads see them (R239): the committed entry overlaid with the pending values in stream order. -/
def Plane.tval (p : Plane) (i : Nat) : Int × Nat :=
  (p.overlays i).foldl (fun a x => (x.2.1.getD a.1, x.2.2)) ((p.cval i).value, (p.cval i).state)

/-- A committed write. -/
def Plane.commitVal (p : Plane) (i : Nat) (v : Int) (st stream tick : Nat) : Plane :=
  p.onThr (fun t => { t with vals := sput (fun _ => none) t.vals i (some ⟨v, st, stream, tick⟩) })

/-- A committed write whose VALUE may be left unchanged (R233). -/
def Plane.commitOpt (p : Plane) (i : Nat) (v : Option Int) (st stream tick : Nat) : Plane :=
  p.commitVal i (v.getD (p.cval i).value) st stream tick

/-- A write by a cause at STREAM `stream` and tick `tick`: committed, or pending with the contributor of that STREAM (R239). -/
def Plane.putVal (p : Plane) (pending : Bool) (stream tick i : Nat) (v : Option Int) (st : Nat) : Plane :=
  if pending then
    p.onThr (fun t => { t with pend := t.pend.map (fun c =>
      if c.stream = stream then { c with vals := c.vals.filter (fun x => x.1 ≠ i) ++ [(i, (v, st))] } else c) })
  else p.commitOpt i v st stream tick

/-- A value saturated to a signal's range, counted where it is clipped (R232). -/
def Plane.saturate (p : Plane) (i : Nat) (y : Int) : Plane × Int :=
  let (lo, hi) := sigRange (p.sig i)
  let z := clampI lo hi y
  (if z = y then p else p.onRegs (·.inc THR_SAT), z)

/-! Routes. -/

/-- A route's result for a source VALUE (R232): a value, or the STATE that a LUT gives instead. -/
def Plane.routeValue (p : Plane) (r : Rec) (x : Int) : Plane × (Int ⊕ Nat) :=
  let s := r.u 6 1 % 64
  let b := signed 64 (r.u 12 8)
  if r.u 4 1 = 1 then
    let rnd : Int := if r.f 5 0 0 = 1 ∧ 0 < s then ((2 ^ (s - 1) : Nat) : Int) else 0
    (p, .inl ((x * signed 32 (r.u 8 4) + rnd) / ((2 ^ s : Nat) : Int) + b))
  else if r.u 4 1 = 2 then
    let i := x - b
    let e := if i < 0 then 0 else if 255 < i then 255 else i.toNat
    if (i < 0 ∨ 255 < i) ∧ r.f 5 1 1 = 0 then (p.onRegs (·.inc THR_LUT_OOR), .inr 2)
    else
      let v := p.lut (r.u 7 1) e
      (p, if v = 2 ^ 63 then .inr 2 else if v = 2 ^ 63 + 1 then .inr 3 else .inl (signed 64 v))
  else (p, .inl x)

/-- One route run (R231-R233); `done` are the destinations that a lower route of the pass has written. The result says whether it ran and
whether it wrote. -/
def Plane.runRoute (p : Plane) (pending : Bool) (stream tick : Nat) (r : Rec) (done : List Nat) : Plane × Bool × Bool :=
  let dst := r.u 2 2
  let (x, st) := p.tval (r.u 0 2)
  if st = 0 then (p, false, false)
  else
    let (p, v, st) : Plane × Option Int × Nat :=
      if st = 2 ∨ st = 3 then (p, none, st)
      else
        match p.routeValue r x with
        | (p, .inl y) => let (p, z) := p.saturate dst y; (p, some z, st)
        | (p, .inr k) => (p, none, k)
    if done.contains dst then (p, true, false)
    else (p.putVal pending stream tick dst v st, true, true)

/-- One ascending pass over the routes from index `i` on (R231): `src` are the entries written so far, `done` the destinations. -/
def Plane.passFrom (pending : Bool) (stream tick : Nat) : Nat → Nat → Plane → List Nat → List Nat → Plane × List Nat
  | 0, _, p, _, done => (p, done)
  | fuel + 1, i, p, src, done =>
    let r := p.sr i
    if src.contains (r.u 0 2) then
      let (p, ran, wrote) := p.runRoute pending stream tick r done
      let p := if ran then p.ops 1 else p
      if wrote then Plane.passFrom pending stream tick fuel (i + 1) p (r.u 2 2 :: src) (r.u 2 2 :: done)
      else Plane.passFrom pending stream tick fuel (i + 1) p src done
    else Plane.passFrom pending stream tick fuel (i + 1) p src done

/-- Every route that the written entries make eligible, in one pass; every entry written, theirs included. -/
def Plane.runRoutes (p : Plane) (pending : Bool) (stream tick : Nat) (written : List Nat) : Plane × List Nat :=
  if written = [] then (p, [])
  else
    let (p, done) := Plane.passFrom pending stream tick p.srCount 0 p written []
    (p, written ++ done)

/-! Supervisors (R237). -/

/-- A supervisor's state. -/
def Plane.supSt (p : Plane) (k : Nat) : SupSt := (sget (fun _ => none) p.thr.sups k).getD ⟨p.thr.loadTick, none, false⟩

/-- A supervisor's state set. -/
def Plane.setSup (p : Plane) (k : Nat) (s : SupSt) : Plane := p.onThr (fun t => { t with sups := sput (fun _ => none) t.sups k (some s) })

/-- The signals that a supervisor watches. -/
def Plane.supSigs (p : Plane) (k : Nat) : List Nat :=
  let s := p.sup k
  if s.u 0 1 = 1 then [s.u 2 2] else p.laySigs (p.lay (s.u 2 2)) 1

/-- Supervisors of a KIND (1 SIGNAL, 2 LAYOUT) that watch a target. -/
def Plane.supsOf (p : Plane) (kind target : Nat) : List Nat :=
  (List.range p.supCount).filter (fun k => (p.sup k).u 0 1 = kind && (p.sup k).u 2 2 = target)

/-- The tick at which a supervisor expires; none once it has. -/
def Plane.supDue (p : Plane) (k : Nat) : Option Nat :=
  let s := p.supSt k
  if s.expired then none
  else some (match s.last with | some r => r + (p.sup k).u 8 4 | none => s.start + (p.sup k).u 4 4)

/-- A refresh with refresh tick `r`; the first after an expiry is a recovery. -/
def Plane.refreshSup (p : Plane) (r k : Nat) : Plane :=
  let s := p.supSt k
  (if s.expired then p.onRegs (·.inc THR_RECOVER) else p).setSup k { s with last := some (s.last.elim r (max r)), expired := false }

/-- Entries that a reception has written are no longer expired (R237). -/
def Plane.received (p : Plane) (written : List Nat) : Plane :=
  p.onThr (fun t => { t with sigExp := t.sigExp.filter (fun i => !written.contains i) })

/-- An expiry (R237): the action on every signal that is not expired already, then the routes; the entries written. -/
def Plane.expire (p : Plane) (stream tick k : Nat) : Plane × List Nat :=
  let p := p.setSup k { p.supSt k with expired := true }
  let hit := (p.supSigs k).filter (fun i => !p.thr.sigExp.contains i)
  if hit = [] then (p.ops 1, [])
  else
    let act := (p.sup k).u 1 1
    let p := hit.foldl (fun p i =>
      let v := if act = 1 then sigSubst (p.sig i) else (p.cval i).value
      p.commitVal i v (if act = 0 then 4 else if act = 1 then 5 else 3) stream tick) p
    let p := (p.onThr (fun t => { t with sigExp := t.sigExp ++ hit })).onRegs (·.inc THR_TIMEOUT)
    (p.ops (1 + hit.length)).runRoutes false stream tick hit

end Sys2Proof
end

