-- ==== Sys2Proof/Machine/ThrPdu.lean ====
section
/-!
DEFINITION. Thatcher's units: triggers and builds (R234-R236, R248), the output's way through the chain (R235, R243), pending contributors,
their resolution, retractions (R238-R245), the work at a TICK (R247) and the work model (R249).
-/

namespace Sys2Proof

/-! Triggers. -/

/-- Whether reads of a layout see committed values alone (R242): an UPDATE layout. -/
def layUpdate (l : Rec) : Bool := l.u 1 1 = 8

/-- VALUE and STATE as a layout packs them: with the overlay, or committed. -/
def Plane.packVal (p : Plane) (committed : Bool) (i : Nat) : Int × Nat :=
  if committed then ((p.cval i).value, (p.cval i).state) else p.tval i

/-- The packed bytes of a layout's ON_CHANGE signals (R234); positions and LEN of an UPDATE layout's signals do not count (R248). -/
def Plane.changeKey (p : Plane) (l : Rec) (get : Nat → Int × Nat) : List Byte :=
  ((p.laySigs l 2).filter (fun i => (p.sig i).f 5 2 2 = 1)).flatMap (fun i =>
    let s := p.sig i
    let v := sigPacked s (get i).1 (get i).2
    leBytes 8 (unsigned (if layUpdate l then 64 else sigLen s) v))

/-- The builds of a layout that stand, oldest first. -/
def Plane.buildsOf (p : Plane) (li : Nat) : List Build := sget (fun _ => []) p.thr.builds li

/-- The last build of a layout; before the first, its INIT values with no tick (R234). -/
def Plane.lastBuild (p : Plane) (li : Nat) : Build :=
  ((p.buildsOf li).getLast?).getD ⟨p.changeKey (p.lay li) (fun i => (sigInit (p.sig i), 0)), none, false, 0⟩

/-- TRIGGER of a layout that a change fires: ON_CHANGE, ON_CHANGE_GAP, MIXED. -/
def changeTrigger (l : Rec) : Bool := l.u 0 1 = 2 && (l.u 6 1 = 2 || l.u 6 1 = 3 || l.u 6 1 = 4)

/-- Whether the change trigger of a layout fires at a tick (R234): the bytes differ, and MIN_GAP has passed where it applies. -/
def Plane.changeFires (p : Plane) (li tick : Nat) (committed : Bool) : Bool :=
  let l := p.lay li
  let b := p.lastBuild li
  changeTrigger l && decide (p.changeKey l (p.packVal (committed || layUpdate l)) ≠ b.key) &&
    (l.u 6 1 = 2 || (match b.tick with | none => true | some t => decide (t + l.u 16 4 ≤ tick)))

/-- Whether a held-back change build comes due at a tick (R234). -/
def Plane.deferredDue (p : Plane) (li tick : Nat) : Bool :=
  let l := p.lay li
  l.u 0 1 = 2 && (l.u 6 1 = 3 || l.u 6 1 = 4) && (match (p.lastBuild li).tick with | none => false | some t => t + l.u 16 4 = tick) &&
    p.changeFires li tick false

/-- Whether a cyclic build fires at a tick (R234). -/
def cyclicDue (l : Rec) (tick : Nat) : Bool :=
  l.u 0 1 = 2 && (l.u 6 1 = 1 || l.u 6 1 = 4) && decide (0 < l.u 8 4) && decide ((tick + l.u 8 4 - l.u 12 4 % l.u 8 4) % l.u 8 4 = 0)

/-- Layouts that a change of some signals may fire, ascending (R235). -/
def Plane.touched (p : Plane) (written : List Nat) : List Nat :=
  let ls := written.filterMap (fun i => if (p.sig i).u 7 1 = 2 then some ((p.sig i).u 0 2) else none)
  (List.range p.layCount).filter (fun li => ls.contains li && changeTrigger (p.lay li))

/-! Units. -/

/-- The cause of outputs: TS, STREAM and tick. -/
structure Cause where
  ts : Nat
  stream : Nat
  tick : Nat
  deriving DecidableEq, Repr

/-- A Thatcher unit (R235). -/
def Plane.thrUnit (p : Plane) (c : Cause) (rid : Nat) (info body : List Byte) (prov : Bool) (jc : JClass) : Plane × Shingle :=
  let u : Shingle := { Shingle.mk0 .signal c.ts 176 0 body with
    stream := c.stream
    seq := p.thr.seq
    rid := rid
    prov := prov
    jclass := jc
    info := info }
  (p.onThr (fun t => { t with seq := (t.seq + 1) % 2 ^ 32 }), u)

/-- Metadata of a PDU or UPDATE unit (R235): META0 with the route's AGE, META1 with KIND and FORMAT. -/
def Plane.thrInfo (p : Plane) (l : Rec) : List Byte :=
  let age := (p.tget 1 (l.u 4 2)).u 42 2
  let f := l.u 1 1
  let w0 := if layUpdate l then leBytes 8 0 else if f ≤ 4 then putM0 (leBytes 8 (l.u 24 8)) 39 30 age else leBytes 8 (l.u 24 8)
  let w1 := l.u 32 8 % 2 ^ 56 + f * 2 ^ 60 + (if layUpdate l then 2 ^ 58 else 0)
  w0 ++ leBytes 8 w1

/-- One UPDATE record (R248). -/
def Plane.updRecord (p : Plane) (i tick : Nat) : List Byte :=
  let v := p.cval i
  leBytes 2 i ++ leBytes 1 v.state ++ leBytes 1 0 ++ leBytes 4 (min (tick - v.tick) (2 ^ 32 - 1)) ++ leBytes 8 (unsigned 64 v.value)

/-- Steps 6-9 of R200 for a Thatcher unit (R235): the unit with tenant and journal class, the ports it goes to, its AGE; none where it
drops. -/
def Plane.thrChain (p : Plane) (u : Shingle) : Plane × Option (Shingle × List Nat × Nat) :=
  let r := p.tget 1 u.rid
  if routeValid r = false then (p.onRegs (·.inc TBL_ROUTE_INVALID), none)
  else
    let (p, t) := p.takeTenant r u
    let u := { u with tenant := t, jclass := JClass.ofCode (r.u 34 1) }
    let p := if u.jclass = .legal then p.legalUnit u else p
    let p := if u.jclass = .incident then p.trigger u.ts u.stream else p
    let (p, ok) := p.police t r u.rid u.body.length (p.std u.ts)
    if !ok then (p, none)
    else
      let (p, d) := p.refine u Lk.plain r (p.flowHash u) false
      (p, d.map (fun d => (u, d, r.u 42 2)))

/-- A Thatcher unit enqueued for its ports. -/
def Plane.thrOut (p : Plane) (u : Shingle) (ports : List Nat) (age : Nat) : Plane :=
  let (p, uid) := p.newUid
  (p.enqueueAll u Lk.plain age uid ports false).1

/-- What a layout packs at a moment: the bytes of its ON_CHANGE signals, the contributors whose pending values it carries, its payload. -/
structure Draft where
  key : List Byte
  contribs : List Nat
  body : List Byte
  deriving DecidableEq, Repr

/-- What a layout packs (R228, R239, R248), from committed values where `committed` says so; none where HOLD_UNTIL_VALID lets it build
nothing (R234). -/
def Plane.draft (p : Plane) (tick : Nat) (committed : Bool) (li : Nat) : Option Draft :=
  let l := p.lay li
  let com := committed || layUpdate l
  let tx := p.laySigs l 2
  if l.f 7 0 0 = 1 ∧ tx.any (fun i => (p.packVal com i).2 = 0) = true then none
  else
    some {
      key := p.changeKey l (p.packVal com)
      contribs := if com then [] else (tx.filterMap p.overlay).dedup
      body := if layUpdate l then fitBytes (l.u 2 2) (tx.flatMap (fun i => p.updRecord i tick))
        else tx.foldl (fun b i => packBits (p.sig i) (sigPacked (p.sig i) (p.packVal com i).1 (p.packVal com i).2) b) (p.layTemplate l) }

/-- A build noted as the layout's last (R234). -/
def Plane.noteBuild (p : Plane) (li : Nat) (b : Build) : Plane :=
  p.onThr (fun t => { t with builds := supd (fun _ => []) t.builds li (· ++ [b]) })

/-- What a layout packs becomes a Thatcher unit (R235, R239, R243, R320). -/
def Plane.emitDraft (p : Plane) (c : Cause) (li : Nat) (d : Draft) : Plane :=
  let l := p.lay li
  let (p, body) : Plane × Option (List Byte) :=
    if l.u 44 2 = 0xFFFF ∨ layUpdate l then (p, some d.body) else p.secureTx (l.u 44 2) d.body
  match body with
  | none => p
  | some body =>
    let p := p.ops (1 + (p.laySigs l 2).length)
    let prov := d.contribs ≠ []
    let (p, u) := p.thrUnit c (l.u 4 2) (p.thrInfo l) body prov .none
    let p := p.noteBuild li ⟨d.key, some c.tick, prov, u.seq⟩
    let p := p.onRegs (fun m => let m := m.inc THR_TX_PDU; if prov then m.inc THR_PROV_BUILT else m)
    let rseq := p.regs.rd64 RICK_RSEQ_LO
    let (p, fate) := p.thrChain u
    if prov then
      let (u', ds, age) := fate.getD (u, [], 0)
      let p := p.thrOut u' (ds.filter (· = 178)) age
      p.onThr (fun t => { t with
        prov := t.prov ++ [⟨li, d.contribs, ⟨u', ds.filter (· ≠ 178), age, ds.contains 178, rseq, p.st.gens⟩⟩] })
    else
      match fate with
      | some (u', ds, age) => p.thrOut u' ds age
      | none => p

/-- A layout builds at a cause (R234). -/
def Plane.buildPdu (p : Plane) (c : Cause) (li : Nat) : Plane :=
  match p.draft c.tick false li with
  | some d => p.emitDraft c li d
  | none => p

/-- Builds that stand behind the newest one that is not provisional can no longer be the last build (R234). -/
def trimBuilds (l : List Build) : List Build :=
  let k := (l.reverse.dropWhile (·.prov)).length
  l.drop (k - 1)

/-- Change builds that a cause fires, in ascending layout (R234, R235). -/
def Plane.changeBuilds (p : Plane) (c : Cause) (written : List Nat) : Plane :=
  (p.touched written).foldl (fun p li => if p.changeFires li c.tick false then p.buildPdu c li else p) p

/-! Units in. -/

/-- A host write's records (R248): the values they give to signals that hosts may write. -/
def Plane.hostRecords : List (List Byte) → Plane → Plane × List (Nat × (Int × Nat))
  | [], p => (p, [])
  | r :: rs, p =>
    let i := bytesAt r 0 2
    let st := bytesAt r 2 1
    if i < p.sigCount ∧ (p.sig i).f 5 3 3 = 1 ∧ 1 ≤ st ∧ st ≤ 3 then
      let (p, v) := p.saturate i (signed 64 (bytesAt r 8 8))
      let (p, w) := Plane.hostRecords rs p
      (p, (i, (v, st)) :: w)
    else Plane.hostRecords rs (p.onRegs (·.inc THR_HOST_DENIED))

/-- What a unit says (R226, R229, R248): the signals it gives with VALUE and STATE, and the supervisors it refreshes. -/
def Plane.thrReads (p : Plane) (sh : Shingle) : Plane × List (Nat × (Int × Nat)) × List Nat :=
  if sh.utype = .host ∧ sh.action = 24 then
    let recs := (List.range (sh.body.length / 16)).map (fun k => (sh.body.drop (16 * k)).take 16)
    let (p, w) := Plane.hostRecords recs (p.ops (1 + recs.length))
    (p, w, w.flatMap (fun x => p.supsOf 1 x.1))
  else
    match (List.range p.layCount).find? (fun li => (p.lay li).u 0 1 = 1 && (p.lay li).u 4 2 = sh.rid) with
    | none => ((p.onRegs (·.inc THR_RX_NOLAYOUT)).ops 1, [], [])
    | some li =>
      let (vals, short) := p.extract (p.lay li) sh.body
      let p := (p.onRegs (·.addCnt THR_RX_SHORT short)).ops (1 + vals.length)
      (p, vals.map (fun x => (x.1, (sigValue (p.sig x.1) x.2, sigState (p.sig x.1) x.2))),
        vals.flatMap (fun x => p.supsOf 1 x.1) ++ p.supsOf 2 li)

/-- What a unit writes: its values, then the routes they make eligible (R231, R239); the entries written, the supervisors to refresh. -/
def Plane.thrProcess (p : Plane) (sh : Shingle) (pending : Bool) (tick : Nat) : Plane × List Nat × List Nat :=
  let (p, vals, ref) := p.thrReads sh
  let p := vals.foldl (fun p x => p.putVal pending sh.stream tick x.1 (some x.2.1) x.2.2) p
  let (p, all) := p.runRoutes pending sh.stream tick (vals.map (·.1))
  (p, all, ref)

/-- Unresolved pending contributors (THR_PENDING); one that is set aside takes no run-ahead and is not one of them (R241). -/
def Plane.unresolved (p : Plane) : Nat := (p.thr.pend.filter (fun c => c.aside.isNone)).length

/-- A unit that Thatcher takes at its position (R238-R241): `verdict` is none for a route without verification. -/
def Plane.thrTake (p : Plane) (sh : Shingle) (verdict : Option Bool) : Plane :=
  let p := p.onRegs (·.inc THR_RX_UNITS)
  let tick := p.tickAt sh.ts
  match verdict with
  | none =>
    let (p, w, ref) := p.thrProcess sh false tick
    let p := ref.foldl (fun p k => p.refreshSup tick k) (p.received w)
    p.changeBuilds ⟨sh.ts, sh.stream, tick⟩ w
  | some ok =>
    let c : Contrib := ⟨sh.stream, tick, p.st.tick + 2, ok, [], [], none⟩
    if 4096 ≤ p.unresolved then
      (p.onThr (fun t => { t with pend := t.pend ++ [{ c with aside := some sh }] })).onRegs (·.inc THR_SET_ASIDE)
    else
      let p := p.onThr (fun t => { t with pend := t.pend ++ [c] })
      let (p, w, ref) := p.thrProcess sh true tick
      let p := p.onThr (fun t => { t with pend := t.pend.map (fun x => if x.stream = sh.stream then { x with refresh := ref } else x) })
      p.changeBuilds ⟨sh.ts, sh.stream, tick⟩ w

/-! Resolution (R240, R241). -/

/-- The supervisors that a passed contributor refreshes, with refresh tick its own (R240, R241). -/
def Plane.refreshAll (p : Plane) (c : Contrib) (ref : List Nat) : Plane := ref.foldl (fun p k => p.refreshSup c.tick k) p

/-- A passed contributor's values committed with its own STREAM and tick, unless a later write stands (R240). The entries written. -/
def Plane.commitContrib (p : Plane) (c : Contrib) : Plane × List Nat :=
  let ok := c.vals.filter (fun v => p.wroteAt v.1 ≤ c.stream)
  let p := (p.onRegs (·.addCnt THR_COMMIT_STALE (c.vals.length - ok.length))).ops ok.length
  let p := ok.foldl (fun p v => p.commitOpt v.1 v.2.1 v.2.2 c.stream c.tick) p
  ((p.received (ok.map (·.1))).refreshAll c c.refresh, ok.map (·.1))

/-- A set-aside contributor that passed (R241): its values as they would be committed, then the routes of those at the TICK's position. -/
def Plane.takeAside (p : Plane) (at_ : Cause) (c : Contrib) (sh : Shingle) : Plane × List Nat :=
  let (p, vals, ref) := p.thrReads sh
  let ok := vals.filter (fun v => p.wroteAt v.1 ≤ c.stream)
  let p := ok.foldl (fun p v => p.commitVal v.1 v.2.1 v.2.2 c.stream c.tick) p
  let p := (p.received (ok.map (·.1))).refreshAll c ref
  p.runRoutes false at_.stream at_.tick (ok.map (·.1))

/-- One contributor at its resolving TICK; the entries written. -/
def Plane.resolve (p : Plane) (at_ : Cause) (c : Contrib) : Plane × List Nat :=
  let p := (p.ops 1).onThr (fun t => { t with pend := t.pend.filter (fun x => x.stream ≠ c.stream) })
  if !c.passed then (p.onRegs (·.inc THR_AUTH_FAIL), [])
  else
    match c.aside with
    | some sh => p.takeAside at_ c sh
    | none => p.commitContrib c

/-- A provisional PDU discarded (R240, R245): its build is withdrawn, and the tap gets a retraction unit where it took the PDU. -/
def Plane.discard (p : Plane) (c : Cause) (x : ProvPdu) : Plane :=
  let u := x.held.unit
  let p := p.onRegs (·.inc THR_PROV_DISCARD)
  let p := p.onThr (fun t => { t with builds := supd (fun _ => []) t.builds x.layout (fun l => l.filter (fun b => b.seq ≠ u.seq)) })
  if x.held.tapped = false then p
  else
    let body := leBytes 4 u.seq ++ leBytes 2 u.rid ++ leBytes 1 1 ++ leBytes 1 0 ++ leBytes 8 u.stream
    let (p, r) := (p.ops 1).thrUnit c 0 (leBytes 8 0 ++ leBytes 8 (2 ^ 59)) body false u.jclass
    let p := p.onRegs (·.inc THR_RETRACT)
    let p := if u.jclass = .legal then
        p.legalWith 4 0 r.ts r.stream 24 (fun _ => leBytes 8 x.held.rseq ++ leBytes 8 u.stream ++ leBytes 4 u.seq ++ leBytes 2 u.rid ++ leBytes 1 1 ++ leBytes 1 0)
      else p
    p.thrOut r [178] 0

/-- What a plane does with egress GENs as they stood at an earlier cause (R40). -/
def Plane.withGens (p : Plane) (gens : List (Nat × Nat)) (g : Plane → Plane) : Plane :=
  let q := g { p with st := { p.st with gens := gens } }
  { q with st := { q.st with gens := p.st.gens } }

/-- Provisional PDUs whose contributors have resolved, in build order (R240): released or discarded; the layouts of the discarded ones. -/
def Plane.settleProv (p : Plane) (c : Cause) (passed failed : List Nat) : List ProvPdu → Plane × List Nat
  | [] => (p, [])
  | x :: xs =>
    if x.contribs.any (fun k => failed.contains k) then
      let (p, ls) := (p.discard c x).settleProv c passed failed xs
      (p, x.layout :: ls)
    else
      let left := x.contribs.filter (fun k => !passed.contains k)
      if left ≠ [] then (p.onThr (fun t => { t with prov := t.prov ++ [{ x with contribs := left }] })).settleProv c passed failed xs
      else
        let u := { x.held.unit with prov := false }
        let g : List Build → List Build := fun l => trimBuilds (l.map (fun (b : Build) => if b.seq = u.seq then { b with prov := false } else b))
        let p := p.onThr (fun t => { t with builds := supd (fun _ => []) t.builds x.layout g })
        (p.withGens x.held.gens (fun q => q.thrOut u x.held.dests x.held.ageMs)).settleProv c passed failed xs

/-- Layouts whose discarded PDUs leave their committed ON_CHANGE bytes different from the last build, with what they pack now (R240). -/
def Plane.rebuilds (p : Plane) (c : Cause) (layouts : List Nat) : List (Nat × Draft) :=
  ((List.range p.layCount).filter (fun li => layouts.contains li && p.changeFires li c.tick true)).filterMap (fun li =>
    (p.draft c.tick true li).map (fun d => (li, d)))

/-- Step 2 of R247 at a TICK: the entries written, and what discards make layouts build again from the values committed here. -/
def Plane.resolveTick (p : Plane) (c : Cause) : Plane × List Nat × List (Nat × Draft) :=
  let due := p.thr.pend.filter (fun x => x.due ≤ c.tick)
  let (p, w) := due.foldl (fun (a : Plane × List Nat) x => let (p, v) := a.1.resolve c x; (p, a.2 ++ v)) (p, [])
  let ran := due.filter (fun x => x.aside.isNone)
  let list := p.thr.prov
  let (p, ls) := (p.onThr (fun t => { t with prov := [] })).settleProv c ((ran.filter (·.passed)).map (·.stream))
    ((ran.filter (fun x => !x.passed)).map (·.stream)) list
  (p, w, p.rebuilds c ls)

/-! Window writes (R250). -/

/-- A THATCHER WRITE as it applies; the entries written. -/
def Plane.thrApply (p : Plane) (c : Cause) (x : WinCmd) : Plane × List Nat :=
  if x.table = 4 then (p.onThr (fun t => { t with luts := sput (fun _ => none) t.luts x.idx (some (bytesAt x.data 0 8)) }), [])
  else
    let (p, v) := p.saturate x.idx (signed 64 (bytesAt x.data 0 8))
    let p := p.commitVal x.idx v (bytesAt x.data 8 1) c.stream c.tick
    (p.ops 1).runRoutes false c.stream c.tick [x.idx]

/-! The TICK (R247, R249). -/

/-- Supervisors that expire at a TICK, in ascending index (R237). -/
def Plane.expireTick (p : Plane) (c : Cause) : Plane × List Nat :=
  ((List.range p.supCount).filter (fun k => match p.supDue k with | some d => decide (d ≤ c.tick) | none => false)).foldl
    (fun (a : Plane × List Nat) k => let (p, w) := a.1.expire c.stream c.tick k; (p, a.2 ++ w)) (p, [])

/-- Whether a layout that step 2 builds again changes once more by an expiry of the same TICK, where no gap holds that back (R234). -/
def Plane.changesAgain (p : Plane) (li : Nat) (d : Draft) : Bool :=
  let l := p.lay li
  changeTrigger l && (l.u 6 1 = 2 || l.u 16 4 = 0) && decide (p.changeKey l (p.packVal (layUpdate l)) ≠ d.key)

/-- Trigger firings of a TICK and the rebuilds of its step 2, in ascending layout (R234, R235, R247): one PDU at most for each layout. Where a
layout that step 2 builds again also fires in step 4, the one PDU is the later one: DESIGN CHOICE (log entry 97). -/
def Plane.triggerTick (p : Plane) (c : Cause) (touched : List Nat) (rebuilt : List (Nat × Draft)) : Plane :=
  (List.range p.layCount).foldl (fun p li =>
    let l := p.lay li
    if cyclicDue l c.tick then p.buildPdu c li
    else
      match rebuilt.find? (fun x => x.1 = li) with
      | some (_, d) => if touched.contains li && p.changesAgain li d then p.buildPdu c li else p.emitDraft c li d
      | none => if p.deferredDue li c.tick || (touched.contains li && p.changeFires li c.tick false) then p.buildPdu c li else p) p

/-- The model serves `budget` operations: TICK work first, then units in stream order (R249). -/
def serveJobs (budget : Nat) : List ThrJob → List ThrJob
  | [] => []
  | j :: js => if budget < j.ops then { j with ops := j.ops - budget } :: js else serveJobs (budget - j.ops) js

/-- Operations queued in the model (THR_MODEL_LEVEL). -/
def Plane.modelOps (p : Plane) : Nat := p.thr.debt + p.thr.jobs.foldl (fun n j => n + j.ops) 0

/-- The operations of the cause under way taken out of the count, into THR_OPS (R249). -/
def Plane.takeOps (p : Plane) : Plane × Nat :=
  let n := p.thr.acc
  ((p.onThr (fun t => { t with acc := 0 })).onRegs (fun m => m.wr64 THR_OPS_LO (m.rd64 THR_OPS_LO + n)), n)

/-- THR_MODEL_PEAK follows the model's level (R53). -/
def Plane.modelPeak (p : Plane) : Plane :=
  p.onRegs (fun m => m.peak THR_MODEL_PEAK_WM_EVENT THR_MODEL_PEAK_OPS (m.get 0 THR_MODEL_WM_LEVEL) p.modelOps)

/-- Thatcher's work at a TICK (R247). -/
def Plane.thrTick (p : Plane) (c : Cause) : Plane :=
  let ws := p.fwd.cmds.filter (fun x => x.block = 1)
  let (p, w1) := ws.foldl (fun (a : Plane × List Nat) x => let (p, w) := a.1.thrApply c x; (p, a.2 ++ w)) (p, [])
  let (p, w2, again) := p.resolveTick c
  let (p, w3) := p.expireTick c
  let p := p.triggerTick c (p.touched (w1 ++ w2 ++ w3)) again
  let (p, n) := p.takeOps
  let p := (p.onThr (fun t => { t with debt := t.debt + n })).modelPeak
  p.onThr (fun t => { t with debt := t.debt - 1000, jobs := serveJobs (1000 - t.debt) t.jobs })

/-- Whether the model would start a new unit within 10 ms of its TS (R249). -/
def Plane.thrInTime (p : Plane) (ts : Nat) : Bool := decide ((p.st.tick + p.modelOps / 1000 + 1) * 10000 ≤ ts + 10000000)

/-- A unit at port 176 (R166, R249): admitted to the model's queue and evaluated at its stream position; whether it is stored there. -/
def Plane.thrEnqueue (p : Plane) (sh : Shingle) (uid : Nat) (again : Bool) (verdict : Option Bool) : Plane × Bool :=
  let q := qkey 176 0
  let n := cellsOf sh
  if admits (p.level q) n (p.alpha q) p.freeCells again = false then (p.qInc SW_Q_DROP q, again)
  else if p.thrInTime (p.std sh.ts) = false then (p.qInc SW_Q_AGED q, again)
  else
    let (p, ops) := ((p.inner 176 sh).thrTake sh verdict).takeOps
    let p := p.onThr (fun t => { t with jobs := t.jobs ++ [⟨uid, n, ops⟩] })
    ((p.peaks q).modelPeak, true)

end Sys2Proof
end

