-- ==== Sys2Proof/Machine/Lookup.lean ====
section
/-!
DEFINITION. The lookup chain of a plane (R200-R202) for units of the stream and of hosts: the plane re-check (R140), assist (R125), MACsec
(R323), the Ethernet steps, the route, the tenant, the verdict (R316-R319), keep-alives (R475, R478), enqueue.
-/

namespace Sys2Proof

/-! The plane re-check (R140). -/

/-- Whether the check bytes of a slow unit agree with its payload. -/
def Plane.recheck (p : Plane) (sh : Shingle) : Bool :=
  let n := sh.body.length
  if 128 ≤ sh.port then true
  else if sh.utype = .lin then
    decide (2 ≤ n) && sh.body.drop (n - 1) = leBytes 1 (linSum (bit sh.m0 62) (sh.m0 % 64) ((sh.body.drop 1).take (n - 2)))
  else if sh.utype = .serial then
    (if p.pers sh.port = 6 then decide (2 ≤ n) && checkOk 1 sh.body else checkOk (bits (p.busOf sh.port).nbt.toNat 26 24) sh.body)
  else true

/-! Keep-alives (R475, R478). -/

/-- The identity that a keep-alive carries: KIND and ID. -/
def Plane.holderOf (p : Plane) (sh : Shingle) : Nat × Nat :=
  if sh.utype.isCan then
    let j := match netOfPort p.truss sh.port with | some i => (Machine.netRec p.truss i).f 0 2 2 = 1 | none => false
    if sh.ide && j then (1, sh.canId % 256) else (2, sh.canId)
  else if sh.utype = .eth ∨ sh.utype = .t1s then (3, leNat ((sh.body.drop 6).take 6))
  else (4, bytesAt sh.body 0 1)

/-- Keep-alive entries of a network (R498). -/
def kaEntries (t : Truss) (i : Nat) : List Rec :=
  let b := t.sec 0x05
  let r := Machine.netRec t i
  (List.range (r.u 4 2)).map (fun k => recAt b (16 + 48 * Machine.netCount t) 16 (r.u 2 2 + k))

/-- Whether a keep-alive entry matches a unit with a RID. -/
def kaHit (k : Rec) (sh : Shingle) (rid : Option Nat) : Bool :=
  if k.u 0 1 = 1 then (match rid with | some r => decide (k.u 2 2 ≤ r ∧ r ≤ k.u 4 2) | none => false)
  else if k.u 0 1 = 2 then
    (sh.utype = .eth || sh.utype = .t1s) && k.u 8 6 = leNat ((sh.body.drop 6).take 6) && (k.u 6 2 = 0 || k.u 6 2 = ethType sh.body)
  else false

/-- A unit that is a keep-alive counts for its network (R475), with the tenant of step 7, or 0xFFFF. -/
def Plane.countKa (p : Plane) (sh : Shingle) (rid : Option Nat) (tenant : Nat) : Plane :=
  match netOfPort p.truss sh.port with
  | none => p
  | some i =>
    if (sh.utype.isCan && sh.action = 3) || (kaEntries p.truss i).any (fun k => kaHit k sh rid) then
      p.keepAlive sh.port (p.holderOf sh).1 (p.holderOf sh).2 tenant
    else p

/-! The verdict (R316-R319). -/

/-- Bytes of a unit's payload before and after what an authenticator covers: PID and checksum of a LIN unit, the check bytes of a SERIAL
unit. -/
def Plane.authSpan (p : Plane) (sh : Shingle) : Nat × Nat :=
  if sh.utype = .lin then (1, 1)
  else if sh.utype = .serial then
    let c := bits (p.busOf sh.port).nbt.toNat 26 24
    (0, if p.pers sh.port = 6 then 1 else if c = 0 then 0 else if c = 4 then 2 else 1)
  else (0, 0)

/-- A unit that fails because its tenant has no key (R318, R319). -/
def Plane.authNoKey (p : Plane) (t : Nat) : Plane :=
  let p := p.ctxAdd t 120 4 1
  if p.kiln.toldTenants.contains t then p
  else
    (p.onKiln (fun k => { k with toldTenants := k.toldTenants ++ [t] })).event 0x0901 t noId
      (leBytes 2 0xFFFF ++ leBytes 1 2 ++ leBytes 1 0 ++ leBytes 4 1)

/-- The key handle that a route verifies with (R319). -/
def Plane.authHandle (p : Plane) (r : Rec) (t : Nat) : Nat :=
  if r.u 36 2 ≠ 0xFFFF then r.u 36 2 else if p.tenState t = 0 then 0xFFFF else (p.ctx t).u 6 2

/-- The verdict of a unit, and the unit as it is forwarded: under VERIFY_STRIP without its authenticator (R318). -/
def Plane.judge (p : Plane) (r : Rec) (t : Nat) (sh : Shingle) : Plane × AuthSt × Shingle :=
  let h := p.authHandle r t
  if h = 0xFFFF then (p.authNoKey t, .failed, { sh with auth := .failed })
  else
    let (a, b) := p.authSpan sh
    let n := sh.body.length
    let covered := (sh.body.take (n - b)).drop a
    let (p, k) := p.verify h t covered
    if k ≠ 0 then (p, .failed, { sh with auth := .failed })
    else
      let sh := { sh with auth := .passed }
      if routeAuth r ≠ 2 then (p, .passed, sh)
      else
        let m := (p.keyRec h).u 14 1 + (p.keyRec h).u 15 1
        let body := sh.body.take a ++ covered.take (covered.length - m) ++ sh.body.drop (n - b)
        (p, .passed, { sh with body := body, info := if sh.form.1 = .canCC then putM0 sh.info 55 52 body.length else sh.info })

/-! Steps 6-10. -/

/-- The learning candidate of a unit, with the tenant of step 7. -/
def Plane.teach (p : Plane) (c : Option Learn) (t : Nat) : Plane :=
  p.onFwd (fun f => { f with learns := f.learns ++ (c.map (fun x => { x with tenant := t })).toList })

/-- Step 10 for every port of a refined set: Thatcher takes the unit as received, with its verdict. -/
def Plane.store (p : Plane) (asRcvd out : Shingle) (lk : Lk) (age : Nat) (d : List Nat) (verdict : Option Bool) : Plane :=
  let (p, uid) := p.newUid
  let (p, again) := p.enqueueAll out lk age uid (d.filter (· < 176)) false
  let (p, again) := if d.contains 176 then p.thrEnqueue asRcvd uid again verdict else (p, again)
  (p.enqueueAll out lk age uid (d.filter (176 < ·)) again).1

/-- A command of the sleep authority: the target of an ENTER, as MODE encodes it (R447). -/
def authTarget (t : Truss) (sh : Shingle) : Option Nat :=
  let m := t.sec 0x11
  if m = [] ∨ bit (bytesAt m 0 1) 1 = false ∨ sh.tenant ≠ bytesAt m 2 2 ∨ sh.rid ≠ bytesAt m 4 2 ∨ sh.body.length ≤ bytesAt m 1 1 then none
  else
    let c := bytesAt sh.body (bytesAt m 1 1) 1
    let x := [(1, 0, 3), (2, 1, 4), (3, 2, 6), (0x10, 3, 1)].find? (fun x => x.1 = c)
    match x with
    | some (_, k, tgt) => if bit (bytesAt m 6 1) k then some tgt else none
    | none => none

/-- The command acts at the second TICK after its unit (R447). -/
def Plane.noteAuthority (p : Plane) (sh : Shingle) : Plane :=
  match authTarget p.truss sh with
  | some tgt => { p with st := { p.st with auths := p.st.auths ++ [(p.st.tick + 2, tgt)] } }
  | none => p

/-- Steps 6-10 of R200 for a unit with a RID. `ingress` says that the unit is an ingress unit of its port, which can be a keep-alive. -/
def Plane.chain (p : Plane) (sh : Shingle) (lk : Lk) (cand : Option Learn) (ingress : Bool) : Plane :=
  let p := p.meets 1 [sh.rid]
  let r := p.tsee 1 sh.rid
  let ka := fun (p : Plane) (t : Nat) => if ingress then p.countKa sh (some sh.rid) t else p
  if routeValid r = false then ka ((p.teach cand 0xFFFF).onRegs (·.inc TBL_ROUTE_INVALID)) 0xFFFF
  else
    let (p, t) := p.takeTenant r sh
    let sh := { sh with tenant := t, jclass := JClass.ofCode (r.u 34 1) }
    let p := p.teach cand t
    let (p, auth, out) : Plane × AuthSt × Shingle := if routeAuth r = 0 then (p, .noneRequired, sh) else p.judge r t sh
    let sh := { sh with auth := auth }
    let p := if sh.jclass = .legal then p.legalUnit sh else p
    let p := if sh.jclass = .incident then p.trigger sh.ts sh.stream else p
    let p := if auth = .failed then p else (ka p t).noteAuthority sh
    let (p, ok) := p.police t r sh.rid sh.body.length (p.std sh.ts)
    if !ok then p
    else
      let (p, d) := p.refine sh lk r (p.flowHash sh) (auth = .failed)
      match d with
      | none => p
      | some d => p.store sh out lk (r.u 42 2) d (if auth = .noneRequired then none else some (auth = .passed))

/-! The units of slots (step 1), of Ethernet and T1S ports (steps 2-5), of hosts. -/

/-- A CAN, LIN or SERIAL unit (R125, R140, R266). -/
def Plane.slotUnit (p : Plane) (sh : Shingle) : Plane :=
  if p.recheck sh = false then p.portInc SW_PORT_CHECK sh.port
  else
    match p.tpKind sh with
    | none => p.chain sh Lk.plain none true
    | some k =>
      let (p, us) := (p.countKa sh (some sh.rid) 0xFFFF).tpTake sh k
      us.foldl (fun p u => p.chain u Lk.plain none false) p

/-- Step 5 and what follows for a frame whose VLAN is known. -/
def Plane.ethRest (p : Plane) (sh : Shingle) (vid : Nat) (ipv rtag : Option Nat) : Plane :=
  let vlan := p.tget 2 vid
  let (p, goesOn, cand) := p.sourceCheck vlan sh.port (ethSa sh.body)
  if !goesOn then p.countKa sh none 0xFFFF
  else
    let p := p.countProbes vlan sh.body
    match p.destLookup vlan sh.body with
    | none => ((p.teach cand 0xFFFF).onRegs (·.inc TBL_L3_DROP)).countKa sh none 0xFFFF
    | some (rid, learned, byPrefix) =>
      let r := p.tsee 1 rid
      let routed := byPrefix && r.f 32 3 3 = 1
      let sh := { sh with rid := rid }
      if routed then
        match routeFrame sh.body with
        | none => ((p.teach cand 0xFFFF).onRegs (·.inc TBL_L3_DROP)).countKa sh (some rid) 0xFFFF
        | some fr =>
          let fr := (r.bytes 64).drop 44 |>.take 6 |> (· ++ fr.drop 6)
          p.chain { sh with body := fr } ⟨some (r.u 50 2), none, true, ipv, rtag⟩ cand true
      else p.chain sh ⟨some vid, learned, false, ipv, rtag⟩ cand true

/-- An ETH or T1S unit from step 2 on (R201). -/
def Plane.ethUnit (p : Plane) (sh : Shingle) : Plane :=
  let (p, fr) := p.msReceive sh.port sh.body
  match fr with
  | none => p.countKa sh none 0xFFFF
  | some fr =>
    let sh := { sh with body := fr }
    let vid := p.resolveVid sh.port fr
    let p := if vid = none then p else p.meets 2 [vid.getD 0]
    let vlan := p.tsee 2 (vid.getD 0)
    if vid = none ∨ bit (vlan.u 18 2) 0 = false ∨ (bit (vlan.u 18 2) 2 = true ∧ vlanHas vlan sh.port = false) then
      (p.onRegs (·.inc TBL_VLAN_DROP)).countKa sh none 0xFFFF
    else
      let (p, x) := p.filterStream (vid.getD 0) sh (p.tickAt sh.ts)
      match x with
      | none => p.countKa sh none 0xFFFF
      | some (fr, ipv, rtag) =>
        let sh := { sh with body := fr }
        match p.leaves sh with
        | some p => p.countKa sh none 0xFFFF
        | none => p.ethRest sh (vid.getD 0) ipv rtag

/-- RIDs of the EARLY section (R77). -/
def earlyRid (t : Truss) (rid : Nat) : Bool :=
  let b := t.sec 0x15
  (List.range (bytesAt b 32 2)).any (fun k => bytesAt b (36 + 2 * k) 2 = rid)

/-- A unit that a slot or T1S port delivered charges its bus time (R266). -/
def Plane.chargeUnit (p : Plane) (sh : Shingle) : Plane :=
  if sh.port < 128 then p.chargeLin sh.port (p.tickAt sh.ts) (p.slotNs sh.port sh false false)
  else if 152 ≤ sh.port ∧ sh.port < 168 then p.chargeLin sh.port (p.tickAt sh.ts) (t1sNs sh.body.length)
  else p

/-- A unit at its stream position. `early` says that the plane runs the early stage of KINDLING (R78). -/
def Plane.lookup (p : Plane) (sh : Shingle) (early : Bool) : Plane :=
  let p := p.chargeUnit sh
  if early ∧ earlyRid p.truss sh.rid = false then p.onRegs (·.inc TRUSS_EARLY_DROP)
  else if sh.utype = .eth ∨ sh.utype = .t1s then p.ethUnit sh
  else p.slotUnit sh

/-- Whether a unit's lookup needs a verdict from an engine (R318). -/
def Plane.wantsVerdict (p : Plane) (sh : Shingle) : Bool :=
  let needs := fun (u : Shingle) => routeValid (p.tget 1 u.rid) && routeAuth (p.tget 1 u.rid) ≠ 0
  if sh.utype = .eth ∨ sh.utype = .t1s then false
  else
    match p.tpKind sh with
    | none => needs sh
    | some k => (p.tpTake sh k).2.any (fun u => needs u)

/-! Host units (R291). -/

/-- A host FRAME or SIGNAL message as a HOST unit (R291): its UTYPE is kept as `action` 16 + UTYPE (log entry 6). -/
def hostUnit (m : RMsg) (stream ts gen : Nat) : Shingle :=
  let k := bytesAt m.body 3 1
  { Shingle.mk0 .host ts (168 + m.ep) gen (m.body.drop (8 + k)) with
    stream := stream
    rid := bytesAt m.body 0 2
    tenant := m.tenant
    action := 16 + bytesAt m.body 2 1
    info := (m.body.drop 8).take k }

/-- A HOST unit enters the chain at step 1. -/
def Plane.hostInject (p : Plane) (m : RMsg) : Plane :=
  (p.chain (hostUnit m p.st.stream p.st.ts (sget (fun _ => 0) p.st.gens (168 + m.ep))) Lk.plain none false)

end Sys2Proof
end

