-- ==== Sys2Proof/Machine/Eth.lean ====
section
/-!
DEFINITION. The events of Ethernet ports in Eaves (R155-R164, R171-R178) and of T1S ports (R152-R154), one meaning for each.
-/

namespace Sys2Proof

/-- Address bytes of a station address register pair (R163). -/
def Eaves.lsa (e : Eaves) (base k : Nat) : Nat :=
  (e.regs.rd (base + 0x104 + 8 * k)).toNat % 2 ^ 16 * 2 ^ 32 + (e.regs.rd (base + 0x100 + 8 * k)).toNat

/-- The station address that a frame's DA matches (R159): never one of zeros, never a group DA. -/
def Eaves.lsaMatch (e : Eaves) (base : Nat) (frame : List Byte) : Option Nat :=
  let da := beAt frame 0 6
  if da = 0 ∨ bit da 40 = true then none else findIdx (fun k => e.lsa base k = da) 8

/-- Metadata of a received frame (R161). -/
def ethInfo (sof : Nat) (lsa : Option Nat) : List Byte := leBytes 8 sof ++ leBytes 8 (lsa.elim 0 (· * 2 ^ 52))

/-- An Ethernet frame as a unit of a port. -/
def ethShingle (e : Eaves) (ty : UType) (port sof : Nat) (lsa : Option Nat) (frame : List Byte) : Shingle :=
  { Shingle.mk0 ty e.counter port (e.genOf port) frame with loc := lsa.isSome, info := ethInfo sof lsa }

/-- 64-bit octet counters of an Ethernet port. -/
def Eaves.etOctets (e : Eaves) (n off k : Nat) : Eaves :=
  e.onRegs (fun m => m.wr64 (ethBase n + off) (min (2 ^ 64 - 1) (m.rd64 (ethBase n + off) + k)))

/-- Whether an Ethernet port is in operation. -/
def Eaves.ethLive (e : Eaves) (n : Nat) : Bool := e.et n ETH_STAT_LINK = 1 && Machine.awake e

/-- Speeds of the PCS in force: the fixed one, the forced one, or the in-band word (R155). -/
def ethSpeedOk (mode : Word) (sp : Nat) : Bool :=
  let pcs := bits mode.toNat 31 28
  let fs := bits mode.toNat 27 24
  let may := if pcs = 1 then sp = 5 else if pcs = 2 then decide (2 ≤ sp ∧ sp ≤ 5) else if pcs = 3 then decide (sp ≤ 2)
    else if pcs = 4 then sp = 3 else false
  may && (fs = 15 || fs = sp)

/-! Transmit. -/

/-- Transmit settings of a port as Eaves runs them. -/
def Eaves.txCfg (e : Eaves) (n : Nat) : TxCfg :=
  { Sys2Proof.txCfg e.live n (e.et n ETH_STAT_SPEED) (e.eth n).gateFrom with maxfrm := bits (e.eth n).mode.toNat 13 0 }

/-- Credits of a port brought up to a time (R175). -/
def Eaves.ethCreditsTo (e : Eaves) (n t : Nat) : Eaves :=
  let c := e.txCfg n
  let s := e.eth n
  let waits := fun k => s.buf.any (fun x => x.qclass = k)
  let l := c.accrueTo s.frozen waits (s.sending.map (·.qclass)) (accrueFuel (t - s.creditAt)) s.credit s.creditAt t
  e.onEth n (fun s => { s with credit := l, creditAt := max s.creditAt t })

/-- Credits of a port brought up to now. -/
def Eaves.ethCredits (e : Eaves) (n : Nat) : Eaves := e.ethCreditsTo n e.counter

/-- Size of a port's transmit buffer (R172). -/
def ethBufBytes (n : Nat) : Nat := if n < 8 then 262144 else 196608

/-- Bytes that candidates hold in a transmit buffer. -/
def bufBytes (l : List Cand) : Nat := l.foldl (fun s c => s + frameBytes c.unit.body.length) 0

/-- A candidate at an Ethernet port's transmit stage (R171, R173, R190). -/
def Eaves.ethTake (e : Eaves) (n : Nat) (cd : Cand) : Eaves :=
  let s := e.eth n
  let held := s.buf ++ s.sending.toList
  if e.et n ETH_STAT_LINK = 0 ∨ cd.gen ≠ e.genOf (ethPort n) then e.etAdd n ETH_TXDROP_LINK 1
  else if ethBufBytes n < bufBytes held + frameBytes cd.unit.body.length then e.etAdd n ETH_TXDROP_OVFL 1
  else (e.ethCredits n).onEth n (fun s => { s with buf := s.buf ++ [cd] })

/-- A candidate at a T1S port's transmit stage (R173, R190): 32 KiB. -/
def Eaves.t1Take (e : Eaves) (n : Nat) (cd : Cand) : Eaves :=
  let q := (e.t1 n).txq
  if e.t1f n T1S_STAT_LINK = 0 ∨ cd.gen ≠ e.genOf (t1sPort n) then e
  else if 32768 < bufBytes (q.map (·.1)) + frameBytes cd.unit.body.length then e.t1Inc n T1S_TXDROP
  else e.onT1 n (fun s => { s with txq := s.txq ++ [(cd, 0)] })

/-- The frame that goes next of a list: the first of the highest class (R174, R179). -/
def t1Next (q : List (Cand × Nat)) : Option (Cand × Nat) :=
  ([7, 6, 5, 4, 3, 2, 1, 0].filterMap (fun k => q.find? (fun x => x.1.qclass = k))).head?

/-- Up to `k` frames sent in a T1S opportunity (R153). -/
def Eaves.t1Send (e : Eaves) (n : Nat) : Nat → Eaves
  | 0 => e
  | k + 1 =>
    match t1Next (e.t1 n).txq with
    | none => e
    | some x => ((e.onT1 n (fun s => { s with txq := s.txq.erase x })).t1Inc n T1S_TX_OK).t1Send n k

end Sys2Proof

namespace Sys2Proof.Machine

/-- A frame that ends on an Ethernet port (R158, R159, R161): `frame` runs from DA to the last byte before the FCS, `sof` is the counter at
the timestamp point as seen at the ball. -/
def ethReceived (f : Field) (n : Nat) (frame : List Byte) (fcsOk : Bool) (sof : Nat) : Field :=
  let e := f.e
  let len := frame.length + 4
  if !(e.ethLive n) then f
  else if len < 64 then f.onE (·.etAdd n ETH_RX_RUNT 1)
  else if !fcsOk then f.onE (·.etAdd n ETH_RX_FCS 1)
  else if bits (e.eth n).mode.toNat 13 0 < len then f.onE (·.etAdd n ETH_RX_OVERSIZE 1)
  else if beAt frame 12 2 = 0x8808 then f.onE (·.etAdd n ETH_RX_CTLDROP 1)
  else
    let lsa := e.lsaMatch (ethBase n) frame
    let f := if lsa.isSome then f.onE (·.etAdd n ETH_RX_LOCAL 1) else f
    f.deliver (ethShingle e .eth (ethPort n) (sof - bits (e.eth n).lat.toNat 15 0) lsa frame)
      (fun e => (e.etAdd n ETH_RX_OK 1).etOctets n ETH_RX_OCTETS_LO len)

/-- ETH_FRAME_RECEIVED (R158): the frame's timestamp point was `ago` ns before its end. -/
def execEthFrameReceived (n : Fin 24) (frame : List Byte) (fcsOk : Bool) (ago dt : Nat) (s : State) : Host.Outcome State Fault Refusal :=
  let f := s.f.onE (·.at dt)
  s.ok (ethReceived f n.val frame fcsOk (f.e.counter - ago))

/-- ETH_LINK_UP (R156): the PCS has held lock at a speed that the one in force allows; 1 ms of it makes the link. -/
def execEthLinkUp (n : Fin 24) (lock : PcsLock) (dt : Nat) (s : State) : Host.Outcome State Fault Refusal :=
  let e := s.f.e.at dt
  s.ok (s.f.onE (fun _ =>
    if e.et n.val ETH_CTL_ENABLE = 1 ∧ e.et n.val ETH_STAT_LINK = 0 ∧ ethSpeedOk (e.eth n.val).mode lock.speed.val = true ∧ awake e = true ∧
      bit (e.regs.get 0 PWR_STAT_PGOOD) 3 = true then
      let e := (e.etSet n.val ETH_STAT_HI_BER 0).etSet n.val ETH_STAT_PCS_LOCK 1
      if 1000000 ≤ lock.held then (e.ethLinkUp n.val lock.speed.val).onEth n.val (fun s => { s with creditAt := e.counter }) else e
    else e))

/-- ETH_LINK_DOWN (R156): lock is lost, also one that has not yet made the link; `hiBer` says that 10GBASE-R saw a high bit-error rate. -/
def execEthLinkDown (n : Fin 24) (hiBer : Bool) (dt : Nat) (s : State) : Host.Outcome State Fault Refusal :=
  let e := s.f.e.at dt
  let e := if hiBer = true ∧ bits (e.eth n.val).mode.toNat 31 28 = 1 then
    (e.etSet n.val ETH_STAT_HI_BER 1).etSet n.val ETH_ERRFLAG_HI_BER 1 else e
  s.ok { s.f with e := (e.etSet n.val ETH_STAT_PCS_LOCK 0).ethLinkDown n.val }

/-- A write of RESTART, or of ENABLE from 0 to 1 (R163). -/
def ethRestartReq (e : Eaves) (n : Nat) (enable : Bool) : Eaves :=
  if enable then (if e.et n ETH_CTL_ENABLE = 1 then e else (e.etSet n ETH_CTL_ENABLE 1).ethRestart n) else e.ethRestart n

/-- ETH_RESTART (R163): `enable` for the write of ENABLE, else RESTART. -/
def execEthRestart (n : Fin 24) (enable : Bool) (dt : Nat) (s : State) : Host.Outcome State Fault Refusal :=
  let e := s.f.e.at dt
  s.ok { s.f with e := if e.mode = .safe then e else ethRestartReq e n.val enable }

/-- TXTS_READ (R162): a read of ETH_TXTS_HI. -/
def execTxtsRead (n : Fin 24) (s : State) : Host.Outcome State Fault Refusal :=
  s.ok (s.f.onE (·.etSet n.val ETH_STAT_TXTS_VALID 0))

/-- A START (R164): ignored with MDIO_BUSY while BUSY is set; OP 0 only with clause 45. -/
def mdioStart (e : Eaves) (n : Nat) (c45 : Bool) (op reg data : Nat) : Eaves :=
  if e.et n ETH_MDIO_RES_BUSY = 1 then e.etSet n ETH_ERRFLAG_MDIO_BUSY 1
  else if 2 < op ∨ (op = 0 ∧ c45 = false) then e
  else
    let e := (e.etSet n ETH_MDIO_RES_BUSY 1).etSet n ETH_MDIO_RES_DONE 0
    { e with seqr := { e.seqr with mdio := e.seqr.mdio ++ [⟨n, bits (e.eth n).phy.toNat 31 31, c45, op, reg, data⟩] } }

/-- MDIO_ADDRESS (R164). -/
def execMdioAddress (n : Fin 24) (c45 : Bool) (reg : Fin 32) (data : Fin 65536) (s : State) : Host.Outcome State Fault Refusal :=
  s.ok (s.f.onE (mdioStart · n.val c45 0 reg.val data.val))

/-- MDIO_WRITE (R164). -/
def execMdioWrite (n : Fin 24) (c45 : Bool) (reg : Fin 32) (data : Fin 65536) (s : State) : Host.Outcome State Fault Refusal :=
  s.ok (s.f.onE (mdioStart · n.val c45 1 reg.val data.val))

/-- MDIO_READ (R164). -/
def execMdioRead (n : Fin 24) (c45 : Bool) (reg : Fin 32) (data : Fin 65536) (s : State) : Host.Outcome State Fault Refusal :=
  s.ok (s.f.onE (mdioStart · n.val c45 2 reg.val data.val))

/-- MDIO_DONE (R164): the oldest transaction of a bus ends; `data` is what the PHY answers to a READ. -/
def execMdioDone (bus : Fin 2) (data : Fin 65536) (s : State) : Host.Outcome State Fault Refusal :=
  s.ok (s.f.onE (fun e =>
    match e.seqr.mdio.find? (fun x => x.bus = bus.val) with
    | none => e
    | some x =>
      let e := { e with seqr := { e.seqr with mdio := e.seqr.mdio.erase x } }
      let e := (e.etSet x.port ETH_MDIO_RES_BUSY 0).etSet x.port ETH_MDIO_RES_DONE 1
      if x.op = 2 then e.etSet x.port ETH_MDIO_RES_DATA data.val else e))

/-- A PHY interrupt input goes low or high; while it is low it holds PHY_INT of every port that selects it (R164). -/
def phyInput (e : Eaves) (k : Nat) (low : Bool) : Eaves :=
  let rest := e.seqr.phyLow.filter (· ≠ k)
  let e := { e with seqr := { e.seqr with phyLow := if low then rest ++ [k] else rest } }
  (List.range 24).foldl Eaves.phyLevel e

/-- PHY_INTERRUPT (R164): an input goes low, or ends its low level. -/
def execPhyInterrupt (pin : PhyPin) (s : State) : Host.Outcome State Fault Refusal := s.ok (s.f.onE (phyInput · pin.k.val pin.low))

/-- ETH_TX_CANDIDATE (R171, R173): the next candidate at a port, 0-23 Ethernet, 24-39 T1S. -/
def execEthTxCandidate (k : Fin 40) (dt : Nat) (s : State) : Host.Outcome State Fault Refusal :=
  let e := s.f.e.at dt
  match e.takeStage (128 + k.val) with
  | some (c, e) => s.ok { s.f with e := if k.val < 24 then e.ethTake k.val c else e.t1Take (k.val - 24) c }
  | none => s.ok { s.f with e := e }

/-- ETH_TX_START (R162, R174-R177): the choice falls as the preamble starts, before the message timestamp point; a frame that carries TS_REQ has
its transmission time captured. -/
def ethTxStart (e : Eaves) (n : Nat) : Eaves :=
  let start := e.counter - preambleNs (e.txCfg n).rate
  let e := e.ethCreditsTo n start
  let s := e.eth n
  if e.ethLive n = false ∨ s.sending.isSome = true ∨ e.mode = .safe then e
  else
    let head := fun k => (s.buf.find? (fun x => x.qclass = k)).map (fun x => frameBytes x.unit.body.length)
    match (e.txCfg n).choose s.frozen s.credit head start with
    | none => e
    | some k =>
      match s.buf.find? (fun x => x.qclass = k) with
      | none => e
      | some c =>
        let e := e.onEth n (fun s => { s with buf := s.buf.erase c, sending := some c })
        if c.tsReq then
          let e := if e.et n ETH_STAT_TXTS_VALID = 1 then e.etSet n ETH_ERRFLAG_TXTS_LOST 1 else e
          let ts := e.counter + bits s.lat.toNat 31 16
          (e.onRegs (fun m => (m.wr64 (ethBase n + ETH_TXTS_LO) ts).wr (ethBase n + ETH_TXTS_TAG) (BitVec.ofNat 32 c.oseq))).etSet n
            ETH_STAT_TXTS_VALID 1
        else e

/-- ETH_TX_START (R174): `dt` is the message timestamp point of the frame. -/
def execEthTxStart (n : Fin 24) (dt : Nat) (s : State) : Host.Outcome State Fault Refusal :=
  s.ok (s.f.onE (fun e => ethTxStart (e.at dt) n.val))

/-- ETH_TX_DONE (R174, R175): a credit above 0 goes when its class empties. -/
def execEthTxDone (n : Fin 24) (dt : Nat) (s : State) : Host.Outcome State Fault Refusal :=
  s.ok (s.f.onE (fun e =>
    let e := (e.at dt).ethCredits n.val
    match (e.eth n.val).sending with
    | none => e
    | some c =>
      let e := e.onEth n.val (fun s =>
        let left := s.buf.any (fun x => x.qclass = c.qclass)
        { s with sending := none,
                 credit := if left then s.credit else sput (fun _ => 0) s.credit c.qclass (min 0 (creditOf s.credit c.qclass)) })
      (e.etAdd n.val ETH_TX_OK 1).etOctets n.val ETH_TX_OCTETS_LO (frameBytes c.unit.body.length)))

/-- GATE_ENTRY_CHANGE (R176): the entry in force shows in ETH_GATE_CTL.CUR. -/
def execGateEntryChange (n : Fin 24) (dt : Nat) (s : State) : Host.Outcome State Fault Refusal :=
  s.ok (s.f.onE (fun e =>
    let e := (e.at dt).ethCredits n.val
    let e := e.onEth n.val (fun s => { s with frozen := s.frozen.filter (fun x => decide (e.counter < x.2)) })
    match (e.txCfg n.val).gates (e.eth n.val).frozen e.counter with
    | some (i, _, _) => if (e.eth n.val).frozen.isSome then e else e.etSet n.val ETH_GATE_CTL_CUR i
    | none => e))

/-! T1S ports. -/

/-- A T1S port in operation: enabled, node identity valid, with power. -/
def t1Live (e : Eaves) (n : Nat) : Bool := e.t1f n T1S_CTL_ENABLE = 1 && (e.t1 n).nodeId ≠ 255 && awake e && e.mode ≠ .banked

/-- T1S_FRAME_RECEIVED (R152, R158, R159). -/
def execT1sFrameReceived (n : Fin 16) (frame : List Byte) (fcsOk : Bool) (ago dt : Nat) (s : State) : Host.Outcome State Fault Refusal :=
  let f := s.f.onE (·.at dt)
  let e := f.e
  let k := n.val
  if t1Live e k = false ∨ e.t1f k T1S_STAT_LINK = 0 then s.ok f
  else if frame.length + 4 < 64 then s.ok (f.onE (·.t1Inc k T1S_RX_RUNT))
  else if fcsOk = false ∨ 1522 < frame.length + 4 then s.ok (f.onE (·.t1Inc k T1S_RX_FCS))
  else if beAt frame 12 2 = 0x8808 then s.ok f
  else s.ok (f.deliver (ethShingle e .t1s (t1sPort k) (e.counter - ago) (e.lsaMatch (t1sBase k) frame) frame) (·.t1Inc k T1S_RX_OK))

/-- T1S_BEACON (R153, R154): a follower receives a BEACON, and a PLCA cycle starts. -/
def execT1sBeacon (n : Fin 16) (dt : Nat) (s : State) : Host.Outcome State Fault Refusal :=
  s.ok (s.f.onE (fun e =>
    let e := e.at dt
    if t1Live e n.val = true ∧ (e.t1 n.val).nodeId ≠ 0 then
      ((e.onT1 n.val (fun s => { s with lastBeacon := e.steady e.counter, due := true })).t1Set n.val T1S_STAT_BEACON_OK 1).t1LinkUp n.val
    else e))

/-- T1S_BEACON_LOSS (R154): LINK_HOLD ms without a BEACON. -/
def execT1sBeaconLoss (n : Fin 16) (dt : Nat) (s : State) : Host.Outcome State Fault Refusal :=
  s.ok (s.f.onE (fun e =>
    let e := e.at dt
    if e.t1f n.val T1S_STAT_LINK = 1 ∧ (e.t1 n.val).nodeId ≠ 0 ∧
        (e.t1 n.val).lastBeacon + (e.t1 n.val).linkHold * 1000000 ≤ e.steady e.counter then
      (e.t1Inc n.val T1S_BEACON_LOSS).t1LinkDown n.val
    else e))

/-- Time in ns of `n` bits at 10 Mb/s. -/
def t1Bits (n : Nat) : Nat := 100 * n

/-- Bits of a BEACON (R153). -/
def beaconBits : Nat := 20

/-- Whether the PLCA cycle that a coordinator started is over at the earliest: the BEACON and NODE_COUNT opportunities of TO_TIMER (R153). -/
def cycleOver (e : Eaves) (n : Nat) : Bool :=
  let s := e.t1 n
  s.cycle = 0 || decide (s.lastBeacon + t1Bits (beaconBits + s.nodeCount * s.toTimer) ≤ e.steady e.counter)

/-- T1S_BEACON_SEND (R153): the coordinator starts a PLCA cycle, when the last one is over. -/
def execT1sBeaconSend (b : T1sBeacon) (s : State) : Host.Outcome State Fault Refusal :=
  s.ok (s.f.onE (fun e =>
    let e := e.at b.dt
    if t1Live e b.port.val = true ∧ (e.t1 b.port.val).nodeId = 0 ∧ e.mode ≠ .safe ∧ cycleOver e b.port.val = true then
      e.onT1 b.port.val (fun s => { s with cycle := s.cycle + 1, lastBeacon := e.steady e.counter, due := true })
    else e))

/-- Whether the port's transmit opportunity has come (R153): once in each cycle, after the BEACON and the opportunities of TO_TIMER of the
nodes before it. -/
def t1Turn (e : Eaves) (n : Nat) : Bool :=
  let s := e.t1 n
  t1Live e n && e.t1f n T1S_STAT_LINK = 1 && e.mode ≠ .safe && s.due &&
    decide (s.lastBeacon + t1Bits (beaconBits + s.nodeId * s.toTimer) ≤ e.steady e.counter)

/-- Frames that a port may send in one opportunity (R153): one, and MAX_BC more where BURST_TMR leaves time for the 96 bits between frames
that the Ethernet overhead of R177 holds (log entry 87). -/
def t1Burst (s : T1sSt) : Nat := 1 + (if 96 ≤ s.burstTmr then s.maxBc else 0)

/-- T1S_TX_OPPORTUNITY (R153): the port's opportunity passes without a collision; it sends up to 1 + MAX_BC frames. -/
def execT1sTxOpportunity (n : Fin 16) (dt : Nat) (s : State) : Host.Outcome State Fault Refusal :=
  s.ok (s.f.onE (fun e =>
    let e := e.at dt
    if t1Turn e n.val then (e.onT1 n.val (fun s => { s with due := false })).t1Send n.val (t1Burst (e.t1 n.val)) else e))

/-- T1S_COLLISION (R153): the frame that the port sends in its opportunity collides; it waits for the next one, and after 16 attempts it is
dropped. -/
def execT1sCollision (n : Fin 16) (dt : Nat) (s : State) : Host.Outcome State Fault Refusal :=
  s.ok (s.f.onE (fun e =>
    let e := e.at dt
    if t1Turn e n.val then
      match t1Next (e.t1 n.val).txq with
      | none => e
      | some x =>
        let e := (e.onT1 n.val (fun s => { s with due := false })).t1Inc n.val T1S_COLL
        if 16 ≤ x.2 + 1 then (e.onT1 n.val (fun s => { s with txq := s.txq.erase x })).t1Inc n.val T1S_TXDROP
        else e.onT1 n.val (fun s => { s with txq := s.txq.map (fun y => if y = x then (y.1, y.2 + 1) else y) })
    else e))

/-- A write of RESTART, or of ENABLE from 0 to 1 (R154). -/
def t1RestartReq (e : Eaves) (n : Nat) (enable : Bool) : Eaves :=
  if enable then (if e.t1f n T1S_CTL_ENABLE = 1 then e else (e.t1Set n T1S_CTL_ENABLE 1).t1Restart n) else e.t1Restart n

/-- T1S_RESTART (R154). -/
def execT1sRestart (n : Fin 16) (enable : Bool) (dt : Nat) (s : State) : Host.Outcome State Fault Refusal :=
  let e := s.f.e.at dt
  s.ok { s.f with e := if e.mode = .safe then e else t1RestartReq e n.val enable }

end Sys2Proof.Machine
end

