-- ==== Sys2Proof/Machine/Load.lean ====
section
/-!
DEFINITION. A plane's forwarding side as a truss starts it.
-/

namespace Sys2Proof

/-- The initial values of the value store and the supervisors take the tick and STREAM of the last TICK (R225, R237). -/
def Plane.stampLoad (p : Plane) : Plane := p.onThr (fun t => { t with loadTick := p.st.tick, loadStream := p.st.tickStream })

/-- Tables, tenants, switch settings, bus models and Thatcher's values at their start (R198, R219, R225, R112). -/
def Plane.loadForward (p : Plane) : Plane :=
  let p := (p.loadTables.loadSwitch).gatesNow (fun _ => false)
  let p := (List.range 128).foldl Plane.busRestart p
  (p.onThr (fun _ => Thr.init)).stampLoad

end Sys2Proof
end

