-- ==== Sys2Proof/Machine/Kindling.lean ====
section
/-!
DEFINITION. KINDLING (R449, R450): power on, the rails, firmware, trusses, the full load with the head's recovery (R373) and genesis
(R353), the first leader (R407).
-/

namespace Sys2Proof

/-- The R449 step that a plane has ended. -/
def Eaves.doneStep (e : Eaves) : PlaneId → Nat
  | .A => e.seqr.doneA
  | .B => e.seqr.doneB

/-- That step set. -/
def Eaves.setDone (e : Eaves) (p : PlaneId) (n : Nat) : Eaves :=
  e.onSeq (fun s => match p with | .A => { s with doneA := n } | .B => { s with doneB := n })

/-- Whether a plane has failed in this KINDLING. -/
def Eaves.failed (e : Eaves) : PlaneId → Bool
  | .A => e.seqr.failA
  | .B => e.seqr.failB

/-- A plane fails in this KINDLING. -/
def Eaves.setFailed (e : Eaves) (p : PlaneId) : Eaves :=
  (e.onSeq (fun s => match p with | .A => { s with failA := true } | .B => { s with failB := true })).onRj p
    (fun r => { r with offAt := e.counter })

/-- The OTP of a plane. -/
def Machine.State.otp (s : Machine.State) : PlaneId → Otp
  | .A => s.otpA
  | .B => s.otpB

/-- Whether plane `p` may go on with its KINDLING after step `n`. -/
def Eaves.kindles (e : Eaves) (p : PlaneId) (n : Nat) : Bool :=
  (e.mode = .kindling || e.serving || e.mode = .banked) && decide (3 ≤ e.seqr.kin ∧ e.role p = .offline ∧ e.doneStep p = n) &&
    !e.failed p

/-! The journal's head at KINDLING. -/

/-- The granule of the highest GSEQ of which all PARTS are present (R373). -/
def Rick.bestGran (r : Rick) : Option Granule :=
  let all := r.granules.filterMap (·.2)
  let full := all.filter (fun g => (List.range g.parts).all (fun k => all.any (fun x => x.gseq = g.gseq && x.part = k)))
  full.foldl (fun m g => match m with | some b => if b.gseq < g.gseq then some g else m | none => some g) none

/-- The journal's content of another plane's head, with the drives and holes of this one (R373). -/
def Rick.copyHead (r o : Rick) : Rick := { o with drives := r.drives, holes := r.holes, sealKey := r.sealKey }

/-- The committed state of a head taken (R373): what came after its commit is gone; an UNCLEAN record follows an unclean end; an
incident that was open closes with CUT (R364). -/
def Plane.recoverHead (p : Plane) : Plane :=
  match p.rick.bestGran with
  | none => p
  | some g =>
    let p := p.onRick (fun r => { r with
      recs := r.recs.filter (fun x => x.rseq < g.nextRseq ∧ g.freed ≤ x.off), link := g.link, legalNext := g.legalEnd, durable := g.durable,
      committedRseq := g.nextRseq, firstUnsealed := if g.sealRseq = 0 then 0 else g.sealRseq + 1,
      unsealedTick := if g.sealRseq + 1 < g.nextRseq then some p.st.tick else none,
      chunks := r.chunks.filter (fun c => c.cseq < g.rollNext), incs := r.incs.filter (fun i => i.rseq < g.nextRseq),
      incOpen := r.incOpen.filter (fun i => i.id = g.incOpen) })
    let p := p.onRegs (fun m =>
      let m := ((m.wr64 RICK_RSEQ_LO g.nextRseq).wr64 RICK_HEAD_GSEQ_LO g.gseq).wr64 RICK_LEGAL_END_LO g.legalEnd
      let m := ((m.wr64 RICK_LEGAL_FREED_LO g.freed).wr64 RICK_ROLL_NEXT_LO g.rollNext).wr RICK_INC_NEXT (BitVec.ofNat 32 g.incNext)
      m.wr64 RICK_SEAL_LO g.sealRseq)
    let p := if g.clean then p
      else (p.legalEvent 0x000D (leBytes 8 (g.nextRseq - 1) ++ leBytes 8 g.gseq)).onRegs (·.set 0 RICK_STAT_UNCLEAN 1)
    ((p.closeIncident true).showRoll.showInc).showHead

/-- The GEOMETRY record of a truss whose geometry differs (R348). -/
def Plane.recordGeom (p : Plane) : Plane :=
  if p.regs.get 0 RICK_STAT_GEOM_DIFF = 1 then
    p.legalEvent 0x000F (leBytes 1 (p.rk 1 1) ++ leBytes 3 0 ++ leBytes 4 (p.rk 12 4) ++ leBytes 4 (p.rk 16 4))
  else p

/-- Whether genesis is due (R353): a RICK section, the fused retention, no index, and every drive position of both planes FOREIGN. -/
def genesisDue (a b p : Plane) (o : Otp) : Bool :=
  p.truss.sec 0x10 ≠ [] && o.retention.isSome && p.rick.geom.isNone &&
    (List.range (p.rk 1 1)).all (fun d => (a.drive d).state = 2 && (b.drive d).state = 2)

/-- USED_EXT: the smallest namespace among the drives, in extents (R353). -/
def usedExt (a b : Plane) (n : Nat) : Nat :=
  (List.range n).foldl (fun m d => min m (min (a.drive d).extents (b.drive d).extents)) (a.drive 0).extents

/-- A plane formats its drives (R353). -/
def Plane.formatDrives (p : Plane) (g : Geom) : Plane :=
  (List.range g.drives).foldl (fun p d => p.onDrive d (fun x => { x with state := 4, super := .ofSet g.epoch })) p

/-- What the KINDLING records in the journal and announces (R327, R341, R389). -/
def Plane.recordKindling (p : Plane) (e : Eaves) : Plane :=
  let p := match p.servo.reload with
    | some (ts, stream, b) => { p.legalEventAt ts stream 0x0003 b with servo := { p.servo with reload := none } }
    | none => p
  let p := match p.kiln.lcOld with
    | some o =>
      let d := leBytes 1 o ++ leBytes 1 p.kiln.lc
      (p.legalEvent 0x0005 d).event 0x0907 noId noId d
    | none => p
  let p := p.onKiln (fun k => { k with lcOld := none })
  if e.regs.get 0 BBR_TAMPER_LATCHED = 1 then
    let d := leBytes 1 (e.regs.get 0 BBR_TAMPER_SOURCE) ++ leBytes 8 (e.regs.rd64 BBR_TAMPER_S_LO)
    (p.legalEvent 0x0007 d).event 0x0906 noId noId d
  else p

/-- Every network AWAKE at its start, its LAST_KA the evaluation TICK at which, or after which, the truss is loaded (R474, R476). -/
def Plane.startNets (p : Plane) : Plane :=
  { p with nets := (List.range (Machine.netCount p.truss)).foldl (fun m i =>
      sput (fun _ => Net.init) m i { Net.init with lastKa := (p.st.tick + 99) / 100 * 100 }) [] }

end Sys2Proof

namespace Sys2Proof.Machine

/-! Steps 1-3. -/

/-- The counter, TIME_BASE, quality and error at a COLD KINDLING (R402, R387). -/
def loadTime (f : Field) : Field :=
  let e := f.e
  let t := parseTruss f.a.nv.activeFlash.image
  let valid := decide (e.regs.get 0 TIME_CAL_STAT_VALID = 1)
  let utc := trussUtc t
  let sec := if valid then e.calSec else t.buildUtc + utc
  let ns := if valid then (e.seqr.cal % 10 ^ 9 * 32768 / 10 ^ 9) * 10 ^ 9 / 32768 else 0
  let err := if valid then min 0xFFFFFFFE ((e.regs.rd TIME_CAL_ERR).toNat + (e.calSec - e.regs.rd64 TIME_CAL_SETAT_LO) * 50) else 0xFFFFFFFF
  let e := setCounter e (ns + 86400 * 10 ^ 9)
  let e := e.onRegs (fun m => ((m.wr64 TIME_BASE_LO (sec + 2 ^ 64 - 86400)).wr TIME_ERR (BitVec.ofNat 32 err)).set 0 TIME_STAT_TQ 2)
  { f with e := (e.timeLoaded utc 0).onSeq (fun s => { s with kinAt := e.counter }) }

/-- POWER_ON (R449 steps 1 and 2, R450): PGOOD0 rises; `slept` is the calendar time since the last command, in ns. BOOTSEL other than 0 stops
after step 2. -/
def execPowerOn (boot : Fin 8) (slept : Nat) (s : State) : Host.Outcome State Fault Refusal :=
  let f := s.f.onE (·.onSeq (fun q => { q with cal := q.cal + slept }))
  if f.e.seqr.off = true ∨ (f.e.mode = .kindling ∧ f.e.seqr.kin = 0 ∧ f.e.seqr.cold = true) then
    let f := f.deviceReset true
    let f := f.onE (fun e => ((clearLimit e).onRegs (·.set 0 PWR_STAT_PGOOD 1)).onSeq (fun q => { q with off := false, resetLow := none, holdEnd := none }))
    let f := (loadTime f).startKindling s.otpA s.otpB
    s.ok (if boot.val = 0 then f else f.onE (·.onSeq (fun q => { q with kin := 2 })))
  else s.ok f

/-- PGOOD1-3 that are high once KINDLING_PGOOD comes: those whose PWR_EN is high and of which no PGOOD_FALL has told that they stay low. -/
def pgoodsUp (e : Eaves) : Nat := (14 ^^^ (e.seqr.pgLow &&& 14)) &&& e.regs.get 0 PWR_STAT_PWR_EN

/-- KINDLING_PGOOD (R449 step 3, R519): step 3 follows where PGOOD1-3 are all high. A plane whose PGOOD has not risen 20 ms after its PWR_EN
stays OFFLINE with its SUPPLY source, and the device goes on; a late PGOOD3 raises none (log entry 121). -/
def execKindlingPgood (s : State) : Host.Outcome State Fault Refusal :=
  let f : Field := s.f.onE (fun e => (e.onRegs (fun m => m.set 0 PWR_STAT_PGOOD (m.get 0 PWR_STAT_PGOOD ||| pgoodsUp e))).onSeq
    (fun q => { q with pgLow := 0 }))
  let held := f.e.seqr.holdEnd.isSome || (f.e.seqr.resetLow.isSome && !f.e.seqr.resetDeaf)
  let good := fun b => bit (f.e.regs.get 0 PWR_STAT_PGOOD) b
  if f.e.mode = .kindling ∧ f.e.seqr.kin = 1 ∧ held = false then
    if good 1 && good 2 && good 3 then s.ok (f.kindlingStep3 s.otpA s.otpB)
    else if f.e.seqr.pwrAt + 20000000 ≤ f.e.counter then
      let f := f.kindlingStep3 s.otpA s.otpB
      let f := if good 1 then f else f.raisePlane .A 17
      s.ok (if good 2 then f else f.raisePlane .B 17)
    else s.ok f
  else s.ok f

/-! Steps 6 and 7. -/

/-- FIRMWARE_VERIFIED (R450): a plane whose firmware fails stays OFFLINE, held, with FLASH as INFO. -/
def execFirmwareVerified (p : PlaneId) (good : Bool) (s : State) : Host.Outcome State Fault Refusal :=
  let f := s.f
  if f.e.doneStep p < 6 ∧ f.e.kindles p (f.e.doneStep p) = true then
    if good then s.ok (f.onE (·.setDone p 6))
    else
      let f := f.onE (fun e => (((e.setFailed p).onRj p (fun r => { r with noTry := true })).setStage p 6).info (planeSrc p 27))
      s.ok (f.onPlane p Plane.halt)
  else s.ok f

/-- An armed life-cycle transition takes effect before the truss is loaded (R327): the eight fuses of the target state blow in both
planes; OEM, FIELD and RETURN need the other slot of both planes STAGED under the target state's keys and load it as ACTIVE. -/
def applyLc (s : State) (p : PlaneId) : State :=
  match (s.f.plane p).nv.kiln.armed with
  | none => s
  | some t =>
    let ok := fun (q : PlaneId) => decide ((s.f.plane q).nv.slotRec.otherState = 3 ∧
      verifySlot (s.f.plane q).nv.otherFlash (s.f.verEnv q (s.otp q) t none) = 0)
    let staged := ok .A && ok .B
    let load := decide (t = 2 ∨ t = 3 ∨ t = 4)
    let good := lcAllowed (s.otp p) t && (!load || staged)
    let fuse := fun (o : Otp) => if good then { o with lcFuses := sput (fun _ => 0) o.lcFuses t 8 } else o
    let step := fun (o n : Otp) (q : Plane) =>
      let q := { q with nv := { q.nv with kiln := { q.nv.kiln with armed := none } } }
      let q := q.onRegs (fun m => (((m.set 0 KILN_LC_STAT_ARMED 0).set 0 KILN_LC_STAT_TARGET 0).set 0 KILN_LC_STAT_RESULT
        (if good then 1 else 2)))
      if good then
        let q := if load then q.activateOther else q
        showOtp n (q.onKiln (fun k => { k with lc := n.lc, lcOld := some o.lc }))
      else q
    { s with
      f := { s.f with a := step s.otpA (fuse s.otpA) s.f.a, b := step s.otpB (fuse s.otpB) s.f.b }
      otpA := fuse s.otpA
      otpB := fuse s.otpB }

/-- The other slot, where it is STAGED or PREVIOUS and passes, becomes ACTIVE (R69). -/
def useOther (f : Field) (p : PlaneId) (o : Otp) : Field × Bool :=
  let r := (f.plane p).nv.slotRec
  if (r.otherState = 3 ∨ r.otherState = 4) ∧ verifySlot (f.plane p).nv.otherFlash (f.verEnv p o o.lc none) = 0 then
    (f.onPlane p (·.activateOther), true)
  else (f, false)

/-- Ports of the EARLY section (R77). -/
def earlyPort (t : Truss) (n : Nat) : Bool := bit (bytesAt (t.sec 0x15) 0 16) n

/-- The early stage of the first plane (R78): the early slots run, AUTO_RELEASE courses are released (R455), and the plane sends. -/
def earlyStage (f : Field) (p : PlaneId) : Field :=
  let t := parseTruss (f.plane p).nv.activeFlash.image
  let f := f.onPlane p (fun q => ({ q with truss := t } : Plane).loadForward)
  if f.e.mode ≠ .kindling then f
  else
    let f := f.onE (releaseCourses · (modesSec t 8 2))
    if t.sec 0x15 = [] ∨ (f.plane p.other).st.sends = true then f
    else
      let f := f.onPlane p (fun q => { q with st := { q.st with sends := true } })
      f.onE (fun e =>
        let e := ({ e with live := t, pool := poolOf t } : Eaves).loadDevice t
        let e := (List.range 128).foldl (fun e n => e.loadSlot t (earlyPort t n) n) e
        (List.range 128).foldl (fun e n => if earlyPort t n then e.slotRestart n else e) e)

/-- KINDLING_TRUSS_CHECK (R69, R327, R78): a plane verifies its ACTIVE truss, repairs it from the other plane, or takes its other slot; where
no truss passes in either plane the device enters SAFE with hold NO_TRUSS, and in END with LIFECYCLE_END (R326). -/
def execKindlingTrussCheck (p : PlaneId) (s : State) : Host.Outcome State Fault Refusal :=
  if s.f.e.kindles p 6 then
    let s := applyLc s p
    let o := s.otp p
    let bad := s.f.checkActive p o ≠ 0
    let (f, good) := s.f.fixActive p o
    let (f, ran) := if good then (f, true) else useOther f p o
    if ran then
      let f := f.onE (·.setDone p 8)
      let f := earlyStage f p
      s.ok (if bad ∧ good = true then f.noteRepair p else f)
    else
      let f := (f.onE (·.setFailed p)).onPlane p Plane.halt
      if f.e.failed p.other = true ∧ f.e.mode = .kindling then
        s.ok ((f.enterSafe 2 0x7FF).onE (·.setHold (if o.lc = 5 then 2 else 3)))
      else s.ok f
  else s.ok s.f

/-! Step 9. -/

/-- Whether a truss has GENERATED keys, which wait for entropy (R331, R343). -/
def needsRand (t : Truss) : Bool :=
  let b := t.sec 0x12
  let o := keysKeyOff b
  (List.range (bytesAt b o 4)).any (fun h => (recAt b (o + 8) 48 h).u 0 1 = 3)

/-- LEGAL record 0, and an INTEGRITY record where the LEGAL region is too small for the fused retention (R353, R367). -/
def recordGenesis (q : Plane) (g : Geom) : Plane :=
  let q := q.startRick.legalEvent 0x0001 (leBytes 8 Config.serial ++ leBytes 4 g.epoch ++ leBytes 1 g.drives ++ leBytes 3 0 ++
    leBytes 4 g.legalGib ++ leBytes 4 g.incGib)
  if 4 * g.legalBytes < 5 * q.rk 20 4 * g.retention * 86400 then
    q.legalEvent 0x0009 (leBytes 2 0xFFFF ++ leBytes 1 0xFF ++ leBytes 1 0xFF ++ leBytes 4 0 ++ leBytes 8 (q.regs.rd64 RICK_RSEQ_LO))
  else q

/-- Genesis (R353): geometry and formatted drives in both planes, GENESIS as record 0 in each that has loaded. -/
def genesis (f : Field) (p : PlaneId) (o : Otp) : Field :=
  let q := f.plane p
  if f.e.leader.isSome ∨ genesisDue f.a f.b q o = false then f
  else
    let g : Geom := ⟨q.rk 1 1, q.rk 12 4, q.rk 16 4, usedExt f.a f.b (q.rk 1 1), 1, o.retention.getD 0, q.utcOf q.st.ts⟩
    let f := f.onBoth (fun q => (q.onRick (fun r => { r with geom := some g })).formatDrives g)
    let f := f.onPlane p (recordGenesis · g)
    if f.e.doneStep p.other = 9 then f.onPlane p.other (recordGenesis · g) else f

/-- A plane loads its full truss (R449 step 9): tables, tenants, key slots, the head; networks start AWAKE (R474). -/
def fullLoad (f : Field) (p : PlaneId) (o : Otp) : Field :=
  let f := f.onPlane p (fun q =>
    let q := q.runTruss (parseTruss q.nv.activeFlash.image) o.root
    if q.st.sends then q.stampLoad else q.loadForward)
  let f := genesis f p o
  let mine := (f.plane p).rick.bestGran.elim 0 (·.gseq)
  let other := (f.plane p.other).rick
  let f := if mine < other.bestGran.elim 0 (·.gseq) then f.onPlane p (·.onRick (·.copyHead other)) else f
  f.onPlane p (fun q =>
    let q := ((q.recoverHead).recordGeom.recordKindling f.e).startNets
    ({ q with nv := { q.nv with kiln := { q.nv.kiln with clean := false } } } : Plane).showTruss)

/-- A plane that has loaded goes on as REJOINING at stage COPY (R407). -/
def toCopy (f : Field) (p : PlaneId) : Field :=
  let f := f.onPlane p (fun q => { q with st := { q.st with takes := false, sends := false, inbox := [], up := [] } })
  f.onE (fun e =>
    let e := (e.setRole p .rejoining).setStage p 4
    e.onRj p (fun r => { r with attemptAt := e.counter, level := false }))

/-- KINDLING_FULL_LOAD (R449 step 9): the first plane loads Eaves's live bank and its ports start; early ports carry on. -/
def execKindlingFullLoad (p : PlaneId) (s : State) : Host.Outcome State Fault Refusal :=
  let f := s.f
  if f.e.kindles p 8 then
    let t := parseTruss (f.plane p).nv.activeFlash.image
    if needsRand t ∧ (f.plane p).kiln.randSeen = false then s.ok f
    else
      let f := checkStraps (fullLoad f p (s.otp p)) p
      let first := f.e.mode = .kindling ∧ f.e.doneStep p.other < 9
      let early := f.a.st.sends || f.b.st.sends
      let f := if first then
          f.onE (fun e =>
            let keep := fun n => early && earlyPort t n
            let e := ((e.loadBank t (poolOf t)).loadDevice t).gatesNow (fun _ => false)
            let e := setVolt e (e.regs.get 0 PWR_DVFS_CUR)
            let e := e.onRegs (·.set 0 TIME_STAT_UTC_OFFSET (trussUtc t))
            let e := e.startPorts keep
            (List.range 4).foldl (fun e n => if e.bt n BT_CTL_ENABLE = 1 then e.chainRestart n else e) e)
        else f
      let f := f.onE (·.setDone p 9)
      if first ∧ (List.range 5).any (tamperActive f.e) = true then s.ok (checkTamper f) else
      s.ok (if f.e.leader.isSome then (toCopy f p).onE (·.ctrlRoleNow 3 0xFFFF) else f)
  else s.ok f

/-! Step 10. -/

/-- The EVENTs of a KINDLING that Eaves's state calls for: LAST_SAFE after every SAFE (R440), RESET_STUCK (R467), FAULT for each fault of DEVICE
class that found the planes stopped (R457). -/
def kindleEvents (q : Plane) (e : Eaves) : Plane :=
  let m := e.regs
  let q := if e.seqr.afterSafe then
      q.event 0x0406 noId noId (leBytes 1 (m.get 0 FLUE_LAST_SAFE_REASON) ++ leBytes 1 (m.get 0 FLUE_LAST_SAFE_HOLDS) ++
        leBytes 2 (m.get 0 FLUE_LAST_SAFE_SOURCE) ++ leBytes 8 (m.rd64 FLUE_LAST_SAFE_TS_LO))
    else q
  let q := e.seqr.late.foldl (fun q i => q.event 0x0402 noId noId (leBytes 2 i ++ leBytes 1 2 ++ leBytes 1 0xFF ++ leBytes 2 (e.src i).count)) q
  if m.get 0 BBR_RESET_STUCK_NEW = 1 then
    q.event 0x0704 noId noId (leBytes 2 (m.get 0 BBR_RESET_STUCK_COUNT) ++ leBytes 2 0 ++ leBytes 8 (m.rd64 BBR_RESET_STUCK_S_LO))
  else q

/-- KINDLING_LEAD (R407, R449 step 10): the first plane to finish leads; CTRL ROLE with cause KINDLING, CTRL MODE DONE, SERVICE, SAFE_N
rises. -/
def execKindlingLead (p : PlaneId) (s : State) : Host.Outcome State Fault Refusal :=
  let f := s.f
  if f.e.mode = .kindling ∧ f.e.kindles p 9 = true ∧ f.e.leader = none then
    let early := (f.plane p.other).st.sends
    let f := if early then f.onE (fun e => { e with sel := { e.sel with next := [], hold := [] } }) else f
    let f := f.onPlane p (fun q =>
      let q := kindleEvents { q with st := { q.st with sends := true } } f.e
      let q := f.e.seqr.repairs.foldl (fun q r => q.recordRepair r.1 r.2) q
      f.e.seqr.ended.foldl (fun q t => q.recordEnd t 4) q)
    let f := if f.e.doneStep p.other = 9 ∧ f.e.failed p.other = false then toCopy f p.other
      else f.onPlane p.other (fun q => { q with st := { q.st with sends := false, up := [] } })
    let src := f.e.seqr.latched.elim 0 (·.1)
    let f := [.A, .B].foldl (fun f x => f.onPlane x (fun q =>
      if q.st.takes then q.onRegs (·.addCnt NS_WAKE_EXTRA (unsaid f.e)) else q)) f
    let f := f.onE (fun e =>
      let e := ({ e with mode := .service } : Eaves).setRole p .leading
      let e := e.onRegs (·.set 0 BBR_RESET_STUCK_NEW 0)
      let e := (e.ctrlRoleNow 6 0xFFFF).ctrlMode 2 0 1 e.pstate.code 6 src 0xFFFF
      e.onSeq (fun q => { q with kin := 10, safeN := true, latched := none, others := 0, said := 0, afterSafe := false, repairs := [], ended := [], late := [] }))
    s.ok f.refreshMode
  else s.ok f

/-- KINDLING_TIMEOUT (R450): 400 ms without a leading plane, from step 1, or from step 3 for a KINDLING that starts there. -/
def execKindlingTimeout (dt : Nat) (s : State) : Host.Outcome State Fault Refusal :=
  let e := s.f.e.at dt
  let f : Field := { s.f with e := e }
  if e.mode = .kindling ∧ ((e.seqr.kin = 1 ∧ e.seqr.cold = true) ∨ e.seqr.kin = 3) ∧ e.seqr.kinAt + 400000000 < e.counter then s.ok (f.enterSafe 2 0x7FF)
  else s.ok f

end Sys2Proof.Machine
end

