-- ==== Sys2Proof/Machine/Planes.lean ====
section
/-!
DEFINITION. Planes and Flue: declarations (R415), rejoin (R419-R423), the Purlin (R418), digests (R414), fault sources (R427-R433), ALIVE
(R434, R435), SAFE entry (R437).
-/

namespace Sys2Proof.Machine

/-- PLANE_FAULT_DECLARE (R415, R428): one of a plane's own sources (offset in the list of R429) goes to fault. -/
def execPlaneFaultDeclare (p : PlaneId) (o : Fin 64) (s : State) : Host.Outcome State Fault Refusal :=
  s.ok (s.f.raisePlane p o.val)

/-- A rejoin attempt may run in the mode (R419). -/
def rejoinMode (e : Eaves) : Bool := e.serving || e.mode = .banked

/-- REJOIN_ATTEMPT (R419, R423): 0.1 ms after the plane went OFFLINE, 1 s after a failed attempt; not while it is held, nor where its
firmware failed at KINDLING. The plane restarts. -/
def execRejoinAttempt (p : PlaneId) (dt : Nat) (s : State) : Host.Outcome State Fault Refusal :=
  let e := s.f.e.at dt
  let r := e.rj p
  let wait := if r.fails.head? = some r.offAt then 10 ^ 9 else 100000
  if e.role p = .offline ∧ e.role p.other = .leading ∧ rejoinMode e = true ∧ e.stageOf p ≠ 6 ∧ r.noTry = false ∧
    r.offAt + wait ≤ e.counter then
    let f := ({ s.f with e := e.setRole p .rejoining }).restartPlane p
    s.ok (f.onE (fun e =>
      let e := e.setStage p 1
      let e := e.onRj p (fun r => { r with attemptAt := e.counter, level := false })
      e.ctrlRoleNow 3 0xFFFF))
  else s.ok { s.f with e := e }

/-- An attempt fails, and with it the turn for which the plane reloads (R89). -/
def attemptFails (f : Field) (p : PlaneId) (st : Nat) : Field :=
  (if f.turn.newPlane = some p ∧ 1 ≤ f.phase ∧ f.phase ≤ 3 then f.endTurn 4 0 else f).failAttempt p st

/-- REJOIN_STAGE_DONE (R419, R409): RESET, SELFTEST and LOAD end, or the attempt fails; a passed self-test clears the plane's own
sources. LOAD verifies and loads the ACTIVE truss and ends with both Ridge pairs trained, without which the attempt fails (R277); the new-truss plane of a
turn loads with TURN_RELOAD_DONE instead. -/
def execRejoinStageDone (p : PlaneId) (good : Bool) (s : State) : Host.Outcome State Fault Refusal :=
  let f := s.f
  let st := f.e.stageOf p
  if f.e.role p ≠ .rejoining ∨ ¬ (st = 1 ∨ st = 2 ∨ st = 3) then s.ok f
  else if !good then s.ok (attemptFails f p st)
  else if st = 1 then s.ok (f.onE (·.setStage p 2))
  else if st = 2 then
    s.ok (f.onE (fun e => ((List.range 64).foldl (fun e o => if fluePlaneClass o = some 1 then e.clearLive (planeSrc p o) else e) e).setStage
      p 3))
  else if f.turn.newPlane = some p ∧ f.phase ≤ 3 then s.ok f
  else
    let (f, ran) := f.loadActive p (match p with | .A => s.otpA | .B => s.otpB)
    if ran && f.h.pairUp .HA p && f.h.pairUp .HB p then s.ok (f.onE (·.setStage p 4)) else s.ok (f.failAttempt p 3)

/-- The maxima of R419 in ns: of a stage, COPY and CATCHUP together. -/
def stageMax (st : Nat) : Nat :=
  if st = 1 then 10000000 else if st = 2 then 25000000 else if st = 3 then 140000000 else 225000000

/-- REJOIN_TIMEOUT (R419): a stage or the total exceeds its maximum. -/
def execRejoinTimeout (p : PlaneId) (dt : Nat) (s : State) : Host.Outcome State Fault Refusal :=
  let e := s.f.e.at dt
  let f : Field := { s.f with e := e }
  let st := e.stageOf p
  let r := e.rj p
  let turning := decide (f.turn.newPlane = some p ∧ 1 ≤ f.phase ∧ f.phase ≤ 3)
  if e.role p = .rejoining ∧ 1 ≤ st ∧ st ≤ 5 ∧
    ((r.stageAt + stageMax st < e.counter ∧ (turning = false ∨ st ≠ 3)) ∨ (turning = false ∧ r.attemptAt + 400000000 < e.counter)) then
    s.ok (attemptFails f p st)
  else s.ok f

/-- Whether the Purlin is up as a plane sees it. -/
def purlinUp (q : Plane) : Bool := q.regs.get 0 (PURLIN_STAT_UP q.st.me.num) = 1

/-- The number of a TICK shingle (R28): its payload. -/
def tickOf (sh : Shingle) : Nat := bytesAt sh.body 0 8

/-- COPY_REQUEST (R420): J is the first TICK that the leading plane has not begun to process; Eaves delivers the stream from J on, from
what it has kept where J has been emitted. Without the Purlin, or with J out of the buffer, the attempt fails at COPY. -/
def execCopyRequest (p : PlaneId) (s : State) : Host.Outcome State Fault Refusal :=
  let f := s.f
  let carry := decide (f.turn.newPlane = some p ∧ f.phase = 3)
  if f.e.role p ≠ .rejoining ∨ ¬ (f.e.stageOf p = 4 ∨ carry = true) ∨ f.e.leader ≠ some p.other then s.ok f
  else if !purlinUp (f.plane p) then s.ok (attemptFails f p 4)
  else
    let j := (f.plane p.other).st.tick + 1
    let kept := f.e.merger.recent.map (·.2)
    let start := kept.dropWhile (fun sh => ¬ (sh.utype = .tick ∧ tickOf sh = j))
    if j ≤ f.e.merger.lastTick ∧ start = [] then s.ok (attemptFails f p 4)
    else
      let f := { f with copy := some ⟨p, j, none⟩ }
      s.ok (f.onPlane p (fun q => { q with st := { q.st with fill := true, inbox := start } }))

/-- REJOIN_LEVEL (R422): the backlog has fallen below 10 µs of stream; the JOIN follows the second TICK. -/
def execRejoinLevel (p : PlaneId) (s : State) : Host.Outcome State Fault Refusal :=
  let q := (s.f.plane p).st
  let span := (q.inbox.getLast?.elim 0 (·.ts)) - (q.inbox.head?.elim 0 (·.ts))
  if s.f.e.role p = .rejoining ∧ s.f.e.stageOf p = 5 ∧ span < 10000 ∧ (s.f.e.rj p).level = false ∧ s.f.turn.newPlane ≠ some p then
    s.ok (s.f.onE (fun e => (e.onRj p (fun r => { r with level := true })).schedule 2 (.join p)))
  else s.ok s.f

/-- A write of REJOIN to PLANE_CTL (R423, R407): releases a held plane. -/
def releaseHeld (f : Field) (tenant : Nat) (p : PlaneId) : Field :=
  if !f.lead.hasSession tenant then guardMiss f
  else if f.e.stageOf p = 6 ∧ (f.e.rj p).noTry = false then
    f.onE (fun e => (e.onRj p (fun r => { r with fails := [] })).setStage p 0)
  else f

/-- PLANE_REJOIN_RELEASE (R423). -/
def execPlaneRejoinRelease (tenant : Fin 4096) (p : PlaneId) (s : State) : Host.Outcome State Fault Refusal :=
  s.ok (releaseHeld s.f tenant.val p)

/-- A plane's view of the Purlin's lanes. -/
def showPurlin (q : Plane) (lanes : Nat) : Plane :=
  let k := q.st.me.num
  q.onRegs (fun m => (m.set 0 (PURLIN_STAT_LANES k) lanes).set 0 (PURLIN_STAT_UP k) (if lanes = 15 then 1 else 0))

/-- A copy under way fails at COPY when the Purlin is lost, and so does what of the stream a plane still catches up with, since the host bodies come
over it (R418, R420). -/
def copyLost (f : Field) (p : PlaneId) : Field :=
  if f.e.role p = .rejoining ∧ (f.e.stageOf p = 4 ∨ f.e.stageOf p = 5 ∨ f.copy.elim false (·.plane = p) = true) then attemptFails f p 4 else f

/-- PURLIN_LOSS (R418): the SHADOW plane's PURLIN source; the leading plane carries on alone. -/
def execPurlinLoss (lane : Fin 4) (s : State) : Host.Outcome State Fault Refusal :=
  let f := s.f.onBoth (fun q =>
    let l := q.regs.get 0 (PURLIN_STAT_LANES q.st.me.num)
    showPurlin q (if bit l lane.val then l - 2 ^ lane.val else l))
  match f.e.shadow with
  | some p => s.ok (f.raisePlane p 14)
  | none => s.ok (copyLost (copyLost f .A) .B)

/-- PURLIN_LOCK (R418): block lock on all lanes; PURLIN faults end. -/
def execPurlinLock (s : State) : Host.Outcome State Fault Refusal :=
  s.ok ((s.f.onBoth (showPurlin · 15)).onE (fun e => (e.clearLive (planeSrc .A 14)).clearLive (planeSrc .B 14)))

/-! Digests. -/

/-- DIGEST_MISMATCH (R414): the two digests of one output sequence differ. -/
def execDigestMismatch (port : Fin 512) (oseq dLead dShadow : Nat) (s : State) : Host.Outcome State Fault Refusal :=
  if s.f.compares = true ∧ dLead ≠ dShadow then
    s.ok (s.f.onE (startWindow · port.val oseq dLead dShadow))
  else s.ok s.f

/-- ATTRIBUTION_WINDOW_EXPIRE (R414): a silent discrepancy is counted, reported, and blamed on the shadow plane. -/
def execAttributionWindowExpire (dt : Nat) (s : State) : Host.Outcome State Fault Refusal :=
  let e := s.f.e.at dt
  let f : Field := { s.f with e := e }
  match e.sel.window with
  | none => s.ok f
  | some (port, oseq, a, b) =>
    if e.counter < e.sel.windowAt + 5000 then s.ok f
    else
      let e := { e with sel := { e.sel with window := none } }
      let e := e.onRegs (fun m => ((m.inc PLANE_DISCREP_CNT).set 0 PLANE_LAST_DISCREP_PORT port).wr PLANE_LAST_DISCREP_OSEQ
        (BitVec.ofNat 32 oseq))
      let e := e.ctrl 256 (ctrlNotice 2 port oseq a b)
      match e.shadow with
      | some p => s.ok (({ f with e := e }).raisePlane p 9)
      | none => s.ok { f with e := e }

/-! Fault sources. -/

/-- FAULT_SOURCE_OCCURRENCE (R428, R430); `stays` says that the rails stay in fault. -/
def execFaultSourceOccurrence (i : Fin 2048) (stays : Bool) (s : State) : Host.Outcome State Fault Refusal :=
  s.ok (s.f.raise i.val false stays)

/-- RAIL_FAULT (R427). -/
def execRailFault (i : Fin 2048) (s : State) : Host.Outcome State Fault Refusal := s.ok (s.f.raise i.val true true)

/-- FAULT_SOURCE_CLEAR (R430): LIVE clears, and with it the TAMPER hold (R341, R439). The tamper source's rails stay in fault while an
enabled input is active or the mesh fails. -/
def execFaultSourceClear (i : Fin 2048) (s : State) : Host.Outcome State Fault Refusal :=
  if i.val = 13 then s.ok (if (List.range 5).any (tamperActive s.f.e) then s.f else s.f.onE (fun e => (e.clearLive 13).clearHold 1))
  else s.ok (s.f.onE (·.clearLive i.val))

/-- A bus error counted with its address (R59, R196): CAUSE RESERVED is 1. -/
def countBusErr (f : Field) (cause addr : Nat) : Field :=
  f.onE (·.onRegs (fun m => ((m.inc DEVICE_BUSERR_CNT).set 0 DEVICE_BUSERR_ADDR_CAUSE cause).set 0 DEVICE_BUSERR_ADDR_ADDR addr))

/-- A write of FLUE_FORCE with one action bit (R431). -/
def forceFault (f : Field) (tenant i : Nat) (rail : Bool) : Field :=
  if !f.lead.hasSession tenant then guardMiss f
  else if (flueClass i).isNone then countBusErr f 1 FLUE_FORCE
  else f.raise i rail false

/-- FLUE_FORCE_PULSE (R431). -/
def execFlueForcePulse (tenant : Fin 4096) (i : Fin 2048) (s : State) : Host.Outcome State Fault Refusal :=
  s.ok (forceFault s.f tenant.val i.val false)

/-- FLUE_FORCE_RAIL (R431). -/
def execFlueForceRail (tenant : Fin 4096) (i : Fin 2048) (s : State) : Host.Outcome State Fault Refusal :=
  s.ok (forceFault s.f tenant.val i.val true)

/-- FLUE_SELF (R433): SAFE whatever the state of the planes. -/
def execFlueSelf (s : State) : Host.Outcome State Fault Refusal := s.ok (s.f.raise 0 false true)

/-- A write of 1 to a CAUSE bit (R430): CAUSE, FIRST and LAST clear. -/
def clearCause (e : Eaves) (i : Nat) : Eaves := e.onSrc i (fun x => { x with cause := false, first := 0, last := 0 })

/-- FLUE_CAUSE_CLEAR (R430). -/
def execFlueCauseClear (i : Fin 2048) (s : State) : Host.Outcome State Fault Refusal := s.ok (s.f.onE (clearCause · i.val))

/-- VOTE_DISAGREEMENT (R13, R55): voting (0), ECC (1) or parity (2), masked as INFO or not. -/
def execVoteDisagreement (kind : Fin 3) (masked : Bool) (s : State) : Host.Outcome State Fault Refusal :=
  s.ok (s.f.raise (1 + 2 * kind.val + (if masked then 0 else 1)) false (!masked))

/-- EAVES_SUPPLY_LOSS (R14). -/
def execEavesSupplyLoss (n : Fin 2) (s : State) : Host.Outcome State Fault Refusal := s.ok (s.f.raise (7 + n.val) false true)

/-- REFCLK_LOSS (R21): the plane's fault, or the DEVICE-class fault of both. -/
def execRefclkLoss (p : PlaneId) (s : State) : Host.Outcome State Fault Refusal :=
  let f := s.f.onE (fun e => { e with seqr := match p with
    | .A => { e.seqr with refA := false }
    | .B => { e.seqr with refB := false } })
  if f.e.seqr.refA || f.e.seqr.refB then s.ok (f.raisePlane p 16) else s.ok (f.raise 9 false true)

/-- REFCLK_RETURN (R21). -/
def execRefclkReturn (p : PlaneId) (s : State) : Host.Outcome State Fault Refusal :=
  s.ok (s.f.onE (fun e =>
    let e := { e with seqr := match p with
      | .A => { e.seqr with refA := true }
      | .B => { e.seqr with refB := true } }
    (e.clearLive 9).clearLive (planeSrc p 16)))

/-! ALIVE. -/

/-- Whether ALIVE runs (R434): mode, and the leading plane's tick mark within the last 100 µs. -/
def aliveRuns (f : Field) : Bool :=
  (f.e.serving || f.e.mode = .banked) && f.e.leader.isSome &&
    decide (f.e.seqr.kind ≠ .ember ∧ f.e.seqr.kind ≠ .off ∧ f.e.counter ≤ f.e.merger.lastTickAt + 100000 ∧ f.e.merger.lastTick ≤ f.lead.st.tick + 10)

/-- ALIVE_TOGGLE (R434): both outputs toggle 500 µs after they last did. -/
def execAliveToggle (dt : Nat) (s : State) : Host.Outcome State Fault Refusal :=
  let f : Field := { s.f with e := s.f.e.at dt }
  s.ok (f.onE (fun e =>
    if aliveRuns f = false then e.onRegs (·.set 0 FLUE_ALIVE_RUNNING 0)
    else if e.seqr.aliveAt + 500000 ≤ e.counter then
      (e.onRegs (fun m =>
        let p := m.get 0 FLUE_ALIVE_P
        ((m.set 0 FLUE_ALIVE_RUNNING 1).set 0 FLUE_ALIVE_P (1 - p)).set 0 FLUE_ALIVE_Q p)).onSeq (fun q => { q with aliveAt := e.counter })
    else e))

/-- ALIVE_H_TOGGLE (R435): 500 µs after the last toggle, while a plane's most recent HEARTBEAT to the host die has STATE RUN and came within the last 300 µs. -/
def execAliveHToggle (dt : Nat) (s : State) : Host.Outcome State Fault Refusal :=
  let f : Field := { s.f with e := s.f.e.at dt }
  let latest : PlaneId → HbSeen := fun p =>
    let a := f.h.hbOf .HA p
    let b := f.h.hbOf .HB p
    if b.since ≤ a.since then a else b
  let run := fun (p : PlaneId) => decide ((latest p).state = 1 ∧ f.e.counter ≤ (latest p).since + 300000)
  s.ok (if (run .A || run .B) && decide (f.h.aliveHAt + 500000 ≤ f.e.counter) then f.onH (fun d => { d with aliveH := !d.aliveH, aliveHAt := f.e.counter }) else f)

/-! SAFE. -/

/-- A plane's part of SAFE entry (R437 steps 3-5, R306): a SEAL, a commit that is not CLEAN, the SAFE notice, and it stops. -/
def planeSafe (q : Plane) : Plane :=
  let q := q.seal
  let q := if q.runsJournal then (q.commitAll false false (q.rick.recs.length + 1)).showHead else q
  let q := q.event 0x0101 noId noId []
  { q with st := { q.st with takes := false, fill := false, up := [], accs := [] }, host := { q.host with asks := [], receipts := [] } }

/-- SAFE_ENTRY (R437): once the planes that have not declared a fault have taken the stream to S_END, they seal, commit and stop, and
ALIVE stops. -/
def execSafeEntry (s : State) : Host.Outcome State Fault Refusal :=
  let f := s.f
  let done := fun (q : Plane) => !q.st.takes || q.st.inbox = []
  if f.e.mode = .safe ∧ f.e.seqr.safeDone = false ∧ done f.a = true ∧ done f.b = true then
    let f := f.onTaking planeSafe
    s.ok (f.onE (fun e =>
      { e with
        regs := e.regs.set 0 FLUE_ALIVE_RUNNING 0
        seqr := { e.seqr with safeDone := true } }))
  else s.ok f

end Sys2Proof.Machine
end

