-- ==== Sys2Proof/Machine/Rick.lean ====
section
/-!
DEFINITION. Rick's events: drives (R349-R352), SEALs and snapshots (R358, R360), chunks and incidents (R361-R365), LEGAL retention
(R366), commits (R370, R374), holes and scrub (R376, R378), requests and exports (R379-R381).
-/

namespace Sys2Proof.Machine

/-! Drives. -/

/-- Rick's RECORD sources follow its condition bits (R360, R429). -/
def syncRick (f : Field) (p : PlaneId) : Field :=
  (List.range 5).foldl (fun f k =>
    if bit (f.plane p).rick.conds (31 - k) then f.raise (planeSrc p (32 + k)) false true
    else f.onE (·.clearLive (planeSrc p (32 + k)))) f

/-- A drive of a plane changed, with what the set holds durably shown again. -/
def onDriveF (f : Field) (p : PlaneId) (d : Nat) (g : Drive → Drive) : Field :=
  f.onPlane p (fun q => (q.onDrive d g).showDurable)

/-- What a plane's set loses with a drive becomes holes, and chunks on it are no longer written (R350, R376). -/
def loseDrive (q : Plane) (d : Nat) : Plane :=
  let hs := q.rick.lostWith d (q.regs.rd64 RICK_LEGAL_FREED_LO)
  q.onRick (fun r => { (r.addHoles hs) with
    chunks := r.chunks.map (fun c => if hs.any (fun h => h.tier = 3 && h.pos = c.cseq) then { c with written := false } else c) })

/-- A drive becomes FAILED (R351), which its plane's source DRIVEd records; its contents are treated as lost. -/
def driveFails (f : Field) (p : PlaneId) (d : Nat) : Field :=
  let st := ((f.plane p).drive d).state
  if st = 3 ∨ st = 4 then
    let f := if st = 4 then f.onPlane p (loseDrive · d) else f
    (onDriveF f p d (fun x => { x with state := 5, legalDone := 0, mirrored := 0, errors := x.errors + 1 })).raise
      (planeSrc p (37 + d)) false true
  else f

/-- DRIVE_LINK_UP (R350): with the SerDes rails of PGOOD3 (R519). -/
def execDriveLinkUp (p : PlaneId) (d : Fin 4) (s : State) : Host.Outcome State Fault Refusal :=
  s.ok (onDriveF s.f p d.val (fun x => if x.state = 0 ∧ bit (s.f.e.regs.get 0 PWR_STAT_PGOOD) 3 = true then { x with state := 1 } else x))

/-- DRIVE_ATTACH_DONE (R350): Identify gives the namespace's `extents`, and `sb0`, `sb1` are read at LBA 0 and LBA 128. A drive of this set goes
ONLINE with the current EPOCH and MIRRORING with an older one; any other is FOREIGN. -/
def execDriveAttachDone (p : PlaneId) (d : Fin 4) (sb0 sb1 : List Byte) (extents : Nat) (s : State) :
    Host.Outcome State Fault Refusal :=
  let geom := (s.f.plane p).rick.geom
  let sup := superOf p.num d.val [sb0, sb1]
  s.ok (onDriveF s.f p d.val (fun x =>
    if x.state ≠ 1 then x
    else
      let x := { x with extents := extents, super := sup }
      match sup, geom with
      | .ofSet e, some g =>
        if e = g.epoch then { x with state := 4 }
        else if e < g.epoch then { x with state := 3, mirrored := 0, legalDone := 0 }
        else { x with state := 2, mirrored := 0, legalDone := 0 }
      | _, _ => { x with state := 2, mirrored := 0, legalDone := 0 }))

/-- A drive command completes (R349): one of an older generation is RESTARTED and issued again; a LEGAL write leaves the drive with
LEGAL bytes up to `upTo`, as far as the region reaches in front of its oldest extent (R367). Drive writes that a WARN stopped complete too
(R374). -/
def execDriveCommandDone (p : PlaneId) (d : Fin 4) (gen upTo : Nat) (s : State) : Host.Outcome State Fault Refusal :=
  let x := (s.f.plane p).drive d.val
  if gen ≠ x.gen ∨ ¬ (x.state = 3 ∨ x.state = 4) then s.ok s.f
  else
    let most := (s.f.plane p).legalMost
    s.ok (syncRick (onDriveF s.f p d.val (fun x => { x with legalDone := max x.legalDone (min upTo most) })) p)

/-- DRIVE_TIMEOUT (R351): the first resets the controller and retries, a second within one hour fails the drive. -/
def execDriveTimeout (p : PlaneId) (d : Fin 4) (s : State) : Host.Outcome State Fault Refusal :=
  let now := s.f.e.counter
  match ((s.f.plane p).drive d.val).timeoutAt with
  | some t =>
    if now ≤ t + 3600 * 10 ^ 9 then s.ok (driveFails s.f p d.val)
    else s.ok (onDriveF s.f p d.val (fun x => { x with timeoutAt := some now, gen := x.gen + 1, errors := x.errors + 1 }))
  | none => s.ok (onDriveF s.f p d.val (fun x => { x with timeoutAt := some now, gen := x.gen + 1, errors := x.errors + 1 }))

/-- DRIVE_WRITE_ERROR (R351). -/
def execDriveWriteError (p : PlaneId) (d : Fin 4) (s : State) : Host.Outcome State Fault Refusal := s.ok (driveFails s.f p d.val)

/-- DRIVE_CRITICAL_WARNING (R349, R351): the drive's health log read. A warning bit other than the spare threshold (bit 0) fails the drive. -/
def execDriveCriticalWarning (p : PlaneId) (d : Fin 4) (log : HealthLog) (s : State) : Host.Outcome State Fault Refusal :=
  let f := s.f.onPlane p (·.onDrive d.val (fun x => if x.state = 0 then x else { x with used := log.used.val, temp := log.temp.val }))
  s.ok (if log.warn.val / 2 = 0 then f else driveFails f p d.val)

/-- DRIVE_LINK_LOSS (R350): from FAILED (after 1 s) or RETIRED to ABSENT. -/
def execDriveLinkLoss (p : PlaneId) (d : Fin 4) (s : State) : Host.Outcome State Fault Refusal :=
  let st := ((s.f.plane p).drive d.val).state
  if st = 5 ∨ st = 6 then
    s.ok ((onDriveF s.f p d.val (fun x => { x with state := 0, gen := x.gen + 1, timeoutAt := none })).onE (·.clearLive
      (planeSrc p (37 + d.val))))
  else s.ok s.f

/-- A hole known to both sets is final in both (R376), which each plane's source HOLE records. -/
def holeFinal (f : Field) (h : Hole) : Field :=
  let f := f.onBoth (·.onRick (fun r => { r with
    holes := r.holes.map (fun x => if x.tier = h.tier ∧ x.pos = h.pos then { x with final := true } else x) }))
  (f.raise (planeSrc .A 41) false true).raise (planeSrc .B 41) false true

/-- Whether a plane's set has a hole. -/
def hasHole (q : Plane) (h : Hole) : Bool := q.rick.holes.any (fun x => x.tier = h.tier && x.pos = h.pos)

/-- A hole of plane `p`'s set: filled from the other set over the Purlin, or final where that has it too (R376). -/
def fillHole (f : Field) (p : PlaneId) (h : Hole) : Field :=
  if hasHole (f.plane p.other) h then holeFinal f h
  else f.onPlane p (·.onRick (fun r => { r with
    holes := r.holes.erase h
    chunks := r.chunks.map (fun c => if h.tier = 3 ∧ c.cseq = h.pos then { c with written := true } else c) }))

/-- MIRROR_COMPLETE (R350, R376): the drive has the whole of its mirror's used extents. Re-mirroring needs the other plane in a running role. -/
def execMirrorComplete (p : PlaneId) (d : Fin 4) (s : State) : Host.Outcome State Fault Refusal :=
  if ((s.f.plane p).drive d.val).state = 3 ∧ (s.f.e.role p.other).running = true then
    let q := s.f.plane p
    let used := q.rick.geom.elim 0 (·.usedExt)
    let mine := q.rick.holes.filter (fun h => !h.final && (h.tier = 1 || q.rick.geom.elim false (fun g => g.holeDrive h = some d.val)))
    let f := mine.foldl (fun f h => fillHole f p h) s.f
    s.ok (syncRick (onDriveF f p d.val (fun x => { x with
      state := 4, mirrored := used, legalDone := q.regs.rd64 RICK_LEGAL_END_LO })) p)
  else s.ok s.f

/-! Requests. -/

/-- Every drive of the set that holds a share carries the new EPOCH in its superblock (R352). -/
def newEpoch (q : Plane) : Plane :=
  match q.rick.geom with
  | none => q
  | some g =>
    let q := q.onRick (fun r => { r with geom := some { g with epoch := g.epoch + 1 } })
    (List.range 4).foldl (fun q d => q.onDrive d (fun x =>
      if x.state = 3 ∨ x.state = 4 then { x with super := .ofSet (g.epoch + 1) } else x)) q

/-- ADOPT or RETIRE of a drive, as an acting plane does it: what `g` does where the request is OK, `h` to the drive in its own plane, which
loses what a drive that goes held, and the answer. -/
def driveRequest (f : Field) (ep tenant tag op : Nat) (p : PlaneId) (d status : Nat) (g : Plane → Plane) (h : Plane → Drive → Drive) : Field :=
  f.onAdmitted ep tenant clsJournal tag (saysJournal [(0, 1, op), (3, 1, 16 * p.num + d)]) (fun q =>
    let q := if status = 0 then g q else q
    let q := if status = 0 ∧ q.st.me = p then ((if op = 9 then loseDrive q d else q).onDrive d (h q)).showDurable else q
    journalRsp q ep tenant tag status op 0 0 [])

/-- ADOPT (R352): under a session, on a FOREIGN or FAILED drive with room for USED_EXT extents. -/
def execAdopt (ep : Fin 8) (tenant : Fin 4096) (tag : Nat) (p : PlaneId) (d : Fin 4) (s : State) : Host.Outcome State Fault Refusal :=
  let x := (s.f.plane p).drive d.val
  let g := s.f.lead.rick.geom
  let used := g.elim 0 (·.usedExt)
  let status :=
    if !s.f.lead.hasSession tenant.val then 3
    else if g.elim 0 (·.drives) ≤ d.val then 2
    else if (x.state = 2 ∨ x.state = 5) ∧ used ≤ x.extents then 0 else 1
  let f := driveRequest s.f ep.val tenant.val tag 8 p d.val status newEpoch
    (fun q x => { x with state := 3, super := .ofSet (q.rick.geom.elim 0 (·.epoch)), mirrored := 0, legalDone := 0 })
  s.ok (if ((f.plane p).drive d.val).state = 3 ∧ x.state ≠ 3 then f.onE (·.clearLive (planeSrc p (37 + d.val))) else f)

/-- RETIRE (R352): an ONLINE drive takes no more writes, is flushed and becomes RETIRED. -/
def execRetire (ep : Fin 8) (tenant : Fin 4096) (tag : Nat) (p : PlaneId) (d : Fin 4) (s : State) : Host.Outcome State Fault Refusal :=
  let status :=
    if !s.f.lead.hasSession tenant.val then 3
    else if s.f.lead.rick.geom.elim 0 (·.drives) ≤ d.val then 2
    else if ((s.f.plane p).drive d.val).state = 4 then 0 else 1
  s.ok (driveRequest s.f ep.val tenant.val tag 9 p d.val status id (fun _ x => { x with state := 6 }))

/-! SEAL, snapshot. -/

/-- SEAL_DUE (R358): SEAL_N records unsealed, or SEAL_S since the first unsealed one. -/
def execSealDue (s : State) : Host.Outcome State Fault Refusal :=
  s.ok (s.f.onTaking (fun q =>
    let old := match q.rick.unsealedTick with
      | some t => decide (t + q.rk 4 2 * 100000 ≤ q.st.tick)
      | none => false
    if decide (0 < q.rk 2 2 ∧ q.rk 2 2 ≤ q.unsealed) || old then q.seal else q))

/-- The addresses that a snapshot reads (R360): the 32 status words, then the MOTION counters. -/
def snapAddr (i : Nat) : Nat :=
  if i < 32 then PLANE_JSTAT (i / 16) (i % 16) else if i = 32 then TIME_MOTION0 else TIME_MOTION1

/-- JOURNAL_SNAPSHOT (R360): at a TICK whose number is a multiple of 100,000 both planes read all words under R33. -/
def execJournalSnapshot (s : State) : Host.Outcome State Fault Refusal :=
  s.ok (s.f.onTaking (fun q =>
    if q.regs.get 0 RICK_STAT_STATE ≠ 0 ∧ q.st.tick % 100000 = 0 then
      (List.range 34).foldl (fun q i => q.access firmware (snapAddr i) none) (q.onRick (fun r => { r with snapBuf := [] }))
    else q))

/-- A word of the snapshot in progress. -/
def snapGot (q : Plane) (i : Nat) : Nat := (sget (fun _ => (0 : Word)) q.rick.snapBuf (snapAddr i)).toNat

/-- The previous snapshot's word. -/
def snapOld (q : Plane) (i : Nat) : Nat := (q.regs.rd (RICK_SNAP (i / 16) (i % 16))).toNat

/-- DRIVE records and events for each changed drive state (R360). -/
def snapDrives (q : Plane) : Plane :=
  (List.range 8).foldl (fun q k =>
    let pl := k / 4
    let d := k % 4
    let i := 16 * pl + 4 + 2 * d
    let o := bits (snapOld q i) 31 28
    let n := bits (snapGot q i) 31 28
    if o = n then q
    else
      let data := leBytes 1 pl ++ leBytes 1 d ++ leBytes 1 o ++ leBytes 1 n
      let q := q.legalEvent 0x000A (data ++ leBytes 4 (q.rick.geom.elim 0 (·.epoch)))
      let q := q.event 0x0501 noId noId data
      if o = 3 ∧ n = 4 then q.event 0x0502 noId noId (leBytes 1 pl ++ leBytes 1 d) else q) q

/-- INTEGRITY records for newly set condition bits, and HEAD_NEAR_FULL (R360, R372). -/
def snapConds (q : Plane) : Plane :=
  (List.range 2).foldl (fun q pl =>
    let o := snapOld q (16 * pl)
    let n := snapGot q (16 * pl)
    let q := (List.range 5).foldl (fun q k =>
      if bit n (31 - k) = true ∧ bit o (31 - k) = false then
        let rseq := q.regs.rd64 RICK_RSEQ_LO
        let src := 64 + 64 * pl + 32 + k
        let q := q.legalEvent 0x0009 (leBytes 2 src ++ leBytes 1 pl ++ leBytes 1 0xFF ++ leBytes 4 (snapGot q (16 * pl + 2)) ++
          leBytes 8 rseq)
        q.event 0x0507 noId noId (leBytes 2 src ++ leBytes 1 pl ++ leBytes 1 0xFF ++ leBytes 8 rseq)
      else q) q
    if bit n 31 = bit o 31 then q
    else q.event 0x0503 noId noId (leBytes 1 pl ++ leBytes 1 (if bit n 31 then 1 else 0))) q

/-- EVENT LEGAL_NEAR_FULL at a snapshot (R367): the region has come to 90 %, or to 100 %. -/
def snapFull (q : Plane) : Plane :=
  let region := q.rick.geom.elim 0 Geom.legalBytes
  let held := q.rick.legalNext - q.regs.rd64 RICK_LEGAL_FREED_LO
  let fill := if region = 0 ∨ 10 * held < 9 * region then 0 else if held < region then 900 else 1000
  let q' := q.onRick (fun r => { r with fullTold := fill })
  if q.rick.fullTold < fill then q'.event 0x0504 noId noId (leBytes 2 fill) else q'

/-- MOTION records (R360): each second in which a counter advanced, and the first after it. -/
def snapMotion (q : Plane) : Plane :=
  let m := (snapGot q 32, snapGot q 33)
  let moved := decide (m ≠ q.rick.motion)
  let q := if bit (q.rk 0 1) 0 && (moved || q.rick.motionMoved) then
      q.legalEvent 0x0002 (leBytes 4 m.1 ++ leBytes 4 m.2 ++ leBytes 8 q.st.tick)
    else q
  q.onRick (fun r => { r with motion := m, motionMoved := moved })

/-- The last word of a snapshot has come (R360): records, events, and the words as RICK_SNAP shows them. -/
def snapFinish (q : Plane) : Plane :=
  let q := snapMotion (snapFull (snapConds (snapDrives q)))
  (List.range 32).foldl (fun q i => q.onRegs (·.wr (RICK_SNAP (i / 16) (i % 16)) (BitVec.ofNat 32 (snapGot q i)))) q

/-- A firmware read of a snapshot word completes. -/
def snapWord (q : Plane) (addr : Nat) (v : Word) : Plane :=
  let q := q.onRick (fun r => { r with snapBuf := sput (fun _ => (0 : Word)) r.snapBuf addr v })
  if addr = TIME_MOTION1 then snapFinish q else q

/-! ROLLING and INCIDENT. -/

/-- CHUNK_CLOSE (R361): the open chunk is full (no tap record fits) or 50,000 ticks old. -/
def execChunkClose (s : State) : Host.Outcome State Fault Refusal :=
  s.ok (s.f.onTaking (fun q =>
    match q.rick.chunkOpen with
    | some c => if c.firstTick + 50000 ≤ q.st.tick ∨ 65504 < c.bytes.length + 40 then q.closeChunk else q
    | none => q))

/-- Whether the drive of a hole's place takes writes: one of the set's for LEGAL (R350, R355). -/
def canWrite (q : Plane) (h : Hole) : Bool :=
  let live := fun (d : Nat) => (q.drive d).state = 3 || (q.drive d).state = 4
  match q.rick.geom.bind (fun g => g.holeDrive h) with
  | some d => live d
  | none => (List.range 4).any live

/-- CHUNK_WRITTEN (R362): a plane wrote a closed chunk to its drive, or has a hole in its place; without that drive it has one. -/
def execChunkWritten (p : PlaneId) (cseq : Nat) (good : Bool) (s : State) : Host.Outcome State Fault Refusal :=
  s.ok (s.f.onPlane p (fun q =>
    let h : Hole := ⟨3, cseq, false⟩
    let done := good && canWrite q h
    q.onRick (fun r =>
      if r.chunks.any (·.cseq = cseq) then
        if done then { r with chunks := r.chunks.map (fun c => if c.cseq = cseq then { c with written := true } else c) }
        else r.addHoles [h]
      else r)))

/-- INCIDENT_TRIGGER (R363): a unit of JCLASS INCIDENT at its position (0), or a device event of TRIGGER_MASK: a change of the leading
plane (1), bus-off (2), a supply warning (3). -/
def execIncidentTrigger (what : Fin 4) (s : State) : Host.Outcome State Fault Refusal :=
  s.ok (s.f.onTaking (fun q => if what.val = 0 then q.trigger q.st.ts q.st.stream else q.triggerOn (what.val - 1)))

/-- INCIDENT_CLOSE (R364): the first chunk whose LAST_TS is at or after TO has closed. -/
def execIncidentClose (s : State) : Host.Outcome State Fault Refusal :=
  s.ok (s.f.onTaking (fun q =>
    match q.rick.incOpen with
    | some i => if q.rick.chunks.any (fun c => i.toTs ≤ c.lastTs) then q.closeIncident false else q
    | none => q))

/-- INCIDENT_COPY_DONE (R364). -/
def execIncidentCopyDone (p : PlaneId) (id : Nat) (s : State) : Host.Outcome State Fault Refusal :=
  s.ok (s.f.onPlane p (fun q => q.onRick (fun r =>
    { r with incs := r.incs.map (fun i => if i.id = id then { i with copied := true } else i) })))

/-! LEGAL retention and the head. -/

/-- LEGAL_EXPIRE (R366): the oldest extent is freed when all its records are older than the fused retention and sealed and the time
quality is LOCKED; a record in two extents goes with the later one. -/
def expireLegal (q : Plane) : Plane :=
  let freed := q.regs.rd64 RICK_LEGAL_FREED_LO
  let till := freed + 0x100000
  let inExt := q.rick.recs.filter (fun x => x.off < till)
  let gone := inExt.filter (fun x => x.off + x.bytes.length ≤ till)
  let now := q.utcOf q.st.ts
  let days := q.rick.geom.elim 0 (·.retention)
  let old := inExt.all (fun x => decide (x.utc + days * 86400 * 10 ^ 9 < now ∧ x.rseq < q.rick.firstUnsealed))
  if q.runsJournal && decide (q.servo.tq = 0 ∧ till ≤ q.regs.rd64 RICK_LEGAL_END_LO) && old then
    let q := q.onRick (fun r => { r with recs := r.recs.filter (fun x => ¬ gone.contains x), dirty := true })
    let q := q.onRegs (fun m => (m.wr64 RICK_LEGAL_FREED_LO till).inc RICK_EXPIRED)
    q.legalEvent 0x000B (leBytes 8 (gone.head?.elim 0 (·.rseq)) ++ leBytes 8 (gone.getLast?.elim 0 (·.rseq)))
  else q

/-- LEGAL_EXPIRE (R366). -/
def execLegalExpire (s : State) : Host.Outcome State Fault Refusal := s.ok (s.f.onTaking expireLegal)

/-- A commit point of a plane's head (R370, R374): in the first 50 ms of a WARN outside the credit, else with the credit, which rises by
one granule at each commit point up to 16. -/
def commitPoint (q : Plane) : Plane :=
  if q.runsJournal = false ∨ q.hasUncommitted = false then q
  else
    let warn := q.rick.warnTick.isSome
    if q.rick.warnTick.elim false (fun w => decide (q.st.tick < w + 5000)) then (q.commitAll false true (q.rick.recs.length + 1)).showHead
    else if q.st.tick % 100 ≠ 0 ∨ q.rick.lastCommit = q.st.tick then q
    else
      let credit := min 16 (q.regs.get 0 RICK_HEAD_CREDIT_GRANULES + 1)
      let (q, used) := q.commitWith credit false warn
      let q := q.onRegs (·.set 0 RICK_HEAD_CREDIT_GRANULES (credit - used))
      let q := if q.rick.committedRseq < q.regs.rd64 RICK_RSEQ_LO then q.onRegs (·.inc RICK_HEAD_LATE) else q
      q.showHead

/-- HEAD_COMMIT (R370). -/
def execHeadCommit (p : PlaneId) (s : State) : Host.Outcome State Fault Refusal :=
  s.ok (syncRick (s.f.onPlane p (fun q => (commitPoint q).showStall)) p)

/-! Repair. -/

/-- HOLE_REPAIR (R376): the first open hole of a plane's set that can be filled is filled from the other set, or is final where that has it
too. -/
def execHoleRepair (p : PlaneId) (s : State) : Host.Outcome State Fault Refusal :=
  let q := s.f.plane p
  match q.rick.holes.find? (fun h => !h.final && (canWrite q h || hasHole (s.f.plane p.other) h)) with
  | none => s.ok s.f
  | some h => s.ok (if (s.f.e.role p.other).running then fillHole s.f p h else s.f)

/-- LEGAL_SCRUB (R378): `bad` names the logical offsets of the records that failed and whether another replica of the set has them.
A repair counts and sets SCRUB; a record that fails on every replica makes its extent a hole. -/
def execLegalScrub (p : PlaneId) (bad : List (Nat × Bool)) (s : State) : Host.Outcome State Fault Refusal :=
  let fixed := (bad.filter (·.2)).length
  let lost := (bad.filter (fun b => !b.2)).map (fun b => (⟨1, b.1 / 0x100000, false⟩ : Hole))
  let f := s.f.onPlane p (fun q =>
    let q := q.onRegs (·.addCnt RICK_SCRUB_REPAIR fixed)
    q.onRick (fun r => { (if fixed = 0 then r else r.setCond 28 true) with holes := r.holes ++ lost.filter (fun h => ¬ r.holes.contains h) }))
  s.ok (syncRick f p)

/-! Export and requests. -/

/-- JOURNAL_STATUS (R379): the RICK registers 0x000-0x17F. -/
def execJournalStatus (ep : Fin 8) (tenant : Fin 4096) (tag : Nat) (s : State) : Host.Outcome State Fault Refusal :=
  s.ok (s.f.onAdmitted ep.val tenant.val clsJournal tag (saysJournal [(0, 1, 1)]) (fun q =>
    journalRsp q ep.val tenant.val tag 0 1 0 0 ((List.range 96).flatMap (fun i => leBytes 4 (q.regs.rd (RICK_STAT + 4 * i)).toNat))))

/-- The logical offset of the record, chunk or descriptor with a key, or of the first after it (R379). -/
def locate (r : Rick) (tier key v : Nat) : Option Nat :=
  if tier = 1 then
    (r.recs.find? (fun x => if key = 0 then v ≤ x.rseq else if key = 1 then v ≤ bytesAt x.bytes 16 8 else false)).map (·.off)
  else if tier = 2 then
    (r.incs.find? (fun i => if key = 2 then v ≤ i.id else if key = 1 then v ≤ i.toTs else false)).map (·.off)
  else if tier = 3 then (r.chunks.find? (fun c => key = 1 ∧ v ≤ c.lastTs)).map (fun c => 65536 * c.cseq)
  else none

/-- JOURNAL_LOCATE (R379): RANGE where nothing follows. -/
def execJournalLocate (ep : Fin 8) (tenant : Fin 4096) (tag : Nat) (tier : Fin 256) (key : Fin 256) (v : Nat) (s : State) :
    Host.Outcome State Fault Refusal :=
  s.ok (s.f.onAdmitted ep.val tenant.val clsJournal tag (saysJournal [(0, 1, 2), (1, 1, tier.val), (3, 1, key.val), (8, 8, v)]) (fun q =>
    match locate q.rick tier.val key.val v with
    | some off => journalRsp q ep.val tenant.val tag 0 2 0 off []
    | none => journalRsp q ep.val tenant.val tag 2 2 0 0 []))

/-- An open export. -/
def exportAt (q : Plane) (e : Nat) : Option Export := sget (fun _ => none) q.rick.exports e

/-- An export set, with its registers (R384). -/
def setExport (q : Plane) (e : Nat) (x : Option Export) : Plane :=
  let q := q.onRick (fun r => { r with exports := sput (fun _ => none) r.exports e x })
  q.onRegs (fun m =>
    let m := m.set 0 (RICK_EXP_STAT_OPEN e) (if x.isSome then 1 else 0)
    match x with
    | none => m
    | some x =>
      let m := (m.set 0 (RICK_EXP_STAT_PRIORITY e) (if x.prio then 1 else 0)).set 0 (RICK_EXP_STAT_TIER e) x.tier
      ((m.set 0 (RICK_EXP_STAT_TENANT e) x.tenant).set 0 (RICK_EXP_UNACKED_BYTES e) x.unacked).wr64 (RICK_EXP_NEXT_LO e) x.next)

/-- JOURNAL_OPEN (R379): the lowest free export, or BUSY; RANGE for a tier or bounds that do not exist, REFUSED without a journal. -/
def execJournalOpen (ep : Fin 8) (tenant : Fin 4096) (tag : Nat) (tier : Fin 256) (start stop : Nat) (s : State) :
    Host.Outcome State Fault Refusal :=
  s.ok (s.f.onAdmitted ep.val tenant.val clsJournal tag (saysJournal [(0, 1, 3), (1, 1, tier.val), (8, 8, start), (16, 8, stop)]) (fun q =>
    let rsp := fun (q : Plane) st v => journalRsp q ep.val tenant.val tag st 3 0 v []
    if q.runsJournal = false then rsp q 1 0
    else if tier.val = 0 ∨ 3 < tier.val ∨ (stop ≠ 0 ∧ stop < start) then rsp q 2 0
    else
      match findIdx (fun e => (exportAt q e).isNone) 4 with
      | none => rsp q 4 0
      | some e =>
        let x : Export := ⟨ep.val, tenant.val, tag, tier.val, start, stop, 0, q.hasSession tenant.val, q.st.tick⟩
        rsp (setExport q e (some x)) 0 e))

/-- An export ends with EVENT EXPORT_END (R381, R384). -/
def endExport (q : Plane) (e cause : Nat) : Plane :=
  (setExport q e none).event 0x0508 noId noId (leBytes 1 e ++ leBytes 1 cause)

/-- The exports of an endpoint end with its PORT_RESTART (R381). -/
def endExports (q : Plane) (ep : Nat) : Plane :=
  (List.range 4).foldl (fun q e => if (exportAt q e).elim false (fun x => x.ep = ep) then endExport q e 3 else q) q

/-- JOURNAL_CLOSE (R379). -/
def execJournalClose (ep : Fin 8) (tenant : Fin 4096) (tag : Nat) (e : Fin 4) (s : State) : Host.Outcome State Fault Refusal :=
  s.ok (s.f.onAdmitted ep.val tenant.val clsJournal tag (saysJournal [(0, 1, 4), (2, 1, e.val)]) (fun q =>
    if (exportAt q e.val).elim false (fun x => x.tenant = tenant.val) then
      journalRsp (endExport q e.val 2) ep.val tenant.val tag 0 4 e.val 0 []
    else journalRsp q ep.val tenant.val tag 1 4 e.val 0 []))

/-- JOURNAL_TRIGGER (R379, R363). -/
def execJournalTrigger (ep : Fin 8) (tenant : Fin 4096) (tag : Nat) (s : State) : Host.Outcome State Fault Refusal :=
  s.ok (s.f.onAdmitted ep.val tenant.val clsJournal tag (saysJournal [(0, 1, 5)]) (fun q =>
    if q.runsJournal then journalRsp (q.trigger q.st.ts q.st.stream) ep.val tenant.val tag 0 5 0 0 []
    else journalRsp q ep.val tenant.val tag 1 5 0 0 []))

/-- LOCK or UNLOCK of an incident (R365): under a session, at most 256 locked. -/
def lockIncident (q : Plane) (ep tenant tag op id : Nat) : Plane :=
  let rsp := fun (q : Plane) st => journalRsp q ep tenant tag st op 0 0 []
  if !q.hasSession tenant then rsp q 3
  else if !q.rick.incs.any (·.id = id) then rsp q 2
  else if op = 6 ∧ 256 ≤ (q.rick.incs.filter (fun i => i.locked ∧ i.id ≠ id)).length then rsp q 1
  else
    let g := fun (i : Incident) =>
      if i.id ≠ id ∨ i.locked = (op = 6) then i else { i with flags := if op = 6 then i.flags + 2 else i.flags - 2 }
    rsp ((q.onRick (fun r => { r with incs := r.incs.map g })).showInc) 0

/-- JOURNAL_LOCK (R365). -/
def execJournalLock (ep : Fin 8) (tenant : Fin 4096) (tag id : Nat) (s : State) : Host.Outcome State Fault Refusal :=
  s.ok (s.f.onAdmitted ep.val tenant.val clsJournal tag (saysJournal [(0, 1, 6), (8, 8, id)]) (lockIncident · ep.val tenant.val tag 6 id))

/-- JOURNAL_UNLOCK (R365). -/
def execJournalUnlock (ep : Fin 8) (tenant : Fin 4096) (tag id : Nat) (s : State) : Host.Outcome State Fault Refusal :=
  s.ok (s.f.onAdmitted ep.val tenant.val clsJournal tag (saysJournal [(0, 1, 7), (8, 8, id)]) (lockIncident · ep.val tenant.val tag 7 id))

/-- A chunk's 65,536 bytes (R361). -/
def chunkBytes (c : Chunk) : List Byte :=
  let h := leBytes 8 c.cseq ++ leBytes 8 c.firstTs ++ leBytes 8 c.lastTs ++ leBytes 4 c.bytes.length
  fitBytes 65536 (h ++ leBytes 4 (Config.crc32c (h ++ c.bytes)) ++ c.bytes)

/-- An incident's descriptor (R364). -/
def incDescriptor (i : Incident) : List Byte :=
  let h := fitBytes 252 (leBytes 4 i.id ++ leBytes 4 i.flags ++ leBytes 8 i.fromTs ++ leBytes 8 i.toTs ++ leBytes 8 i.firstCseq ++
    leBytes 8 i.lastCseq ++ leBytes 8 i.rseq ++ leBytes 8 i.stream)
  h ++ leBytes 4 (Config.crc32c h)

/-- Byte `n` of chunk `cseq`; a chunk that is not held reads 0. -/
def rollByte (cs : List Chunk) (cseq n : Nat) : Byte :=
  match cs.find? (·.cseq = cseq) with
  | some c => (chunkBytes c).getD n 0
  | none => 0

/-- A byte of the PAD record at a region wrap (R356): a header whose RLEN covers the rest of the region. -/
def padByte (r : Rick) (x : Nat) : Byte :=
  let stop := ((r.recs.filter (fun c => c.off ≤ x)).getLast?).elim 0 (fun c => c.off + c.bytes.length)
  let region := r.geom.elim 0 Geom.legalBytes
  if region = 0 then 0 else (legalHeader ((x / region + 1) * region - stop) 0 0 0 0 0 0 0 0 0).getD (x - stop) 0

/-- A byte of a tier at a logical offset (R355, R381); a hole of both sets reads 0 (R376). -/
def tierByte (r : Rick) (tier x : Nat) : Byte :=
  if r.lost tier x then 0
  else if tier = 1 then
    match r.recs.find? (fun c => c.off ≤ x ∧ x < c.off + c.bytes.length) with
    | some c => c.bytes.getD (x - c.off) 0
    | none => padByte r x
  else if tier = 2 then
    match r.incs.find? (fun i => i.off ≤ x ∧ x < i.off + i.size) with
    | some i =>
      let n := x - i.off
      if n < 256 then (incDescriptor i).getD n 0 else rollByte i.data (i.firstCseq + (n - 256) / 65536) ((n - 256) % 65536)
    | none => 0
  else rollByte r.chunks (x / 65536) (x % 65536)

/-- The oldest logical offset held of a tier, and its end. -/
def tierSpan (q : Plane) (tier : Nat) : Nat × Nat :=
  if tier = 1 then (q.regs.rd64 RICK_LEGAL_FREED_LO, q.rick.legalNext)
  else if tier = 2 then (q.rick.incs.head?.elim q.rick.incNextOff (·.off), q.rick.incNextOff)
  else (65536 * q.rick.chunks.head?.elim (q.regs.rd64 RICK_ROLL_NEXT_LO) (·.cseq), 65536 * q.regs.rd64 RICK_ROLL_NEXT_LO)

/-- Export data messages of one TICK (R380, R381): up to `budget` bytes, at most 9,568 in a message; `fuel` bounds their number. -/
def sendExport (q : Plane) (e : Nat) : Nat → Nat → Plane
  | 0, _ => q
  | fuel + 1, budget =>
    match exportAt q e with
    | none => q
    | some x =>
      let (oldest, top) := tierSpan q x.tier
      let gone := decide (x.next < oldest)
      let start := max x.next oldest
      let top := if x.stop = 0 then top else min x.stop top
      let n := min (min budget 9568) (min (top - start) (0x1000000 - x.unacked))
      let hole := (List.range n).any (fun i => q.rick.lost x.tier (start + i))
      let fin := decide (x.stop ≠ 0 ∧ x.stop ≤ start + n)
      if n = 0 ∧ fin = false then q
      else
        let fl := (if hole then 1 else 0) + (if gone then 2 else 0) + (if fin then 4 else 0)
        let data := (List.range n).map (fun i => tierByte q.rick x.tier (start + i))
        let q := if gone then q.onRegs (·.inc RICK_EXPORT_GONE) else q
        let q := q.send x.ep clsJournal x.tenant x.tag false fin false
          (leBytes 1 e ++ leBytes 1 x.tier ++ leBytes 1 fl ++ leBytes 5 0 ++ leBytes 8 start ++ leBytes 16 0 ++ data)
        if fin then endExport q e 1
        else sendExport (setExport q e (some { x with next := start + n, unacked := x.unacked + n })) e fuel (budget - n)

/-- EXPORT_SEND (R380): at each TICK, in ascending EXP; in BANKED the data waits for the drives (R452). -/
def execExportSend (s : State) : Host.Outcome State Fault Refusal :=
  s.ok (s.f.onTaking (fun q => (List.range 4).foldl (fun q e =>
    match exportAt q e with
    | none => q
    | some x =>
      if x.lastTick = q.st.tick ∨ q.rick.noTap = true then q
      else
        let budget := if x.prio then q.rk 26 2 else q.rk 24 2
        sendExport (setExport q e (some { x with lastTick := q.st.tick })) e (budget / 9568 + 2) budget) q))

/-- EXPORT_ACK (R380): a posted acknowledgement (EXP, seven reserved bytes, ACKED; its TAG is 0, log entry 22) from the owner, or a posted
error with CAUSE JOURNAL (6, R301, R307). -/
def execExportAck (ep : Fin 8) (tenant : Fin 4096) (e : Fin 4) (acked : Nat) (s : State) : Host.Outcome State Fault Refusal :=
  let what := saysFields [(0, 1, e.val), (8, 8, acked)]
  let bad : RMsg := ⟨ep.val, clsJournal, tenant.val, true, false, true, false, 0, 0, leBytes 8 e.val ++ leBytes 8 acked, 0⟩
  s.ok (s.f.onAdmitted ep.val tenant.val clsJournal 0 (fun b => decide (b.length = 16) && what b) (fun q =>
    match exportAt q e.val with
    | some x =>
      if x.tenant = tenant.val then setExport q e.val (some { x with unacked := min x.unacked (x.next - acked) })
      else q.postedError bad 6
    | none => q.postedError bad 6))

end Sys2Proof.Machine
end

