-- ==== Sys2Proof/Machine/Modes.lean ====
section
/-!
DEFINITION. Modes and power states (R439, R443-R468): mode requests, sleep sequences, wakes, P1, DVFS and adaptive voltage (R461-R463,
R272), supply warnings (R464, R465), resets (R466-R468), tamper (R340, R341).
-/

namespace Sys2Proof.Machine

/-- SAFE_REKINDLE (R439): 20 ms after SAFE entry and after the last hold cleared. -/
def execSafeRekindle (dt : Nat) (s : State) : Host.Outcome State Fault Refusal :=
  let e := s.f.e.at dt
  let f : Field := { s.f with e := e }
  let q := e.seqr
  if e.mode = .safe ∧ q.safeDone = true ∧ q.holds = 0 ∧ q.safeAt + 20000000 ≤ e.counter ∧ q.holdClearAt + 20000000 ≤ e.counter then
    s.ok (f.rekindle s.otpA s.otpB)
  else s.ok f

/-! Requests. -/

/-- MODE_STATUS (R446); BUSY while a turn or a sequence runs (R83, R451). -/
def execModeStatus (ep : Fin 8) (tenant : Fin 4096) (tag : Nat) (s : State) : Host.Outcome State Fault Refusal :=
  s.ok (s.f.onAdmitted ep.val tenant.val clsMode tag (saysFields [(0, 1, 1)]) (fun q =>
    modeRsp s.f q ep.val tenant.val tag (if s.f.phase = 0 ∧ s.f.e.seqr.kind = .idle then 0 else 2)))

/-- Whether the leading plane acts on a MODE message: what the device does for it, it does once (R446). -/
def servesMode (f : Field) (ep tenant tag : Nat) (what : List Byte → Bool) : Bool :=
  (f.actors ep tenant clsMode tag what).any (fun p => f.e.role p = .leading) && f.e.mode ≠ .safe

/-- An ENTER's payload: OP, TARGET, FORCE; FORCE means nothing where the TARGET is SERVICE. -/
def saysEnter (target : Nat) (force : Bool) (b : List Byte) : Bool :=
  saysFields [(0, 1, 2), (1, 1, target)] b && (target = 1 || bit (bytesAt b 2 1) 0 = force)

/-- An ENTER: its checks, the response, and the sequence that it starts (R448). -/
def enterCmd (s : State) (ep tenant tag target : Nat) (force : Bool) : Host.Outcome State Fault Refusal :=
  let f := s.f
  let what := saysEnter target force
  let st := enterStatus f target force
  let g := f.onAdmitted ep tenant clsMode tag what (fun q => modeRsp f q ep tenant tag st)
  s.ok (if servesMode f ep tenant tag what = true ∧ st = 0 then takeEnter g s.otpA s.otpB target 1 tenant else g)

/-- ENTER_SERVICE (R448, R456). -/
def execEnterService (ep : Fin 8) (tenant : Fin 4096) (tag : Nat) (s : State) : Host.Outcome State Fault Refusal :=
  enterCmd s ep.val tenant.val tag 1 false

/-- ENTER_BANKED (R451). -/
def execEnterBanked (ep : Fin 8) (tenant : Fin 4096) (tag : Nat) (force : Bool) (s : State) : Host.Outcome State Fault Refusal :=
  enterCmd s ep.val tenant.val tag 3 force

/-- ENTER_EMBER (R453). -/
def execEnterEmber (ep : Fin 8) (tenant : Fin 4096) (tag : Nat) (force : Bool) (s : State) : Host.Outcome State Fault Refusal :=
  enterCmd s ep.val tenant.val tag 4 force

/-- ENTER_OFF (R453). -/
def execEnterOff (ep : Fin 8) (tenant : Fin 4096) (tag : Nat) (force : Bool) (s : State) : Host.Outcome State Fault Refusal :=
  enterCmd s ep.val tenant.val tag 6 force

/-- The leading plane's control messages leave before the Ridge goes down (R446). -/
def flushControl (f : Field) : Field :=
  let ms := f.lead.host.out.filter (fun m => streamOf m.cls = 0 && f.h.pairUp (halfOf m.ep) f.lead.st.me)
  f.onH (fun d => ms.foldl HostDie.passMsg d)

/-- A session holder resets the field side (R468): the DGEN change ends the sessions (R337). -/
def sessionReset (f : Field) : Field :=
  let f := f.onTaking (fun q => q.endSessions (fun _ => true) 4)
  (flushControl f).deviceReset false

/-- A RESET or HOLD request: BUSY in a turn or while a sequence runs (R83, R451), DENIED without a session (R448). -/
def resetCmd (s : State) (ep tenant tag : Nat) (what : List Byte → Bool) (refused : Bool) (act : Field → Field) :
    Host.Outcome State Fault Refusal :=
  let f := s.f
  let st := if f.phase ≠ 0 ∨ f.e.seqr.kind ≠ .idle then 2 else if !f.lead.hasSession tenant then 4 else if refused then 1 else 0
  let g := f.onAdmitted ep tenant clsMode tag what (fun q => modeRsp f q ep tenant tag st)
  s.ok (if servesMode f ep tenant tag what = true ∧ st = 0 then act (sessionReset g) else g)

/-- MODE_RESET (R468). -/
def execModeReset (ep : Fin 8) (tenant : Fin 4096) (tag : Nat) (s : State) : Host.Outcome State Fault Refusal :=
  resetCmd s ep.val tenant.val tag (saysFields [(0, 1, 3)]) false (·.startKindling s.otpA s.otpB)

/-- MODE_HOLD (R468): HOLD_MS of 10 to 600,000. -/
def execModeHold (ep : Fin 8) (tenant : Fin 4096) (tag ms : Nat) (s : State) : Host.Outcome State Fault Refusal :=
  resetCmd s ep.val tenant.val tag (saysFields [(0, 1, 4), (4, 4, ms)]) (decide (ms < 10 ∨ 600000 < ms))
    (fun f => f.onE (fun e => e.onSeq (fun q => { q with holdEnd := some (e.counter + ms * 1000000) })))

/-- The field side leaves a reset: KINDLING starts, or goes on at step 3 where the rails are up already. -/
def leaveReset (f : Field) (oA oB : Otp) : Field :=
  if f.e.seqr.holdEnd.isSome ∨ (f.e.seqr.resetLow.isSome = true ∧ f.e.seqr.resetDeaf = false) then f
  else if f.e.seqr.kin = 0 then f.startKindling oA oB
  else if f.e.seqr.kin = 1 ∧ f.e.regs.get 0 PWR_STAT_PGOOD = 15 then f.kindlingStep3 oA oB
  else f

/-- HOLD_EXPIRE (R468). -/
def execHoldExpire (dt : Nat) (s : State) : Host.Outcome State Fault Refusal :=
  let f : Field := { s.f with e := s.f.e.at dt }
  match f.e.seqr.holdEnd with
  | some t =>
    if t ≤ f.e.counter ∧ f.e.mode = .kindling then
      s.ok (leaveReset (f.onE (·.onSeq (fun q => { q with holdEnd := none }))) s.otpA s.otpB)
    else s.ok f
  | none => s.ok f

/-! Steps of the sleep sequences. -/

/-- BANKED_PORTS_DRAINED (R451 step 5): every transmit stage is empty; the ports stop with LINK_DOWN. -/
def execBankedPortsDrained (s : State) : Host.Outcome State Fault Refusal :=
  let e := s.f.e
  let empty := e.eths.all (fun x => x.2.buf = [] && x.2.sending = none) && e.t1s.all (fun x => x.2.txq = [])
  if e.seqr.kind = .banked ∧ e.seqr.step = 4 ∧ empty = true then
    s.ok (s.f.onE (fun e =>
      let e := (List.range 24).foldl (fun e n => e.ethStop n) e
      let e := (List.range 16).foldl (fun e n => (e.t1LinkDown n).onT1 n (fun _ => T1sSt.init)) e
      e.onSeq (fun q => { q with step := 5 })))
  else s.ok s.f

/-- Rick flushes its drives and holds them in reset (R451): what it has written to a drive of the set is on it, and then they are ABSENT. -/
def flushDrives (q : Plane) : Plane :=
  let most := q.legalMost
  let q := (List.range 4).foldl (fun q d => q.onDrive d (fun x =>
    if x.state = 3 ∨ x.state = 4 then { x with legalDone := max x.legalDone most } else x)) q
  let q := q.onRick (fun r => { r with chunks := r.chunks.map (fun c => if canWrite q ⟨3, c.cseq, false⟩ then { c with written := true } else c) })
  (List.range 4).foldl (fun q d => q.onDrive d (fun x => if x.state = 0 then x else { x with state := 0, gen := x.gen + 1 })) q.showDurable

/-- BANKED_DRIVES_FLUSHED (R451 steps 6-8): drives off, point 0, CTRL MODE DONE; an EMBER or OFF entry goes on with its own steps, else a
latched wake is served. -/
def execBankedDrivesFlushed (s : State) : Host.Outcome State Fault Refusal :=
  let e := s.f.e
  if e.seqr.kind = .banked ∧ e.seqr.step = 5 ∧ slept s.f = true then
    let f := s.f.onTaking flushDrives
    let f := f.onE (fun e =>
      let e := e.onRegs (fun m => (m.set 0 PWR_STAT_PWR_EN (m.get 0 PWR_STAT_PWR_EN % 8)).set 0 PWR_STAT_PGOOD (m.get 0 PWR_STAT_PGOOD % 8))
      let e := dvfsAll { e with pstate := .p2, mode := .banked }
      let e := e.ctrlMode 2 1 3 2 e.seqr.cause 0 e.seqr.tenant
      if e.seqr.goal = 3 then e.onSeq (fun q => { q with kind := .idle, step := 0 })
      else
        let e := e.ctrlMode 1 3 4 2 e.seqr.cause 0 e.seqr.tenant
        e.onSeq (fun q => { q with kind := if q.goal = 6 then .off else .ember, step := 1 }))
    s.ok (serveWake f s.otpA s.otpB)
  else s.ok s.f

/-- EMBER_PLANES_OFF (R453 steps 7 and 8): PGOOD1 and PGOOD2 are low: P3, or P4 after OFF entry; a latched wake is served at once. -/
def execEmberPlanesOff (s : State) : Host.Outcome State Fault Refusal :=
  let e := s.f.e
  if (e.seqr.kind = .ember ∨ e.seqr.kind = .off) ∧ e.seqr.step = 6 then
    let off := e.seqr.kind = .off
    let f := s.f.onE (fun e =>
      let e := e.onRegs (fun m => (m.set 0 PWR_STAT_PGOOD (if off then 0 else 1)).set 0 PWR_STAT_PWR_EN (if off then 0 else 1))
      let e := { e with mode := .ember, pstate := if off then .p4 else .p3 }
      e.onSeq (fun q => { q with kind := .idle, step := 0, off := off }))
    s.ok (serveWake f s.otpA s.otpB)
  else s.ok s.f

/-- PAD_RELEASE (R455). -/
def execPadRelease (c : Fin 16) (s : State) : Host.Outcome State Fault Refusal := s.ok (s.f.onE (releaseCourses · (2 ^ c.val)))

/-! Wakes. -/

/-- The calendar moves on while the counter stops (R403). -/
def sleepFor (e : Eaves) (slept : Nat) : Eaves :=
  if e.pstate = .p3 ∨ e.pstate = .p4 then e.onSeq (fun q => { q with cal := q.cal + slept }) else e

/-- The level of a wake pin set in NS_WAKE_PINS: bit 31 WAKE_N, bit n WAKE_Cn (R482, R496). -/
def setPin (e : Eaves) (b : Nat) (high : Bool) : Eaves := e.onRegs (·.set 0 ⟨NS_WAKE_PINS, b, b⟩ (if high then 1 else 0))

/-- The filtered level of a wake pin. -/
def pinHigh (e : Eaves) (b : Nat) : Bool := bit (e.regs.rd NS_WAKE_PINS).toNat b

/-- WAKE_N_ASSERT (R482): the filtered level of WAKE_N changes after the filter time, and a change to low registers the wake. -/
def execWakeNAssert (pin : WakePin) (s : State) : Host.Outcome State Fault Refusal :=
  let f := s.f.onE (sleepFor · pin.slept)
  if pin.held < f.e.seqr.wakeNFilt * 1000 ∨ pinHigh f.e 31 = pin.high then s.ok f
  else
    let f := f.onE (setPin · 31 pin.high)
    s.ok (if pin.high then f else registerWake f s.otpA s.otpB 3 0)

/-- WAKE_C_ASSERT (R482): WAKE_Cn likewise; a change to high registers the wake where the pin is enabled. -/
def execWakeCAssert (n : Fin 16) (pin : WakePin) (s : State) : Host.Outcome State Fault Refusal :=
  let f := s.f.onE (sleepFor · pin.slept)
  if pin.held < f.e.seqr.wakeCFilt * 1000 ∨ pinHigh f.e n.val = pin.high then s.ok f
  else
    let f := f.onE (setPin · n.val pin.high)
    s.ok (if pin.high = true ∧ bit f.e.seqr.wakeEn n.val = true then registerWake f s.otpA s.otpB 2 n.val else f)

/-- CALENDAR_ALARM (R458, R473): in sleep, the calendar reaches PWR_ALARM. -/
def execCalendarAlarm (slept : Nat) (s : State) : Host.Outcome State Fault Refusal :=
  let f := s.f.onE (sleepFor · slept)
  let t := f.e.regs.rd64 PWR_ALARM_LO
  if t ≠ 0 ∧ t ≤ f.e.calSec ∧ asleep f.e = true then
    let f := f.onE (·.onRegs (fun m => (m.set 0 PWR_ALARM_STAT_FIRED 1).wr64 PWR_ALARM_LO 0))
    s.ok (registerWake f s.otpA s.otpB 5 0)
  else s.ok f

/-- VBAT_LOSS (R42): the VBAT domain clears. -/
def execVbatLoss (s : State) : Host.Outcome State Fault Refusal :=
  s.ok (s.f.onE (fun e =>
    let e := e.onRegs (·.clear (fun k => match rowAt false (k % addrSpan) with | some r => r.dom = .vbat | none => false))
    e.onSeq (fun q => { q with
      cal := 0, sleepCal := 0, tamperEn := 0, tamperPol := 0, wakeEn := 0, wakeCFilt := 50, wakeNFilt := 50,
      latched := if q.off then none else q.latched })))

/-! P1, DVFS, voltage. -/

/-- IDLE_ENTRY (R460). -/
def execIdleEntry (dt : Nat) (s : State) : Host.Outcome State Fault Refusal :=
  let e := s.f.e.at dt
  let set := bit (devSec e.live 0 1) 0 && e.regs.get 0 PWR_OVERRIDE_NO_IDLE = 0 &&
    decide (e.seqr.idleSince + devSec e.live 10 2 * 1000 ≤ e.counter) && e.serving
  if e.pstate = .p0 ∧ (set = true ∨ (e.mode = .safe ∧ e.seqr.safeDone = true)) then
    s.ok { s.f with e := ({ e with pstate := .p1 } : Eaves).onSeq (fun q => { q with p1At := some e.counter }) }
  else s.ok { s.f with e := e }

/-- DVFS_STEP (R462). -/
def execDvfsStep (s : State) : Host.Outcome State Fault Refusal :=
  let e := s.f.e
  if (e.serving ∨ e.mode = .banked) ∧ e.seqr.dvfsAt < e.merger.lastTick then s.ok (s.f.onE dvfsStep) else s.ok s.f

/-- A protective override or return (R272): INFO from PROTECT, and the NOTICE that carries GOV_PROT_LAST. -/
def protect (e : Eaves) (ps : List PlaneId) (loop : Nat) (ret : Bool) (value : Nat) : Eaves :=
  let e := ps.foldl (fun e p => e.info (planeSrc p 19)) e
  e.ctrl 256 (ctrlNotice 3 (loop * 2 ^ 28 + (if ret then 2 ^ 27 else 0) + value) 0 0 0)

/-- The field of PWR_VOLT of a plane. -/
def voltOf : PlaneId → Fld
  | .A => PWR_VOLT_VOLT_A
  | .B => PWR_VOLT_VOLT_B

/-- AVS_ADJUST (R463, R272): one 5 mV step of a plane's loop; `floorLow` says that the margin monitor is below its floor. -/
def execAvsAdjust (p : PlaneId) (up floorLow : Bool) (s : State) : Host.Outcome State Fault Refusal :=
  let e := s.f.e
  let v := e.regs.get 0 (voltOf p)
  let lo := e.regs.get 0 PWR_AVS_VMIN
  let hi := e.regs.get 0 PWR_AVS_VMAX
  let put := fun (e : Eaves) n => e.onRegs (·.set 0 (voltOf p) n)
  if ¬ (e.serving ∨ e.mode = .banked) then s.ok s.f
  else if up then
    if v + 5 ≤ hi then s.ok (s.f.onE (put · (v + 5)))
    else if floorLow ∧ v + 5 ≤ 850 then s.ok (s.f.onE (fun e => protect (put e (v + 5)) [p] 1 false (v + 5)))
    else s.ok s.f
  else if v - 5 < pointLow (e.regs.get 0 PWR_DVFS_CUR) then
    s.ok (s.f.onE (fun e => (e.onRegs (·.inc PWR_SEQ_REFUSE_CNT)).info 15))
  else if v - 5 < lo then s.ok s.f
  else if hi < v ∧ v - 5 ≤ hi then s.ok (s.f.onE (fun e => protect (put e (v - 5)) [p] 1 true (v - 5)))
  else s.ok (s.f.onE (put · (v - 5)))

/-- A junction temperature shown in PWR_TEMP (°C + 64). -/
def showTemp (e : Eaves) (p : PlaneId) (t : Nat) : Eaves :=
  e.onRegs (·.set 0 (match p with | .A => PWR_TEMP_PLANE_A | .B => PWR_TEMP_PLANE_B) t)

/-- THERMAL_THROTTLE (R272): 115 °C or more for 10 ms lowers both planes one point, not below DVFS_MIN. -/
def execThermalThrottle (p : PlaneId) (temp : Fin 256) (s : State) : Host.Outcome State Fault Refusal :=
  s.ok (s.f.onE (fun e =>
    let e := showTemp e p temp.val
    let cur := e.regs.get 0 PWR_DVFS_CUR
    if 115 + 64 ≤ temp.val ∧ e.serving = true ∧ e.regs.get 0 PWR_DVFS_MIN < cur then
      protect (dvfsStep (e.onSeq (fun q => { q with thermal := cur - 1 }))) [.A, .B] 2 false (pointMhz (cur - 1))
    else e))

/-- THERMAL_RESTORE (R272): below 105 °C the requested point is restored, one point at a time. -/
def execThermalRestore (p : PlaneId) (temp : Fin 256) (s : State) : Host.Outcome State Fault Refusal :=
  s.ok (s.f.onE (fun e =>
    let e := showTemp e p temp.val
    if e.regs.get 0 PWR_TEMP_PLANE_A < 105 + 64 ∧ e.regs.get 0 PWR_TEMP_PLANE_B < 105 + 64 ∧ e.seqr.thermal < 3 then
      protect (e.onSeq (fun q => { q with thermal := 3, dvfsAt := e.merger.lastTick })) [.A, .B] 2 true
        (pointMhz (e.regs.get 0 PWR_DVFS_REQ))
    else e))

/-! Supply. -/

/-- SUPPLY_WARN (R464): source bit 0 the internal monitor, bit 1 BROWN_N, which counts where BROWN_N_EN is set. Rick's and the Kiln's part
stands at the CTRL SUPPLY shingle's position (R374, R321). -/
def execSupplyWarn (src : Fin 4) (dt : Nat) (s : State) : Host.Outcome State Fault Refusal :=
  s.ok (s.f.onE (fun e =>
    let e := e.at dt
    let e := if bit src.val 1 then e.onRegs (·.set 0 PWR_STAT_BROWN_N 0) else e
    let src := if bit (devSec e.live 0 1) 1 then src.val else src.val % 2
    if src = 0 ∨ awake e = false then e
    else if e.regs.get 0 PWR_STAT_WARN = 1 then e.onSeq (fun q => { q with warnSrc := q.warnSrc ||| src })
    else
      let e := e.onRegs (fun m => ((m.set 0 PWR_STAT_WARN 1).set 0 PWR_STAT_LOW_SUPPLY 1).inc PWR_WARN_CNT)
      let e := e.onSeq (fun q => { q with warnAt := e.counter, warnSrc := src })
      e.ctrl 256 (ctrlSupply 1 src 0 e.counter)))

/-- SUPPLY_WARN_CLEAR (R465): the clearing CTRL SUPPLY; during a shutdown sequence, or after it in P3, it is a wake (R456, R458). -/
def execSupplyWarnClear (dt : Nat) (s : State) : Host.Outcome State Fault Refusal :=
  let e := (s.f.e.at dt).onRegs (·.set 0 PWR_STAT_BROWN_N 1)
  let f : Field := { s.f with e := e }
  if e.regs.get 0 PWR_STAT_WARN = 1 then
    let us := (e.counter - e.seqr.warnAt) / 1000
    let f := f.onE (fun e =>
      let e := e.onRegs (fun m => ((m.set 0 PWR_STAT_WARN 0).set 0 PWR_STAT_WARN_LONG 0).wr PWR_LAST_WARN
        (BitVec.ofNat 32 (min us 0xFFFFFFFF)))
      e.ctrl 256 (ctrlSupply 0 e.seqr.warnSrc us e.seqr.warnAt))
    s.ok (if e.seqr.kind ≠ .idle ∨ e.mode = .ember then registerWake f s.otpA s.otpB 7 0 else f)
  else s.ok f

/-- 50 ms of a warning on a plane's own TICKs (R31, R465, R374): EVENT SUPPLY_LONG with the TS of the assertion. -/
def planeWarnLong (q : Plane) : Plane :=
  if q.rick.warnLong = false ∧ q.rick.warnTick.elim false (fun w => decide (w + 5000 ≤ q.st.tick)) = true then
    (q.onRick (fun r => { r with warnLong := true })).event 0x0703 noId noId (leBytes 8 q.rick.warnTs)
  else q

/-- WARN_LONG (R465, R374): Eaves counts on the time counter, a plane on its TICKs. -/
def execWarnLong (dt : Nat) (s : State) : Host.Outcome State Fault Refusal :=
  let e := s.f.e.at dt
  let f : Field := { s.f with e := e }
  if e.regs.get 0 PWR_STAT_WARN = 1 ∧ e.regs.get 0 PWR_STAT_WARN_LONG = 0 ∧ e.seqr.warnAt + 50000000 ≤ e.counter then
    let f := f.onE (·.onRegs (·.set 0 PWR_STAT_WARN_LONG 1))
    s.ok (f.onTaking planeWarnLong)
  else s.ok (f.onTaking planeWarnLong)

/-- WARN_OFF_TIMEOUT (R465): the OFF sequence with cause WARN_OFF; a sleep sequence that runs goes on to OFF. -/
def execWarnOffTimeout (dt : Nat) (s : State) : Host.Outcome State Fault Refusal :=
  let e := s.f.e.at dt
  let f : Field := { s.f with e := e }
  let sec := devSec e.live 8 2
  if e.regs.get 0 PWR_STAT_WARN = 1 ∧ sec ≠ 0 ∧ e.seqr.warnAt + sec * 10 ^ 9 ≤ e.counter ∧ (e.serving = true ∨ e.mode = .banked) then
    s.ok (match e.seqr.kind with
      | .idle => startSeq f 6 4 0xFFFF
      | .banked => f.onE (·.onSeq (fun q => { q with goal := 6, cause := 4, tenant := 0xFFFF }))
      | .ember => f.onE (·.onSeq (fun q => { q with kind := .off, goal := 6, cause := 4, tenant := 0xFFFF }))
      | .off => f)
  else s.ok f

/-- RESET_LEVEL (R465): the last CLEAN commits, pads latched at their present level, P4. A pad in transmission may be at either level (a free
value). -/
def execResetLevel (s : State) : Host.Outcome State Fault Refusal :=
  if s.f.e.seqr.off then s.ok s.f
  else
    let (n, f) := s.f.draw
    let f := f.onTaking (fun q => (q.finalCommit).kilnCommit)
    let f := f.onBoth Plane.halt
    s.ok (f.onE (fun e =>
      let old := e.regs
      let level := fun (k : Nat) =>
        if e.courseHeld k then bit (old.rd (BBR_PAD_LEVEL (k / 32))).toNat (k % 32)
        else if e.sl k SLOT_STAT_TX_ACTIVE = 1 then bit n k else true
      let e := latchPads e level
      let e := (e.setRole .A .offline).setRole .B .offline
      let e := e.onRegs (fun m => (((m.set 0 BBR_SHUTDOWN_KIND 4).set 0 BBR_FORMAT_FORMAT 1).set 0 PWR_STAT_PWR_EN 0).set 0 PWR_STAT_PGOOD 0)
      let e := { e with mode := .ember, pstate := .p4 }
      e.onSeq (fun q => { q with kind := .idle, step := 0, off := true, safeN := false, resetOutN := false })))

/-- PGOOD_FALL (R465, R519, R521): also of a PGOOD that has not risen, which then stays low at the next KINDLING_PGOOD. -/
def execPgoodFall (k : Fin 4) (s : State) : Host.Outcome State Fault Refusal :=
  let e := s.f.e
  if bit (e.regs.get 0 PWR_STAT_PWR_EN) k.val ∧ bit (e.regs.get 0 PWR_STAT_PGOOD) k.val = true then
    let f := s.f.onE (·.onRegs (fun m => m.set 0 PWR_STAT_PGOOD (m.get 0 PWR_STAT_PGOOD - 2 ^ k.val)))
    if k.val = 1 then s.ok (f.raisePlane .A 17)
    else if k.val = 2 then s.ok (f.raisePlane .B 17)
    else if k.val = 3 then s.ok (f.onE (fun e => (List.range 24).foldl (fun e n => (e.etSet n ETH_STAT_PCS_LOCK 0).ethLinkDown n) e))
    else s.ok f
  else if bit (e.regs.get 0 PWR_STAT_PWR_EN) k.val then s.ok (s.f.onE (·.onSeq (fun q => { q with pgLow := q.pgLow ||| 2 ^ k.val })))
  else s.ok s.f

/-! Resets. -/

/-- RESET_N_ASSERT (R466): RESET_N low for 10 µs; a wake in P3; ignored in P4, and after a stuck reset until it has been high for 100 ms
(R467). -/
def execResetNAssert (slept : Nat) (s : State) : Host.Outcome State Fault Refusal :=
  let f := s.f.onE (sleepFor · slept)
  let q := f.e.seqr
  let deaf := q.resetDeaf && !(q.resetHigh.elim false (fun t => decide (t + 100000000 ≤ f.e.counter)))
  if q.off = true ∨ deaf = true then s.ok (f.onE (·.onSeq (fun q => { q with resetHigh := none })))
  else
    let f := f.onE (fun e => (clearLimit e).onSeq (fun q =>
      { q with resetLow := some e.counter, resetDeaf := false, resetHigh := none, holds := q.holds &&& 7 }))
    if f.e.mode = .ember then s.ok (registerWake f s.otpA s.otpB 8 0) else s.ok (f.deviceReset false)

/-- RESET_N_RELEASE (R466): KINDLING starts. -/
def execResetNRelease (dt : Nat) (s : State) : Host.Outcome State Fault Refusal :=
  let f : Field := { s.f with e := s.f.e.at dt }
  if f.e.seqr.resetDeaf then s.ok (f.onE (fun e => e.onSeq (fun q => { q with resetHigh := some e.counter })))
  else
    match f.e.seqr.resetLow with
    | none => s.ok f
    | some _ =>
      let f := f.onE (·.onSeq (fun q => { q with resetLow := none }))
      s.ok (if f.e.mode = .kindling then leaveReset f s.otpA s.otpB else f)

/-- RESET_STUCK (R467): RESET_N low for more than 8 s is recorded, ignored, and KINDLING runs. -/
def execResetStuck (dt : Nat) (s : State) : Host.Outcome State Fault Refusal :=
  let f : Field := { s.f with e := s.f.e.at dt }
  match f.e.seqr.resetLow with
  | some t =>
    if t + 8 * 10 ^ 9 < f.e.counter ∧ f.e.mode = .kindling then
      let f := f.onE (fun e =>
        let e := e.onRegs (fun m => (((m.incF 0 BBR_RESET_STUCK_COUNT).set 0 BBR_RESET_STUCK_NEW 1).wr64 BBR_RESET_STUCK_S_LO e.calSec).set 0
          BBR_FORMAT_FORMAT 1)
        e.onSeq (fun q => { q with resetLow := none, resetDeaf := true, resetHigh := none }))
      s.ok (leaveReset f s.otpA s.otpB)
    else s.ok f
  | none => s.ok f

/-! Tamper. -/

/-- TAMPER_ACTIVATION (R340, R341): a TAMPER input (0-3) has held a level for its filter time, high or low, or the mesh (4) fails, high, or
matches again. At an enabled input's active level it is an activation. In P3 and P4, and once the planes stop for them, it is only latched,
and wakes the device (R457, R458). -/
def execTamperActivation (src : Fin 5) (pin : TamperPin) (s : State) : Host.Outcome State Fault Refusal :=
  let f := s.f.onE (fun e => (sleepFor e pin.slept).onSeq (fun q => { q with
    tamperHigh := if bit q.tamperHigh src.val = pin.high then q.tamperHigh else q.tamperHigh ^^^ 2 ^ src.val }))
  let q := f.e.seqr
  if !tamperActive f.e src.val then s.ok f
  else if f.e.pstate = .p3 ∨ f.e.pstate = .p4 ∨ ((q.kind = .ember ∨ q.kind = .off) ∧ 6 ≤ q.step) then
    s.ok (registerWake (f.onE (latchTamper · src.val)) s.otpA s.otpB 6 0)
  else s.ok (tamperNow f src.val)

end Sys2Proof.Machine
end

