-- ==== Sys2Proof/Machine/Firmware.lean ====
section
/-!
DEFINITION. What the management firmware sends on Ethernet ports, as commands: gPTP's Sync and peer delay measurement (R396), MKA (R325). Its
frames go through the output queues (R32, R188).
-/

namespace Sys2Proof.Machine

/-! MKA. -/

/-- The MKA period of a port expires (R325): as key server that wants a SAK the firmware draws one from the pool and installs it, and the MKA
frame goes out under the ICK. With a short pool it waits for the next RAND (R29); one that is NOT_READY leaves the wish to the next period.
Without a LOADED CAK there is no MKA. `server` says that the device is key server. -/
def planeMka (q : Plane) (port : Nat) (server : Bool) : Plane :=
  match q.msOn (128 + port) with
  | none => q
  | some r =>
    match q.mkaKeys (128 + port) r with
    | (q, none) => q
    | (q, some (ick, kek)) =>
      let st := q.msPort (128 + port)
      let len := algBytes (r.u 1 1)
      let (q, wrapped) :=
        if server && st.wantSak then
          match q.drawPool (16 + port) len with
          | some (sak, q) =>
            (q.onMs (128 + port) (·.install ((st.tx.elim 3 (·.an) + 1) % 4) sak), Config.keyWrap kek sak)
          | none => (if q.kiln.randSeen then q.awaitRand (16 + port) else q, [])
        else (q, [])
      let q := q.onMs (128 + port) (fun st => { st with mn := st.mn + 1 })
      let body := Config.mkaFrame port (q.msPort (128 + port)).mn wrapped
      q.fwSend (128 + port) false (body ++ fitBytes 16 (Config.cmac ick body))

/-- MKA_PERIOD (R325). -/
def execMkaPeriod (port : Fin 24) (server : Bool) (s : State) : Host.Outcome State Fault Refusal :=
  s.ok (s.f.onTaking (fun q => (planeMka q port.val server).releaseAll))

/-- Consumers that wait for randomness and need no command, served in order as a RAND arrives (R29): MKA and GENERATED keys. -/
def serveRand (q : Plane) : Plane :=
  q.kiln.waits.foldl (fun q c =>
    if 16 ≤ c ∧ c < 64 then planeMka q (c - 16) true else if 64 ≤ c then q.fillGenerated (c - 64) else q) q

/-! gPTP. -/

/-- GPTP_SYNC_SEND (R396): Sync and Follow_Up on every port of MASTER_PORTS. -/
def execGptpSyncSend (s : State) : Host.Outcome State Fault Refusal := s.ok (s.f.onTaking (fun q => q.gptpSync.releaseAll))

/-- GPTP_PDELAY (R396): a port runs a peer delay measurement; `delay` is what the exchange gave, none where the peer did not answer. -/
def execGptpPdelay (port : Fin 24) (delay : Option Nat) (s : State) : Host.Outcome State Fault Refusal :=
  s.ok (s.f.onTaking (fun q =>
    let q := (q.gptpSend 2 port.val true).releaseAll
    match delay with
    | some d =>
      if q.tm 24 1 0xFF = port.val then
        ({ q with servo := { q.servo with pdelay := d, pdelayTick := some q.st.tick } } : Plane).timeWrite
          ⟨[(⟨TIME_GPTP_PDELAY, 31, 0⟩, d % 2 ^ 32)], [], none, none⟩
      else q
    | none => q))

end Sys2Proof.Machine
end

