-- ==== Sys2Proof/Machine/Windows.lean ====
section
/-!
DEFINITION. The indirect windows of the TABLES, THATCHER and TENANT blocks (R224, R250, R273): commands at their admission position, and
what applies at the next TICK.
-/

namespace Sys2Proof

/-- Base of window `n` of block 0 TABLES, 1 THATCHER, 2 TENANT. -/
def winBase (block n : Nat) : Nat := 0x400000 + 0x100000 * block + 0x100 * n

/-- First DATA word and number of DATA words. -/
def winData (block n : Nat) : Nat × Nat := if block = 2 then (winBase 2 n + 0x80, 32) else (winBase block n + 0x40, 16)

/-- TABLE of a window. -/
def Plane.winTable (p : Plane) (block n : Nat) : Nat := bits (p.regs.rd (winBase block n)).toNat 4 0

/-- IDX of a window. -/
def Plane.winIdx (p : Plane) (block n : Nat) : Nat :=
  bits (p.regs.rd (winBase block n + 4)).toNat (if block = 0 then 19 else 16) 0

/-- DATA of a window as bytes. -/
def Plane.winBytes (p : Plane) (block n : Nat) : List Byte :=
  let (a, k) := winData block n
  (List.range k).flatMap (fun w => leBytes 4 (p.regs.rd (a + 4 * w)).toNat)

/-- DATA of a window set from bytes; the rest reads 0. -/
def Plane.setWinBytes (p : Plane) (block n : Nat) (bs : List Byte) : Plane :=
  let (a, k) := winData block n
  p.onRegs (fun m => (List.range k).foldl (fun m w => m.wr (a + 4 * w) (BitVec.ofNat 32 (bytesAt bs (4 * w) 4))) m)

/-- PENDING of a window. -/
def Plane.winPending (p : Plane) (block n : Nat) : Bool := p.regs.get 0 ⟨winBase block n + 12, 31, 31⟩ = 1

/-- PENDING cleared or set, with a STATUS. -/
def Plane.winStat (p : Plane) (block n : Nat) (pending : Bool) (status : Nat) : Plane :=
  p.onRegs (·.wr (winBase block n + 12) (BitVec.ofNat 32 (status + bitAt pending 31)))

/-- IDX set by INSERT and SEARCH. -/
def Plane.setWinIdx (p : Plane) (block n i : Nat) : Plane := p.onRegs (·.wr (winBase block n + 4) (BitVec.ofNat 32 i))

/-- Entries and bytes of a window table; none where every command ends with BADCMD. -/
def winSize (block table : Nat) : Option (Nat × Nat) :=
  let t := if block = 0 then
      [(1, 65536, 64), (2, 4096, 32), (3, 16, 16), (4, 131072, 16), (5, 65536, 16), (6, 16384, 32), (7, 4096, 32), (8, 524288, 4),
        (9, 48, 8), (10, 16384, 16), (11, 16384, 8), (12, 4096, 20), (13, 256, 24), (14, 16384, 8), (15, 1024, 16)]
    else if block = 1 then [(1, 65536, 32), (2, 16384, 64), (3, 32768, 24), (4, 65536, 8), (5, 65536, 16), (6, 65536, 16)]
    else [(1, 4096, 128), (2, 256, 96), (3, 16384, 48), (4, 256, 32), (5, 131072, 4)]
  (t.find? (fun x => x.1 = table)).map (·.2)

/-- Whether a command is one of the table's. -/
def winCmdOk (block table cmd : Nat) : Bool :=
  if block = 0 then cmd = 1 || (cmd = 2 && table ≠ 7) || ((cmd = 3 || cmd = 4 || cmd = 5) && decide (4 ≤ table ∧ table ≤ 6))
  else if block = 1 then cmd = 1 || (cmd = 2 && (table = 4 || table = 6))
  else cmd = 1 || (cmd = 2 && (table = 3 || table = 4)) || ((cmd = 6 || cmd = 7 || cmd = 8) && table = 1)

/-- An entry as a window reads it. -/
def Plane.winEntry (p : Plane) (block table idx size : Nat) : List Byte :=
  if block = 0 then (p.tget (if table = 7 then 17 else table) idx).bytes size
  else if block = 1 then
    (if table = 1 then (p.sig idx).bytes size
     else if table = 2 then (p.lay idx).bytes size
     else if table = 3 then (if idx < p.srCount then (p.sr idx).bytes size else leBytes size 0)
     else if table = 4 then leBytes 8 (p.lut (idx / 256) (idx % 256))
     else if table = 5 then (if idx < p.supCount then (p.sup idx).bytes size else leBytes size 0)
     else
       let v := p.cval idx
       leBytes 8 (unsigned 64 v.value) ++ leBytes 1 v.state ++ leBytes 3 0 ++ leBytes 4 v.tick)
  else if table = 2 then (p.template idx).bytes size
  else (p.tget (16 + table) idx).bytes size

/-- Whether a writing command may be scheduled: the RANGE checks of R224, R250, R259, R270, R273. -/
def Plane.winRange (p : Plane) (block table cmd idx : Nat) (data : List Byte) : Bool :=
  if block = 0 then
    cmd ≠ 2 ||
      (if table = 1 then decide (bytesAt data 52 2 = idx ∧ bytesAt data 42 2 ≤ 1000)
       else if table = 2 then bytesAt data 28 2 = idx
       else if table = 3 then bytesAt data 7 1 = idx
       else true)
  else if block = 1 then table ≠ 6 || decide (1 ≤ bytesAt data 8 1 ∧ bytesAt data 8 1 ≤ 3)
  else if cmd = 6 then p.tenState idx = 1
  else if cmd = 2 ∧ table = 3 then
    decide (bytesAt data 8 4 ≤ bytesAt data 12 4 ∧ bytesAt data 0 4 ≠ 0 ∧ bytesAt data 4 4 ≠ 0 ∧ bytesAt data 8 4 ≠ 0 ∧ bytesAt data 12 4 ≠ 0)
  else if cmd = 2 ∧ idx < 128 ∧ p.pers idx = 4 ∧ bytesAt data 0 1 % 2 = 1 then false
  else if cmd = 2 then decide (govPort idx = true ∧ 100 ≤ bytesAt data 2 2 ∧ bytesAt data 2 2 ≤ 950 ∧ bytesAt data 4 2 ≤ 200)
  else true

/-- The prefix family of a window table. -/
def winV6 (table : Nat) : Bool := table = 6

/-- The index of the key in DATA (R224): MAC and FID, or PREFIX, LEN and DOMAIN. -/
def Plane.keyIndex (p : Plane) (table : Nat) (data : List Byte) : Option Nat :=
  if table = 4 then p.macFind (bytesAt data 6 2) (beAt data 0 6)
  else
    let (_, w, o) := lpmFam (winV6 table)
    p.lpmFind (winV6 table) (bytesAt data (o + 1) 1) (bytesAt data o 1) (beAt data 0 (w / 8))

/-- A command written to CMD (R224, R250, R273): READ and SEARCH complete here, the others wait for the next TICK. The status of the
write: 0 OK, 3 BUSY. -/
def Plane.winCmd (p : Plane) (block n cmd : Nat) : Plane × Nat :=
  let table := p.winTable block n
  let idx := p.winIdx block n
  let data := p.winBytes block n
  let done := fun (st : Nat) => (p.winStat block n false st, 0)
  if p.winPending block n then (p, 3)
  else
    match winSize block table with
    | none => done 4
    | some (count, size) =>
      if winCmdOk block table cmd = false then done 4
      else if cmd = 5 then
        match p.keyIndex table data with
        | none => done 1
        | some i => (((p.setWinIdx block n i).setWinBytes block n (p.winEntry block table i size)).winStat block n false 0, 0)
      else if cmd ≠ 3 ∧ cmd ≠ 4 ∧ count ≤ idx then done 3
      else if cmd = 1 then ((p.setWinBytes block n (p.winEntry block table idx size)).winStat block n false 0, 0)
      else if p.regs.get 0 TRUSS_TURN_STAT_PHASE ≠ 0 then done 5
      else if p.winRange block table cmd idx data = false then done 3
      else ((p.onFwd (fun f => { f with cmds := f.cmds ++ [⟨block, n, cmd, table, idx, data⟩] })).winStat block n true 0, 0)

/-! What applies at the TICK. -/

/-- A prefix entry removed or replaced, with its length's filter (R217). -/
def Plane.lpmPut (p : Plane) (v6 : Bool) (i : Nat) (new : Rec) : Plane :=
  let (t, w, o) := lpmFam v6
  let old := p.tget t i
  let p := p.tput t i new
  let p := if old.f (o + 4) 0 0 = 1 then p.bloomDel v6 (old.u (o + 1) 1) (old.u o 1) else p
  if new.f (o + 4) 0 0 = 1 then p.bloomAdd v6 (new.u (o + 1) 1) (new.u o 1) (new.be 0 (w / 8)) else p

/-- A MAC entry set by management: an entry that it replaces gives its charge back (R264); a learned entry that an INSERT replaces takes a new
VERSION (R224). -/
def Plane.macPut (p : Plane) (i : Nat) (new : Rec) (insert : Bool) : Plane :=
  let (new, p) := if insert && macLearned (p.tget 4 i) then (let (v, q) := p.nextVer; (new.put 8 4 v, q)) else (new, p)
  ((p.tput 4 i new).setCharge i 0xFFFF).macPeak

/-- WRITE of a TABLES table: a STREAM or METER entry also clears the mark of its handle or meter (R181, R182). -/
def Plane.tblWrite (p : Plane) (x : WinCmd) (size : Nat) : Plane :=
  let r := Rec.ofBytes (x.data.take size)
  if x.table = 4 then p.macPut x.idx r false
  else if x.table = 5 ∨ x.table = 6 then p.lpmPut (winV6 x.table) x.idx r
  else
    let p := p.tput x.table x.idx r
    if x.table = 11 then p.onStream x.idx (fun s => { s with blocked := false })
    else if x.table = 12 then p.onFwd (fun f => { f with meters := sput (fun _ => none) f.meters x.idx none })
    else p

/-- INSERT: the entry with the key updated in place, or placed in the lowest free way (R224); STATUS. -/
def Plane.tblInsert (p : Plane) (x : WinCmd) (size : Nat) : Plane × Nat :=
  let v6 := winV6 x.table
  let (_, w, o) := lpmFam v6
  let d := Rec.ofBytes (x.data.take size)
  let r := if x.table = 4 then d.putF 14 0 0 1 else d.putF (o + 4) 0 0 1
  let free := if x.table = 4 then p.macFree (d.u 6 2) (d.be 0 6) else p.lpmFree v6 (d.u (o + 1) 1) (d.u o 1) (d.be 0 (w / 8))
  match (p.keyIndex x.table x.data).or free with
  | none => (p, 2)
  | some i => ((if x.table = 4 then p.macPut i r true else p.lpmPut v6 i r).setWinIdx x.block x.win i, 0)

/-- DELETE (R224); STATUS. -/
def Plane.tblDelete (p : Plane) (x : WinCmd) : Plane × Nat :=
  match p.keyIndex x.table x.data with
  | none => (p, 1)
  | some i => (if x.table = 4 then p.macRemove i 3 else p.lpmPut (winV6 x.table) i 0, 0)

/-- A TABLES command at its TICK; STATUS. -/
def Plane.tblApply (p : Plane) (x : WinCmd) : Plane × Nat :=
  let size := ((winSize 0 x.table).getD (0, 0)).2
  if x.cmd = 2 then (p.tblWrite x size, 0)
  else if x.cmd = 3 then p.tblInsert x size
  else p.tblDelete x

/-- A TENANT command at its TICK (R253, R259, R269, R273); STATUS. -/
def Plane.tenApply (p : Plane) (x : WinCmd) : Plane × Nat :=
  let d := fun (o n : Nat) => bytesAt x.data o n
  if x.cmd = 6 then (if p.tenState x.idx = 1 then (p.unbind x.idx 3, 0) else (p, 3))
  else if x.cmd = 7 then (p.onCtx x.idx (fun r => (r.putF 33 0 0 0).put 84 1 0), 0)
  else if x.cmd = 8 then
    (p.onCtx x.idx (fun r => ((((((r.put 88 8 0).put 96 8 0).put 104 4 0).put 108 4 0).put 112 4 0).put 116 4 0).put 120 4 0), 0)
  else if x.table = 3 then
    (p.tupd 19 x.idx (fun r => (((r.put 0 4 (min (d 12 4) (max (d 8 4) (d 0 4)))).put 4 4 (d 4 4)).put 8 4 (d 8 4)).put 12 4 (d 12 4)), 0)
  else (p.tupd 20 x.idx (fun r => ((r.putF 0 0 0 (d 0 1 % 2)).put 2 2 (d 2 2)).put 4 2 (d 4 2)), 0)

/-- The waiting commands of a block applied in admission order, each ending its PENDING. -/
def Plane.winApply (p : Plane) (block : Nat) : Plane :=
  let xs := p.fwd.cmds.filter (fun x => x.block = block)
  let p := p.onFwd (fun f => { f with cmds := f.cmds.filter (fun x => x.block ≠ block) })
  xs.foldl (fun p x =>
    let (p, st) := if block = 0 then p.tblApply x else p.tenApply x
    p.winStat block x.win false st) p

end Sys2Proof

namespace Sys2Proof.Machine

/-- A window command at its admission position in each plane that runs. -/
def winAll (f : Field) (block n cmd : Nat) : Field := f.onRunning (fun q => (q.winCmd block n cmd).1)

/-- TBL_READ (R224). -/
def execTblRead (n : Fin 4) (s : State) : Host.Outcome State Fault Refusal := s.ok (winAll s.f 0 n.val 1)

/-- TBL_WRITE (R224). -/
def execTblWrite (n : Fin 4) (s : State) : Host.Outcome State Fault Refusal := s.ok (winAll s.f 0 n.val 2)

/-- TBL_INSERT (R224). -/
def execTblInsert (n : Fin 4) (s : State) : Host.Outcome State Fault Refusal := s.ok (winAll s.f 0 n.val 3)

/-- TBL_DELETE (R224). -/
def execTblDelete (n : Fin 4) (s : State) : Host.Outcome State Fault Refusal := s.ok (winAll s.f 0 n.val 4)

/-- TBL_SEARCH (R224). -/
def execTblSearch (n : Fin 4) (s : State) : Host.Outcome State Fault Refusal := s.ok (winAll s.f 0 n.val 5)

/-- THR_WINDOW_READ (R250). -/
def execThrWindowRead (n : Fin 4) (s : State) : Host.Outcome State Fault Refusal := s.ok (winAll s.f 1 n.val 1)

/-- THR_WINDOW_WRITE (R250). -/
def execThrWindowWrite (n : Fin 4) (s : State) : Host.Outcome State Fault Refusal := s.ok (winAll s.f 1 n.val 2)

/-- TEN_READ (R273). -/
def execTenRead (n : Fin 4) (s : State) : Host.Outcome State Fault Refusal := s.ok (winAll s.f 2 n.val 1)

/-- TEN_WRITE (R273). -/
def execTenWrite (n : Fin 4) (s : State) : Host.Outcome State Fault Refusal := s.ok (winAll s.f 2 n.val 2)

/-- UNBIND (R259, R273). -/
def execUnbind (n : Fin 4) (s : State) : Host.Outcome State Fault Refusal := s.ok (winAll s.f 2 n.val 6)

/-- CLEAR_BABBLE (R269, R273). -/
def execClearBabble (n : Fin 4) (s : State) : Host.Outcome State Fault Refusal := s.ok (winAll s.f 2 n.val 7)

/-- ZERO (R253, R273). -/
def execZeroCounters (n : Fin 4) (s : State) : Host.Outcome State Fault Refusal := s.ok (winAll s.f 2 n.val 8)

/-! Scrubbing (R221, R222). -/

/-- Whether a plane has a partner to fetch table entries from: both in running roles (R222). -/
def partnered (f : Field) : Bool := f.e.roleA.running && f.e.roleB.running

/-- The truss's own value of a table entry, as a fresh load gives it (R222). -/
def trussEntry (q : Plane) (t i : Nat) : Rec := q.loadTables.tget t i

/-- Where the model holds entry `i` of window table `t`: a TENANT entry is part of its context (R219). -/
def scrubTable (t : Nat) : Nat := if t = 7 then 17 else t

/-- The window table of a table of the model. -/
def windowTable (t : Nat) : Nat := if t = 17 then 7 else t

/-- A bad entry repaired from the plane's own sources (R222): a learned MAC entry removed, a truss-set entry rewritten. Of a context only the
32 bytes of its TENANT entry are one of the tables (R219); LEARN_COUNT follows the charges. -/
def ownRepair (q : Plane) (t i : Nat) : Plane :=
  if t = 4 ∧ macLearned (q.tget 4 i) then q.macRemove i 4
  else
    let v := trussEntry q (scrubTable t) i
    if t = 7 then (q.onCtx i (fun r => r.put 0 32 (v.u 0 32))).setLearnCount i else q.tput t i v

/-- TABLE_SCRUB: what the scrubber finds at an entry of a plane's tables: 0 nothing, 1 a single-bit error, 2 a bad entry, which is held until
the other plane's copy arrives, or repaired from the plane's own sources where it has no partner; 3 stands for an entry that goes bad after
its visit, which the next lookup that reads it meets (R221, log entry 95). -/
def execTableScrub (p : PlaneId) (t : Fin 16) (i : Fin 524288) (found : Fin 4) (s : State) : Host.Outcome State Fault Refusal :=
  let key := tkey (scrubTable t.val) i.val
  if found.val = 0 then s.ok s.f
  else if found.val = 3 then s.ok (s.f.onPlane p (·.onFwd (fun f => { f with bad := f.bad.filter (· ≠ key) ++ [key] })))
  else if found.val = 1 then s.ok ((s.f.onPlane p (·.onRegs (·.inc TBL_ECC_CORR))).onE (·.info (planeSrc p 12)))
  else if partnered s.f then s.ok (s.f.onPlane p (·.onFwd (fun f => { f with held := f.held ++ [key], bad := f.bad.filter (· ≠ key) })))
  else
    let f := s.f.onPlane p (fun q => (ownRepair q t.val i.val).onRegs (·.inc TBL_REPAIRED))
    s.ok (f.onE (·.info (planeSrc p 12)))

/-- An entry of the other plane as it stood at a tick (R221). -/
def entryAsOf (q : Plane) (key tick : Nat) : Rec :=
  match q.fwd.old.find? (fun o => decide (o.2.1 = key ∧ tick < o.1)) with
  | some o => o.2.2
  | none => sget tabDef q.fwd.tab key

/-- TABLE_REPAIR_REPLY: the other plane's copy of the first held entry arrives; the entry is rewritten and released (R221). Where the partner has
gone, the fetch has ended with RESTARTED and the plane repairs the entry itself (R411, R222). -/
def execTableRepairReply (p : PlaneId) (s : State) : Host.Outcome State Fault Refusal :=
  match (s.f.plane p).fwd.held with
  | [] => s.ok s.f
  | key :: rest =>
    let f := s.f.onPlane p (fun q =>
      let q := (q.onFwd (fun x => { x with held := rest, bad := x.bad.filter (· ≠ key) })).onRegs (·.inc TBL_REPAIRED)
      if partnered s.f then q.onFwd (fun x => { x with tab := sput tabDef x.tab key (entryAsOf (s.f.plane p.other) key q.st.tick) })
      else ownRepair q (windowTable (key / 2 ^ 20)) (key % 2 ^ 20))
    s.ok (f.onE (·.info (planeSrc p 12)))

/-- The first difference of two planes' notices for ticks before `t` (R215). -/
def noticesDiffer (mine other : List Notice) (t : Nat) : Bool :=
  mine.filter (fun n => n.tick < t) ≠ other.filter (fun n => n.tick < t)

/-- A REJOINING plane with its snapshot takes the leader's notices of the ticks that it has passed itself as part of its delta (R214, R215);
those are repeats of what the stream has done in it, and decide where the two cross. -/
def takeNotices (f : Field) (p : PlaneId) (t : Nat) : Field :=
  if f.e.role p = .rejoining ∧ (f.plane p).st.takes = true ∧ (f.plane p).st.newT = false then
    f.onPlane p (fun q => ((f.plane p.other).fwd.outbox.filter (fun n => n.tick < t)).foldl Plane.applyNotice q)
  else f

/-- LEARNING_NOTICE_RECEIVED (R215): the other plane's notices compared with the plane's own for the ticks that both have passed; the first
difference is the shadow plane's fault LEARN_SYNC. Planes on different trusses do not compare. A REJOINING plane applies them. -/
def execLearningNoticeReceived (p : PlaneId) (s : State) : Host.Outcome State Fault Refusal :=
  let a := s.f.plane p
  let b := s.f.plane p.other
  let t := min a.st.tick b.st.tick
  let took := (takeNotices s.f p t).onPlane p (fun q => q.onFwd (fun x => { x with mine := x.mine.filter (fun n => t ≤ n.tick) }))
  let f := took.onPlane p.other (fun q => q.onFwd (fun x => { x with outbox := x.outbox.filter (fun n => t ≤ n.tick) }))
  match f.e.shadow with
  | some sh =>
    if partnered s.f = true ∧ a.st.newT = false ∧ b.st.newT = false ∧ noticesDiffer a.fwd.mine b.fwd.outbox t = true then s.ok (f.raisePlane sh 10)
    else s.ok f
  | none => s.ok f

end Sys2Proof.Machine
end

