-- ==== Sys2Proof/Machine/PlaneTick.lean ====
section
/-!
DEFINITION. What a plane does at a TICK, in the order of the manual: tables (R199), tenants (R260), the governor's windows (R265), recovery
functions (R186), transport sessions (R127), Thatcher (R247), queue ages (R169), the tap's ring (R193), networks (R476-R481).
-/

namespace Sys2Proof

/-! Networks (R474-R481). -/

/-- The identity of a keep-alive as an ID field of 8 bytes (R478). -/
def idField (kind id : Nat) : List Byte := leBytes 8 (if kind = 0 then 0 else id)

/-- The entry of a holder table with a key, if any (R479). -/
def holderAt (x : Net) (kind id : Nat) : Option Nat :=
  findIdx (fun k => ((sget (fun _ => none) x.table k).elim false (fun (h : Holder) => h.kind = kind && h.id = id))) 8

/-- The lowest free entry of a holder table. -/
def holderFree (x : Net) : Option Nat := findIdx (fun k => (sget (fun _ => (none : Option Holder)) x.table k).isNone) 8

/-- One millisecond booked to a network's holder (R479). -/
def Net.accrue (x : Net) : Net :=
  let other : Net := { x with otherMs := satAdd 32 x.otherMs 1 }
  if x.kind = 0 then other
  else
    match holderAt x x.kind x.id with
    | some k => { x with table := supd (fun _ => none) x.table k (Option.map (fun (h : Holder) =>
        { h with runMs := satAdd 32 h.runMs 1, tenant := x.tenant })) }
    | none =>
      match holderFree x with
      | some k => { x with table := sput (fun _ => none) x.table k (some ⟨x.kind, x.id, x.tenant, 1, false⟩) }
      | none => other

/-- The entry with the largest RUN_MS, the lowest on a tie (R479). -/
def topHolder : List (Nat × Option Holder) → Option Holder
  | [] => none
  | (_, none) :: es => topHolder es
  | (_, some h) :: es =>
    match topHolder es with
    | some g => if h.runMs < g.runMs then some g else some h
    | none => some h

/-- Whether an entry has reached its template's HOLD_THRESH and is not LOGGED (R480). -/
def Plane.holdDue (p : Plane) (h : Holder) : Bool :=
  let th := (p.tplOf h.tenant).u 52 4
  !h.logged && p.tenState h.tenant ≠ 0 && th ≠ 0 && decide (th ≤ h.runMs)

/-- HOLD_THRESHOLD (R480): LOGGED, EVENT HOLD_LONG and a LEGAL NETSLEEP record. -/
def Plane.holdLog (p : Plane) (i k : Nat) (h : Holder) : Plane :=
  let d := leBytes 1 i ++ leBytes 1 h.kind ++ leBytes 2 h.tenant ++ leBytes 4 h.runMs ++ idField h.kind h.id
  let p := { p with nets := supd (fun _ => Net.init) p.nets i (fun (x : Net) =>
    { x with table := sput (fun _ => none) x.table k (some { h with logged := true }) }) }
  (p.event 0x0803 noId noId d).legalEvent 0x000E d

/-- Every due entry of a network logged. -/
def Plane.holdLogs (p : Plane) (i : Nat) : Plane :=
  (Machine.netOf p i).table.foldl (fun p e =>
    match e.2 with
    | some h => if p.holdDue h then p.holdLog i e.1 h else p
    | none => p) p

/-- QUIET_S of a network in ticks (R476, R498). -/
def quietTicks (r : Rec) : Nat := (if r.u 1 1 = 0 then 2 else r.u 1 1) * 100000

/-- GOSLEEP issued to the LIN commanders of a network that are not ASLEEP (R481): the planes write it through R33. -/
def Plane.linGosleep (p : Plane) (r : Rec) : Plane :=
  (List.range 128).foldl (fun p n =>
    if bit (r.u 16 32) n ∧ (slotRec p.truss n).u 0 1 = 4 ∧ (slotRec p.truss n).f 1 4 4 ≠ 0 ∧
      (sget (fun _ => BusModel.init) p.bus n).asleep = false then
      (p.linIssued (slotBase n + SLOT_LIN_SCHED) (BitVec.ofNat 32 (2 ^ 31))).fwWrite (slotBase n + SLOT_LIN_SCHED) (2 ^ 31) else p) p

/-- A network at an evaluation TICK (R476, R477, R479-R481). -/
def Plane.netEval (p : Plane) (t i : Nat) : Plane :=
  let r := Machine.netRec p.truss i
  let x := Machine.netOf p i
  let p := if x.prevAwake then
      let p := if x.kind ≠ 0 ∧ p.tenState x.tenant ≠ 0 then p.ctxAdd x.tenant 72 4 1 else p
      { p with nets := supd (fun _ => Net.init) p.nets i Net.accrue }
    else p
  let p := p.holdLogs i
  let x := Machine.netOf p i
  let ready := decide (x.lastKa + quietTicks r ≤ t)
  let y : Net := if ready then { x with ready := true, prevAwake := false, table := [], otherMs := 0 }
    else { x with ready := false, prevAwake := true }
  let p := { p with nets := sput (fun _ => Net.init) p.nets i y }
  if ready = true ∧ x.ready = false then
    let d := match topHolder x.table with
      | some h => leBytes 1 h.kind ++ leBytes 2 h.tenant ++ leBytes 4 h.runMs ++ idField h.kind h.id
      | none => leBytes 1 0 ++ leBytes 2 0xFFFF ++ leBytes 12 0
    let p := p.event 0x0801 noId noId (leBytes 1 i ++ d)
    if r.f 0 1 1 = 1 then p.linGosleep r else p
  else if ready = false ∧ x.ready = true then
    p.event 0x0802 noId noId (leBytes 1 i ++ leBytes 1 x.kind ++ leBytes 2 x.tenant ++ leBytes 4 0 ++ idField x.kind x.id)
  else p

/-- NETWORK_EVALUATE at an evaluation TICK, in ascending index (R476). -/
def Plane.netTick (p : Plane) (t : Nat) : Plane := (List.range (Machine.netCount p.truss)).foldl (fun p i => p.netEval t i) p

/-! The TICK. -/

/-- Thatcher's windows applied at a TICK (R247, R250). -/
def Plane.thrWindows (p : Plane) (c : Cause) : Plane :=
  let ws := (p.fwd.cmds.filter (fun x => x.block = 1)).map (fun x => x.win)
  let p := p.thrTick c
  let p := p.onFwd (fun f => { f with cmds := f.cmds.filter (fun x => x.block ≠ 1) })
  ws.foldl (fun p w => p.winStat 1 w false 0) p

/-- Tables at TICK `t`: windows, learning, aging, renewal (R199). -/
def Plane.tablesTick (p : Plane) (t : Nat) : Plane :=
  let p := (p.winApply 0).learnTick
  let p := if p.agingPoint t then p.ageTick else p
  (if t % 100000 = 0 then p.renewTick else p)

/-- Tenants at TICK `t`: commands, unbindings, bindings, the windows of the governor (R260, R265). -/
def Plane.tenantsTick (p : Plane) (t : Nat) : Plane :=
  let p := ((p.winApply 2).unbindTick t).bindTick
  (if t % 1000 = 0 then p.govTick t else p).countPorts

/-- The firmware reads the PPS_IN capture at a TICK whose number is a multiple of 10,000 (R391, R33). -/
def Plane.servoTick (p : Plane) (t : Nat) : Plane :=
  if t % 10000 = 0 ∧ p.host.kindling = false then Machine.ppsRegs.foldl (fun p a => p.access firmware a none) p else p

/-- What a plane does when it consumes TICK `sh`. -/
def Plane.atTick (p : Plane) (sh : Shingle) : Plane :=
  let t := bytesAt sh.body 0 8
  let p := { p with st := { p.st with tick := t, tickStream := sh.stream } }
  let p := (p.tablesTick t).tenantsTick t
  let p := ((p.cbTick t).tpTick sh t).thrWindows ⟨sh.ts, sh.stream, t⟩
  let p := (((p.servoTick t).lacpTick t).ageQueues (p.std sh.ts)).tapTick
  if t % 100 = 0 then p.netTick t else p

end Sys2Proof
end

