-- ==== Sys2Proof/Machine/PlaneTake.lean ====
section
/-!
DEFINITION. How a plane takes the stream: TICK, RAND and CTRL shingles (R28-R30). A TICK, a RAND or a CTRL shingle without a command of its
own is taken as soon as it stands at the head of a plane's Rafter; a unit, a HOST shingle and the CTRL codes LINK_DOWN, PORT_RESTART
and REG_READ wait for their command.
-/

namespace Sys2Proof

/-- The head of the Rafter taken: the plane's stream position (R23, R31). -/
def Plane.popHead (p : Plane) (sh : Shingle) : Plane :=
  { p with st := { p.st with inbox := p.st.inbox.drop 1, stream := sh.stream, ts := sh.ts } }

/-- A RAND payload joins the 4 KiB entropy pool; the oldest bytes leave (R29). -/
def Plane.takeRand (p : Plane) (sh : Shingle) : Plane :=
  let pool := p.st.pool ++ sh.body
  Machine.serveRand (({ p with st := { p.st with pool := pool.drop (pool.length - 4096) } } : Plane).onKiln (fun k => { k with randSeen := true }))

/-- The LEADING plane that a ROLE payload names. -/
def roleLeader (b : List Byte) : Option PlaneId :=
  if bytesAt b 2 1 = 1 then some .A else if bytesAt b 3 1 = 1 then some .B else none

/-- CTRL ROLE (R425): EVENT ROLE; a change of the LEADING plane may trigger an incident (R363); a failed attempt is reported (R419, R423). -/
def Plane.takeRole (p : Plane) (sh : Shingle) : Plane :=
  let p := p.event 0x0401 noId noId ((sh.body.drop 2).take 6)
  let now := roleLeader sh.body
  let p := if p.st.leadSeen.isSome ∧ now.isSome ∧ p.st.leadSeen ≠ now then p.triggerOn 0 else p
  let p := { p with st := { p.st with leadSeen := now } }
  let own := bytesAt sh.body (2 + p.st.me.num) 1
  let p := { p with host := { p.host with roleSeen := own, tellRole := p.host.tellRole || decide (own ≠ p.host.roleSeen) } }
  match sh.info with
  | [pl, stage, fails, held] =>
    let p := p.event 0x0404 noId noId [pl, stage, fails]
    if held = 1 then p.event 0x0405 noId noId [pl] else p
  | _ => p

/-- CTRL NOTICE (R543). -/
def Plane.takeNotice (p : Plane) (sh : Shingle) : Plane :=
  let b := sh.body
  let kind := bytesAt b 2 1
  if kind = 1 then p.event 0x0402 noId noId ((b.drop 4).take 6)
  else if kind = 2 then p.event 0x0403 noId noId ((b.drop 4).take 16)
  else
    let p := p.onRegs (fun m => (m.inc GOV_PROT_CNT).wr GOV_PROT_LAST (BitVec.ofNat 32 (bytesAt b 4 4)))
    p.event 0x0205 noId noId ((b.drop 4).take 4)

/-- A network's LAST_KA at a wake (R476): its holder is KIND NONE. -/
def Net.woken (x : Net) (t : Nat) : Net := { x with lastKa := t, kind := 0, id := 0, tenant := 0xFFFF }

/-- CTRL MODE (R473): EVENT MODE. START has the plane's part of the sleep follow with the next TICK (R451, R453). DONE of a wake sets every network's LAST_KA (R476) and resumes ROLLING capture; DONE of a KINDLING ends
it for the planes. -/
def Plane.takeMode (p : Plane) (sh : Shingle) : Plane :=
  let b := sh.body
  let p := p.event 0x0701 noId noId ((b.drop 2).take 10)
  let p := if bytesAt b 2 1 = 1 then { p with st := { p.st with sleep := some (decide (bytesAt b 4 1 = 4)) } } else p
  let done := bytesAt b 2 1 = 2 ∧ bytesAt b 4 1 = 1
  let p := if done ∧ bytesAt b 6 1 = 3 then
      let t := p.tickAt sh.ts
      let p := { p with nets := (List.range (Machine.netCount p.truss)).foldl (fun m i =>
        supd (fun _ => Net.init) m i (fun (x : Net) => x.woken t)) p.nets }
      p.onRick (fun r => { r with noTap := false })
    else p
  if done ∧ bytesAt b 6 1 = 6 then { p with host := { p.host with kindling := false } } else p

/-- CTRL WAKE (R481, R485): EVENT WAKE with the PTP seconds of the wake; NS_WAKE_EXTRA counts the other sources. With NOT_DEVICE it is a
keep-alive of identity NONE for the slot's network. -/
def Plane.takeWake (p : Plane) (sh : Shingle) : Plane :=
  let b := sh.body
  if bit (bytesAt b 3 1) 0 then
    let n := bytesAt b 4 2
    (p.onBus n (fun m => { m with asleep := false })).keepAlive n 0 0 0xFFFF
  else
    let others := bytesAt b 6 2
    let p := p.onRegs (·.addCnt NS_WAKE_EXTRA ((List.range 16).filter (fun i => bit others i)).length)
    p.event 0x0705 noId noId ((b.drop 2).take 1 ++ leBytes 1 0 ++ (b.drop 4).take 2 ++
      leBytes 8 (p.servo.base + bytesAt b 8 8 / 10 ^ 9))

/-- CTRL SUPPLY (R464, R374, R321): at a warning a SEAL, the head and the Kiln's region are committed and drive writes pause; the clearing
makes the LEGAL record SUPPLY_DIP. -/
def Plane.takeSupply (p : Plane) (sh : Shingle) : Plane :=
  let b := sh.body
  let p := p.event 0x0702 noId noId ((b.drop 2).take 14)
  if bytesAt b 2 1 = 1 then
    let p := if 0 < p.unsealed then p.seal else p
    let p := if p.runsJournal then
        (p.commitAll false true (p.rick.recs.length + 1)).showHead.onRegs (·.set 0 RICK_STAT_STATE 3)
      else p
    let p := p.onRick (fun r => { r with warnTick := some p.st.tick, warnTs := bytesAt b 8 8 })
    (p.kilnCommit.triggerOn 2).onRegs (·.inc RICK_WARN_CNT)
  else
    let p := p.legalEvent 0x0008 ((b.drop 8).take 8 ++ (b.drop 4).take 4 ++ leBytes 4 0)
    let p := p.onRick (fun r => { r with warnTick := none, warnLong := false })
    if p.runsJournal then p.onRegs (·.set 0 RICK_STAT_STATE 2) else p

/-- CTRL BATTEN (R492, R493): EVENT BATTEN_BREAK or BATTEN_RESTORED at a change. -/
def Plane.takeBatten (p : Plane) (sh : Shingle) : Plane :=
  let b := sh.body
  if sh.info = [1] then p.event 0x0804 noId noId ((b.drop 2).take 1 ++ (b.drop 5).take 1 ++ (b.drop 3).take 1)
  else if sh.info = [2] then p.event 0x0805 noId noId ((b.drop 2).take 1)
  else p

/-- The models of a plane's Ethernet ports at a step of `d` ns: gates stay as they are, spans go on (R178, R388). -/
def Plane.stepModels (p : Plane) (d : Int) : Plane :=
  let mv := fun (t : Nat) => ((t : Int) + d).toNat
  p.fwd.models.foldl (fun p e =>
    let m := (p.model e.1).runTo (p.modelCfg e.1) (((p.st.ts : Int) - d).toNat)
    p.setModel e.1 { m with
      now := mv m.now
      sending := m.sending.map (fun x => (x.1, x.2.1, mv x.2.2))
      frozen := (p.modelCfg e.1).freeze m.frozen m.now (mv m.now)
      gateFrom := min m.gateFrom (mv m.now) }) p

/-- CTRL TIME_ADJUST (R388, R389). -/
def Plane.takeTime (p : Plane) (sh : Shingle) : Plane :=
  let old := p.st.stepSum
  let p := p.takeTimeAdjust sh
  if p.st.stepSum = old then p else p.stepModels (p.st.stepSum - old)

/-- A CTRL shingle without a command of its own, the CUT apart (R30). -/
def Plane.takeCtrl (p : Plane) (sh : Shingle) : Plane :=
  let b := sh.body
  let c := sh.ctrlCode
  if c = 1 then (if isEthT1s sh.port then p.portLinked sh.port (bytesAt b 2 1) else p)
  else if c = 5 then p.takeRole sh
  else if c = 7 then p.takeMode sh
  else if c = 8 then p.takeTime sh
  else if c = 9 then p.takeWake sh
  else if c = 0xA then p.takeBatten sh
  else if c = 0xB then (if sh.port < 128 then p.busRate sh.port (bytesAt b 4 4) else p)
  else if c = 0xC then (if bytesAt b 2 1 = 2 then p.triggerOn 1 else p)
  else if c = 0xE then p.takeSupply sh
  else if c = 0xF then p.takeNotice sh
  else p

/-- An old-truss plane past the CUT at a TICK: what it holds of earlier causes resolves, ages and leaves (R88). -/
def Plane.pastTick (p : Plane) (sh : Shingle) : Plane :=
  let t := bytesAt sh.body 0 8
  let p := { p with st := { p.st with tick := t, tickStream := sh.stream } }
  ((p.resolveTick ⟨sh.ts, sh.stream, t⟩).1.ageQueues (p.std sh.ts)).tapTick

/-- The CUT in a plane (R87): the new truss is ACTIVE in its slot record, TRUSS_CUT_STREAM is the CUT's STREAM. The new-truss plane drops
recovery state, looks again at its bindings (R186, R259) and stamps its initial values with the TICK before the CUT (R225); the other plane makes no output for a later cause. -/
def Plane.takeCut (p : Plane) (sh : Shingle) : Plane :=
  let old := parseTruss p.nv.activeFlash.image
  let p := p.activateOther.onRegs (·.wr64 TRUSS_CUT_STREAM_LO sh.stream)
  if p.st.newT then (((p.dropRecovery.cutTimings).gatesNow (gatesSame old p.truss)).stampLoad.startRick).recordGeom
  else { p with st := { p.st with past := true } }

/-- The oldest cause that a plane has still queued, or its position (R88). -/
def Plane.oldestCause (p : Plane) : Nat :=
  let qs := p.fwd.queues.flatMap (fun e => e.2.map (fun (u : QUnit) => u.sh.stream))
  let hs := p.thr.prov.map (fun x => x.held.unit.stream)
  let ms := (p.host.out.filter (fun m => streamOf m.cls = 1)).map (·.cause)
  (qs ++ hs ++ ms ++ p.st.up.map (·.cause)).foldl min p.st.stream

/-- Whether a shingle waits for a command of its own. -/
def Shingle.ownCommand (sh : Shingle) : Bool :=
  match sh.utype with
  | .tick => false
  | .rand => false
  | .ctrl => sh.ctrlCode = 2 || sh.ctrlCode = 3 || sh.ctrlCode = 4
  | _ => true

end Sys2Proof

namespace Sys2Proof.Machine

/-- The leader's state kept for a copy just before TICK J (R420). -/
def keepSnap (f : Field) (p : PlaneId) (sh : Shingle) : Field :=
  match f.copy with
  | some c =>
    if c.plane = p.other ∧ c.snap.isNone = true ∧ sh.utype = .tick ∧ tickOf sh = c.j then
      { f with copy := some { c with snap := some (f.plane p) } }
    else f
  | none => f

/-- The plane's part of a sleep entry at the first TICK after CTRL MODE START (R451 step 2, R453 step 2). -/
def sleepTake (q : Plane) : Plane :=
  match q.st.sleep with
  | some clean => planeSleep { q with st := { q.st with sleep := none } } clean
  | none => q

/-- A TICK taken by a plane; while ARMED the old plane reports its oldest cause, and older held candidates are discarded (R88). -/
def tickTake (f : Field) (p : PlaneId) (sh : Shingle) : Field :=
  let f := f.onPlane p (fun q => sleepTake (if q.st.past then q.pastTick sh else q.atTick sh))
  if f.phase = 4 ∧ f.e.role p = .leading then
    let o := (f.plane p).oldestCause
    let f := { f with turn := { f.turn with oldest := o } }
    let f := f.onE (fun e => { e with sel := { e.sel with hold := e.sel.hold.filter (fun c => !c.newTruss || decide (o ≤ c.cause)) } })
    f.onH (fun h => { h with hold := h.hold.filter (fun x => !heldBulk p.other x.2.ep x || decide (o ≤ x.2.cause)) })
  else f

/-- The CUT taken by a plane; DRAINING begins as the old plane takes it (R84, R87). What the selector holds of earlier causes stays held until
its port has passed, since R89 sends it if the old plane faults before (log entry 80). -/
def cutTake (f : Field) (p : PlaneId) (sh : Shingle) : Field :=
  let f := checkStraps (f.onPlane p (·.takeCut sh)) p
  if f.e.role p = .leading ∧ f.phase = 4 then
    (f.onE (fun e => { e with sel := { e.sel with gone := [], cut := sh.stream + 1 } })).setPhase 5 f.turn.newVer
  else f

/-- CTRL ROLE taken by a plane: at its JOIN a plane sends from here on (R422). -/
def roleTake (f : Field) (p : PlaneId) (sh : Shingle) : Field :=
  let f := f.onPlane p (·.takeRole sh)
  if bytesAt sh.body 4 1 = 4 ∧ (f.plane p).st.fill = true ∧ f.e.role p = .shadow then
    f.onPlane p (fun q => { q with st := { q.st with sends := true, fill := false } })
  else f

/-- A shingle without a command of its own taken by a plane. -/
def takeOne (f : Field) (p : PlaneId) (sh : Shingle) : Field :=
  let f := (keepSnap f p sh).onPlane p (·.popHead sh)
  let f := match sh.utype with
    | .tick => tickTake f p sh
    | .rand => f.onPlane p (·.takeRand sh)
    | .ctrl =>
      if sh.ctrlCode = 5 then roleTake f p sh
      else if sh.ctrlCode = 6 then cutTake f p sh
      else f.onPlane p (·.takeCtrl sh)
    | _ => f
  f.onPlane p (·.releaseAll)

/-- Whether a plane takes the stream now: a plane that fills its catch-up buffer waits for the snapshot (R420), and one that stands at an
admitted message acts on it first (R44). -/
def taking (f : Field) (p : PlaneId) : Bool := (f.plane p).ready

/-- A plane takes what stands at its Rafter without a command of its own; at most `fuel` shingles. -/
def settlePlane (p : PlaneId) : Nat → Field → Field
  | 0, f => f
  | fuel + 1, f =>
    if taking f p then
      match (f.plane p).st.inbox with
      | [] => f
      | sh :: _ => if sh.ownCommand then f else settlePlane p fuel (takeOne f p sh)
    else f

/-- Both planes take what needs no command. -/
def settle (f : Field) : Field :=
  let f := settlePlane .A f.a.st.inbox.length f
  settlePlane .B f.b.st.inbox.length f

end Sys2Proof.Machine
end

