-- ==== Sys2Proof/Machine/Truss.lean ====
section
/-!
DEFINITION. Staging, verification and turns (R73-R76, R83-R89): the commands of the TRUSS block and the steps of a turn up to
ARMED. The cut, the draining of ports and the carry of state stand with the stream (Turn.lean).
-/

namespace Sys2Proof.Machine

/-- SAFE that stands because no truss passes in either plane (R69): hold NO_TRUSS. -/
def noTruss (f : Field) : Bool := f.e.mode = .safe && bit f.e.seqr.holds 2

/-- Staging needs LEADING and SHADOW planes, no turn, SERVICE or WORKSHOP (R76); in a SAFE that stands because no truss passes, it
is open as well, since a staging ends that state (R69, log entry 40). -/
def stagingOk (f : Field) : Bool := (f.e.leader.isSome && f.e.shadow.isSome && f.phase = 0 && f.e.serving) || noTruss f

/-- An action of TRUSS_STAGE_CTL under its guard (R58, R59). Without a truss there is neither tenant nor session, and the guard stands open
(log entry 40). -/
def guarded (f : Field) (tenant : Nat) (g : Field → Field) : Field :=
  if f.lead.hasSession tenant || noTruss f then g f else guardMiss f

/-- A write of OPEN (R75). -/
def trussOpen (f : Field) (tenant : Nat) : Field :=
  guarded f tenant (fun f =>
    if stagingOk f then
      f.onBoth (fun q => ({ q with nv := q.nv.setFlash (1 - q.nv.slotRec.active) FlashSlot.erased } : Plane).setOther 1 0 0)
    else f.onBoth (·.stageRefused))

/-- TRUSS_OPEN (R75). -/
def execTrussOpen (tenant : Fin 4096) (s : State) : Host.Outcome State Fault Refusal := s.ok (trussOpen s.f tenant.val)

/-- A plane programs a chunk, or reports it (R75, R301). -/
def planeChunk (q : Plane) (m : RMsg) : Plane :=
  let off := bytesAt m.body 0 4
  let bs := m.body.drop 8
  if q.nv.slotRec.otherState ≠ 1 then q.postedError m 1
  else if 33554432 < off + bs.length then q.postedError m 2
  else if off % 64 ≠ 0 then q.postedError m 3
  else
    ({ q with nv := q.nv.setFlash (1 - q.nv.slotRec.active) (q.nv.otherFlash.program off bs) } : Plane).showTruss

/-- TRUSS_CHUNK (R75): a posted TRUSS message: OFFSET, four reserved bytes, the chunk. In SAFE nothing is admitted (R306); where no truss passes
the chunk goes to both planes as it comes, since a staging ends that state (R69, log entry 40). -/
def execTrussChunk (ep : Fin 8) (tenant : Fin 4096) (tag offset : Nat) (data : List Byte) (s : State) : Host.Outcome State Fault Refusal :=
  let m : RMsg := ⟨ep.val, clsTruss, tenant.val, true, false, true, false, 0, tag, leBytes 4 offset ++ leBytes 4 0 ++ data, 0⟩
  if noTruss s.f then s.ok (s.f.onBoth (planeChunk · m))
  else s.ok (s.f.onAdmitted ep.val tenant.val clsTruss tag (fun b => bytesAt b 0 4 = offset && decide (b.drop 8 = data)) (planeChunk · m))

/-- A write of VERIFY (R73, R75). -/
def trussVerify (f : Field) (tenant : Nat) : Field :=
  guarded f tenant (fun f =>
    if stagingOk f then f.onBoth (fun q => q.setOther 2 0 q.nv.slotRec.otherVer) else f.onBoth (·.stageRefused))

/-- TRUSS_VERIFY (R73). -/
def execTrussVerify (tenant : Fin 4096) (s : State) : Host.Outcome State Fault Refusal := s.ok (trussVerify s.f tenant.val)

/-- The life-cycle state whose keys a verification accepts: the TARGET of an armed transition, else the present one (R328). -/
def keyState (q : Plane) (o : Otp) : Nat :=
  if q.regs.get 0 KILN_LC_STAT_ARMED = 1 then q.regs.get 0 KILN_LC_STAT_TARGET else o.lc

/-- Steps 1-7 of R73 on a plane's other slot. -/
def verifyOther (f : Field) (p : PlaneId) (o : Otp) : Nat :=
  let q := f.plane p
  verifySlot q.nv.otherFlash (f.verEnv p o (keyState q o) (some q.nv.slotRec.activeVer))

/-- TRUSS_VERIFY_DONE (R73): each plane's result; a plane that passes steps 1-7 compares its digest with the other's (step 8).
`flashFail` says that a program or erase operation failed during staging (ERROR 9). -/
def execTrussVerifyDone (flashFail : Bool) (s : State) : Host.Outcome State Fault Refusal :=
  let f := s.f
  if f.lead.nv.slotRec.otherState ≠ 2 then s.ok f
  else
    let own := fun (p : PlaneId) => if flashFail then 9 else verifyOther f p (match p with | .A => s.otpA | .B => s.otpB)
    let img := fun (p : PlaneId) => (f.plane p).nv.otherFlash.image
    let same := decide (Config.sha384 (img .A) = Config.sha384 (img .B))
    let err := fun (p : PlaneId) => if own p ≠ 0 then own p else if own p.other = 0 ∧ same = true then 0 else 8
    let done := fun (q : Plane) (e : Nat) =>
      q.setOther (if e = 0 then 3 else 5) e (if e = 1 ∨ e = 2 then 0 else bytesAt q.nv.otherFlash.image 8 4)
    let eA := err .A
    let eB := err .B
    let f := { f with a := done f.a eA, b := done f.b eB }
    s.ok (if eA = 0 ∧ eB = 0 ∧ f.e.mode = .safe then f.onE (·.clearHold 3) else f)

/-- A write of DISCARD (R93): refused while a turn runs. -/
def trussDiscard (f : Field) (tenant : Nat) : Field :=
  guarded f tenant (fun f => if f.phase = 0 then f.onBoth (·.setOther 0 0 0) else f.onBoth (·.stageRefused))

/-- TRUSS_DISCARD (R93). -/
def execTrussDiscard (tenant : Fin 4096) (s : State) : Host.Outcome State Fault Refusal := s.ok (trussDiscard s.f tenant.val)

/-- A write of FLOOR_COMMIT (R74): the floor becomes the ACTIVE VERSION in its three copies; a PREVIOUS slot below it is REJECTED with
ERROR 7. -/
def floorCommit (f : Field) (tenant : Nat) : Field :=
  guarded f tenant (fun f =>
    let old := f.lead.nv.floor
    let new := f.lead.nv.slotRec.activeVer
    let f := f.onBoth (fun q =>
      let q := ({ q with nv := { q.nv with floor := new } } : Plane).showTruss
      let q := (q.legalEvent 0x0004 (leBytes 4 old ++ leBytes 4 new ++ leBytes 1 3 ++ leBytes 7 0)).event 0x0304 noId noId
        (leBytes 4 old ++ leBytes 4 new)
      if q.nv.slotRec.otherState = 4 ∧ q.nv.slotRec.otherVer < new then q.setOther 5 7 q.nv.slotRec.otherVer else q)
    f.onE (·.mirrorFloor new))

/-- FLOOR_COMMIT (R74). -/
def execFloorCommit (tenant : Fin 4096) (s : State) : Host.Outcome State Fault Refusal := s.ok (floorCommit s.f tenant.val)

/-! The turn. -/

/-- The DETAIL with which a START is refused, none where the turn begins (R83). A target below the floor is no target (R74, log entry 79). -/
def turnRefusal (f : Field) (cold : Bool) : Option Nat :=
  let target := fun (q : Plane) => q.nv.slotRec.otherState = 3 || q.nv.slotRec.otherState = 4
  if f.e.leader.isNone ∨ f.e.shadow.isNone then some (if f.phase ≠ 0 then 5 else 1)
  else if f.e.serving = false then some 2
  else if f.phase ≠ 0 then some 5
  else if target f.a = false ∨ target f.b = false ∨ f.otherVer < f.lead.nv.floor then some 3
  else if cold = false ∧ bytesAt f.lead.nv.otherFlash.image 48 4 ≠ f.lead.nv.slotRec.activeVer then some 4
  else none

/-- A plane of a turn goes back to its ACTIVE truss: it restarts and rejoins (R85, R89). -/
def turnBack (f : Field) (p : PlaneId) : Field :=
  let f := ({ f with e := f.e.setRole p .rejoining, copy := none } : Field).restartPlane p
  f.onE (fun e =>
    let e := (e.setStage p 1).onRj p (fun r => { r with attemptAt := e.counter, level := false })
    e.ctrlRoleNow 5 0xFFFF)

/-- A write of START (R83, R84 steps 1 and 2). -/
def turnStart (f : Field) (tenant : Nat) (cold : Bool) : Field :=
  guarded f tenant (fun f =>
    let f := f.onBoth (·.onRegs (·.setFlag 0 TRUSS_TURN_CTL_COLD_CARRY cold))
    match turnRefusal f cold, f.e.shadow with
    | some d, _ => f.setResult 7 d (f.lead.nv.slotRec.activeVer, f.otherVer)
    | none, none => f
    | none, some p =>
      let f := turnBack f p
      let f := { f with turn := { Turn.idle with newPlane := some p, oldVer := f.lead.nv.slotRec.activeVer, newVer := f.otherVer } }
      f.setPhase 1 f.turn.newVer)

/-- TURN_START (R83). -/
def execTurnStart (tenant : Fin 4096) (cold : Bool) (s : State) : Host.Outcome State Fault Refusal := s.ok (turnStart s.f tenant.val cold)

/-- A turn ends before its cut with a result, and the new-truss plane goes back (R85, R89). -/
def abandonTurn (f : Field) (result detail : Nat) : Field :=
  match f.turn.newPlane with
  | some p => turnBack (f.endTurn result detail) p
  | none => f.endTurn result detail

/-- A write of ABORT (R89): ignored from DRAINING on. -/
def turnAbort (f : Field) (tenant : Nat) : Field :=
  guarded f tenant (fun f => if 1 ≤ f.phase ∧ f.phase ≤ 4 then abandonTurn f 2 0 else f)

/-- TURN_ABORT (R89). -/
def execTurnAbort (tenant : Fin 4096) (s : State) : Host.Outcome State Fault Refusal := s.ok (turnAbort s.f tenant.val)

/-- TURN_RELOAD_DONE (R84 step 5): the new-truss plane has loaded the new truss from its other slot, and qualifies it. -/
def execTurnReloadDone (dt : Nat) (s : State) : Host.Outcome State Fault Refusal :=
  let f : Field := { s.f with e := s.f.e.at dt }
  match f.turn.newPlane with
  | some p =>
    if f.phase = 1 then
      let root := (match p with | .A => s.otpA | .B => s.otpB).root
      let f := f.onPlane p (fun q =>
        let q := q.runTruss (parseTruss q.nv.otherFlash.image) root
        { q with st := { q.st with newT := true } })
      let f := f.onE (·.setStage p 3)
      let f := { f with turn := { f.turn with loaded := true, qualStart := f.e.counter } }
      s.ok (f.setPhase 2 f.turn.newVer)
    else s.ok f
  | none => s.ok f

/-- Whether both planes have requested the CUT: ARMED is reached and the inactive bank is filled (R86, R87). -/
def cutWanted (f : Field) : Bool := f.phase = 4 && f.turn.bankFilled

/-- With CUT_AT at 0, the CUT comes with the second TICK after both requests (R87, R540). -/
def askCut (f : Field) : Field :=
  if cutWanted f ∧ f.lead.regs.rd64 TRUSS_CUT_AT_LO = 0 ∧ f.e.merger.sched.all (fun x => decide (x.item ≠ .cut)) then
    f.onE (·.schedule 2 .cut)
  else f

/-- INACTIVE_BANK_FILLED (R87): the leading plane has filled Eaves's inactive bank from its own copy of the new truss. -/
def execInactiveBankFilled (s : State) : Host.Outcome State Fault Refusal :=
  let f := s.f
  if 1 ≤ f.phase ∧ f.phase ≤ 4 then
    let t := parseTruss f.lead.nv.otherFlash.image
    let f := f.onE (fun e => { e with inact := t, poolIn := poolOf t })
    s.ok (askCut { f with turn := { f.turn with bankFilled := true } })
  else s.ok f

/-- QUAL_LIMIT_EXPIRE (R85). -/
def execQualLimitExpire (dt : Nat) (s : State) : Host.Outcome State Fault Refusal :=
  let f : Field := { s.f with e := s.f.e.at dt }
  match f.turn.newPlane with
  | some p =>
    if f.phase = 2 ∧ f.turn.qualStart + (f.plane p).truss.qual * 1000000 ≤ f.e.counter then s.ok (abandonTurn f 3 3) else s.ok f
  | none => s.ok f

/-- ARMED (R86): the new-truss plane, level with the leader and with both Ridge pairs trained (R277), becomes SHADOW on the new truss, sends its candidates, and the CUT is
requested. -/
def execArmed (s : State) : Host.Outcome State Fault Refusal :=
  let f := s.f
  match f.turn.newPlane with
  | some p =>
    let q := (f.plane p).st
    let span := (q.inbox.getLast?.elim 0 (·.ts)) - (q.inbox.head?.elim 0 (·.ts))
    if f.phase = 3 ∧ f.e.stageOf p = 5 ∧ span < 10000 ∧ f.h.pairUp .HA p = true ∧ f.h.pairUp .HB p = true then
      let f := f.onPlane p (fun q => { q with st := { q.st with sends := true, fill := false } })
      let f := f.onE (fun e =>
        let e := (e.setRole p .shadow).setStage p 0
        let e := { e with sel := { e.sel with recording := true, passed := [], gone := [] } }
        e.ctrlRoleNow 5 0xFFFF)
      s.ok (askCut (f.setPhase 4 f.turn.newVer))
    else s.ok f
  | none => s.ok f

end Sys2Proof.Machine
end

