-- ==== Sys2Proof/Machine/Merger.lean ====
section
/-!
DEFINITION. The stream as Eaves makes it: the TICK with what is placed after it (R28, R29, R37), the CUT (R87), time steps (R387), the merger's
emission into both Rafters (R27, R35), and the sleep authority (R447).
-/

namespace Sys2Proof

/-! What follows a TICK. -/

/-- Shingles that `g` creates take the place directly after the TICK, in their order (R37). -/
def Eaves.afterTick (e : Eaves) (g : Eaves → Eaves) : Eaves :=
  let old := e.merger.waiting
  let e := g { e with merger := { e.merger with waiting := [] } }
  let new := e.merger.waiting
  let k := e.steady e.merger.lastTickAt
  new.foldl (fun e w => e.placeAt k 256 w.sh) { e with merger := { e.merger with waiting := old } }

/-- Registers copied from an old file under the carry map. -/
def Regs.carry (m old : Regs) (ws : List (Nat × Nat)) (q : Nat → Bool) : Regs :=
  ws.foldl (fun m w => if q w.1 && q w.2 then m.wr w.2 (old.rd w.1) else m) m

/-- Addresses of registers that live in Eaves (R48). -/
def eavesAddr (a : Nat) : Bool :=
  decide (a < 0x40000 ∨ (0x100000 ≤ a ∧ a < 0x184000) ∨ (0x200000 ≤ a ∧ a < 0x290000) ∨ (0xF00000 ≤ a ∧ a < 0xF01004) ∨
    (0xA00000 ≤ a ∧ a < 0xA01000) ∨ 0xA0F000 ≤ a ∧ a < 0xB00000)

/-- A slot record's personality, bit timing and mode: for a CAN slot the timings of every phase, the PWM and secondary sample point settings
and, with rate detection, its candidates; for a slow slot all but the status and map fields (log entry 78). -/
def slotTiming (r : Rec) : List Byte :=
  let b := r.bytes 64
  let cut := fun (lo hi : Nat) => (b.take hi).drop lo
  if persCan (r.u 0 1) then
    cut 0 1 ++ leBytes 1 (r.u 1 1 &&& 0xEF) ++ cut 4 21 ++ (if bit (r.u 1 1) 1 then cut 3 4 ++ cut 21 22 ++ cut 24 56 else [])
  else if persSlow (r.u 0 1) then cut 0 2 ++ cut 3 14
  else cut 0 1

/-- Whether a slot's personality, bit timing or mode differs between two trusses (R87). -/
def slotDiffers (x y : Truss) (n : Nat) : Bool := slotTiming (slotRec x n) ≠ slotTiming (slotRec y n)
/-- The same for an Ethernet port: its flags, PCS, speed and MAXFRM. -/
def ethDiffers (x y : Truss) (n : Nat) : Bool := ((ethRec x n).bytes 6) ≠ ((ethRec y n).bytes 6)
/-- The same for a T1S port. -/
def t1sDiffers (x y : Truss) (n : Nat) : Bool := ((t1sRec x n).bytes 7) ≠ ((t1sRec y n).bytes 7)

/-- Addresses of Eaves registers whose configuration a turn sets again (R46): all but the battery-backed ones. -/
def turnSets (a : Nat) : Bool := eavesAddr a && decide (a < 0xF00000) && (rowAt false a).elim true (fun r => r.dom ≠ .vbat)

/-- The bank changes at the CUT and the ports whose settings differ restart (R87). What management has written is gone, where no entry of
the carry map names it (R46); with COLD_CARRY (`cold`) no entry counts (R81). -/
def Eaves.cutBank (e : Eaves) (cold : Bool) : Eaves :=
  let x := e.live
  let y := e.inact
  let old := e.regs
  let on := fun n => old.get (battenBase n) BT_CTL_ENABLE = 1
  let e := e.onRegs (fun m => m.configFrom [] (fun a => rowAt (decide (0x100000 ≤ a ∧ a < 0x180000) && e.isSlow ((a - 0x100000) / 0x1000)) a) turnSets)
  let e := (e.swapBanks.loadDevice y).gatesNow (gatesSame x y)
  let e := Machine.fitVolt (if cold then e else e.onRegs (fun m => m.carry old (carryRegs y) eavesAddr))
  let e := (List.range 128).foldl (fun e n => if slotDiffers x y n then e.slotRestart n else e) e
  let e := (List.range 24).foldl (fun e n => if ethDiffers x y n then e.ethRestart n else e) e
  let e := (List.range 16).foldl (fun e n => if t1sDiffers x y n then e.t1Restart n else e) e
  (List.range 4).foldl (fun e n => if e.bt n BT_CTL_ENABLE = 1 ∧ on n = false then e.chainRestart n else e) e

/-! Steps of the counter. -/

/-- A counter value moved by a step. -/
def movedBy (d : Int) (t : Nat) : Nat := ((t : Int) + d).toNat

/-- The device's own spans of time go on over a step: what they started at moves with the counter (R388). -/
def Eaves.moveTimes (e : Eaves) (d : Int) : Eaves :=
  let mv := movedBy d
  let rj := fun (r : Rejoin) => { r with offAt := mv r.offAt, attemptAt := mv r.attemptAt, stageAt := mv r.stageAt, fails := r.fails.map mv }
  let s := e.seqr
  { e with
    rjA := rj e.rjA
    rjB := rj e.rjB
    merger := { e.merger with 
      recent := e.merger.recent.map (fun x => (mv x.1, x.2))
      sched := e.merger.sched.map (fun x => { x with since := mv x.since }) }
    sel := { e.sel with windowAt := mv e.sel.windowAt }
    seqr := { s with
      kinAt := mv s.kinAt
      pwrAt := mv s.pwrAt
      resetLow := s.resetLow.map mv
      resetHigh := s.resetHigh.map mv
      holdEnd := s.holdEnd.map mv
      safeAt := mv s.safeAt
      holdClearAt := mv s.holdClearAt
      warnAt := mv s.warnAt
      idleSince := mv s.idleSince
      aliveAt := mv s.aliveAt
      p1At := s.p1At.map mv }
    chains := smap (fun _ => Chain.init) (fun c => { c with refreshAt := mv c.refreshAt, sweepTs := mv c.sweepTs }) e.chains
    eths := (List.range 24).foldl (fun l n => supd (fun _ => EthSt.init) l n (fun s => { s with
      creditAt := mv s.creditAt
      frozen := (e.txCfg n).freeze s.frozen e.counter (mv e.counter)
      gateFrom := min s.gateFrom (mv e.counter) })) e.eths }

/-- The same of the host die. -/
def HostDie.moveTimes (h : HostDie) (d : Int) : HostDie :=
  { h with
    hb := smap (fun _ => HbSeen.none) (fun x => { x with since := movedBy d x.since }) h.hb
    proxies := smap (fun _ => none) (fun x => x.map (fun b => { b with since := movedBy d b.since })) h.proxies
    aliveHAt := movedBy d h.aliveHAt }

/-- The same of a plane: held messages, pairs that are down, drives that have timed out. -/
def Plane.moveTimes (p : Plane) (d : Int) : Plane :=
  ({ p with host := { p.host with
      held := p.host.held.map (fun x => { x with since := movedBy d x.since })
      pairDown := smap (fun _ => none) (fun x => x.map (fun y => (movedBy d y.1, y.2))) p.host.pairDown } } : Plane).onRick (fun r => { r with
    drives := smap (fun _ => Drive.absent) (fun x => { x with timeoutAt := x.timeoutAt.map (movedBy d) }) r.drives })

/-- The smallest number of days by which TIME_BASE must fall for a counter of `c` to reach 10^12 ns (R387). -/
def baseDays (c : Int) : Nat := if (10 : Int) ^ 12 ≤ c then 0 else (((10 : Int) ^ 12 - c + 86400 * 10 ^ 9 - 1) / (86400 * 10 ^ 9)).toNat

/-- A step of Δ at the TICK just created (R387, R399). -/
def Eaves.applyStep (e : Eaves) (d : Int) : Eaves :=
  let k := baseDays ((e.counter : Int) + d)
  let d := d + (k * 86400 * 10 ^ 9 : Nat)
  let old := e.counter
  let e := ((List.range 24).foldl (fun e n => e.ethCredits n) e).moveTimes d
  let base := e.regs.rd64 TIME_BASE_LO - k * 86400
  let e := { e with
    counter := movedBy d old
    merger := { e.merger with lastTickAt := movedBy d e.merger.lastTickAt }
    regs := ((e.regs.wr64 TIME_STEP_SUM_LO (unsigned 64 (e.stepSum + d))).wr64 TIME_LAST_STEP_LO (unsigned 64 d)).wr64 TIME_BASE_LO base
    seqr := { e.seqr with timeStep := none, ppsStep := true } }
  let body := ctrlTimeAdjust 2 (e.regs.get 0 TIME_STAT_TQ) (e.regs.get 0 TIME_STAT_SRC) (e.regs.get 0 TIME_STAT_UTC_OFFSET)
    old e.counter (e.regs.rd TIME_ERR).toNat e.stepSum
  let sh := Shingle.mk0 .ctrl e.counter 256 0 body
  e.placeAt (e.steady e.merger.lastTickAt) 256 { sh with info := leBytes 8 base }

end Sys2Proof

namespace Sys2Proof.Machine

/-! The TICK (R28). -/

/-- Whether Eaves creates TICKs: the field supplies are up, KINDLING has begun, no reset or HOLD stands, and the merger runs. -/
def ticking (e : Eaves) : Bool :=
  !e.seqr.off && e.mode ≠ .ember && e.mode ≠ .safe && decide (1 ≤ e.seqr.kin) && e.seqr.holdEnd.isNone &&
    !(e.seqr.resetLow.isSome && !e.seqr.resetDeaf)

/-- TICK and RAND (R28, R29), with the INGRESS_DROP of each port that dropped units at its own place, before them (R27, R35). -/
def placeTick (e : Eaves) : Eaves :=
  let e := e.place (Shingle.mk0 .tick e.merger.lastTickAt 256 0 (leBytes 8 e.merger.lastTick))
  let e := if e.entropyReady then
      let r := Shingle.mk0 .rand e.merger.lastTickAt 256 0 (fitBytes 32 (Config.entropy e.merger.rands))
      let e := e.place r
      { e with merger := { e.merger with rands := e.merger.rands + 1 } }
    else e
  let drops := e.merger.drops
  drops.foldl (fun e d => e.ctrl d.1 (ctrlIngressDrop d.2)) { e with merger := { e.merger with drops := [] } }

/-- CTRL ROLE with cause JOIN (R422): the plane becomes SHADOW. -/
def joinOne (f : Field) (p : PlaneId) : Field :=
  if f.e.role p = .rejoining ∧ (f.e.rj p).level = true then
    let f := f.onE (fun e => (((e.setRole p .shadow).setStage p 0).onRegs (·.inc PLANE_REJOIN_CNT)).afterTick (fun e => e.ctrlRoleNow 4 0xFFFF))
    if f.phase = 6 then f.endTurn 1 0 else f
  else f

/-- Whether the CUT comes directly after this TICK (R87). -/
def cutDue (f : Field) (due : List SchedItem) : Bool :=
  f.phase = 4 && f.turn.bankFilled &&
    (if f.lead.regs.rd64 TRUSS_CUT_AT_LO = 0 then due.contains .cut else decide (f.lead.regs.rd64 TRUSS_CUT_AT_LO ≤ f.e.counter))

/-- Whether the turn runs with COLD_CARRY (R81). -/
def coldCarry (f : Field) : Bool := f.lead.regs.get 0 TRUSS_TURN_CTL_COLD_CARRY = 1

/-- The banks after an early cut (R87, R89): the new-truss plane's truss comes into force in Eaves, and the ports that it changes restart. -/
def earlyBanks (f : Field) : Field :=
  let t := f.lead.truss
  let g := f.onE (fun e => ({ e with inact := t, poolIn := poolOf t } : Eaves).afterTick (·.cutBank (coldCarry f)))
  match g.e.leader with
  | some p => g.onPlane p (·.cutTimings)
  | none => g

/-- The CUT, then the restarts of the ports that it changes (R37, R87). The SEQ values of field ports are filled in at emission; those of
endpoints are their admission counts. -/
def placeCut (f : Field) : Field :=
  let f := f.onE (fun e => e.afterTick (fun e =>
    e.ctrl 256 (ctrlCut f.turn.newVer (fun p => if 168 ≤ p then sget (fun _ => 0) e.merger.admCnt p else 0))))
  let f := f.onE (fun e => e.afterTick (·.cutBank (coldCarry f)))
  { f with turn := { f.turn with cutAt := f.e.steady f.e.counter } }

/-- An admitted message's HOST shingle (R36). -/
def placeHost (e : Eaves) (r : Receipt) : Eaves :=
  let port := 168 + r.ep
  let n := sget (fun _ => 0) e.merger.admCnt port
  let sh := { Shingle.mk0 .host e.counter port (e.genOf port) r.header with seq := n }
  let e := e.afterTick (fun e => e.place sh)
  { e with merger := { e.merger with admCnt := sput (fun _ => 0) e.merger.admCnt port ((n + 1) % 2 ^ 32) } }

/-- The PORT_RESTART of an endpoint (R281): GEN rises and its mailbox locks are released, each with what its shadow buffer holds (R111). -/
def placeEpRestart (e : Eaves) (ep : Nat) : Eaves :=
  let e := e.afterTick (fun e => e.announceRestart (168 + ep))
  ((List.range 128).filter (fun n => (e.slot n).can.lock.elim false (fun l => l.1 = ep))).foldl (fun e n => e.mboxRelease n) e

/-- A step of the counter (R387), and of what the host die and the planes measure with it. -/
def placeStep (f : Field) (d : Int) : Field :=
  let g := f.onE (·.applyStep d)
  let moved : Int := (g.e.counter : Int) - f.e.counter
  (g.onH (·.moveTimes moved)).onBoth (·.moveTimes moved)

/-- What is due at this TICK, in the order of R37. -/
def placeDue (f : Field) (due : List SchedItem) : Field :=
  let f := due.foldl (fun f i => match i with | .join p => joinOne f p | _ => f) f
  let f := if due.contains .banks then earlyBanks f else f
  let cut := cutDue f due
  let f := if cut then placeCut f else f
  let f := due.foldl (fun f i => match i with
    | .host r => f.onE (placeHost · r)
    | .epRestart ep => f.onE (placeEpRestart · ep)
    | _ => f) f
  let f := match f.e.seqr.timeStep with
    | some d => if cut then f else placeStep f d
    | none => f
  if cut || due.contains .banks then checkTamper f else f

/-- Each plane's journal status words as Eaves shows them (R33). -/
def showJournal (f : Field) : Field :=
  let put := fun (m : Regs) (p : PlaneId) => (List.range 12).foldl (fun m w =>
    m.wr (PLANE_JSTAT p.num w) (BitVec.ofNat 32 ((f.plane p).journalWord w))) m
  f.onE (·.onRegs (fun m => put (put m .A) .B))

/-- The counter and the calendar at the next multiple of 10,000 ns (R28, R401). -/
def nextTick (e : Eaves) : Eaves :=
  let c := e.merger.lastTickAt + 10000
  { e with
    counter := max e.counter c
    merger := { e.merger with lastTick := e.merger.lastTick + 1, lastTickAt := c }
    seqr := { e.seqr with cal := e.seqr.cal + 10000 } }

/-- Whether a TICK created now counts for an item: it does not in the control cycle in which Eaves received what asks for it (R540). -/
def Sched.counts (e : Eaves) (x : Sched) : Bool := x.since ≠ e.counter

/-- What is due at the TICK created now. -/
def dueItems (e : Eaves) : List SchedItem :=
  (e.merger.sched.filter (fun x => decide (x.ticks ≤ 1) && Sched.counts e x)).map (·.item)

/-- What later TICKs place. -/
def laterItems (e : Eaves) : List Sched :=
  (e.merger.sched.filter (fun x => !(decide (x.ticks ≤ 1) && Sched.counts e x))).map
    (fun x => if Sched.counts e x then { x with ticks := x.ticks - 1 } else x)

/-- TIME_ADJUST RELOAD at the first TICK that planes take after the counter was loaded (R389). -/
def placeReload (f : Field) : Field :=
  match f.e.seqr.reload with
  | some c => if f.a.st.takes || f.b.st.takes then
      f.onE (fun e => (e.onSeq (fun s => { s with reload := none })).afterTick (·.timeAdjust 6 c e.counter)) else f
  | none => f

/-- The batten part of a sleep entry's third step, at the TICK that makes it (R451, R453, R489). -/
def sleepModes (f : Field) : Field :=
  if f.e.seqr.kind ≠ .idle ∧ f.e.seqr.sleepTick = f.e.merger.lastTick then
    f.onE (fun e => (List.range 4).foldl (fun e n => e.writeModes n) e)
  else f

/-- One TICK of Eaves (R28): the shingles, the sequencer, the pair losses to judge. -/
def tickField (f : Field) : Field :=
  let f := f.onE nextTick
  let due := dueItems f.e
  let f := f.onE (fun e => placeTick { e with merger := { e.merger with sched := laterItems e } })
  showJournal (judgePairs (sleepModes (seqTick (placeDue (placeReload f) due))))

/-- TICK (R28). Without field supplies the counter stands still; in a reset, in SAFE and under HOLD it counts on and no shingle is
made. -/
def execTick (s : State) : Host.Outcome State Fault Refusal :=
  if s.f.e.seqr.off ∨ s.f.e.mode = .ember then s.ok s.f
  else if ticking s.f.e then s.ok (tickField s.f)
  else s.ok (s.f.onE nextTick)

/-! Emission (R27, R35). -/

/-- The SEQ that a shingle gets at emission: the next of its port; a HOST shingle has its endpoint's admission count (R36). -/
def nextSeq (m : Merger) (port : Nat) : Nat := sget (fun _ => 0) m.seqs port

/-- The shingle as emitted: STREAM, SEQ, and in a CUT the SEQ with which each port goes on (R87). -/
def numbered (m : Merger) (sh : Shingle) : Shingle :=
  let sh := { sh with stream := m.stream, seq := if sh.utype = .host then sh.seq else nextSeq m sh.port }
  if sh.utype = .ctrl ∧ sh.ctrlCode = 6 then 
    { sh with body := ctrlCut (bytesAt sh.body 4 4) (fun p => if 168 ≤ p then bytesAt sh.body (8 + 4 * p) 4 else nextSeq m p) }
  else sh

/-- The merger after it has emitted the first of its waiting shingles. -/
def emitted (e : Eaves) (sh : Shingle) : Eaves :=
  let m := e.merger
  { e with merger := { m with
      waiting := m.waiting.drop 1
      stream := m.stream + 1
      seqs := if sh.utype = .host then m.seqs else sput (fun _ => 0) m.seqs sh.port ((sh.seq + 1) % 2 ^ 32)
      recent := (m.recent.filter (fun x => e.counter ≤ x.1 + 10000)) ++ [(e.counter, sh)] } }

/-- A shingle other than TICK and RAND ends P1 (R460). -/
def noteBusy (e : Eaves) (sh : Shingle) : Eaves :=
  if sh.utype = .tick ∨ sh.utype = .rand then e
  else
    let e := e.onSeq (fun q => { q with idleSince := e.counter })
    match e.seqr.p1At with
    | some t =>
      if e.mode = .safe then e
      else
        let e := ({ e with pstate := if e.pstate = PState.p1 then PState.p0 else e.pstate }).onSeq (fun q => { q with p1At := none })
        if t + 10000000 ≤ e.counter then e.ctrlMode 3 e.mode.code e.mode.code 0 0 0 0xFFFF else e
    | none => e

/-- A plane's Rafter takes a shingle; a plane that catches up has it from TICK J on (R420). -/
def toRafter (sh : Shingle) (j : Option Nat) (q : Plane) : Plane :=
  let goes := if q.st.fill then
      q.st.takes || q.st.inbox ≠ [] || (sh.utype = .tick && (match j with | some j => decide (j ≤ tickOf sh) | none => false))
    else q.st.takes
  if goes then { q with st := { q.st with inbox := q.st.inbox ++ [sh] } } else q

/-- J of the copy that a plane waits for. -/
def copyTick (f : Field) (p : PlaneId) : Option Nat :=
  match f.copy with
  | some c => if c.plane = p then some c.j else none
  | none => none

/-- The catch-up buffer of a plane fills (R420). -/
def checkFill (f : Field) (p : PlaneId) : Field :=
  if (f.plane p).st.fill ∧ f.e.role p = .rejoining ∧ 2 ^ 31 < inboxBytes (f.plane p).st.inbox then attemptFails f p 5 else f

/-- EVENT MODE of an authority's command that no CTRL MODE tells of (R447, R473): STEP 0 and the STATUS. -/
def authEvent (f : Field) (target st : Nat) (q : Plane) : Plane :=
  q.event 0x0701 noId noId
    ([0, BitVec.ofNat 8 f.e.mode.code, BitVec.ofNat 8 (if target = 6 then 4 else target), BitVec.ofNat 8 f.e.pstate.code, 2, 0] ++
      leBytes 2 (bytesAt (f.lead.truss.sec 0x11) 2 2) ++ leBytes 1 0 ++ leBytes 1 st)

/-- The sleep authority's commands that act by now (R447): each runs under the checks of an ENTER without FORCE. -/
def runAuth (f : Field) (oA oB : Otp) : Field :=
  match f.e.leader with
  | none => f
  | some p =>
    let now := (f.plane p).st.tick
    let due := (f.plane p).st.auths.filter (fun x => x.1 ≤ now)
    if due = [] then f
    else
      let f := f.onTaking (fun q => { q with st := { q.st with auths := q.st.auths.filter (fun x => ¬ x.1 ≤ q.st.tick) } })
      due.foldl (fun f x =>
        let f := f.onE (·.onRegs (·.inc PWR_AUTH_CNT))
        let st := enterStatus f x.2 false
        if st = 0 ∧ sameMode f.e x.2 = false then takeEnter f oA oB x.2 2 (bytesAt (f.lead.truss.sec 0x11) 2 2)
        else f.onRunning (authEvent f x.2 st)) f

/-- A lookup that met a bad table entry is a PLANE-class fault of its plane, source TBL_ENTRY (R221). -/
def tellBad (f : Field) : Field :=
  [PlaneId.A, .B].foldl (fun f p =>
    if (f.plane p).fwd.metBad then (f.onPlane p (·.onFwd (fun x => { x with metBad := false }))).raisePlane p 11 else f) f

/-- Both planes take what needs no command, the authority's due commands act, a bad table entry that was met is reported,
and a plane whose role has changed tells the halves at once (R290). -/
def finish (f : Field) (oA oB : Otp) : Field := sayRoles (tellBad (runAuth (settle f) oA oB))

/-- The first waiting shingle when its time has come: not before TS + 1 µs (R27). -/
def dueShingle (e : Eaves) : Option Shingle :=
  match e.merger.waiting with
  | [] => none
  | w :: _ => if w.kts + 1000 ≤ e.steady e.counter then some (numbered e.merger w.sh) else none

/-- The merger emits its next shingle down both Rafters (R27). -/
def emitOne (f : Field) (oA oB : Otp) : Field :=
  match dueShingle f.e with
  | none => f
  | some sh =>
    let f := f.onE (fun e => noteBusy (emitted e sh) sh)
    let f := (f.onPlane .A (toRafter sh (copyTick f .A))).onPlane .B (toRafter sh (copyTick f .B))
    finish (checkFill (checkFill f .A) .B) oA oB

/-- MERGER_EMIT (R27), `dt` ns after the last TICK. -/
def execMergerEmit (dt : Nat) (s : State) : Host.Outcome State Fault Refusal :=
  s.ok (emitOne (s.f.onE (·.at dt)) s.otpA s.otpB)

end Sys2Proof.Machine
end

