-- ==== Sys2Proof/Machine/UnitTake.lean ====
section
/-!
DEFINITION. What a plane takes with a command of its own: units (R200), restarts and losses of ports (R43, R190, R281), host messages (R36,
R291), verdicts (R318); tick marks (R34).
-/

namespace Sys2Proof

/-! Restarts and losses of ports. -/

/-- A restart of an endpoint at its PORT_RESTART (R281); unless a group keeps them, its tenants' SEQ states are emptied (R296). -/
def Plane.epGone (p : Plane) (ep : Nat) : Plane :=
  let p := { p with host := { p.host with
    epUp := sput (fun _ => false) p.host.epUp ep false
    epRestarts := supd (fun _ => 0) p.host.epRestarts ep (satAdd 32 · 1) } }
  let left := match p.partner ep with | some q => p.epUp q | none => false
  let p := { p with
    st := { p.st with jobs := p.st.jobs.filter (fun j => j.ep ≠ ep || left) }
    host := { p.host with
      admitted := p.host.admitted.filter (fun m => m.ep ≠ ep || left)
      seqs := if left then p.host.seqs else (p.qpsOf ep).foldl (fun m (r : Rec) => sput (fun _ => none) m (r.u 0 2) none) p.host.seqs
      out := p.host.out.filter (fun m => m.ep ≠ ep)
      sema := smap (fun _ => none) (fun x => match x with
        | some s => if s.ep = p.primary ep ∧ (s.group = false ∨ left = false) then none else x
        | none => none) p.host.sema } }
  let p := Machine.endExports p ep
  let p := if left then p else p.endSessions (fun s => p.primary s.ep = p.primary ep) 3
  match p.partner ep with
  | none => p.flushPort (168 + ep)
  | some q =>
    if left then
      p.send q clsEvent ((p.epRec q).u 4 2) 0 false false false (eventBody 0x0104 noId noId p.st.ts (leBytes 1 ep ++ leBytes 1 0))
    else p

/-- A loss of link of SLAVE_PORT makes the source GPTP invalid at once (R390). -/
def Plane.slaveGone (p : Plane) (port : Nat) : Plane :=
  if port = 128 + p.tm 24 1 0xFF then { p with servo := { p.servo with syncTick := none } } else p

/-- CTRL PORT_RESTART (R43): the new GEN, and what the port's restart clears in the plane. -/
def Plane.portRestarted (p : Plane) (sh : Shingle) : Plane :=
  let chain := bytesAt sh.body 3 1
  let key := if chain < 16 then sh.port else 384 + chain
  if 176 ≤ sh.port ∧ chain < 16 then p else
  let p := { p with st := { p.st with gens := sput (fun _ => 0) p.st.gens key (bytesAt sh.body 2 1) } }
  if 176 ≤ sh.port then p else
  if sh.port < 128 then ((p.busRestart sh.port).tpPortGone sh.port).unbindPort sh.port
  else if sh.port < 168 then (((p.portGone sh.port).slaveGone sh.port).portSettles sh.port).unbindPort sh.port
  else p.epGone (sh.port - 168)

/-- Whether a shingle is a LINK_DOWN or a PORT_RESTART of an Ethernet or T1S port (R190). -/
def Shingle.flushes (sh : Shingle) : Bool :=
  sh.utype = .ctrl && (sh.ctrlCode = 2 || (sh.ctrlCode = 3 && isEthT1s sh.port))

/-- Whether a shingle is a PORT_RESTART. -/
def Shingle.restarts (sh : Shingle) : Bool := sh.utype = .ctrl && sh.ctrlCode = 3

/-! Units. -/

/-- Whether a shingle is a field unit. -/
def Shingle.isUnit (sh : Shingle) : Bool :=
  match sh.utype with
  | .host => false
  | .tick => false
  | .rand => false
  | .ctrl => false
  | _ => true

/-- Whether a new-truss plane still stands before the CUT (R86). -/
def Plane.beforeCut (p : Plane) : Bool := p.st.newT && p.nv.slotRec.activeVer ≠ p.truss.version

/-- Whether a port restarts at the cut (R87). -/
def Plane.restartsAtCut (p : Plane) (port : Nat) : Bool :=
  let old := parseTruss p.nv.activeFlash.image
  if port < 128 then slotDiffers old p.truss port
  else if port < 152 then ethDiffers old p.truss (port - 128)
  else t1sDiffers old p.truss (port - 152)

/-- The new RID of an old one, by the RID entries of the carry map; none where no entry names it (R86). The last entry counts. -/
def Plane.newRid (p : Plane) (rid : Nat) : Option Nat :=
  if p.regs.get 0 TRUSS_TURN_CTL_COLD_CARRY = 1 then none
  else (carryList p.truss).foldl (fun x r =>
    if r.u 0 1 = 10 ∧ r.u 4 4 ≤ rid ∧ rid < r.u 4 4 + r.u 12 4 then
      if r.u 1 1 = 0 then none else some (r.u 8 4 + (rid - r.u 4 4))
    else x) none

/-- A unit as the plane handles it: none where R86 discards it. -/
def Plane.ridOf (p : Plane) (sh : Shingle) : Option Shingle :=
  if !p.beforeCut then some sh
  else if p.restartsAtCut sh.port then none
  else if sh.port < 128 then (p.newRid sh.rid).map (fun r => { sh with rid := r })
  else some sh

/-- A unit carries an older GEN than the plane knows for its port (R43). -/
def Plane.stale (p : Plane) (sh : Shingle) : Bool := decide (sget (fun _ => 0) p.st.gens sh.port ≠ sh.gen)

/-- A unit at its stream position (R200); an old-truss plane past the CUT makes nothing of it (R88). The models of transmit stages advance on
the TS of every shingle (R172). -/
def Plane.takeUnit (p : Plane) (sh : Shingle) (early : Bool) : Plane :=
  let p := p.popHead sh
  if p.stale sh ∨ p.st.past = true then p.releaseAll
  else
    match p.ridOf sh with
    | none => p.releaseAll
    | some u => (p.lookup u early).releaseAll

/-- Whether the unit at the head waits for a verdict that no engine has given (R318). -/
def Plane.waits (p : Plane) (sh : Shingle) : Bool :=
  sh.auth = .noneRequired && !p.stale sh && !p.st.past &&
    (match p.ridOf sh with | some u => p.wantsVerdict u | none => false)

/-- The head marked as waiting for its verdict. -/
def Plane.stallHead (p : Plane) (sh : Shingle) : Plane :=
  { p with st := { p.st with inbox := { sh with auth := .pending } :: p.st.inbox.drop 1 } }

end Sys2Proof

namespace Sys2Proof.Machine

/-- The shingle at the head of a plane that takes the stream. -/
def headOf (f : Field) (p : PlaneId) : Option Shingle := if taking f p then (f.plane p).st.inbox.head? else none

/-- Whether a plane runs the early stage of KINDLING (R78). -/
def earlyNow (f : Field) (p : PlaneId) : Bool := f.e.mode = .kindling && decide (f.e.doneStep p < 9)

/-- A unit taken, with the Flue source of a failed plane re-check (R140). -/
def takeUnitAt (f : Field) (p : PlaneId) (sh : Shingle) : Field :=
  let g := f.onPlane p (fun q => q.takeUnit { sh with auth := .noneRequired } (earlyNow f p))
  let cnt := fun (x : Field) => (x.plane p).regs.rd (selKey sh.port SW_PORT_CHECK)
  if cnt f ≠ cnt g ∧ f.e.role p = .leading then g.onE (·.info (256 + sh.port)) else g

/-- The unit at a plane's head, where `q` holds of it: taken, or marked as waiting for a verdict. -/
def unitWhen (f : Field) (oA oB : Otp) (p : PlaneId) (q : Plane → Shingle → Bool) : Field :=
  match headOf f p with
  | none => f
  | some sh =>
    if sh.isUnit = false ∨ q (f.plane p) sh = false then f
    else if (f.plane p).waits sh then f.onPlane p (·.stallHead sh)
    else if sh.auth = .pending then f
    else finish (takeUnitAt f p sh) oA oB

/-- UNIT_LOOKUP (R200). -/
def execUnitLookup (p : PlaneId) (s : State) : Host.Outcome State Fault Refusal :=
  s.ok (unitWhen s.f s.otpA s.otpB p (fun _ _ => true))

/-- AUTH_ENGINE_DONE (R318): the engine's verdict is there, and the unit goes on. -/
def execAuthEngineDone (p : PlaneId) (s : State) : Host.Outcome State Fault Refusal :=
  match headOf s.f p with
  | some sh => if sh.isUnit ∧ sh.auth = .pending then s.ok (finish (takeUnitAt s.f p sh) s.otpA s.otpB) else s.ok s.f
  | none => s.ok s.f

/-- Whether a unit's route names Thatcher (R202). -/
def forThatcher (q : Plane) (sh : Shingle) : Bool :=
  (q.tget 1 sh.rid).f 0 176 176 = 1 || (q.tget 1 sh.rid).f 32 1 1 = 1

/-- THATCHER_UNIT (R249): a unit whose route names Thatcher. -/
def execThatcherUnit (p : PlaneId) (s : State) : Host.Outcome State Fault Refusal := s.ok (unitWhen s.f s.otpA s.otpB p forThatcher)

/-- ASSIST_FRAME_CONSUMED (R125): a frame of a named transfer. -/
def execAssistFrameConsumed (p : PlaneId) (s : State) : Host.Outcome State Fault Refusal :=
  s.ok (unitWhen s.f s.otpA s.otpB p (fun q sh => (q.tpKind sh).isSome))

/-- Whether a unit's route leads an ASSIST unit to a CAN slot (R127). -/
def forSegment (q : Plane) (sh : Shingle) : Bool :=
  sh.assist && (routeDest (q.tget 1 sh.rid)).any (fun d => decide (d < 128) && persCan (q.pers d))

/-- ASSIST_SEGMENT (R127). -/
def execAssistSegment (p : PlaneId) (s : State) : Host.Outcome State Fault Refusal := s.ok (unitWhen s.f s.otpA s.otpB p forSegment)

/-- ASSIST_CTS (R127): TP.CM_CTS or TP.CM_EndOfMsgAck. -/
def execAssistCts (p : PlaneId) (s : State) : Host.Outcome State Fault Refusal :=
  s.ok (unitWhen s.f s.otpA s.otpB p (fun q sh => match q.tpKind sh with | some (.answer _ _) => true | _ => false))

/-- ASSIST_FLOW_CONTROL (R127). -/
def execAssistFlowControl (p : PlaneId) (s : State) : Host.Outcome State Fault Refusal :=
  s.ok (unitWhen s.f s.otpA s.otpB p (fun q sh => match q.tpKind sh with | some (.flow _) => true | _ => false))

/-- ASSIST_RTS (R128). -/
def execAssistRts (p : PlaneId) (s : State) : Host.Outcome State Fault Refusal :=
  s.ok (unitWhen s.f s.otpA s.otpB p (fun q sh => match q.tpKind sh with | some (.rts _) => true | _ => false))

/-- ASSIST_FIRST_FRAME (R128). -/
def execAssistFirstFrame (p : PlaneId) (s : State) : Host.Outcome State Fault Refusal :=
  s.ok (unitWhen s.f s.otpA s.otpB p (fun q sh => match q.tpKind sh with | some (.first _) => true | _ => false))

/-- A CTRL shingle at a plane's head, where `q` holds of it: taken. -/
def restartWhen (f : Field) (oA oB : Otp) (p : PlaneId) (q : Shingle → Bool) : Field :=
  match headOf f p with
  | none => f
  | some sh =>
    if q sh = false then f
    else
      let f := f.onPlane p (fun x =>
        let x := x.popHead sh
        (if sh.restarts then x.portRestarted sh else if isEthT1s sh.port then ((x.portGone sh.port).slaveGone sh.port).unbindPort sh.port else x).releaseAll)
      finish f oA oB

/-- PORT_RESTART_PROCESS (R43). A STATE_DUMP to a restarted endpoint stops at the leading plane's position (R65). -/
def execPortRestartProcess (p : PlaneId) (s : State) : Host.Outcome State Fault Refusal :=
  match headOf s.f p with
  | some sh =>
    let f := (restartWhen s.f s.otpA s.otpB p Shingle.restarts).refreshMode
    match f.dump with
    | some d =>
      if sh.restarts ∧ sh.port = 168 + d.ep then
        s.ok ({ f with dump := none }.onE (·.onRegs (fun m => (m.set 0 DEVICE_DUMP_STAT_RUNNING 0).set 0 DEVICE_DUMP_STAT_ABORTED 1)))
      else s.ok f
    | none => s.ok f
  | none => s.ok s.f

/-- LINK_DOWN_FLUSH (R190). -/
def execLinkDownFlush (p : PlaneId) (s : State) : Host.Outcome State Fault Refusal :=
  s.ok (restartWhen s.f s.otpA s.otpB p Shingle.flushes)

/-- A request that no command stands for, answered where it is admitted: an ENTER with a TARGET that there is not (R448), an EXP or a drive
that there is not (R379, R380). -/
def oddRequest (f : Field) (p : PlaneId) : Field :=
  match (f.plane p).host.admitted with
  | [] => f
  | m :: _ =>
    let b := fun (i : Nat) => bytesAt m.body i 1
    let now := fun (g : Plane → Plane) => f.onPlane p (fun q => g q.takeAdmitted)
    if m.cls = clsMode ∧ b 0 = 2 ∧ [1, 3, 4, 6].contains (b 1) = false then
      now (fun q => modeRsp f q m.ep m.tenant m.tag (enterStatus f (b 1) false))
    else if m.cls = clsJournal ∧ m.body.length = 16 ∧ 4 ≤ b 0 then now (·.postedError m 6)
    else if m.cls = clsJournal ∧ m.body.length = 32 ∧ b 0 = 4 ∧ 4 ≤ b 2 then
      now (fun q => journalRsp q m.ep m.tenant m.tag 1 4 (b 2) 0 [])
    else if m.cls = clsJournal ∧ m.body.length = 32 ∧ 8 ≤ b 0 ∧ (32 ≤ b 3 ∨ 4 ≤ b 3 % 16) then
      now (fun q => journalRsp q m.ep m.tenant m.tag (if q.hasSession m.tenant then 2 else 3) (b 0) 0 0 [])
    else f

/-- A HOST shingle at a plane's head taken (R36, R172). -/
def hostTake (f : Field) (p : PlaneId) : Field :=
  match headOf f p with
  | some sh => if sh.utype = .host then oddRequest ((planeHostAdmit f p).onPlane p (·.releaseAll)) p else oddRequest f p
  | none => f

/-- HOST_ADMIT (R36). -/
def execHostAdmit (p : PlaneId) (s : State) : Host.Outcome State Fault Refusal :=
  if taking s.f p then s.ok (finish (hostTake s.f p) s.otpA s.otpB) else s.ok s.f

/-- ENDPOINT_UP (R281). -/
def execEndpointUp (ep : Fin 8) (s : State) : Host.Outcome State Fault Refusal :=
  s.ok (finish ((endpointUp s.f ep.val).onTaking (·.releaseAll)) s.otpA s.otpB)

/-- What a host's FRAME or SIGNAL becomes at its position (R291): a HOST unit. -/
def injectMsg (f : Field) (ep tenant cls tag : Nat) : Field :=
  tellBad <| (f.actors ep tenant cls tag saysAny).foldl (fun f p => f.onPlane p (fun q =>
    match q.host.admitted with
    | [] => q
    | m :: _ => (q.takeAdmitted.hostInject m).releaseAll)) f

/-- HOST_FRAME_INJECT (R291). -/
def execHostFrameInject (ep : Fin 8) (tenant : Fin 4096) (tag : Nat) (s : State) : Host.Outcome State Fault Refusal :=
  s.ok (injectMsg s.f ep.val tenant.val clsFrame tag)

/-- HOST_SIGNAL_WRITE (R248, R291). -/
def execHostSignalWrite (ep : Fin 8) (tenant : Fin 4096) (tag : Nat) (s : State) : Host.Outcome State Fault Refusal :=
  s.ok (injectMsg s.f ep.val tenant.val clsSignal tag)

/-- PLANE_LAG_DETECT (R34): both planes run, and the tick mark of `p` comes `lag` ns after the other's. PLANE_LAG_PEAK keeps the largest
difference; more than 15 µs is a fault of the plane. -/
def execPlaneLagDetect (p : PlaneId) (lag : Nat) (s : State) : Host.Outcome State Fault Refusal :=
  if s.f.e.roleA.running ∧ s.f.e.roleB.running = true then
    let f := s.f.onE (·.onRegs (fun m =>
      if m.get 0 PLANE_LAG_PEAK_PEAK < lag then m.set 0 PLANE_LAG_PEAK_PEAK (min lag 0xFFFF) else m))
    s.ok (if 15000 < lag then f.raisePlane p 8 else f)
  else s.ok s.f

end Sys2Proof.Machine
end

