-- ==== Sys2Proof/Machine/Carry.lean ====
section
/-!
DEFINITION. The state copy applied (R420, R421, R377) and the carry map of a turn (R79-R81, R86).
-/

namespace Sys2Proof

/-! What a plane keeps of its own when it takes a snapshot. -/

/-- Registers of `old` at the addresses where `q` holds, put into `m`. -/
def Regs.take (m old : Regs) (q : Nat → Bool) : Regs :=
  old.foldl (fun m e => if q (e.1 % addrSpan) then m.wr e.1 e.2 else m) (m.clear (fun k => q (k % addrSpan)))

/-- Addresses of the Purlin block: a plane's own (R442). -/
def purlinAddr (a : Nat) : Bool := decide (0xA08000 ≤ a ∧ a < 0xA09000)

/-- The stream side as it stood at J, with the plane's own links (R420). -/
def PStream.copied (s own : PStream) : PStream :=
  { s with
    me := own.me, takes := true, fill := true, newT := own.newT, sends := false, past := false, inbox := own.inbox, up := [], accs := [],
    pgen := own.pgen }

/-- The host side as it stood at J, with the plane's own pairs and exchange (R420, R421). -/
def PHost.copied (h own : PHost) : PHost :=
  { h with
    held := own.held, receipts := own.receipts, out := [], direct := [], hb := own.hb, used := own.used, owed := own.owed,
    pairsUp := own.pairsUp, pairDown := own.pairDown, asks := own.asks, bodies := own.bodies, roleSeen := own.roleSeen,
    tellRole := own.tellRole }

/-- The journal as it stood at J on the plane's own drives (R377, R421): the chunk that the tap was filling is a hole here (R376). -/
def Rick.copied (r own : Rick) : Rick :=
  let gone : List Hole := match r.chunkOpen with
    | some c => if own.holes.any (fun h => h.tier = 3 ∧ h.pos = c.cseq) then [] else [⟨3, c.cseq, false⟩]
    | none => []
  { r with drives := own.drives, holes := own.holes ++ gone, sealKey := own.sealKey, granules := own.granules, nextGran := own.nextGran }

/-- A rejoining plane with the snapshot (R421). -/
def Plane.copied (s own : Plane) : Plane :=
  { s with
    regs := s.regs.take own.regs purlinAddr
    st := s.st.copied own.st
    host := s.host.copied own.host
    nv := own.nv
    rick := s.rick.copied own.rick
    fwd := { s.fwd with bad := [], metBad := false, held := [] } }

/-! The carry map. -/

/-- Whether an index lies in an entry's old range, and its new index. -/
def carryIdx (r : Rec) (i : Nat) : Option Nat := if r.u 4 4 ≤ i ∧ i < r.u 4 4 + r.u 12 4 then some (r.u 8 4 + (i - r.u 4 4)) else none

/-- Old and new index of each index of an entry. -/
def carryPairs (r : Rec) : List (Nat × Nat) := (List.range (r.u 12 4)).map (fun i => (r.u 4 4 + i, r.u 8 4 + i))

/-- Where a tenant goes under the carry map. -/
def carryTenant (t : Truss) (ten : Nat) : Option Nat :=
  (carryList t).foldl (fun x r => if r.u 0 1 = 5 ∧ r.u 1 1 = 1 then (match carryIdx r ten with | some n => some n | none => x) else x) none

/-- KIND 1: a learned entry of the old port, with its age and version, on the new port; who is charged for it follows its tenant. -/
def Plane.carryLearned (p old : Plane) (x y : Nat) : Plane :=
  (old.tlist 4).foldl (fun p e =>
    if macLearned e.2 ∧ e.2.u 12 2 = x then
      match p.macFree (e.2.u 6 2) (e.2.be 0 6) with
      | some i =>
        let p := p.tput 4 i (e.2.put 12 2 y)
        match carryTenant p.truss (old.chargeOf e.1) with
        | some t => p.setCharge i t
        | none => p
      | none => p
    else p) p

/-- KIND 2: a value-store entry, clipped where the action is SATURATE, and the pending values of its signal (R246). -/
def Plane.carrySignal (p old : Plane) (clip : Bool) (x y : Nat) : Plane :=
  let v := old.cval x
  let fit := fun (n : Int) => if clip then clampI (sigRange (p.sig y)).1 (sigRange (p.sig y)).2 n else n
  let pending := fun (c : Contrib) => ((old.thr.pend.find? (fun o => o.stream = c.stream)).elim [] (·.vals)).filterMap (fun w =>
    if w.1 = x then some (y, (w.2.1.map fit, w.2.2)) else none)
  p.onThr (fun t => { t with
    vals := sput (fun _ => none) t.vals y (some { v with value := fit v.value })
    pend := t.pend.map (fun c => { c with vals := c.vals ++ pending c }) })

/-- KIND 3: remaining time and timeout state of a supervisor; a pending contributor that refreshes the old one refreshes the new one. -/
def Plane.carrySup (p old : Plane) (x y : Nat) : Plane :=
  let s := old.supSt x
  let p := p.onThr (fun t => { t with pend := t.pend.map (fun c =>
    if (old.thr.pend.find? (fun o => o.stream = c.stream)).elim false (·.refresh.contains x) then { c with refresh := c.refresh ++ [y] } else c) })
  match old.supDue x with
  | none => p.setSup y s
  | some d =>
    p.setSup y { s with start := d - (p.sup y).u 4 4, last := s.last.map (fun _ => d - (p.sup y).u 8 4) }

/-- KIND 4: the builds of a layout. -/
def Plane.carryTrigger (p old : Plane) (x y : Nat) : Plane :=
  p.onThr (fun t => { t with builds := sput (fun _ => []) t.builds y (old.buildsOf x) })

/-- KIND 5: binding, buckets, hold-awake accounting and counters of a tenant. -/
def Plane.carryTenantOf (p old : Plane) (x y : Nat) : Plane :=
  let c := old.ctx x
  if c.u 0 1 = 0 then p
  else
    let p := if (p.ctx y).u 0 1 ≠ 0 then p
      else
        let m := p.template (c.u 2 2)
        (p.tput 17 y (ctxOf y (c.u 2 2) (c.u 0 1) m (ctxIdent c) (c.u 56 8) (c.u 64 8))).setPolicers y m (p.std p.st.ts)
    let p := p.onCtx y (fun r => (((((r.put 33 1 (c.u 33 1)).put 56 8 (c.u 56 8)).put 64 8 (c.u 64 8)).put 72 12 (c.u 72 12)).put 84 1
      (c.u 84 1)).put 88 36 (c.u 88 36))
    let bucket := fun (p : Plane) (i j : Nat) => p.tupd 19 j (fun r => if r.f 32 0 0 = 1 then
      (r.put 16 8 (min ((old.tget 19 i).u 16 8) (r.u 4 4 * 65536))).put 24 8 ((old.tget 19 i).u 24 8) else r)
    let p := bucket (bucket p (2 * x) (2 * y)) (2 * x + 1) (2 * y + 1)
    p.onFwd (fun f => { f with offers := sput (fun _ => (0, 0)) f.offers y (sget (fun _ => (0, 0)) old.fwd.offers x), offersNext := sput (fun _ => (0, 0)) f.offersNext y (sget (fun _ => (0, 0)) old.fwd.offersNext x) })

/-- KIND 6: the freshness counters of a handle. -/
def Plane.carryFresh (p old : Plane) (x y : Nat) : Plane :=
  let s := old.keySlot x
  p.onKiln (fun k => { k with slots := supd (fun _ => KeySlot.empty) k.slots y (fun z => { z with fvRx := s.fvRx, fvTx := s.fvTx }) })

/-- KIND 7: a network's quiet timer and hold-awake state. -/
def Plane.carryNet (p old : Plane) (x y : Nat) : Plane :=
  { p with nets := sput (fun _ => Net.init) p.nets y (sget (fun _ => Net.init) old.nets x) }

/-- KIND 8: the window's load history of a port, and the rates that its loop has set. -/
def Plane.carryGov (p old : Plane) (x y : Nat) : Plane :=
  let g := old.tget 20 x
  let p := p.tupd 20 y (fun r => (r.put 8 8 (g.u 8 8)).put 16 12 (g.u 16 12))
  let p := p.onFwd (fun f => { f with busy := sput (fun _ => (0, 0)) f.busy y (sget (fun _ => (0, 0)) old.fwd.busy x), busyNext := sput (fun _ => (0, 0)) f.busyNext y (sget (fun _ => (0, 0)) old.fwd.busyNext x) })
  (p.governed y).foldl (fun p i =>
    let o := old.tget 19 i
    if o.u 34 2 = x ∧ o.f 32 0 0 = 1 then p.tupd 19 i (fun r => r.put 0 4 (max (r.u 8 4) (min (r.u 12 4) (o.u 0 4)))) else p) p

/-- One entry of the carry map (R80). RESET leaves the initial value; REGISTER entries name plane-resident words here. -/
def Plane.carryEntry (old : Plane) (p : Plane) (r : Rec) : Plane :=
  let k := r.u 0 1
  if r.u 1 1 = 0 then p
  else if k = 9 then
    let ws := (List.range (r.u 12 4)).map (fun i => (r.u 4 4 + 4 * i, r.u 8 4 + 4 * i))
    p.onRegs (·.carry old.regs ws (fun a => !eavesAddr a))
  else
    (carryPairs r).foldl (fun p x =>
      if k = 1 then p.carryLearned old x.1 x.2
      else if k = 2 then p.carrySignal old (r.u 1 1 = 2) x.1 x.2
      else if k = 3 then p.carrySup old x.1 x.2
      else if k = 4 then p.carryTrigger old x.1 x.2
      else if k = 5 then p.carryTenantOf old x.1 x.2
      else if k = 6 then p.carryFresh old x.1 x.2
      else if k = 7 then p.carryNet old x.1 x.2
      else if k = 8 then p.carryGov old x.1 x.2
      else p) p

/-- A key slot at a turn (R80, R321, R331, R334): an IMPORTED or GENERATED key stays where the new truss declares the handle with the same KIND
and ALG, and PARENT for an IMPORTED one; a DERIVED key is derived again, and one EXHAUSTED or DESTROYED stays so under the same derivation.
Uses left stay within the new USE_LIMIT; freshness starts at 0 where no FRESHNESS entry carries it. -/
def carryKey (s own : Plane) (h : Nat) : KeySlot :=
  let o := s.keyRec h
  let n := own.keyRec h
  let x := s.keySlot h
  let y := own.keySlot h
  let uses := if n.u 8 4 = 0 then 0 else if o.u 8 4 = 0 then n.u 8 4 else min x.uses (n.u 8 4)
  let same := decide (o.u 0 1 = n.u 0 1 ∧ o.u 1 1 = n.u 1 1)
  let base : KeySlot := ⟨0, [], uses, 0, 0, x.winFail⟩
  let keep : KeySlot := { base with state := x.state, key := x.key }
  if n.u 0 1 = 1 then
    let alike := same && decide (bit (o.u 3 1) 1 = bit (n.u 3 1) 1 ∧ o.u 6 2 = n.u 6 2 ∧ o.u 20 1 = n.u 20 1 ∧ o.u 24 16 = n.u 24 16)
    if alike ∧ 2 ≤ x.state then keep else { base with state := y.state, key := y.key }
  else if n.u 0 1 = 2 ∧ same = true ∧ o.u 6 2 = n.u 6 2 then keep
  else if n.u 0 1 = 3 ∧ same = true then keep
  else { base with uses := n.u 8 4 }

/-- GENERATED keys that the turn has brought, drawn from the pool (R331). -/
def Plane.drawNewKeys (p : Plane) : Plane :=
  (p.kiln.slots.map (·.1)).foldl (fun p h => if (p.keyRec h).u 0 1 = 3 ∧ (p.keySlot h).state = 0 then p.fillGenerated h else p) p

/-- Registers that go through every turn: of the Ridge, the Kiln and its engines, Rick and the truss block (R80), but for what management
has written in them (R46). The settings of the turn itself, in the truss block, stay whole (log entry 71). -/
def passAddr (a : Nat) : Bool :=
  decide ((0x40000 ≤ a ∧ a < 0x90000) ∨ (0x700000 ≤ a ∧ a < 0xA00000))

/-- A new-truss plane's state before its carry map: initial values of the new truss (R198, R219, R225), and what belongs to no truss: the
stream and host sides, time, the journal, the Kiln's sessions, versions of learning, links and what the buses still send (log entry 71). -/
def Plane.carryBase (s own : Plane) : Plane :=
  let ks := (List.range (bytesAt own.keys (keysKeyOff own.keys) 4)).foldl (fun l h =>
    sput (fun _ => KeySlot.empty) l h (carryKey s own h)) []
  let p := { own with
    st := s.st.copied own.st
    host := s.host.copied own.host
    servo := s.servo
    rick := s.rick.copied own.rick
    kiln := { s.kiln with slots := ks } }
  let p := p.drawNewKeys.loadForward
  let p := { p with
    regs := ((p.regs.take s.regs passAddr).configFrom p.regs (rowAt false) (fun a => passAddr a && decide (a < 0x900000))).wr TBL_LEARN_VER
      (s.regs.rd TBL_LEARN_VER)
    bus := ((List.range 128).filter (fun n => s.pers n ≠ 0)).foldl (fun l n => supd (fun _ => BusModel.init) l n (fun b => { b with known := s.timingsOf n }))
      (s.bus.filter (fun b => ¬ slotDiffers s.truss own.truss b.1)) }
  let p := (List.range 128).foldl (fun p n => if slotDiffers s.truss own.truss n then p.busRestart n else p) p
  (p.onFwd (fun f => { f with
    links := s.fwd.links, lacp := s.fwd.lacp, lacpEnd := s.fwd.lacpEnd, models := s.fwd.models,
    portSets := (List.range 40).foldl (fun l n => sput (fun _ => PortSet.init) l (128 + n) (s.portSetOf (128 + n))) [], nextUid := s.fwd.nextUid, tapRing := s.fwd.tapRing,
    tapDone := s.fwd.tapDone, tapGap := s.fwd.tapGap })).startNets

/-- The unresolved contributors of a snapshot before their values are mapped (R246); a unit set aside takes its new RID (R86). -/
def Plane.carryPend (p old : Plane) : Plane :=
  p.onThr (fun t => { t with pend := old.thr.pend.filterMap (fun c =>
    match c.aside with
    | none => some { c with vals := [], refresh := [] }
    | some sh => (p.newRid sh.rid).map (fun r => { c with aside := some { sh with rid := r } })) })

/-- The snapshot mapped through the carry map (R86); with COLD_CARRY all dynamic state starts at its initial value (R81). -/
def Plane.carried (s own : Plane) : Plane :=
  let p := s.carryBase own
  if s.regs.get 0 TRUSS_TURN_CTL_COLD_CARRY = 1 then p else ((carryList p.truss).foldl (fun p r => Plane.carryEntry s p r) (p.carryPend s)).countPorts

end Sys2Proof

namespace Sys2Proof.Machine

/-- SNAPSHOT_APPLIED (R420, R86): the leading plane has reached J, `bytes` of snapshot have arrived, and the plane takes the stream from
TICK J on. PURLIN_COPY_BYTES shows the size in both planes. -/
def execSnapshotApplied (p : PlaneId) (bytes : Nat) (s : State) : Host.Outcome State Fault Refusal :=
  let f := s.f
  match f.copy with
  | some c =>
    match c.snap with
    | some snap =>
      if c.plane = p ∧ f.e.role p = .rejoining then
        let f := f.onPlane p (fun own => if own.st.newT then snap.carried own else snap.copied own)
        let f := f.onBoth (fun q => q.onRegs (·.wr64 (PURLIN_COPY_BYTES_LO q.st.me.num) bytes))
        let f := ({ f with copy := none } : Field).onE (·.setStage p 5)
        s.ok (finish f s.otpA s.otpB)
      else s.ok f
    | none => s.ok f
  | none => s.ok f

end Sys2Proof.Machine
end

