-- ==== Sys2Proof/Machine/Turn.lean ====
section
/-!
DEFINITION. The end of a turn (R84 steps 10-12, R88): ports drain and pass to the new-truss plane, which then leads; releases by the
transmit models (R112, R147, R172).
-/

namespace Sys2Proof.Machine

/-- SLOT_RELEASE (R112, R147): a slot's queue, as far as the model has room. -/
def execSlotRelease (p : PlaneId) (n : Fin 128) (s : State) : Host.Outcome State Fault Refusal :=
  s.ok (if taking s.f p then s.f.onPlane p (·.releaseSlot n.val) else s.f)

/-- ETH_RELEASE (R172): the queues of Ethernet or T1S port 128 + `port`. -/
def execEthRelease (p : PlaneId) (port : Fin 40) (s : State) : Host.Outcome State Fault Refusal :=
  s.ok (if taking s.f p then s.f.onPlane p (·.releaseEth (128 + port.val)) else s.f)

/-- Whether a cause comes before the CUT that plane `q` has taken (R88). -/
def preCut (q : Plane) (cause : Nat) : Bool := decide (cause ≤ q.regs.rd64 TRUSS_CUT_STREAM_LO)

/-- Units that the old plane still holds for a port with a cause before the CUT (R88): queued, built ahead of a verdict, on their way up. -/
def undrained (q : Plane) (port : Nat) : Nat :=
  ((List.range 8).map (fun k => ((q.queue (qkey port k)).filter (fun u => preCut q u.sh.stream)).length)).sum +
    (q.st.up.filter (fun c => c.port = port && preCut q c.cause)).length +
    (q.thr.prov.filter (fun x => x.held.dests.contains port)).length +
    (q.host.out.filter (fun m => 168 + m.ep = port && streamOf m.cls = 1 && preCut q m.cause)).length

/-- The last port has passed (R84 step 11): the new-truss plane leads, and the old plane restarts to load the new truss. -/
def swapLeader (f : Field) (old new : PlaneId) : Field :=
  let f := f.onE (fun e =>
    let e := (e.setRole new .leading).setRole old .rejoining
    let next := sput (fun _ => 0) e.sel.next 256 (((f.plane new).st.accs.head?).elim (f.plane new).st.accSeq (·.oseq))
    { e with sel := { e.sel with next := next, recording := false, passed := [], digests := [], hold := e.sel.hold.filter (fun c => c.src ≠ old) } })
  let f := ({ f with copy := none } : Field).restartPlane old
  let f := f.onPlane new (fun q => { q with st := { q.st with newT := false } })
  let f := f.onE (fun e =>
    let e := (e.setStage old 1).onRj old (fun r => { r with attemptAt := e.counter, level := false })
    e.ctrlRoleNow 5 0xFFFF)
  f.setPhase 6 f.turn.newVer

/-- A port passes to the new-truss plane: its held candidates go out in output order, starting with the first (R88). -/
def passPort (f : Field) (old : PlaneId) (port : Nat) : Field :=
  let f := { f with turn := { f.turn with drained := f.turn.drained ++ [port] } }
  let f := (f.onE (fun e => { e with sel := { e.sel with gone := e.sel.gone ++ [port] } })).passTo old.other port
  if drainPorts.all (fun x => f.turn.drained.contains x) then swapLeader f old old.other else f

/-- The old plane of a turn that drains, once it has taken the CUT. -/
def drainingPlane (f : Field) : Option PlaneId :=
  match f.e.leader with
  | some p => if f.phase = 5 ∧ (f.plane p).st.past = true then some p else none
  | none => none

/-- PORT_DRAINED (R88). -/
def execPortDrained (port : Fin 176) (s : State) : Host.Outcome State Fault Refusal :=
  let f := s.f
  match drainingPlane f with
  | some p =>
    if f.turn.drained.contains port.val = false ∧ undrained (f.plane p) port.val = 0 then s.ok (passPort f p port.val) else s.ok f
  | none => s.ok f

/-- DRAIN_LIMIT_EXPIRE (R88): what the old plane still holds for the port is discarded and counted in TRUSS_CUT_DROP. -/
def execDrainLimitExpire (port : Fin 176) (dt : Nat) (s : State) : Host.Outcome State Fault Refusal :=
  let f := s.f.onE (·.at dt)
  match drainingPlane f with
  | some p =>
    let n := undrained (f.plane p) port.val
    let limit := (f.plane p.other).truss.drain * 1000000
    if f.turn.drained.contains port.val = false ∧ 0 < n ∧ f.turn.cutAt + limit ≤ f.e.steady f.e.counter then
      let f := f.onPlane p (fun q =>
        let q := (List.range 8).foldl (fun q k =>
          q.setQueue (qkey port.val k) ((q.queue (qkey port.val k)).filter (fun u => !preCut q u.sh.stream))) q
        let q := q.onThr (fun t => { t with prov := t.prov.map (fun x => { x with held := { x.held with dests := x.held.dests.filter (· ≠ port.val) } }) })
        let stays := fun (m : RMsg) => !(168 + m.ep = port.val && streamOf m.cls = 1 && preCut q m.cause)
        { q with
          st := { q.st with up := q.st.up.filter (fun c => c.port ≠ port.val) }
          host := { q.host with out := q.host.out.filter stays } })
      let f := f.onBoth (·.onRegs (·.addCnt TRUSS_CUT_DROP n))
      s.ok (passPort f p port.val)
    else s.ok f
  | none => s.ok f

end Sys2Proof.Machine
end

