-- ==== Sys2Proof/Machine/MgmtView.lean ====
section
/-!
DEFINITION. What a management read shows (R44-R52, R60): the registers whose value another part of the state holds, and every other register
as its file keeps it.
-/

namespace Sys2Proof

/-- A word from fields: value and lowest bit. -/
def pack (l : List (Nat × Nat)) : Nat := l.foldl (fun n x => n + x.1 * 2 ^ x.2) 0

/-- The low or high word of a 64-bit value. -/
def half64 (v : Nat) (high : Bool) : Nat := if high then v / 2 ^ 32 % 2 ^ 32 else v % 2 ^ 32

/-- A truth value as a bit. -/
def nbit (b : Bool) : Nat := if b then 1 else 0

/-- A power of two for each element of a list of bit numbers. -/
def bitsOf (l : List Nat) : Nat := l.foldl (fun n k => n + 2 ^ k) 0

/-! Registers in Eaves. -/

/-- Whether a posted write to the block at `base` has not arrived (R56). -/
def Eaves.postBusy (e : Eaves) (base : Nat) : Bool := (sget (fun _ => none) e.posted base).isSome

/-- The DEVICE block. -/
def Machine.Field.viewDevice (f : Machine.Field) (a : Nat) : Option Nat :=
  let e := f.e
  if a = DEVICE_ID then some Config.deviceId
  else if a = DEVICE_SERIAL_LO ∨ a = DEVICE_SERIAL_HI then some (half64 Config.serial (a = DEVICE_SERIAL_HI))
  else if a = DEVICE_TRUSS_VER then some f.lead.truss.version
  else if a = DEVICE_MODE then some (pack [(e.roleB.code, 12), (e.roleA.code, 8), (e.pstate.code, 4), (e.mode.code, 0)])
  else if a = DEVICE_STREAM_LO ∨ a = DEVICE_STREAM_HI then some (half64 f.lead.st.stream (a = DEVICE_STREAM_HI))
  else none

/-- The source that FLUE_SEL names. -/
def Eaves.fluSel (e : Eaves) : Nat := e.regs.get 0 FLUE_SEL_INDEX

/-- The lowest hold that stands; 0 none (R439). -/
def lowestHold (holds : Nat) : Nat := ((List.range 8).find? (fun k => bit holds k)).elim 0 (· + 1)

/-- The FLUE block (R430). -/
def Eaves.viewFlue (e : Eaves) (a : Nat) : Option Nat :=
  let s := e.src e.fluSel
  if a = FLUE_SUMMARY then
    some (pack [((e.flue.filter (·.2.cause)).length, 16), ((e.flue.filter (·.2.live)).length, 0)])
  else if a = FLUE_SRC_STAT then
    some (pack [((flueClass e.fluSel).elim 0 id, 30), (nbit s.live, 29), (nbit s.cause, 28), (nbit s.rail, 27), (s.count, 0)])
  else if a = FLUE_SRC_FIRST_LO ∨ a = FLUE_SRC_FIRST_HI then some (half64 s.first (a = FLUE_SRC_FIRST_HI))
  else if a = FLUE_SRC_LAST_LO ∨ a = FLUE_SRC_LAST_HI then some (half64 s.last (a = FLUE_SRC_LAST_HI))
  else if a = FLUE_LAST_SAFE then some ((FLUE_LAST_SAFE_HOLD.set (e.regs.rd a) (lowestHold e.seqr.holds)).toNat)
  else if FLUE_CAUSE 0 ≤ a ∧ a < FLUE_CAUSE 64 then
    some (bitsOf ((List.range 32).filter (fun k => (e.src (8 * (a - FLUE_CAUSE 0) + k)).cause)))
  else if FLUE_LIVE 0 ≤ a ∧ a < FLUE_LIVE 64 then
    some (bitsOf ((List.range 32).filter (fun k => (e.src (8 * (a - FLUE_LIVE 0) + k)).live)))
  else none

/-- The POWER and MODE block and the TIME block. -/
def Eaves.viewPower (e : Eaves) (a : Nat) : Option Nat :=
  if a = PWR_PAD_HELD then some (e.regs.get 0 BBR_PAD_HELD_COURSES)
  else if a = PWR_ALARM_STAT then some ((PWR_ALARM_STAT_BUSY.set (e.regs.rd a) (nbit (e.postBusy 0x20000))).toNat)
  else if a = TIME_NOW_LO ∨ a = TIME_NOW_HI then some (half64 e.counter (a = TIME_NOW_HI))
  else if a = TIME_TICK_LO ∨ a = TIME_TICK_HI then some (half64 e.merger.lastTick (a = TIME_TICK_HI))
  else if a = TIME_CAL_SEC_LO ∨ a = TIME_CAL_SEC_HI then some (half64 e.calSec (a = TIME_CAL_SEC_HI))
  else if a = TIME_CAL_FRAC then some (e.seqr.cal % 10 ^ 9 * 32768 / 10 ^ 9)
  else none

/-- Whether an offset lies in the inspection window of a CAN slot (R111). -/
def inWindow (o : Nat) : Bool := decide (0x200 ≤ o ∧ o < 0x258)

/-- The inspection window (R111): the selected mailbox. `locked` says that this read holds the lock. -/
def Eaves.viewMbox (e : Eaves) (n o : Nat) (locked : Bool) : Nat :=
  let m := e.sl n SLOT_RXMB_SEL_MB
  let b := e.mbox n m
  let fr := b.cur.getD ⟨0, 0, 0, 0, 0, []⟩
  if o = SLOT_MB_STATUS then
    pack [(nbit b.cur.isSome, 31), (nbit locked, 30), (nbit b.ovw, 29), (nbit b.shadow.isSome, 28), (nbit (decide (64 < fr.len)), 27), (m, 16),
      (fr.len, 0)]
  else if o = SLOT_MB_ID then fr.id
  else if o = SLOT_MB_FMT then fr.fmt
  else if o = SLOT_MB_AF then fr.af
  else if o = SLOT_MB_TS_LO then half64 fr.ts false
  else if o = SLOT_MB_TS_HI then half64 fr.ts true
  else bytesAt fr.data (o - SLOT_MB_DATA 0) 4

/-- A slot's block, as offsets (R97-R117, R131-R139). TX_ACTIVE is set too while a commander drives a header (R131). -/
def Eaves.viewSlot (e : Eaves) (who n o : Nat) : Option Nat :=
  if o = SLOT_STAT then
    let w := SLOT_STAT_GEN.set (e.regs.rd (slotBase n + o)) (e.genOf n)
    some (if e.steady e.counter < (e.slot n).slow.headEnd then SLOT_STAT_TX_ACTIVE.set w 1 else w).toNat
  else if e.isSlow n then
    if o = SLOT_PK_COUNT then some (e.slot n).slow.stages.length else none
  else if o = SLOT_TX_PEND then some (bitsOf ((e.slot n).can.tx.map (·.idx)))
  else if o = SLOT_RXMB_NEW_LO then some (bitsOf ((List.range 32).filter (fun m => (e.mbox n m).new)))
  else if o = SLOT_RXMB_NEW_HI then some (bitsOf ((List.range 32).filter (fun m => (e.mbox n (32 + m)).new)))
  else if inWindow o then some (e.viewMbox n o ((e.slot n).can.lock.elim false (fun l => l.1 = who)))
  else none

/-- An Ethernet or T1S port's and a chain's block, as offsets. -/
def Eaves.viewPort (e : Eaves) (a : Nat) : Option Nat :=
  if 0x200000 ≤ a ∧ a < 0x218000 then
    if a % 0x1000 = ETH_STAT then some ((ETH_STAT_GEN.set (e.regs.rd a) (e.genOf (128 + (a - 0x200000) / 0x1000))).toNat) else none
  else if 0x280000 ≤ a ∧ a < 0x290000 then
    let n := (a - 0x280000) / 0x1000
    if a % 0x1000 = T1S_STAT then
      some ((T1S_STAT_ED.set (T1S_STAT_GEN.set (e.regs.rd a) (e.genOf (152 + n))) (nbit (Config.energyDetect n e.counter))).toNat)
    else none
  else if 0x180000 ≤ a ∧ a < 0x184000 then
    let n := (a - 0x180000) / 0x1000
    if a % 0x1000 = BT_STAT then
      some ((BT_STAT_BUSY.set (BT_STAT_GEN.set (e.regs.rd a) (e.genOf (400 + n))) (nbit (e.postBusy (battenBase n)))).toNat)
    else none
  else none

/-- Failed attempts of a plane within the last 600 s (R423). -/
def Eaves.attempts (e : Eaves) (p : PlaneId) : Nat := ((e.rj p).fails.filter (fun t => decide (e.counter < t + 600 * 10 ^ 9))).length

/-- The PLANE block's Eaves part and BBR_STATUS. -/
def Machine.Field.viewPlanes (f : Machine.Field) (a : Nat) : Option Nat :=
  let e := f.e
  if a = PLANE_ROLE then some (pack [(e.roleB.code, 12), (e.roleA.code, 8)])
  else if a = PLANE_A_STAT then some ((PLANE_A_STAT_ATTEMPTS.set (e.regs.rd a) (e.attempts .A)).toNat)
  else if a = PLANE_B_STAT then some ((PLANE_B_STAT_ATTEMPTS.set (e.regs.rd a) (e.attempts .B)).toNat)
  else if a = PLANE_SEL_CFG then
    some (pack [(nbit f.compares, 31)])
  else if a = BBR_STATUS then some (nbit (e.postBusy 0xF00000))
  else none

/-- What a read of an Eaves-resident register shows to initiator `who`. -/
def Machine.Field.eavesWord (f : Machine.Field) (who a : Nat) : Word :=
  let e := f.e
  let v := if a < 0x10000 then f.viewDevice a
    else if a < 0x20000 then e.viewFlue a
    else if a < 0x40000 then e.viewPower a
    else if 0x100000 ≤ a ∧ a < 0x180000 then e.viewSlot who ((a - 0x100000) / 0x1000) (a % 0x1000)
    else if a < 0x290000 then e.viewPort a
    else f.viewPlanes a
  match v with
  | some x => BitVec.ofNat 32 x
  | none => e.regs.rd a

/-! Registers in a plane. -/

/-- The key at which a plane keeps a register: registers behind a selector have a copy for each of its values. -/
def Plane.keyOf (q : Plane) (a : Nat) : Nat :=
  if 0x300014 ≤ a ∧ a < 0x30002C then selKey (qkey (q.regs.get 0 SW_Q_SEL_PORT) (q.regs.get 0 SW_Q_SEL_CLASS)) a
  else if 0x300038 ≤ a ∧ a < 0x300050 then selKey (q.regs.get 0 SW_PORT_SEL_PORT) a
  else if a = SW_LAG_MEMBERS then selKey (q.regs.get 0 SW_LAG_SEL_LAG) a
  else if a = TBL_PORT_LEARN_FAIL ∨ a = TBL_PORT_MOVE then selKey (q.regs.get 0 TBL_PORT_SEL_PORT) a
  else if a = CPH_KPASS ∨ a = CPH_KFAIL ∨ a = CPH_KREPLAY ∨ a = CPH_KTXFAIL then selKey (q.regs.get 0 CPH_KSEL_HANDLE) a
  else a

/-- The RIDGE block (R281, R302). -/
def Plane.viewRidge (q : Plane) (a : Nat) : Option Nat :=
  let ep := q.regs.get 0 RIDGE_EP_SEL_EP
  if a = RIDGE_EP_STAT then
    some (pack [(nbit (q.epUp ep), 31), (nbit (q.partner ep).isSome, 30), ((q.partner ep).getD 0, 24), (sget (fun _ => 0) q.st.gens (168 + ep), 0)])
  else if a = RIDGE_EP_RESTARTS then some (sget (fun _ => 0) q.host.epRestarts ep)
  else if a = RIDGE_SEMA_STAT then
    match Machine.semaAt q (q.regs.get 0 RIDGE_SEMA_SEL_INDEX) with
    | some s => some (pack [(1, 31), (nbit s.group, 27), (s.ep, 24), (s.tenant, 0)])
    | none => some 0
  else none

/-- The KILN and CIPHER blocks (R345, R346); `tenant` is the reader. -/
def Plane.viewKiln (q : Plane) (e : Eaves) (tenant a : Nat) : Option Nat :=
  if a = KILN_SLOT_ATTR then
    let h := q.regs.get 0 KILN_SLOT_SEL_HANDLE
    let r := q.keyRec h
    let t := r.u 4 2
    some (pack [((q.keySlot h).state, 28), (r.u 1 1 % 4, 26), (r.u 2 1 % 64, 20), (r.u 0 1 % 8, 17), (nbit (decide (t = 0xFFFF)), 16), (t % 4096, 0)])
  else if a = KILN_TAMPER then some (e.regs.rd BBR_TAMPER).toNat
  else if a = CPH_SESS_STAT then
    let w := CPH_SESS_STAT_LIVE.set (q.regs.rd a) (nbit (q.session tenant).isSome)
    some ((CPH_SESS_STAT_LOCK_S.set w (min 4095 ((q.kiln.lockUntil - q.st.tick + 99999) / 100000))).toNat)
  else if a = CPH_RAND_STAT then some (pack [(nbit q.kiln.randSeen, 31), (q.st.pool.length, 0)])
  else
    let s := q.keySlot (q.regs.get 0 CPH_KSEL_HANDLE)
    let limit := (q.keyRec (q.regs.get 0 CPH_KSEL_HANDLE)).u 8 4
    if a = CPH_KSTAT then some (pack [(s.state, 28), (if limit = 0 then 0 else s.uses, 0)])
    else if a = CPH_KFV_RX_LO ∨ a = CPH_KFV_RX_HI then some (half64 s.fvRx (a = CPH_KFV_RX_HI))
    else if a = CPH_KFV_TX_LO ∨ a = CPH_KFV_TX_HI then some (half64 s.fvTx (a = CPH_KFV_TX_HI))
    else none

/-- Networks that are READY, as a bit mask. -/
def readyMask (q : Plane) : Nat := bitsOf ((List.range (Machine.netCount q.truss)).filter (fun i => (Machine.netOf q i).ready))

/-- The NETSLEEP block (R496). -/
def Plane.viewNet (q : Plane) (a : Nat) : Option Nat :=
  let i := q.regs.get 0 NS_SEL_NET
  let x := Machine.netOf q i
  let r := Machine.netRec q.truss i
  let k := (a - NS_HOLD 0) / 0x10
  let h := sget (fun _ => (none : Option Holder)) x.table k
  if a = NS_READY_LO ∨ a = NS_READY_HI then some (half64 (readyMask q) (a = NS_READY_HI))
  else if a = NS_NOT_READY then some (Machine.notReady q)
  else if a = NS_NET_CFG then
    some (if i < Machine.netCount q.truss then
      pack [(1, 31), (r.f 0 0 0, 30), (r.f 0 1 1, 29), (r.f 0 2 2, 28), (quietTicks r / 100000, 0)] else 0)
  else if a = NS_NET_STAT then
    let left := (x.lastKa + quietTicks r - q.st.tick + 99) / 100
    some (pack [(nbit x.ready, 31), (if x.ready then 0 else left, 0)])
  else if a = NS_LAST_KA_LO ∨ a = NS_LAST_KA_HI then some (half64 x.lastKa (a = NS_LAST_KA_HI))
  else if a = NS_OTHER_MS then some x.otherMs
  else if a = NS_KA_CNT then some x.kaCnt
  else if NS_HOLD 0 ≤ a ∧ a < NS_HOLD 8 then
    match h with
    | none => some 0
    | some h =>
      if a = NS_HOLD k then some (pack [(1, 31), (nbit h.logged, 30), (h.kind, 24), (h.tenant % 4096, 0)])
      else if a = NS_HOLD_MS k then some h.runMs
      else some (half64 h.id (a = NS_HOLD_ID_HI k))
  else if a = NS_WAKE_CFG then let (_, c, en) := wakeCfg q.truss; some (pack [(en, 16), (c, 0)])
  else if a = NS_WAKEN_CFG then some (wakeCfg q.truss).1
  else none

/-- Whether a selected register's selection names nothing (R196, R224, R496): a queue, a port or a network that does not exist. -/
def Plane.noSuch (q : Plane) (a : Nat) : Bool :=
  let port := q.regs.get 0 SW_Q_SEL_PORT
  if SW_Q_CFG ≤ a ∧ a ≤ SW_Q_AGED then decide (178 < port) || (!eightQueues port && decide (q.regs.get 0 SW_Q_SEL_CLASS ≠ 0))
  else if SW_PORT_STAT ≤ a ∧ a ≤ SW_PORT_NOLAG then decide (178 < q.regs.get 0 SW_PORT_SEL_PORT)
  else if TBL_PORT_LEARNED ≤ a ∧ a ≤ TBL_PORT_MOVE then
    decide (q.regs.get 0 TBL_PORT_SEL_PORT < 128 ∨ 175 < q.regs.get 0 TBL_PORT_SEL_PORT)
  else if NS_NET_CFG ≤ a ∧ a < NS_HOLD 8 then decide (Machine.netCount q.truss ≤ q.regs.get 0 NS_SEL_NET)
  else false

/-- The row of an address as the plane stands: a selection of nothing makes the selected registers bus errors. -/
def Plane.rowOf (q : Plane) (a : Nat) : Option RegRow := if q.noSuch a then none else rowAt false a

/-- Whether an address is a register of a queue that its port's record leaves disabled: its fields read 0, writes are ignored (R196). -/
def Plane.deadQueue (q : Plane) (a : Nat) : Bool :=
  decide (SW_Q_CFG ≤ a ∧ a ≤ SW_Q_AGED) && !q.portOn (q.regs.get 0 SW_Q_SEL_PORT)

/-- The SWITCH and TABLES blocks. -/
def Plane.viewSwitch (q : Plane) (a : Nat) : Option Nat :=
  let qk := qkey (q.regs.get 0 SW_Q_SEL_PORT) (q.regs.get 0 SW_Q_SEL_CLASS)
  let port := q.regs.get 0 SW_PORT_SEL_PORT
  if q.deadQueue a then some 0
  else if a = SW_BUF_USED then some q.bufUsed
  else if a = SW_Q_CFG then some ((SW_Q_CFG_ENABLED.set (q.regs.rd (q.keyOf a)) (nbit (q.allQueues.contains qk))).toNat)
  else if a = SW_Q_LEVEL then some (q.level qk)
  else if a = SW_PORT_STAT then
    let lag := q.lagOf port
    some (pack [(nbit (q.linkOf port).isSome, 31), ((q.linkOf port).getD 15, 24), (lag.getD 15, 20),
      (nbit (lag.elim false (fun l => (q.lagActive l).contains port)), 19)])
  else if a = SW_LAG_ACTIVE then some (bitsOf ((q.lagActive (q.regs.get 0 SW_LAG_SEL_LAG)).map (· - 128)))
  else if a = TBL_MAC_USED then some q.macUsed
  else if a = TBL_PORT_LEARNED then some (q.macCount (q.regs.get 0 TBL_PORT_SEL_PORT))
  else if a = TBL_PORT_LIMIT then
    let r := q.portLearn (q.regs.get 0 TBL_PORT_SEL_PORT)
    some (pack [(r.f 4 0 0, 31), (r.f 5 0 0, 30), (r.u 0 4 % 2 ^ 18, 0)])
  else none

/-- The THATCHER and TENANT blocks. -/
def Plane.viewThr (q : Plane) (a : Nat) : Option Nat :=
  if a = THR_MODEL_LEVEL then some q.modelOps
  else if a = THR_PENDING then some q.unresolved
  else if a = TEN_BOUND then some q.bound
  else none

/-- What a read of a plane-resident register shows to a reader of tenant `tenant`. -/
def Plane.word (q : Plane) (e : Eaves) (tenant a : Nat) : Word :=
  let v := if a < 0x80000 ∨ (0x700000 ≤ a ∧ a < 0x800000) then q.viewKiln e tenant a
    else if a < 0x100000 then q.viewRidge a
    else if a < 0x200000 then q.viewNet a
    else if a < 0x500000 then q.viewSwitch a
    else if a < 0x700000 then q.viewThr a
    else none
  match v with
  | some x => BitVec.ofNat 32 x
  | none => q.regs.rd (q.keyOf a)

end Sys2Proof
end

