-- ==== Sys2Proof/Machine/MgmtEaves.lean ====
section
/-!
DEFINITION. Management accesses to Eaves-resident registers (R33, R48-R63): the checks that end in a bus error, the guard, snapshots and held
low words, posted writes, and what a write of each register with a behaviour of its own does.
-/

namespace Sys2Proof

/-- The tenant number of an initiator before the guard (R58): a secure core, a host's TENANT, or a core that is neither. -/
def Who.guardAs (w : Who) : Nat := if w.secure then secureCore else if w.init < 8 then w.tenant else 65537

/-- Status codes of R54: done. -/
def stOk : Nat := 0
/-- BUSERR. -/
def stBusErr : Nat := 2
/-- BUSY. -/
def stBusy : Nat := 3
/-- RESTARTED. -/
def stRestarted : Nat := 5

/-- Whether an Eaves-resident register stands at an address, NS_WAKE_PINS in the NETSLEEP block among them (R48). -/
def inEaves (a : Nat) : Bool := eavesAddr a || a = NS_WAKE_PINS

/-- The row of an address as the device stands: a slot's layout follows its personality, and one without a personality has only SLOT_CTL
and SLOT_STAT (R96); the registers of one fault source exist for an implemented FLUE_SEL (R441). -/
def Eaves.rowOf (e : Eaves) (a : Nat) : Option RegRow :=
  if 0x100000 ≤ a ∧ a < 0x180000 then
    let n := (a - 0x100000) / 0x1000
    if e.isSlow n then rowAt true a else if persCan (e.pers n) ∨ a % 0x1000 < 8 then rowAt false a else none
  else if FLUE_SRC_STAT ≤ a ∧ a ≤ FLUE_SRC_LAST_HI ∧ flueClass e.fluSel = none then none
  else rowAt false a

/-! Snapshots and held low words (R61, R62). -/

/-- The word kept under an initiator's tag. -/
def tagged (m : List (Nat × Option Snap)) (init a : Nat) : Option Word :=
  match sget (fun _ => none) m init with
  | some s => if s.addr = a then some s.val else none
  | none => none

/-- A read of a SNAP low word at `a`: the high word `hi` is latched (R61). -/
def Eaves.latch (e : Eaves) (init a : Nat) (hi : Word) : Eaves :=
  { e with snaps := sput (fun _ => none) e.snaps init (some ⟨a + 4, hi⟩) }

/-- A read of a SNAP high word with live value `v` (R61): the snapshot under its tag, else the live word and a miss. -/
def Eaves.highRead (e : Eaves) (init a : Nat) (v : Word) : Eaves × Word :=
  match tagged e.snaps init a with
  | some x => (e, x)
  | none => (e.onRegs (·.inc DEVICE_SNAPMISS_CNT), v)

/-- The effect of reading a register with live value `v` on the snapshots, and what the read returns; `hi` is the word above it. -/
def Eaves.snapRead (e : Eaves) (init : Nat) (r : RegRow) (a : Nat) (v hi : Word) : Eaves × Word :=
  if r.snap = 1 then (e.latch init a hi, v) else if r.snap = 2 then e.highRead init a v else (e, v)

/-- A write of a SNAP low word is held (R62). -/
def Eaves.holdLow (e : Eaves) (init a : Nat) (v : Word) : Eaves :=
  { e with holds := sput (fun _ => none) e.holds init (some ⟨a, v⟩) }

/-- The low word that a high-word write at `a` applies with: the held one, if any (R62). -/
def Eaves.heldLow (e : Eaves) (init a : Nat) : Option Word := tagged e.holds init (a - 4)

/-- The held low word is gone once it has been applied. -/
def Eaves.dropHeld (e : Eaves) (init : Nat) : Eaves := { e with holds := sput (fun _ => none) e.holds init none }

/-! Reads. -/

/-- An access of a word that cannot be one (R48, R49): unaligned or outside what the map lists. The cause, if any. -/
def accessFault (row : Option RegRow) (a : Nat) : Option Nat := if a % 4 ≠ 0 then some 2 else if row.isNone then some 1 else none

end Sys2Proof

namespace Sys2Proof.Machine

/-- Whether an initiator may reach the guarded fields (R58). -/
def authorised (f : Field) (w : Who) : Bool := f.lead.hasSession w.guardAs

/-- What a read changes in Eaves beside the snapshots: the mailbox lock (R111) and TXTS_VALID (R162). -/
def readEffect (e : Eaves) (init a : Nat) : Eaves :=
  let o := a % 0x1000
  if 0x100000 ≤ a ∧ a < 0x180000 then
    let n := (a - 0x100000) / 0x1000
    if e.isSlow n then e
    else if o = SLOT_MB_STATUS then e.mboxLock n init
    else if o = SLOT_MB_DATA 15 then e.mboxLast n init
    else e
  else if 0x200000 ≤ a ∧ a < 0x218000 ∧ o = ETH_TXTS_HI then e.etSet ((a - 0x200000) / 0x1000) ETH_STAT_TXTS_VALID 0
  else e

/-- Whether an access meets the lock of a mailbox window that another initiator holds (R111). -/
def windowBusy (e : Eaves) (init a : Nat) : Bool :=
  decide (0x100000 ≤ a ∧ a < 0x180000) && !e.isSlow ((a - 0x100000) / 0x1000) && inWindow (a % 0x1000) &&
    e.mboxBusy ((a - 0x100000) / 0x1000) init

/-- The live word of a read: a read of SLOT_MB_STATUS shows LOCKED of the lock that it takes (R111). -/
def liveWord (f : Field) (init a : Nat) : Word :=
  let v := f.eavesWord init a
  if 0x100000 ≤ a ∧ a < 0x180000 ∧ a % 0x1000 = SLOT_MB_STATUS ∧ f.e.isSlow ((a - 0x100000) / 0x1000) = false then
    (⟨0, 30, 30⟩ : Fld).set v 1
  else v

/-- A read that Eaves performs (R33, R44): its status and value. -/
def eavesRead (f : Field) (w : Who) (a : Nat) : Field × Nat × Word :=
  match accessFault (f.e.rowOf a) a, f.e.rowOf a with
  | some c, _ => (countBusErr f c a, stBusErr, 0)
  | none, none => (f, stBusErr, 0)
  | none, some r =>
    if r.guard = true ∧ authorised f w = false then (f, stOk, 0)
    else if windowBusy f.e w.init a then (f, stBusy, 0)
    else
      let v := r.read (liveWord f w.init a)
      let (e, x) := f.e.snapRead w.init r a v (f.eavesWord w.init (a + 4))
      ({ f with e := readEffect e w.init a }, stOk, x)

/-! Writes. -/

/-- The access codes applied to a register of Eaves (R50-R52). -/
def baseWrite (e : Eaves) (r : RegRow) (a : Nat) (v : Word) : Eaves := e.onRegs (fun m => m.wr a (r.write (m.rd a) v))

/-- A posted write (R56): BUSY while the last one of its block, at `base`, has not arrived. -/
def postWrite (f : Field) (base a : Nat) (v : Word) : Field × Nat :=
  if f.e.postBusy base then (countBusErr f 3 a, stBusErr)
  else (f.onE (fun e => { e with posted := sput (fun _ => none) e.posted base (some (a, v)) }), stOk)

/-- The block of a PW register (R56, R473, R497). -/
def postBase (a : Nat) : Nat :=
  if a < 0x40000 then 0x20000 else if a < 0x184000 then battenBase ((a - 0x180000) / 0x1000) else 0xF00000

/-- The TAG of an endpoint's management write that runs (R65). -/
def jobTag (f : Field) (ep : Nat) : Nat := (f.lead.st.jobs.find? (fun j => j.ep = ep)).elim 0 (·.tag)

/-- START of a STATE_DUMP (R65): SCOPE as written, one dump at a time, for a host endpoint. R65 gives no status for a START that a
management core writes: DESIGN CHOICE, it is OK, stores SCOPE and starts nothing (log entry 75). -/
def startDump (f : Field) (w : Who) (tag scope : Nat) : Field × Nat :=
  if f.dump.isSome then (f, stBusy)
  else
    let f := f.onE (·.onRegs (fun m => m.wr DEVICE_DUMP_CTL (BitVec.ofNat 32 (scope % 65536))))
    if 8 ≤ w.init then (f, stOk)
    else
      ({ f with dump := some ⟨w.init, w.tenant, tag, scope % 512, f.e.counter, f.lead.st.stream, 0, 0, 0xFFFFFFFF, false⟩ }.onE
        (·.onRegs (fun m => (m.set 0 DEVICE_DUMP_STAT_RUNNING 1).set 0 DEVICE_DUMP_STAT_SECTIONS 0)), stOk)

/-- ABORT of a STATE_DUMP (R65, R66). -/
def abortDump (f : Field) : Field := { f with dump := f.dump.map (fun d => { d with aborting := true }) }

/-- A write of DEVICE_DUMP_CTL (R65). The spec does not say what START and ABORT do together: DESIGN CHOICE, START acts and ABORT is
ignored (log entry 75). -/
def writeDump (f : Field) (w : Who) (v : Word) : Field × Nat :=
  if bit v.toNat 31 then startDump f w (jobTag f w.init) v.toNat
  else
    let f := f.onE (·.onRegs (fun m => m.wr DEVICE_DUMP_CTL (BitVec.ofNat 32 (v.toNat % 65536))))
    (if bit v.toNat 30 then abortDump f else f, stOk)

/-- A write of the FLUE block (R430, R431). -/
def writeFlue (f : Field) (w : Who) (r : RegRow) (a : Nat) (v : Word) : Field × Nat :=
  let x := v.toNat
  let i := f.e.fluSel
  if a = FLUE_FORCE then
    let i := bits x 10 0
    if (flueClass i).isNone then (countBusErr f 1 a, stBusErr)
    else
      let f := f.onE (baseWrite · r a v)
      (if bit x 31 = bit x 30 then f else forceFault f w.guardAs i (bit x 30), stOk)
  else if a = FLUE_SRC_STAT then
    let f := if bit x 28 then f.onE (clearCause · i) else f
    (f.onE (·.onSrc i (fun s => { s with rail := s.rail && !bit x 27, count := if x % 65536 = 65535 then 0 else s.count })), stOk)
  else if FLUE_CAUSE 0 ≤ a ∧ a < FLUE_CAUSE 64 then
    (f.onE (fun e => ((List.range 32).filter (fun k => bit x k)).foldl (fun e k => clearCause e (8 * (a - FLUE_CAUSE 0) + k)) e), stOk)
  else (f.onE (baseWrite · r a v), stOk)

/-- New bounds of the adaptive loop (R462, R463): a write outside 650 to 850 mV or with VMIN above VMAX leaves the register. The voltage
follows the bounds, unless that would take it below the lowest of the present point. -/
def writeAvs (e : Eaves) (r : RegRow) (v : Word) : Eaves :=
  let hi := PWR_AVS_VMAX.get v
  let lo := PWR_AVS_VMIN.get v
  if hi < lo ∨ lo < 650 ∨ 850 < hi then e else fitVolt (baseWrite e r PWR_AVS v)

/-- A write of the POWER and MODE or the TIME block (R455, R461-R463, R473). -/
def writePower (f : Field) (r : RegRow) (a : Nat) (v : Word) : Field × Nat :=
  if a = PWR_PAD_RELEASE then (f.onE (releaseCourses · (v.toNat % 65536)), stOk)
  else if a = PWR_DVFS then
    (f.onE (fun e =>
      let req := PWR_DVFS_REQ.get v
      let keep := e.regs.get 0 PWR_OVERRIDE_HOLD_DVFS = 1
      let old := e.regs.get 0 PWR_DVFS_REQ
      let e := baseWrite e r a v
      if keep then e.onRegs (·.set 0 PWR_DVFS_REQ old)
      else if req = old then e else e.onSeq (fun s => { s with dvfsAt := e.merger.lastTick })), stOk)
  else if a = PWR_AVS then (f.onE (writeAvs · r v), stOk)
  else (f.onE (baseWrite · r a v), stOk)

/-- A write of SLOT_CTL (R97, R98). -/
def writeSlotCtl (e : Eaves) (n : Nat) (v : Word) : Eaves :=
  let on := e.sl n SLOT_CTL_ENABLE = 1
  let op := SLOT_CTL_OPMODE.get v
  let e := if op = 3 then e else e.slSet n SLOT_CTL_OPMODE op
  if bit v.toNat 0 = true ∧ ¬ on then slotOn e n
  else if bit v.toNat 0 = false ∧ on then (if bit v.toNat 31 then (slotOff e n).slotRestart n else slotOff e n)
  else if bit v.toNat 31 then e.slotRestart n
  else e

/-- A write of SLOT_LIN_SCHED (R146): REQ names a table with entries, then the wake and sleep controls. A responder ignores it. -/
def writeSched (f : Field) (n : Nat) (v : Word) : Field :=
  let req := SLOT_LIN_SCHED_REQ.get v
  if f.e.pers n ≠ 4 ∨ f.e.sl n SLOT_LIN_CFG_COMMANDER = 0 then f else
  let f := if schedTable f.e.live n req = [] then f
    else f.onE (fun e => (e.slSet n SLOT_LIN_SCHED_REQ req).onSlow n (fun s => { s with reqPend := true }))
  let f := if bit v.toNat 31 then f.onE (linGoSleepReq · n) else f
  if bit v.toNat 30 then linWakeReq f n else f

/-- A write of a slot's block, by offset. -/
def writeSlot (f : Field) (w : Who) (r : RegRow) (n o : Nat) (v : Word) : Field × Nat :=
  let a := slotBase n + o
  if o = SLOT_CTL then (f.onE (writeSlotCtl · n v), stOk)
  else if f.e.isSlow n then
    if o = SLOT_PK_CTL then (if bit v.toNat 31 then f.onE (packerFlush · n) else f, stOk)
    else if o = SLOT_LIN_SCHED then (writeSched f n v, stOk)
    else (f.onE (baseWrite · r a v), stOk)
  else if o = SLOT_FE_IDX then
    let wr := bit v.toNat 31
    let rd := bit v.toNat 30
    if wr && f.phase ≠ 0 then (f, stBusy)
    else if wr || rd then (feCommand f n (SLOT_FE_IDX_IDX.get v) wr rd, stOk)
    else (f.onE (baseWrite · r a v), stOk)
  else if o = SLOT_RXMB_SEL then
    if f.e.mboxBusy n w.init then (f, stBusy) else (f.onE (·.mboxSelect n w.init (SLOT_RXMB_SEL_MB.get v)), stOk)
  else if o = SLOT_TX_CANCEL then (f.onE (txCancel · n v.toNat), stOk)
  else if o = SLOT_DETECT ∧ SLOT_DETECT_DWELL.get v = 0 then
    (f.onE (fun e =>
      let d := e.sl n SLOT_DETECT_DWELL
      (baseWrite e r a v).slSet n SLOT_DETECT_DWELL d), stOk)
  else (f.onE (baseWrite · r a v), stOk)

/-- A write of ENABLE and RESTART of a port (R163): what starts it, what restarts it, what stops it; RESTART with a cleared ENABLE does both. -/
def portCtl (e : Eaves) (on : Bool) (v : Word) (start again halt : Eaves → Eaves) : Eaves :=
  if bit v.toNat 0 && !on then start e
  else if !bit v.toNat 0 && on then (if bit v.toNat 31 then again (halt e) else halt e)
  else if bit v.toNat 31 then again e
  else e

/-- A write of an Ethernet port's block (R163, R164, R178). -/
def writeEth (e : Eaves) (r : RegRow) (n o : Nat) (v : Word) : Eaves :=
  let a := ethBase n + o
  if o = ETH_CTL then
    portCtl e (e.et n ETH_CTL_ENABLE = 1) v (ethRestartReq · n true) (ethRestartReq · n false) (fun e => (e.etSet n ETH_CTL_ENABLE 0).ethStop n)
  else if o = ETH_MDIO_CMD then
    if bit v.toNat 31 then mdioStart e n (bit v.toNat 30) (bits v.toNat 29 28) (bits v.toNat 20 16) (bits v.toNat 15 0) else e
  else if o = ETH_GCL_IDX then
    let e := baseWrite e r a (v &&& 0xFF)
    if bit v.toNat 31 then
      let i := v.toNat % 256
      let (ns, gates) := if i < ((gateRec e.live n).elim 0 (·.u 2 2)) then gclEntry e.live n i else (0, 0)
      e.onRegs (fun m => (m.wr (ethBase n + ETH_GCL_DATA0) (BitVec.ofNat 32 ns)).wr (ethBase n + ETH_GCL_DATA1) (BitVec.ofNat 32 gates))
    else e
  else (baseWrite e r a v).phyLevel n

/-- A write of a T1S port's block (R154). -/
def writeT1s (e : Eaves) (r : RegRow) (n o : Nat) (v : Word) : Eaves :=
  if o = T1S_CTL then
    portCtl e (e.t1f n T1S_CTL_ENABLE = 1) v (t1RestartReq · n true) (t1RestartReq · n false)
      (fun e => ((e.t1Set n T1S_CTL_ENABLE 0).t1LinkDown n).onT1 n (fun _ => T1sSt.init))
  else baseWrite e r (t1sBase n + o) v

/-- A write of a chain's block that is not posted (R494, R497). -/
def writeChain (e : Eaves) (r : RegRow) (n o : Nat) (v : Word) : Eaves :=
  if o = BT_CTL then
    portCtl e (e.bt n BT_CTL_ENABLE = 1) v (fun e => (e.btSet n BT_CTL_ENABLE 1).chainRestart n) (·.chainRestart n)
      (fun e => ((e.btSet n BT_CTL_ENABLE 0).btSet n BT_STAT_STATE 0).onChain n (fun _ => Chain.init))
  else baseWrite e r (battenBase n + o) v

/-- A write of the PLANE block's Eaves part (R423, R412, R34). -/
def writePlanes (f : Field) (w : Who) (r : RegRow) (a : Nat) (v : Word) : Field :=
  if a = PLANE_CTL then
    let f := if bit v.toNat 31 then releaseHeld f w.guardAs .A else f
    if bit v.toNat 30 then releaseHeld f w.guardAs .B else f
  else if a = PLANE_LAG_PEAK then if bit v.toNat 31 then f.onE (·.onRegs (·.set 0 PLANE_LAG_PEAK_PEAK 0)) else f
  else
    let f := f.onE (baseWrite · r a v)
    if a = PLANE_HOLD_PEAK ∧ bit v.toNat 31 then
      f.onE (·.onRegs (fun m => m.set 0 PLANE_HOLD_PEAK_BYTES (m.get 0 PLANE_HOLD_LEVEL_BYTES)))
    else f

/-- A write to a register that has passed the checks. -/
def eavesApply (f : Field) (w : Who) (r : RegRow) (a : Nat) (v : Word) : Field × Nat :=
  if r.pw then postWrite f (postBase a) a v
  else if a = DEVICE_DUMP_CTL then writeDump f w v
  else if 0x10000 ≤ a ∧ a < 0x20000 then writeFlue f w r a v
  else if 0x20000 ≤ a ∧ a < 0x40000 then writePower f r a v
  else if 0x100000 ≤ a ∧ a < 0x180000 then writeSlot f w r ((a - 0x100000) / 0x1000) (a % 0x1000) v
  else if 0x180000 ≤ a ∧ a < 0x184000 then (f.onE (writeChain · r ((a - 0x180000) / 0x1000) (a % 0x1000) v), stOk)
  else if 0x200000 ≤ a ∧ a < 0x218000 then (f.onE (writeEth · r ((a - 0x200000) / 0x1000) (a % 0x1000) v), stOk)
  else if 0x280000 ≤ a ∧ a < 0x290000 then (f.onE (writeT1s · r ((a - 0x280000) / 0x1000) (a % 0x1000) v), stOk)
  else if 0xA00000 ≤ a ∧ a < 0xA01000 then (writePlanes f w r a v, stOk)
  else (f.onE (baseWrite · r a v), stOk)

/-- A write that Eaves performs (R33, R44): its status. A guarded field ignores and counts the write of any other initiator (R59). -/
def eavesWrite (f : Field) (w : Who) (a : Nat) (v : Word) : Field × Nat :=
  match accessFault (f.e.rowOf a) a, f.e.rowOf a with
  | some c, _ => (countBusErr f c a, stBusErr)
  | none, none => (f, stBusErr)
  | none, some r => if r.guard = true ∧ authorised f w = false then (guardMiss f, stOk) else eavesApply f w r a v

end Sys2Proof.Machine
end

