-- ==== Sys2Proof/Machine/MgmtPlane.lean ====
section
/-!
DEFINITION. Management accesses to plane-resident registers (R44-R47, R50-R63): both planes perform a host's access at its admission position.
A plane does what is its own; what reaches beyond it (staging and turns, the life cycle, the tamper latch) the device does once.
-/

namespace Sys2Proof

/-- A register of a plane under the access codes (R50-R52). -/
def Plane.baseWrite (q : Plane) (r : RegRow) (a : Nat) (v : Word) : Plane :=
  q.onRegs (fun m => m.wr (q.keyOf a) (r.write (m.rd (q.keyOf a)) v))

/-- A cleared watermark event loads the peak with the present level (R53). -/
def Plane.reloadPeak (q : Plane) (a : Nat) : Plane :=
  let qk := qkey (q.regs.get 0 SW_Q_SEL_PORT) (q.regs.get 0 SW_Q_SEL_CLASS)
  let put := fun (f : Fld) (n : Nat) => q.onRegs (·.set 0 ⟨q.keyOf f.reg, f.hi, f.lo⟩ n)
  if a = SW_BUF_WM then put SW_BUF_PEAK_CELLS q.bufUsed
  else if a = SW_Q_PEAK then put SW_Q_PEAK_CELLS (q.level qk)
  else if a = TBL_MAC_PEAK then put TBL_MAC_PEAK_ENTRIES q.macUsed
  else if a = THR_MODEL_PEAK then put THR_MODEL_PEAK_OPS q.modelOps
  else if a = TEN_BOUND_PEAK then put TEN_BOUND_PEAK_COUNT q.bound
  else if a = RICK_HEAD_PEAK then put RICK_HEAD_PEAK_GRANULES (q.regs.get 0 RICK_HEAD_PINNED_GRANULES)
  else q

/-- The window command register at an address: block and window. -/
def winCmdAt (a : Nat) : Option (Nat × Nat) :=
  if a % 0x100 = 8 ∧ 0x400000 ≤ a ∧ a < 0x700000 ∧ a % 0x100000 < 0x400 then some ((a - 0x400000) / 0x100000, a % 0x100000 / 0x100) else none

/-- The job window whose CMD is at an address. -/
def jobCmdAt (a : Nat) : Option Nat := if 0x700000 ≤ a ∧ a < 0x700800 ∧ a % 0x200 = 8 then some ((a - 0x700000) / 0x200) else none

/-- A job command (R339): it waits for the first TICK after admission; BUSY while PENDING, BADCMD where there is no such command, TURN for an
IMPORT while a turn runs (R224). -/
def Plane.writeJob (q : Plane) (w : Who) (n cmd : Nat) : Plane × Nat :=
  let st := fun (p : Bool) (s : Nat) (q : Plane) => q.onRegs (fun m => (m.set 0 (CPH_JOB_STAT_PENDING n) (nbit p)).set 0 (CPH_JOB_STAT_STATUS n) s)
  if (sget (fun _ => none) q.kiln.jobs n).isSome then (q, stBusy)
  else if cmd = 0 ∨ 7 < cmd then (st false 4 q, stOk)
  else if cmd = 7 ∧ q.regs.get 0 TRUSS_TURN_STAT_PHASE ≠ 0 then (st false 5 q, stOk)
  else
    (st true (q.regs.get 0 (CPH_JOB_STAT_STATUS n)) (q.onKiln (fun k => { k with
      jobs := sput (fun _ => none) k.jobs n (some ⟨cmd, w.tenant, w.init, q.st.tick⟩) })), stOk)

/-- A write of CPH_SESS_CTL (R336, R337). OPEN in BANKED completes with BUSY (R448). -/
def Plane.writeSess (q : Plane) (banked : Bool) (w : Who) (r : RegRow) (v : Word) : Plane × Nat :=
  let x := v.toNat
  let q0 := q.baseWrite r CPH_SESS_CTL v
  if 8 ≤ w.init then (q0, stOk)
  else if bit x 31 then (if banked then (q, stBusy) else (let (p, st) := q.askSession 1 w.tenant w.init; if st = stBusy then (q, st) else
    (p.baseWrite r CPH_SESS_CTL v, st)))
  else if bit x 30 then (let (p, st) := q.askSession 2 w.tenant w.init; if st = stBusy then (q, st) else (p.baseWrite r CPH_SESS_CTL v, st))
  else if bit x 29 then (q0.endSessions (fun s => s.tenant = w.tenant) 1, stOk)
  else (q0, stOk)

/-- A provisioning command (R329): it waits for the TICK; BUSY while one waits, REFUSED where there is no such command. -/
def Plane.writeProv (q : Plane) (w : Who) (cmd : Nat) : Plane × Nat :=
  if q.kiln.prov.isSome then (q, stBusy)
  else if cmd = 0 ∨ 5 < cmd then (q.onRegs (·.set 0 KILN_PROV_STAT_STATUS 2), stOk)
  else ((q.onKiln (fun k => { k with prov := some ⟨cmd, w.tenant, w.init, q.st.tick⟩ })).onRegs (·.set 0 KILN_PROV_STAT_PENDING 1), stOk)

/-- A write of TBL_PORT_LIMIT: the PORTLEARN entry of the selected port (R210, R223). -/
def Plane.writeLimit (q : Plane) (v : Word) : Plane :=
  let port := q.regs.get 0 TBL_PORT_SEL_PORT
  if 128 ≤ port ∧ port < 176 then
    q.tupd 9 (port - 128) (fun r => ((r.put 0 4 (bits v.toNat 17 0)).putF 4 0 0 (bits v.toNat 31 31)).putF 5 0 0 (bits v.toNat 30 30))
  else q

/-- A write of a 64-bit pair's high word: both halves in one update (R62). -/
def Plane.writeHigh (q : Plane) (r : RegRow) (a : Nat) (low : Option Word) (v : Word) : Plane :=
  let q := match low with
    | some x => q.baseWrite { r with off := a - 4 } (a - 4) x
    | none => q
  q.baseWrite r a v

/-- What a write does within one plane. `low` is the initiator's held low word at this address, `banked` the mode. -/
def Plane.applyWrite (q : Plane) (banked : Bool) (w : Who) (r : RegRow) (low : Option Word) (a : Nat) (v : Word) : Plane × Nat :=
  if q.deadQueue a then (q, stOk) else
  match winCmdAt a, jobCmdAt a with
  | some (b, n), _ => q.winCmd b n (v.toNat % 2 ^ (if b = 2 then 4 else 3))
  | none, some n => q.writeJob w n (v.toNat % 16)
  | none, none =>
    if r.snap = 1 ∧ r.rw ≠ 0 then (q, stOk)
    else if r.snap = 2 ∧ r.rw ≠ 0 then (q.writeHigh r a low v, stOk)
    else if a = CPH_SESS_CTL then q.writeSess banked w r v
    else if a = KILN_PROV_CMD then q.writeProv w (v.toNat % 8)
    else if a = KILN_DESTROY then
      let q := q.baseWrite r a v
      (if bit v.toNat 31 then q.onKiln (fun k => { k with destroyQ := k.destroyQ ++ [(bits v.toNat 9 0, q.st.tick)] }) else q, stOk)
    else if a = KILN_TAMPER then (q, stOk)
    else if a = TBL_PORT_LIMIT then (q.writeLimit v, stOk)
    else if a = SW_Q_CFG ∧ 8 ≤ SW_Q_CFG_ALPHA.get v then (q, stOk)
    else if a = SW_HOST_AGE ∧ (SW_HOST_AGE_MS.get v = 0 ∨ 1000 < SW_HOST_AGE_MS.get v) then (q, stOk)
    else if a = RIDGE_EP_RESTARTS then
      (if v = 0xFFFFFFFF then { q with host := { q.host with
        epRestarts := sput (fun _ => 0) q.host.epRestarts (q.regs.get 0 RIDGE_EP_SEL_EP) 0 } } else q, stOk)
    else if a = NS_KA_CNT then
      (if v = 0xFFFFFFFF then { q with
        nets := supd (fun _ => Net.init) q.nets (q.regs.get 0 NS_SEL_NET) (fun (x : Net) => { x with kaCnt := 0 }) } else q, stOk)
    else
      let q := q.baseWrite r a v
      (if bit r.w1c 31 && bit v.toNat 31 then q.reloadPeak a else q, stOk)

end Sys2Proof

namespace Sys2Proof.Machine

/-- The planes in a running role. -/
def runners (f : Field) : List PlaneId := [PlaneId.A, PlaneId.B].filter (fun p => (f.e.role p).running)

/-- Whether the leading plane, or the only one, is among those that act: what the device counts, it counts once (R44). -/
def leads (f : Field) (acting : List PlaneId) : Bool := acting.any (fun p => f.e.role p = .leading)

/-- The plane whose answer an access gives (R45). -/
def speaker (f : Field) (acting : List PlaneId) : Plane :=
  match acting.find? (fun p => f.e.role p = .leading) with
  | some p => f.plane p
  | none => match acting with
    | p :: _ => f.plane p
    | [] => f.lead

/-- A read of a plane-resident register by the planes that act: status and value. -/
def planeRead (f : Field) (acting : List PlaneId) (w : Who) (a : Nat) : Field × Nat × Word :=
  let q := speaker f acting
  match accessFault (q.rowOf a) a, q.rowOf a with
  | some c, _ => (if leads f acting then countBusErr f c a else f, stBusErr, 0)
  | none, none => (f, stBusErr, 0)
  | none, some r =>
    let reader := if w.init < 8 then w.tenant else 65537
    if r.guard = true ∧ q.hasSession w.guardAs = false then (f, stOk, 0)
    else
      let v := r.read (q.word f.e reader a)
      let (e, x) := f.e.snapRead w.init r a v (q.word f.e reader (a + 4))
      (if leads f acting then { f with e := e } else f, stOk, x)

/-- What a write does beyond the planes that act (R75, R83, R327, R328, R341, R337): staging, turns, the life cycle, the tamper latch. -/
def writeBeyond (s : State) (w : Who) (a : Nat) (v : Word) : State :=
  let f := s.f
  let t := w.guardAs
  let x := v.toNat
  let one := fun (g : Field) => { s with f := g }
  if a = TRUSS_STAGE_CTL then
    let k := bits x 31 28
    if k = 8 then one (trussOpen f t) else if k = 4 then one (trussVerify f t) else if k = 2 then one (trussDiscard f t)
    else if k = 1 then one (floorCommit f t) else s
  else if a = TRUSS_TURN_CTL then
    let k := bits x 31 30
    if k = 2 then one (turnStart f t (bit x 0)) else if k = 1 then one (turnAbort f t) else s
  else if a = KILN_LC_CMD then
    let k := bits x 31 30
    if k = 2 then one (armLc f s.otpA t (bits x 27 24) (bits x 15 0)) else if k = 1 then one (disarmLc f t) else s
  else if a = KILN_REVOKE then if bit x 31 then revokeSlot s t (bits x 1 0) else s
  else if a = KILN_TAMPER then if bit x 31 then one (clearTamper f t) else s
  else if a = CPH_SESS_CTL then one f.refreshMode
  else s

/-- A write with more than one action bit to a register under the one-action rule (R93, R346). -/
def tooManyActions (a : Nat) (v : Word) : Bool :=
  let n := fun (hi lo : Nat) => ((List.range 32).filter (fun k => decide (lo ≤ k ∧ k ≤ hi) && bit v.toNat k)).length
  (a = TRUSS_STAGE_CTL && decide (1 < n 31 28)) || ((a = TRUSS_TURN_CTL || a = KILN_LC_CMD) && decide (1 < n 31 30))

/-- A write of a plane-resident register by the planes that act: its status. A plane that catches up alone does only what is its own.
KILN_LC_CMD and KILN_REVOKE need the LIFECYCLE right besides (R346). -/
def planeWrite (s : State) (acting : List PlaneId) (w : Who) (a : Nat) (v : Word) : State × Nat :=
  let f := s.f
  let q := speaker f acting
  let all := leads f acting
  match accessFault (q.rowOf a) a, q.rowOf a with
  | some c, _ => (if all then { s with f := countBusErr f c a } else s, stBusErr)
  | none, none => (s, stBusErr)
  | none, some r =>
    let right := decide (a ≠ KILN_LC_CMD ∧ a ≠ KILN_REVOKE) || q.hasRight w.guardAs 0
    if r.guard = true ∧ (q.hasSession w.guardAs && right) = false then (if all then { s with f := guardMiss f } else s, stOk)
    else if tooManyActions a v then (s, stOk)
    else
      let banked := decide (f.e.mode = .banked)
      let low := f.e.heldLow w.init a
      let act := fun (p : Plane) => p.applyWrite banked w r low a v
      let st := (act q).2
      let f := acting.foldl (fun f p => f.onPlane p (fun q => (act q).1)) f
      let f := if all = true ∧ r.rw ≠ 0 then
          (if r.snap = 1 then f.onE (·.holdLow w.init a v) else if r.snap = 2 then f.onE (·.dropHeld w.init) else f) else f
      let s := { s with f := f }
      (if all = true ∧ st = stOk then writeBeyond s w a v else s, st)

/-! A single access of an initiator, Eaves and plane registers alike. -/

/-- A read at once: status and value. Without a running plane a plane-resident register does not answer (R54 RESTARTED). -/
def readNow (s : State) (w : Who) (a : Nat) : State × Nat × Word :=
  if inEaves a then let (f, st, x) := eavesRead s.f w a; ({ s with f := f }, st, x)
  else if runners s.f = [] then (s, stRestarted, 0)
  else let (f, st, x) := planeRead s.f (runners s.f) w a; ({ s with f := f }, st, x)

/-- A write at once: its status. -/
def writeNow (s : State) (w : Who) (a : Nat) (v : Word) : State × Nat :=
  if inEaves a then
    let (f, st) := eavesWrite s.f w a v
    ({ s with f := if st = stOk then f.onRunning (fun q => (q.linIssued a v).timingKnown a v) else f }, st)
  else if runners s.f = [] then (s, stRestarted)
  else planeWrite s (runners s.f) w a v

end Sys2Proof.Machine
end

