-- ==== Sys2Proof/Machine/Dump.lean ====
section
/-!
DEFINITION. STATE_DUMP (R65, R66): the sections in their order, the words of each, and their way to the requester.
-/

namespace Sys2Proof.Machine

open Host

/-- What the words of a section are. -/
inductive DumpWhat where
  /-- registers from ADDR on -/
  | regs
  /-- Flue's record of each source: STAT, FIRST and LAST (5 words) -/
  | flue
  /-- elements of the filter pool (4 words) -/
  | pool
  /-- entries of a window table: block (0 TABLES, 1 THATCHER, 2 TENANT), table, bytes of an entry -/
  | table (block tab size : Nat)
  /-- levels of the output queues -/
  | queues
  /-- the units of an output queue, oldest first -/
  | queue (k : Nat)
  /-- the units in the merger buffer and on their way to the leading plane -/
  | merger
  /-- the candidates that the selector holds, and those in the transmit stages -/
  | hold
  | stage
  deriving DecidableEq, Repr

/-- A section (R66): KIND, whether the leading plane holds it, block base, ADDR, COUNT, what its words are. -/
structure DumpSec where
  kind : Nat
  inPlane : Bool
  block : Nat
  addr : Nat
  count : Nat
  what : DumpWhat
  deriving DecidableEq, Repr

/-- A run of sections of one SCOPE bit. -/
structure DumpRun where
  scope : Nat
  n : Nat
  sec : Nat → DumpSec

/-- Pages of registers. -/
def regRun (inPlane : Bool) (block first stride n count : Nat) : DumpRun :=
  ⟨if inPlane then 2 else 0, n, fun i => ⟨1, inPlane, block, first + stride * i, count, .regs⟩⟩

/-- A table of a plane, in sections of at most 1,024 words. -/
def tableRun (scope block tab : Nat) : DumpRun :=
  let (entries, size) := (winSize block tab).getD (0, 4)
  let per := max 1 (1024 / (size / 4))
  ⟨scope, (entries + per - 1) / per, fun i => ⟨2, true, 0x400000 + 0x100000 * block, per * i, min per (entries - per * i) * (size / 4), .table block tab size⟩⟩

/-- The runs of a dump in ascending address order: Eaves, then the leading plane (R66). Tables of a block follow its registers, in the order of
their numbers. -/
def dumpRuns : List DumpRun :=
  [regRun false 0 0 0 1 1024, regRun false 0x10000 0x10000 0 1 1024, ⟨6, 16, fun i => ⟨2, false, 0x10000, 128 * i, 640, .flue⟩⟩,
    regRun false 0x20000 0x20000 0 1 1024, regRun false 0x30000 0x30000 0 1 1024, regRun false 0x100000 0x100000 0x1000 128 1024,
    ⟨1, 256, fun i => ⟨2, false, 0x100000, 256 * i, 1024, .pool⟩⟩, regRun false 0x180000 0x180000 0x1000 4 1024,
    ⟨8, 4, fun i => ⟨3, false, 0x180000, 0x400 * i + 0x200, 256, .regs⟩⟩, regRun false 0x190000 NS_WAKE_PINS 0 1 1,
    regRun false 0x200000 0x200000 0x1000 24 1024, regRun false 0x280000 0x280000 0x1000 16 1024, regRun false 0xA00000 0xA00000 0 1 1024,
    ⟨5, 3, fun i => ⟨3, false, 0xA00000, i, 0, if i = 0 then .merger else if i = 1 then .hold else .stage⟩⟩,
    regRun false 0xA00000 0xA0F000 0 1 1024, regRun false 0xF00000 0xF00000 0x1000 2 1024,
    regRun true 0x40000 0x40000 0 1 1024, regRun true 0x80000 0x80000 0 1 1024, regRun true 0x190000 0x190000 0 1 66,
    regRun true 0x190000 0x19010C 0 1 1, regRun true 0x300000 0x300000 0 1 1024, ⟨5, 2, fun i => ⟨3, true, 0x300000, 716 * i, 716, .queues⟩⟩,
    ⟨5, 1432, fun i => ⟨3, true, 0x300000, 1432 + i, 0, .queue i⟩⟩,
    regRun true 0x400000 0x400000 0x1000 2 1024] ++
  (List.range 15).map (fun t => tableRun 3 0 (t + 1)) ++
  [regRun true 0x500000 0x500000 0x1000 2 1024, tableRun 4 1 5, tableRun 4 1 6, regRun true 0x600000 0x600000 0x1000 2 1024, tableRun 7 2 1,
    regRun true 0x700000 0x700000 0x1000 2 1024, regRun true 0x800000 0x800000 0 1 1024, regRun true 0x900000 0x900000 0 1 1024,
    regRun true 0xA00000 0xA08000 0 1 1024]

/-- Section `k` of a dump with a SCOPE; none after the last. -/
def dumpSec (scope : Nat) : List DumpRun → Nat → Option DumpSec
  | [], _ => none
  | r :: rs, k =>
    if bit scope r.scope then (if k < r.n then some (r.sec k) else dumpSec scope rs (k - r.n)) else dumpSec scope rs k

/-- One register as the dump shows it: 0 where none is listed, and where it is guarded and the requester has no session at that position. -/
def dumpReg (f : Field) (d : Dump) (inPlane : Bool) (a : Nat) : Nat :=
  match f.e.rowOf a with
  | none => 0
  | some r =>
    if inEaves a = inPlane ∨ (r.guard = true ∧ authorised f ⟨d.ep, d.tenant, false⟩ = false) then 0
    else (r.read (if inPlane then f.lead.word f.e d.tenant a else f.eavesWord d.ep a)).toNat

/-- Flue's record of a source in five words. -/
def flueWord (e : Eaves) (i k : Nat) : Nat :=
  let s := e.src i
  if k = 0 then pack [((flueClass i).elim 0 id, 30), (nbit s.live, 29), (nbit s.cause, 28), (nbit s.rail, 27), (s.count, 0)]
  else if k < 3 then half64 s.first (k = 2)
  else half64 s.last (k = 4)

/-- Word `k` of a section. -/
def dumpWord (f : Field) (d : Dump) (x : DumpSec) (k : Nat) : Nat :=
  match x.what with
  | .regs => dumpReg f d x.inPlane ((if x.kind = 3 then x.block + 4 * x.addr else x.addr) + 4 * k)
  | .flue => flueWord f.e (x.addr + k / 5) (k % 5)
  | .pool => (f.e.element (x.addr + k / 4)).u (4 * (k % 4)) 4
  | .table b t size =>
    let w := size / 4
    bytesAt (f.lead.winEntry b t (x.addr + k / w) size) (4 * (k % w)) 4
  | .queues => f.lead.level (x.addr + k)
  | .queue _ => 0
  | .merger => 0
  | .hold => 0
  | .stage => 0

/-- Units as a dump shows them (log entry 76): the length in words, then descriptor (R23), metadata and payload, filled up to a word. -/
def unitWords (l : List Shingle) : List Nat :=
  l.flatMap (fun sh =>
    let bs := sh.hostBytes
    let n := (bs.length + 3) / 4
    n :: (List.range n).map (fun k => bytesAt bs (4 * k) 4))

/-- The words of a section. -/
def dumpWords (f : Field) (d : Dump) (x : DumpSec) : List Nat :=
  match x.what with
  | .queue k => unitWords ((f.lead.queue k).map (·.sh))
  | .merger => unitWords (f.e.merger.waiting.map (·.sh) ++ f.lead.st.inbox)
  | .hold => unitWords (f.e.sel.hold.map (·.unit))
  | .stage => unitWords (f.e.stage.map (·.unit))
  | _ => (List.range x.count).map (dumpWord f d x)

/-- SOURCE of the leading plane: 1 plane A, 2 plane B. -/
def dumpSource (f : Field) (inPlane : Bool) : Nat := if inPlane then 1 + f.lead.st.me.num else 0

/-- A section header (24 bytes). -/
def secHeader (kind source block addr count stream : Nat) : List Byte :=
  leBytes 1 kind ++ leBytes 1 source ++ leBytes 2 (block / 65536) ++ leBytes 4 addr ++ leBytes 4 count ++ leBytes 4 0 ++ leBytes 8 stream

/-- A section as it is sent. -/
def secBytes (f : Field) (d : Dump) (x : DumpSec) : List Byte :=
  let ws := dumpWords f d x
  secHeader x.kind (dumpSource f x.inPlane) x.block x.addr ws.length f.lead.st.stream ++ ws.flatMap (leBytes 4)

/-- The dump header (64 bytes). -/
def dumpHeader (f : Field) (d : Dump) : List Byte :=
  leBytes 4 0x504D4453 ++ leBytes 2 1 ++ leBytes 2 d.scope ++ leBytes 8 d.ts ++ leBytes 8 d.stream ++
    leBytes 4 (f.eavesWord d.ep DEVICE_ID).toNat ++ leBytes 4 f.lead.truss.version ++ leBytes 8 Config.serial ++
    leBytes 4 (f.eavesWord d.ep DEVICE_MODE).toNat ++ leBytes 20 0

/-- The CRC-32C register after more bytes. -/
def crcOn (c : Nat) (bs : List Byte) : Nat := bs.foldl (Config.crcReflByte 0x82F63B78) c

/-- Dump bytes as MGMT_RSP messages of at most 1,024 words; the last message of the dump has FLAGS.LAST (R65). -/
def sendDump (q : Plane) (d : Dump) (final : Bool) (off : Nat) : List Byte → Nat → Plane
  | _, 0 => q
  | bs, fuel + 1 =>
    let now := bs.take 4096
    let rest := bs.drop 4096
    let body := leBytes 1 0 ++ leBytes 1 1 ++ leBytes 2 (now.length / 4) ++ leBytes 4 off ++ leBytes 8 0 ++ now
    let q := q.send d.ep clsMgmtRsp d.tenant d.tag false (final && rest.isEmpty) false body
    if rest.isEmpty then q else sendDump q d final (off + 4096) rest fuel

/-- DUMP_START (R65): the endpoint writes START; SCOPE stands in DEVICE_DUMP_CTL. -/
def execDumpStart (ep : Fin 8) (tenant : Fin 4096) (tag : Nat) (s : State) : Host.Outcome State Fault Refusal :=
  s.ok (startDump s.f ⟨ep.val, tenant.val, false⟩ tag (s.f.e.regs.get 0 DEVICE_DUMP_CTL_SCOPE)).1

/-- DUMP_ABORT (R65): the dump ends with an END section, and ABORTED is set. -/
def execDumpAbort (s : State) : Host.Outcome State Fault Refusal := s.ok (abortDump s.f)

/-- Whether a message of the dump's class still waits for its credits (R65: the dump uses only MGMT_RSP credits). -/
def dumpWaits (f : Field) (d : Dump) : Bool := f.lead.host.out.any (fun m => m.ep = d.ep && m.cls = clsMgmtRsp)

/-- The bytes sent from every plane that takes the stream, so that their output sequences stay one. -/
def dumpOut (f : Field) (d : Dump) (final : Bool) (bs : List Byte) : Field :=
  f.onTaking (fun q => sendDump q d final d.sentBytes bs (bs.length / 4096 + 1))

/-- The END section (R66). -/
def dumpEnd (f : Field) (d : Dump) (head : List Byte) : Field :=
  let h := secHeader 4 0 0 0 1 f.lead.st.stream
  let crc := (crcOn (crcOn d.crc head) h) ^^^ 0xFFFFFFFF
  let f := dumpOut f d true (head ++ h ++ leBytes 4 crc)
  ({ f with dump := none } : Field).onE (·.onRegs (fun m =>
    ((m.set 0 DEVICE_DUMP_STAT_RUNNING 0).set 0 (if d.aborting then DEVICE_DUMP_STAT_ABORTED else DEVICE_DUMP_STAT_DONE) 1).incF 0
      DEVICE_DUMP_STAT_SECTIONS))

/-- DUMP_SECTION (R65, R66): the next section, the END section after the last or after ABORT. -/
def execDumpSection (s : State) : Host.Outcome State Fault Refusal :=
  match s.f.dump with
  | none => s.ok s.f
  | some d =>
    if dumpWaits s.f d then s.ok s.f
    else
      let head := if d.sentBytes = 0 then dumpHeader s.f d else []
      match (if d.aborting then none else dumpSec d.scope dumpRuns d.sect) with
      | none => s.ok (dumpEnd s.f d head)
      | some x =>
        let bs := head ++ secBytes s.f d x
        let f := dumpOut s.f d false bs
        let d : Dump := { d with sect := d.sect + 1, sentBytes := d.sentBytes + bs.length, crc := crcOn d.crc bs }
        s.ok (({ f with dump := some d } : Field).onE (·.onRegs (·.incF 0 DEVICE_DUMP_STAT_SECTIONS)))

end Sys2Proof.Machine
end

