-- ==== Sys2Proof/Machine/Pins.lean ====
section
/-!
DEFINITION. What the device drives on its balls (R508, R454), and the test balls: when JTAG and the console are open and what they take (R509,
R326). The levels are a view of the state; no command reads them.
-/

namespace Sys2Proof

/-- What the device drives on an output ball: a level, nothing, a pad without supply, or what the block behind the ball makes of it. -/
inductive Pad where
  | low | high | hiZ | off | block
  deriving DecidableEq, Repr

/-- The columns of the signal table (R508): reset, SAFE, P3, P4, and running. -/
inductive PadPhase where
  | reset | safe | p3 | p4 | run
  deriving DecidableEq, Repr

/-- Output balls of the field side (R508). -/
inductive FieldBall where
  | slotTx (n : Fin 128) | btClk (n : Fin 4) | btDo (n : Fin 4) | btCsN (n : Fin 4) | t1sTx (n : Fin 16) | mdc (m : Fin 2) | mdio (m : Fin 2)
  | nvmePerstN (p : PlaneId) (d : Fin 4) | xspiCsN (p : PlaneId) | clkout | ppsOut | resetOutN | aliveP | aliveQ | safeN | pwrEn (k : Fin 4)
  | meshDrv | tdo | conTx
  deriving DecidableEq, Repr

/-- Instructions of the test access port as R509 tells them apart. -/
inductive TestInstr where
  | bypass | idcode | other
  deriving DecidableEq, Repr

/-- A level. -/
def Pad.ofBool (b : Bool) : Pad := if b then .high else .low

/-- The column that holds: reset from PGOOD0 until Eaves starts, and while RESET_N or a HOLD keeps the field side in reset. -/
def Eaves.padPhase (e : Eaves) : PadPhase :=
  if e.seqr.off then .p4
  else if e.mode = .ember then .p3
  else if e.mode = .safe then .safe
  else if e.mode = .kindling ∧ e.seqr.kin < 3 then .reset
  else .run

/-- SLOT_TXn (R454, R508): the latched level while the course is held, recessive in reset and in SAFE, and the slot's own otherwise. -/
def Eaves.slotPad (e : Eaves) (n : Nat) : Pad :=
  if e.courseHeld n then Pad.ofBool (bit (e.regs.rd (BBR_PAD_LEVEL (n / 32))).toNat (n % 32))
  else match e.padPhase with
    | .reset | .safe => .high
    | .p3 | .p4 => .off
    | .run => if e.slotState n = 0 then .high else .block

/-- The life-cycle states whose JTAG and console are open (R326): BLANK, VENDOR, and RETURN during a session with the DEBUG right. -/
def Machine.State.lifeOpen (s : Machine.State) : Bool :=
  decide (s.otpA.lc ≤ 1) || (decide (s.otpA.lc = 4) && s.f.lead.kiln.sess.any (fun x => bit x.rights 1))

/-- JTAG and the console are open (R509): in those life-cycle states, and only in KINDLING, WORKSHOP and SAFE. -/
def Machine.State.testOpen (s : Machine.State) : Bool :=
  s.lifeOpen && !s.f.e.seqr.off && (decide (s.f.e.mode = .kindling) || decide (s.f.e.mode = .workshop) || decide (s.f.e.mode = .safe))

/-- What TCK, TMS, TDI and CON_RX are taken for: everything while open, BYPASS and IDCODE alone while closed (R509). -/
def Machine.State.testTakes (s : Machine.State) (i : TestInstr) : Bool := s.testOpen || i ≠ .other

/-- What an output ball of the field side drives (R508). -/
def Machine.State.pad (s : Machine.State) (b : FieldBall) : Pad :=
  let e := s.f.e
  let ph := e.padPhase
  /- reset, SAFE, P3, P4, running -/
  let row := fun (r f d o x : Pad) => match ph with | .reset => r | .safe => f | .p3 => d | .p4 => o | .run => x
  match b with
  | .slotTx n => e.slotPad n.val
  | .btClk _ | .btDo _ => row .low .low .hiZ .off .block
  | .btCsN _ => row .high .high .hiZ .off .block
  | .t1sTx _ | .mdc _ => row .low .low .hiZ .off .block
  | .mdio _ => row .hiZ .hiZ .hiZ .off .block
  | .nvmePerstN _ _ => row .low .block .low .off .block
  | .xspiCsN _ => row .high .block .off .off .block
  | .clkout => row .low .block .low .off .block
  | .ppsOut => row .low .block .low .off .block
  | .resetOutN => match ph with | .p3 | .p4 => .low | _ => if e.seqr.resetOutN then .high else .low
  | .aliveP => if ph = .p4 then .off else Pad.ofBool (e.regs.get 0 FLUE_ALIVE_P = 1)
  | .aliveQ => if ph = .p4 then .off else Pad.ofBool (e.regs.get 0 FLUE_ALIVE_Q = 1)
  | .safeN => if ph = .p4 then .off else Pad.ofBool (e.seqr.safeN && ph = .run)
  | .pwrEn k => Pad.ofBool (bit (e.regs.get 0 PWR_STAT_PWR_EN) k.val)
  | .meshDrv => row .block .block .low .low .block
  | .tdo => if ph = .p4 then .off else if ph = .reset ∨ s.testOpen = false then .hiZ else .block
  | .conTx => if ph = .p4 then .off else if ph = .p3 then .hiZ else if ph = .reset ∨ s.testOpen = false then .high else .block

end Sys2Proof
end

