-- ==== Sys2Proof/Machine/Mgmt.lean ====
section
/-!
DEFINITION. Management requests and accesses as commands (R33, R44-R47, R55-R64, R288): what Eaves performs for the planes, the completion of
each access, a host's READ and WRITE, single accesses, posted writes, parity and the comparison of cached registers.
-/

namespace Sys2Proof.Machine

open Host

/-! Eaves accesses (R33, R44). -/

/-- Whether the block of an access has restarted since the plane sent it (R54). -/
def accessStale (e : Eaves) (a : EavesAcc) : Bool :=
  match genKey a.addr, e.rowOf a.addr with
  | some k, some r => r.dom = .port && decide (e.genOf k ≠ a.gen)
  | _, _ => false

/-- One access performed: status and value; a write's completion carries the value 0 (R44). -/
def performAccess (f : Field) (a : EavesAcc) : Field × Nat × Word :=
  if accessStale f.e a then (f, stRestarted, 0)
  else match a.time, a.val with
    | some w, _ => (f.onE (timeApply · w), stOk, 0)
    | none, none => eavesRead f a.who a.addr
    | none, some v => let (f, st) := eavesWrite f a.who a.addr v; (f, st, 0)

/-- EAVES_ACCESS (R33): the leading plane's next access of target 256, once, and its CTRL REG_READ. The other plane's copy goes. -/
def execEavesAccess (s : State) : Host.Outcome State Fault Refusal :=
  match s.f.e.leader with
  | none => s.ok s.f
  | some p =>
    let nx := s.f.e.sel.nextOf 256
    match (s.f.plane p).st.accs.find? (fun a => serialLe 32 nx a.oseq) with
    | none => s.ok s.f
    | some a =>
      let f := s.f.onE (fun e => { e with sel := { e.sel with next := sput (fun _ => 0) e.sel.next 256 ((a.oseq + 1) % 2 ^ 32) } })
      let f := f.onBoth (fun q => { q with st := { q.st with accs := q.st.accs.filter (fun x => !serialLe 32 x.oseq a.oseq) } })
      let (f, st, x) := performAccess f a
      s.ok (f.onE (·.ctrl 256 (ctrlRegRead st a.who.init a.addr x.toNat a.oseq)))

/-! A host's request (R288). -/

/-- Words done. -/
def wordsDone (j : MgmtJob) : Nat := (j.next - j.base) / 4

/-- The response (R288): DONE words, the status of the word that failed, and the data of a READ. -/
def jobRsp (j : MgmtJob) (st : Nat) : List Byte := mgmtRspBody st 0 (wordsDone j) j.base (if j.isWrite then [] else j.got)

/-- A request ends: each plane answers. -/
def endJob (f : Field) (acting : List PlaneId) (j : MgmtJob) (st : Nat) : Field :=
  acting.foldl (fun f p => f.onPlane p (fun q => q.respond j.ep clsMgmtRsp j.who.tenant j.tag (jobRsp j st))) f

/-- The next word of a request done, with the value read. -/
def jobStep (j : MgmtJob) (x : Word) : MgmtJob :=
  { j with next := j.next + 4, left := j.left - 1, toWrite := j.toWrite.drop 1, got := j.got ++ [x], waiting := false }

/-- The request of an endpoint that is next in a plane: one initiator's requests are done in the order of their admission (R47). -/
def nextJob (q : Plane) (ep : Nat) : Option MgmtJob := q.st.jobs.find? (fun j => j.ep = ep)

/-- A request taken off the planes' lists. -/
def dropJob (f : Field) (acting : List PlaneId) (j : MgmtJob) : Field :=
  acting.foldl (fun f p => f.onPlane p (fun q => { q with st := { q.st with jobs := q.st.jobs.erase j } })) f

/-- The words of a request in ascending order, until one fails, one belongs to Eaves, or none is left; then the endpoint's next request. An
Eaves word goes up the Rafter and the request waits for its completion. -/
def runJob (s : State) (acting : List PlaneId) : Nat → MgmtJob → State
  | 0, j => { s with f := endJob s.f acting j stOk }
  | fuel + 1, j =>
    let a := j.next
    let done := fun (s : State) (st : Nat) =>
      let f := endJob s.f acting j st
      match nextJob (speaker f acting) j.ep with
      | some k => runJob { s with f := dropJob f acting k } acting fuel k
      | none => { s with f := f }
    if j.left = 0 then done s stOk
    else if inEaves a then
      let val := if j.isWrite then some (j.toWrite.headD 0) else none
      { s with f := acting.foldl (fun f p => f.onPlane p (fun q =>
          let q := (val.elim q (q.linIssued a)).access j.who a val
          { q with st := { q.st with jobs := { j with waiting := true } :: q.st.jobs } })) s.f }
    else if j.isWrite then
      let (s, st) := planeWrite s acting j.who a (j.toWrite.headD 0)
      if st = stOk then runJob s acting fuel (jobStep j 0) else done s st
    else
      let (f, st, x) := planeRead s.f acting j.who a
      if st = stOk then runJob { s with f := f } acting fuel (jobStep j x) else done { s with f := f } st

/-- A request run in the planes that act: at most its own words and those that wait behind it, with one step more for each. -/
def startJob (s : State) (acting : List PlaneId) (j : MgmtJob) : State :=
  runJob s acting (((speaker s.f acting).st.jobs.filter (fun k => k.ep = j.ep)).foldl (fun n k => n + k.left + 1) (j.left + 1)) j

/-- The endpoint's next request started, once one has ended (R47). -/
def afterJob (s : State) (acting : List PlaneId) (ep : Nat) : State :=
  match nextJob (speaker s.f acting) ep with
  | some k => startJob { s with f := dropJob s.f acting k } acting k
  | none => s

/-- Words of a request: cut at the 4 KiB boundary (R49, R288). -/
def cutWords (addr count : Nat) : Nat := min count (max 1 ((0x1000 - addr % 0x1000) / 4))

/-- A host's READ or WRITE taken at its admission position (R44, R288); it waits where the endpoint's last request is not done (R47). -/
def mgmtReq (s : State) (ep tenant tag addr count : Nat) (wr : Option (List Word)) : State :=
  let acting := s.f.actors ep tenant clsMgmtReq tag (saysMgmt addr count wr)
  if acting = [] then s
  else
    let f := acting.foldl (fun f p => f.onPlane p (·.takeAdmitted)) s.f
    let a := addr % addrSpan
    let j : MgmtJob := ⟨⟨ep, tenant, false⟩, ep, tag, wr.isSome, a, a, cutWords a count, (wr.getD []), [], false⟩
    if (nextJob (speaker f acting) ep).isSome then
      { s with f := acting.foldl (fun f p => f.onPlane p (fun q => { q with st := { q.st with jobs := q.st.jobs ++ [j] } })) f }
    else startJob { s with f := f } acting j

/-- MGMT_READ (R288). -/
def execMgmtRead (ep : Fin 8) (tenant : Fin 4096) (tag : Nat) (addr : Nat) (count : Nat) (s : State) : Host.Outcome State Fault Refusal :=
  .next (mgmtReq s ep.val tenant.val tag addr count none)

/-- MGMT_WRITE (R288): COUNT is the number of data words. -/
def execMgmtWrite (ep : Fin 8) (tenant : Fin 4096) (tag : Nat) (addr : Nat) (data : List Word) (s : State) :
    Host.Outcome State Fault Refusal :=
  .next (mgmtReq s ep.val tenant.val tag addr data.length (some data))

/-! Completions (R44). -/

/-- A CTRL REG_READ taken by plane `p` (R44): the access that it answers is complete, and a host's request goes on. -/
def takeRegRead (s : State) (p : PlaneId) (sh : Shingle) : State :=
  let b := sh.body
  let st := bytesAt b 2 1
  let x := BitVec.ofNat 32 (bytesAt b 8 4)
  let q := (s.f.plane p).popHead sh
  match q.st.sent.find? (fun a => a.oseq = bytesAt b 12 4) with
  | none => { s with f := s.f.onPlane p (fun _ => q) }
  | some a =>
    let q : Plane := { q with st := { q.st with sent := q.st.sent.erase a } }
    let q := if st = stOk then a.val.elim q (q.timingKnown a.addr) else q
    let q := if 8 ≤ a.who.init ∧ a.val = none ∧ st = stOk then (if isPps a.addr then ppsWord q a.addr x else snapWord q a.addr x) else q
    let s := { s with f := s.f.onPlane p (fun _ => q.releaseAll) }
    match q.st.jobs.find? (fun j => j.ep = a.who.init && j.waiting && j.next = a.addr) with
    | none => s
    | some j =>
      let s := { s with f := dropJob s.f [p] j }
      if st = stOk then startJob s [p] (jobStep j x) else afterJob { s with f := endJob s.f [p] j st } [p] j.ep

/-- REG_READ_COMPLETION (R44). -/
def execRegReadCompletion (p : PlaneId) (s : State) : Host.Outcome State Fault Refusal :=
  match headOf s.f p with
  | some sh =>
    if sh.utype = .ctrl ∧ sh.ctrlCode = 4 then
      let s := takeRegRead s p sh
      s.ok (finish s.f s.otpA s.otpB)
    else s.ok s.f
  | none => s.ok s.f

/-! Single accesses (R50, R56, R61, R62). -/

/-- An initiator: endpoints 0-7 with their TENANT, management core pairs 8 and 9, secure or not (R58, R61), and 10 the JTAG and console
balls, which reach the management space as a secure core (R326). -/
def initiator (init : Fin 11) (tenant : Fin 4096) (secure : Bool) : Who :=
  ⟨init.val, tenant.val, (secure && decide (8 ≤ init.val)) || decide (init.val = 10)⟩

/-- TAG of the admitted message that a plane stands at, where it is a host's request for one word. -/
def wordTag (f : Field) (ep tenant : Nat) (what : List Byte → Bool) : Option Nat :=
  (([PlaneId.A, PlaneId.B].filterMap (fun p => (f.plane p).host.admitted.head?)).find? (fun m =>
    m.ep = ep && m.tenant = tenant && m.cls = clsMgmtReq && what m.body)).map (·.tag)

/-- A host's access of one word: it is the admitted MGMT_REQ for that word, and without one nothing happens (R3, R44). -/
def hostWord (s : State) (ep tenant addr : Nat) (wr : Option (List Word)) : State :=
  match wordTag s.f ep tenant (saysMgmt addr 1 wr) with
  | some tag => mgmtReq s ep tenant tag addr 1 wr
  | none => s

/-- The test balls are an initiator only while they are open (R47, R509). -/
def shutOut (s : State) (init : Fin 11) : Bool := decide (init.val = 10) && !s.testOpen

/-- A read of one word: a host's, or a core's as it takes effect (log entry 72). -/
def wordRead (s : State) (init : Fin 11) (tenant : Fin 4096) (secure : Bool) (a : Nat) : State :=
  if shutOut s init then s
  else if init.val < 8 then hostWord s init.val tenant.val a none else (readNow s (initiator init tenant secure) a).1

/-- A write of one word: a host's, or a core's as it takes effect (log entry 72). -/
def wordWrite (s : State) (init : Fin 11) (tenant : Fin 4096) (secure : Bool) (a : Nat) (v : Word) : State :=
  if shutOut s init then s
  else if init.val < 8 then hostWord s init.val tenant.val a (some [v]) else (writeNow s (initiator init tenant secure) a v).1

/-- A host's own write to its endpoint's BARs, at `off`: BAR0 in the first MiB, BAR2 in the second (R280, R307, log entry 105). -/
def hostBar (f : Field) (ep off : Nat) (v : Word) : Field :=
  if off < 0x20000 then barWrite f ep off v
  else if 0x100000 ≤ off ∧ off < 0x110000 then bulkWrite f ep (off - 0x100000) v
  else f

/-- REGISTER_WRITE (R50, R307): below 2^28 a management address, above it an offset in the BARs of the endpoint, which only its host reaches. -/
def execRegisterWrite (init : Fin 11) (tenant : Fin 4096) (secure : Bool) (addr : Fin 536870912) (v : Word) (s : State) :
    Host.Outcome State Fault Refusal :=
  if addr.val < addrSpan then .next (wordWrite s init tenant secure addr.val v)
  else if init.val < 8 then s.ok (hostBar s.f init.val (addr.val - addrSpan) v)
  else s.ok s.f

/-- Which word of a SNAP pair an address is: 1 low, 2 high (R61). -/
def snapKind (f : Field) (a : Nat) : Nat := (f.e.rowOf a).elim 0 (·.snap)

/-- SNAP_LOW_READ (R61), of a management address or, above it, of the endpoint's BAR0 (R307). -/
def execSnapLowRead (init : Fin 11) (tenant : Fin 4096) (secure : Bool) (addr : Fin 536870912) (s : State) :
    Host.Outcome State Fault Refusal :=
  if addrSpan ≤ addr.val then (if init.val < 8 then s.ok (barSnap s.f init.val (addr.val - addrSpan)) else s.ok s.f)
  else if snapKind s.f addr.val = 1 then .next (wordRead s init tenant secure addr.val) else .next s

/-- SNAP_HIGH_READ (R61). -/
def execSnapHighRead (init : Fin 11) (tenant : Fin 4096) (secure : Bool) (addr : Fin 268435456) (s : State) :
    Host.Outcome State Fault Refusal :=
  if snapKind s.f addr.val = 2 then .next (wordRead s init tenant secure addr.val) else .next s

/-- SNAP_LOW_WRITE (R62). -/
def execSnapLowWrite (init : Fin 11) (tenant : Fin 4096) (secure : Bool) (addr : Fin 268435456) (v : Word) (s : State) :
    Host.Outcome State Fault Refusal :=
  if snapKind s.f addr.val = 1 then .next (wordWrite s init tenant secure addr.val v) else .next s

/-- SNAP_HIGH_WRITE (R62). -/
def execSnapHighWrite (init : Fin 11) (tenant : Fin 4096) (secure : Bool) (addr : Fin 268435456) (v : Word) (s : State) :
    Host.Outcome State Fault Refusal :=
  if snapKind s.f addr.val = 2 then .next (wordWrite s init tenant secure addr.val v) else .next s

/-- POSTED_WRITE (R56): the write of a PW register. -/
def execPostedWrite (init : Fin 11) (tenant : Fin 4096) (secure : Bool) (addr : Fin 268435456) (v : Word) (s : State) :
    Host.Outcome State Fault Refusal :=
  if (s.f.e.rowOf addr.val).elim false (·.pw) then .next (wordWrite s init tenant secure addr.val v) else .next s

/-- Bases of the blocks with posted writes: the battery-backed file, the wake alarm, the chains (R56, R473, R497). -/
def postedBlock (k : Nat) : Nat := if k = 0 then 0xF00000 else if k = 1 then 0x20000 else battenBase (k - 3)

/-- A posted write reaches its slow domain, and BUSY clears (R56). -/
def postArrive (e : Eaves) (base : Nat) : Eaves :=
  match sget (fun _ => none) e.posted base with
  | none => e
  | some (a, v) =>
    let e := { e with posted := sput (fun _ => none) e.posted base none }
    match e.rowOf a with
    | some r => baseWrite e r a v
    | none => e

/-- The servo's setting reaches the calendar (R401). -/
def calendarArrive (e : Eaves) : Eaves :=
  match e.seqr.calNew with
  | none => e
  | some (cal, trim, setAt, err) =>
    { e with
      seqr := { e.seqr with cal := cal, calNew := none }
      regs := ((((e.regs.wr TIME_CAL_TRIM (BitVec.ofNat 32 trim)).wr64 TIME_CAL_SETAT_LO setAt).wr TIME_CAL_ERR (BitVec.ofNat 32 err)).set 0
        TIME_CAL_STAT_VALID 1).set 0 TIME_CAL_STAT_BUSY 0 }

/-- POSTED_WRITE_ARRIVE (R56): 0 the battery-backed file, 1 the wake alarm, 2 the calendar, 3-6 a chain. -/
def execPostedWriteArrive (k : Fin 7) (s : State) : Host.Outcome State Fault Refusal :=
  s.ok (s.f.onE (fun e => if k.val = 2 then calendarArrive e else postArrive e (postedBlock k.val)))

/-! Parity and cached registers (R45, R55, R64). -/

/-- Whether a configuration word differs between the planes' copies (R45). -/
def configDiffers (a b : Plane) : Bool :=
  (a.regs ++ b.regs).any (fun e =>
    match rowAt false (e.1 % addrSpan) with
    | some r => (a.regs.rd e.1 &&& BitVec.ofNat 32 r.rw) ≠ (b.regs.rd e.1 &&& BitVec.ofNat 32 r.rw)
    | none => false)

/-- Whether the planes can compare their configuration words: both run one truss, stand at one position, and the Purlin is up. -/
def canCompare (f : Field) : Bool :=
  f.e.roleA.running && f.e.roleB.running && decide (f.a.truss.version = f.b.truss.version ∧ f.a.st.stream = f.b.st.stream) && purlinUp f.a

/-- PARITY_SWEEP (R55, R45): what the sweep finds wrong: nothing (0), a word of plane `p` (1), one copy of an Eaves word (2), more copies than
voting can mask (3). With the sweep the planes compare their configuration words. -/
def execParitySweep (bad : Fin 4) (p : PlaneId) (s : State) : Host.Outcome State Fault Refusal :=
  let f := s.f
  let f := if bad.val = 1 then f.raisePlane p 6 else if bad.val = 2 then f.raise 5 false false else if bad.val = 3 then f.raise 6 false true else f
  match f.e.shadow with
  | some q => s.ok (if canCompare f && configDiffers f.a f.b then f.raisePlane q 7 else f)
  | none => s.ok f

/-- Disagreements reported (R64): INFO from a plane's DISAGREE source. -/
def disagree (e : Eaves) (p : PlaneId) : Nat → Eaves
  | 0 => e
  | n + 1 => disagree (e.info (planeSrc p 20)) p n

/-- Cached Eaves registers that disagree with the leading plane's servo (R64, R405): TIME_STAT and TIME_ERR. -/
def timeStale (e : Eaves) (q : Plane) : Nat :=
  let x := e.showServo q.servo
  nbit (decide (x.regs.rd TIME_STAT ≠ e.regs.rd TIME_STAT)) + nbit (decide (x.regs.rd TIME_ERR ≠ e.regs.rd TIME_ERR))

/-- EAVES_CACHE_COMPARE (R64): `upset` more copies have been changed from outside since the last comparison. -/
def execEavesCacheCompare (upset : Fin 256) (s : State) : Host.Outcome State Fault Refusal :=
  match s.f.e.leader with
  | none => s.ok s.f
  | some p =>
    let q := s.f.plane p
    let n := upset.val + timeStale s.f.e q
    s.ok (if n = 0 then s.f else s.f.onE (fun e => ((disagree e p n).onRegs (·.addCnt DEVICE_DISAGREE_CNT n)).showServo q.servo))

/-- Cached registers of a plane that disagree with what it has learned: the status words of the last snapshot (R64, R384). -/
def snapStale (q : Plane) : Nat :=
  if q.st.sent.any (fun a => decide (8 ≤ a.who.init) && a.val.isNone && !isPps a.addr) then 0
  else ((List.range 32).filter (fun i => q.regs.rd (RICK_SNAP (i / 16) (i % 16)) ≠ BitVec.ofNat 32 (snapGot q i))).length

/-- The status words reloaded. -/
def reloadSnap (q : Plane) : Plane :=
  (List.range 32).foldl (fun q i => q.onRegs (·.wr (RICK_SNAP (i / 16) (i % 16)) (BitVec.ofNat 32 (snapGot q i)))) q

/-- PLANE_CACHE_COMPARE (R64): at a TICK whose number is a multiple of 10; `upset` copies have been changed from outside in both planes since
the last comparison. -/
def execPlaneCacheCompare (upset : Fin 256) (s : State) : Host.Outcome State Fault Refusal :=
  let f := s.f
  let one := fun (f : Field) (p : PlaneId) =>
    let q := f.plane p
    let n := upset.val + snapStale q
    if q.st.takes = true ∧ q.st.tick % 10 = 0 ∧ n ≠ 0 then
      let f := f.onE (fun e => disagree e p n)
      let f := if f.e.role p = .leading then f.onE (·.onRegs (·.addCnt DEVICE_DISAGREE_CNT n)) else f
      f.onPlane p reloadSnap
    else f
  s.ok (one (one f .A) .B)

end Sys2Proof.Machine
end

