-- ==== Sys2Proof/Machine/Qualify.lean ====
section
/-!
DEFINITION. Qualification (R85): the structural self-check, and the check vectors (R82) run through the plane's pipelines in a scratch context.
-/

namespace Sys2Proof

/-! Input entries (R82). -/

/-- The type with a code of R23. -/
def UType.ofCode (n : Nat) : UType :=
  if n = 0 then .canCC else if n = 1 then .canFD else if n = 2 then .canXL else if n = 3 then .lin else if n = 4 then .serial
  else if n = 5 then .eth else if n = 6 then .t1s else if n = 7 then .host else if n = 8 then .signal else if n = 9 then .tick
  else if n = 10 then .rand else .ctrl

/-- The shingle that a descriptor (R23) and the bytes after it spell. The ACTION of a CAN frame has no bits there and is 0 (log entry 6). -/
def readShingle (d : List Byte) : Shingle :=
  let w2 := bytesAt d 16 8
  let w3 := bytesAt d 24 8
  let ty := w2 % 16
  let m := if ty = 7 then 0 else metaLen ty
  { ts := bytesAt d 0 8, stream := bytesAt d 8 8, seq := bits w2 63 32, rid := bits w2 31 16, tenant := bits w2 15 4, utype := .ofCode ty,
    port := bits w3 63 55, auth := .noneRequired, prov := false, jclass := .none, loc := bit w3 35, trunc := false, gen := bits w3 24 17,
    action := 0, info := (d.drop 32).take m, body := ((d.drop 32).drop m).take (bits w3 54 41) }

/-- The message of a HOST entry (R283): its header, and the payload behind it. -/
def readMsg (d : List Byte) : RMsg :=
  let h := bytesAt d 32 16
  ⟨bits h 22 20, bits h 3 0, bits h 19 8, bit h 5, bit h 6, bit h 4, bit h 7, bits h 71 40, bits h 95 72, (d.drop 48).take (bits h 37 24), 0⟩

/-- The descriptors of a record's entries, each with what follows it. -/
def entriesOf (b : List Byte) : Nat → Nat → List (List Byte)
  | 0, _ => []
  | n + 1, off => ((b.drop (off + 8)).take (bytesAt b off 4 - 8)) :: entriesOf b n (off + bytesAt b off 4)

/-- A check record: whether it starts afresh, the digest expected, the entries. -/
structure CheckRec where
  fresh : Bool
  digest : List Byte
  entries : List (List Byte)
  deriving DecidableEq, Repr

/-- The records of a CHECKS section. -/
def checkRecs (b : List Byte) : Nat → Nat → List CheckRec
  | 0, _ => []
  | n + 1, off =>
    ⟨bit (bytesAt b (off + 4) 2) 0, (b.drop (off + 8)).take 32, entriesOf b (bytesAt b (off + 6) 2) (off + 40)⟩ ::
      checkRecs b n (off + bytesAt b off 4)

/-! Outputs. -/

/-- An output of a run: its cause, port, output sequence, metadata and payload. -/
structure QualOut where
  cause : Nat
  port : Nat
  oseq : Nat
  info : List Byte
  body : List Byte
  deriving DecidableEq, Repr

/-- Output order (R82): cause, port, output sequence. -/
def QualOut.before (x y : QualOut) : Bool :=
  decide (x.cause < y.cause) || (x.cause = y.cause && (decide (x.port < y.port) || (x.port = y.port && decide (x.oseq ≤ y.oseq))))

/-- An output put into its place. -/
def insOut (x : QualOut) : List QualOut → List QualOut
  | [] => [x]
  | y :: ys => if x.before y then x :: y :: ys else y :: insOut x ys

/-- What an output contributes to the digest (R82). -/
def QualOut.bytes (x : QualOut) : List Byte :=
  leBytes 2 x.port ++ leBytes 4 x.oseq ++ leBytes 2 x.info.length ++ leBytes 2 x.body.length ++ leBytes 6 0 ++ x.info ++ x.body

/-- The digest of a run's outputs (R82). -/
def qualDigest (l : List QualOut) : List Byte := (Config.sha384 ((l.foldl (fun m x => insOut x m) []).flatMap QualOut.bytes)).take 32

/-- An Eaves access as an output to port 256 (R82): ADDR, and the VALUE of a write (log entry 82). -/
def accOut (cause : Nat) (a : EavesAcc) : QualOut :=
  ⟨cause, 256, a.oseq, [], leBytes 4 a.addr ++ a.val.elim [] (fun v => leBytes 4 v.toNat)⟩

/-- What a plane has made: units, and messages with their Ridge header as metadata (log entry 82). -/
def Plane.outputs (p : Plane) : List QualOut :=
  p.st.up.map (fun c => ⟨c.cause, c.port, c.oseq, c.unit.info, c.unit.body⟩) ++
    p.host.out.map (fun m => ⟨m.cause, 168 + m.ep, m.seq, m.header, m.body⟩)

/-- The new-truss plane's scratch context as a FRESH run starts it (R82): the truss's initial state; only DERIVED key slots hold keys; Rick makes
no records. -/
def Plane.scratch (q : Plane) : Plane :=
  let ks := q.kiln.slots.filter (fun e => (q.keyRec e.1).u 0 1 = 1)
  let p := { q with
    st := { PStream.init q.st.me with takes := true, sends := true, qual := true }
    host := PHost.init
    bus := []
    rick := Rick.init
    kiln := { q.kiln with slots := ks }
    fwd := Fwd.init }
  (p.loadForward.startNets).onRegs (·.set 0 RICK_STAT_STATE 0)

end Sys2Proof

namespace Sys2Proof.Machine

/-- The scratch device of a run: the plane alone, LEADING in SERVICE, before an Eaves that nothing of the run reaches (R82). -/
def scratchState (s : State) (q : Plane) : State :=
  let f := Field.init.onPlane q.st.me (fun _ => q)
  let e := { (Eaves.init.setRole q.st.me .leading) with mode := .service, live := q.truss, pool := poolOf q.truss }
  { s with f := { f with e := e }, pending := [] }

/-- A message acted on at its position: FRAME, SIGNAL and MGMT_REQ; another is admitted and has no effect in a run (log entry 82). -/
def actOn (s : State) (p : PlaneId) : State :=
  match (s.f.plane p).host.admitted with
  | [] => s
  | m :: _ =>
    if m.cls = clsFrame ∨ m.cls = clsSignal then { s with f := injectMsg s.f m.ep m.tenant m.cls m.tag }
    else if m.cls = clsMgmtReq then
      let n := bytesAt m.body 2 2
      let ws := (List.range n).map (fun i => BitVec.ofNat 32 (bytesAt m.body (16 + 4 * i) 4))
      mgmtReq s m.ep m.tenant m.tag (bytesAt m.body 4 4) n (if bytesAt m.body 0 1 = 2 then some ws else none)
    else { s with f := s.f.onPlane p (·.takeAdmitted) }

/-- The Eaves accesses that a shingle has caused, as outputs; a read completes with the value 0 directly after it (R82). At most `fuel`
accesses. -/
def answerReads (p : PlaneId) (sh : Shingle) : Nat → State × List QualOut → State × List QualOut
  | 0, x => x
  | fuel + 1, (s, out) =>
    match (s.f.plane p).st.accs with
    | [] => (s, out)
    | a :: rest =>
      let s := { s with f := s.f.onPlane p (fun q => { q with st := { q.st with accs := rest } }) }
      let out := out ++ [accOut sh.stream a]
      if a.val.isSome then answerReads p sh fuel (s, out)
      else
        let r := { Shingle.mk0 .ctrl sh.ts 256 0 (ctrlRegRead stOk a.who.init a.addr 0 a.oseq) with stream := sh.stream }
        answerReads p sh fuel (takeRegRead { s with f := s.f.onPlane p (fun q => { q with st := { q.st with inbox := [r] } }) } p r, out)

/-- One entry taken by the scratch plane (R82). -/
def runEntry (p : PlaneId) (x : State × List QualOut) (d : List Byte) : State × List QualOut :=
  let (s, out) := x
  let sh := readShingle d
  let f := s.f.onPlane p (fun q => { q with st := { q.st with inbox := [sh] } })
  let s :=
    if sh.utype = .host then
      if isHbFor (sh.port - 168) sh then { s with f := f.onPlane p (planeEpUp f.h.straps · (sh.port - 168)) }
      else actOn { s with f := planeHostAdmit (f.onPlane p (fun q => { q with host := { q.host with bodies := [readMsg d] } })) p } p
    else if sh.isUnit then { s with f := takeUnitAt f p sh }
    else if sh.ownCommand = false then { s with f := takeOne f p sh }
    else if sh.ctrlCode = 4 then takeRegRead { s with f := f } p sh
    else { s with f := restartWhen f s.otpA s.otpB p (fun _ => true) }
  answerReads p sh 65536 (s, out)

/-- A record run (R82): whether its outputs have the digest that Divia expects, and the state that it leaves. -/
def runRecord (s : State) (p : PlaneId) (q : Plane) (r : CheckRec) : State × Bool :=
  let s := if r.fresh then scratchState s q.scratch else s
  let first := (r.entries.head?).elim 0 (fun d => bytesAt d 8 8)
  let (s, accs) := r.entries.foldl (runEntry p) (s, [])
  let out := (((s.f.plane p).outputs ++ accs).filter (fun x => decide (first ≤ x.cause)))
  let s := { s with f := s.f.onPlane p (fun q => { q with st := { q.st with up := [] }, host := { q.host with out := [] } }) }
  (s, qualDigest out = r.digest)

/-- The check vectors of the new truss run in a scratch context of plane `p` (R82, R85): nothing of the run stays. -/
def vectorsPass (s : State) (p : PlaneId) : Bool :=
  let q := s.f.plane p
  let b := q.truss.sec 0x17
  let rs := checkRecs b (bytesAt b 0 4) 8
  (rs.foldl (fun (x : State × Bool) r => if x.2 then runRecord x.1 p q r else x) (s, true)).2

/-- The structural self-check of the new truss (R85): sections decode, COUNTs hold, references resolve, tables fit. -/
def structPass (q : Plane) : Bool := tableOk q.nv.otherFlash.image && sectionsOk q.truss

/-- QUALIFY_DONE (R85): the structural self-check and the check vectors of the new-truss plane end; on a mismatch the turn ends with
QUAL_FAIL. `checkDt` and `vectorDt` are the times since the last TICK at which the one and the other end. -/
def execQualifyDone (checkDt vectorDt : Nat) (s : State) : Host.Outcome State Fault Refusal :=
  let f := s.f
  let upTo := fun dt => f.onE (·.at dt)
  match f.turn.newPlane with
  | some p =>
    if f.phase ≠ 2 then s.ok f
    else if structPass (f.plane p) = false then s.ok (abandonTurn (upTo checkDt) 3 1)
    else if vectorsPass s p = false then s.ok (abandonTurn (upTo vectorDt) 3 2)
    else s.ok (((upTo vectorDt).onE (·.setStage p 4)).setPhase 3 f.turn.newVer)
  | none => s.ok f

end Sys2Proof.Machine
end

