-- ==== Sys2Proof/Machine/Ticks.lean ====
section
/-!
DEFINITION. Commands that stand for what happens at a TICK. Three name what Eaves places after a TICK (R87, R387, R422): each is the TICK
at which it is due. The others name what a plane does at a TICK's stream position (R199, R247, R259, R265, R447, R476): each is the
emission of the TICK at which it is due, `dt` ns after the last TICK was made (log entry 70).
-/

namespace Sys2Proof.Machine

/-! What Eaves places after a TICK. -/

/-- What is due at the next TICK. -/
def dueNext (e : Eaves) : List SchedItem := dueItems (nextTick e)

/-- TICK, where `q` holds of what it will place. -/
def tickWhen (f : Field) (q : List SchedItem → Bool) : Field := if ticking f.e && q (dueNext f.e) then tickField f else f

/-- JOIN (R422). -/
def execJoinPoint (s : State) : Host.Outcome State Fault Refusal :=
  s.ok (tickWhen s.f (fun d => d.any (fun i => match i with | .join _ => true | _ => false)))

/-- CUT (R87). -/
def execCutPoint (s : State) : Host.Outcome State Fault Refusal :=
  s.ok (tickWhen s.f (fun d => cutDue { s.f with e := nextTick s.f.e } d))

/-- TIME_STEP (R387). -/
def execTimeStep (s : State) : Host.Outcome State Fault Refusal := s.ok (tickWhen s.f (fun _ => s.f.e.seqr.timeStep.isSome))

/-! What a plane does at a TICK. -/

/-- The number of the TICK that the merger emits next. -/
def nextTickNo (e : Eaves) : Option Nat :=
  match dueShingle e with
  | some sh => if sh.utype = .tick then some (tickOf sh) else none
  | none => none

/-- The emission of a TICK, where `q` holds of a plane that takes the stream and of the TICK's number. -/
def emitWhen (dt : Nat) (s : State) (q : Plane → Nat → Bool) : Host.Outcome State Fault Refusal :=
  let f := s.f.onE (·.at dt)
  match nextTickNo f.e with
  | some t =>
    if (f.a.st.takes && q f.a t) || (f.b.st.takes && q f.b t) then s.ok (emitOne f s.otpA s.otpB) else s.ok f
  | none => s.ok f

/-- ASSIST_PACKET_GAP (R127). -/
def execAssistPacketGap (dt : Nat) (s : State) : Host.Outcome State Fault Refusal := emitWhen dt s (fun q t => q.tpReady t ≠ [])

/-- ASSIST_TIMEOUT (R129). -/
def execAssistTimeout (dt : Nat) (s : State) : Host.Outcome State Fault Refusal := emitWhen dt s (fun q t => q.tpLate t ≠ [])

/-- QUEUE_AGE_EXPIRE (R170). -/
def execQueueAgeExpire (dt : Nat) (s : State) : Host.Outcome State Fault Refusal :=
  emitWhen dt s (fun q t => (q.ageQueues (10000 * t)).fwd.queues ≠ q.fwd.queues)

/-- CB_RECOVERY_RESET (R186). -/
def execCbRecoveryReset (dt : Nat) (s : State) : Host.Outcome State Fault Refusal :=
  emitWhen dt s (fun q t => q.fwd.cbs.any (fun x => q.cbDue x.1 t))

/-- Whether a block's windows have commands to apply. -/
def hasCmds (block : Nat) (q : Plane) : Bool := q.fwd.cmds.any (fun x => x.block = block)

/-- TABLE_COMMAND_APPLY (R199, R224). -/
def execTableCommandApply (dt : Nat) (s : State) : Host.Outcome State Fault Refusal := emitWhen dt s (fun q _ => hasCmds 0 q)

/-- LEARN_APPLY (R211). -/
def execLearnApply (dt : Nat) (s : State) : Host.Outcome State Fault Refusal := emitWhen dt s (fun q _ => q.fwd.learns ≠ [])

/-- MAC_AGING_POINT (R209). -/
def execMacAgingPoint (dt : Nat) (s : State) : Host.Outcome State Fault Refusal := emitWhen dt s (fun q t => q.agingPoint t)

/-- VERSION_RENEWAL (R213). -/
def execVersionRenewal (dt : Nat) (s : State) : Host.Outcome State Fault Refusal := emitWhen dt s (fun _ t => t % 100000 = 0)

/-- CYCLIC_TRIGGER (R234). -/
def execCyclicTrigger (dt : Nat) (s : State) : Host.Outcome State Fault Refusal :=
  emitWhen dt s (fun q t => (List.range q.layCount).any (fun i => cyclicDue (q.lay i) t))

/-- DEFERRED_CHANGE_BUILD (R234). -/
def execDeferredChangeBuild (dt : Nat) (s : State) : Host.Outcome State Fault Refusal :=
  emitWhen dt s (fun q t => (List.range q.layCount).any (fun i => q.deferredDue i t))

/-- SUPERVISOR_EXPIRE (R237). -/
def execSupervisorExpire (dt : Nat) (s : State) : Host.Outcome State Fault Refusal :=
  emitWhen dt s (fun q t => (List.range q.supCount).any (fun k => match q.supDue k with | some d => decide (d ≤ t) | none => false))

/-- CONTRIBUTOR_RESOLVE (R240). -/
def execContributorResolve (dt : Nat) (s : State) : Host.Outcome State Fault Refusal := emitWhen dt s (fun q _ => q.thr.pend ≠ [])

/-- THR_WRITE_APPLY (R247). -/
def execThrWriteApply (dt : Nat) (s : State) : Host.Outcome State Fault Refusal := emitWhen dt s (fun q _ => hasCmds 1 q)

/-- TENANT_BIND (R258). -/
def execTenantBind (dt : Nat) (s : State) : Host.Outcome State Fault Refusal := emitWhen dt s (fun q _ => q.fwd.binds ≠ [])

/-- TENANT_IDLE_UNBIND (R259). -/
def execTenantIdleUnbind (dt : Nat) (s : State) : Host.Outcome State Fault Refusal :=
  emitWhen dt s (fun q t => (q.tlist 17).any (fun x => q.idleDue x.1 t))

/-- DOIP_UNBIND (R259). -/
def execDoipUnbind (dt : Nat) (s : State) : Host.Outcome State Fault Refusal := emitWhen dt s (fun q _ => q.fwd.doipEnd ≠ [])

/-- POST_CUT_UNBIND (R259). -/
def execPostCutUnbind (dt : Nat) (s : State) : Host.Outcome State Fault Refusal := emitWhen dt s (fun q _ => q.fwd.postCut)

/-- TENANT_COMMAND_APPLY (R260). -/
def execTenantCommandApply (dt : Nat) (s : State) : Host.Outcome State Fault Refusal := emitWhen dt s (fun q _ => hasCmds 2 q)

/-- GOVERNOR_WINDOW_CLOSE (R265). -/
def execGovernorWindowClose (dt : Nat) (s : State) : Host.Outcome State Fault Refusal := emitWhen dt s (fun _ t => t % 1000 = 0)

/-- Whether a tenant's BABBLING changes to `on` at the close of the window (R269). -/
def babbles (on : Bool) (q : Plane) (t : Nat) : Bool :=
  let flag := fun (x : Plane) (n : Nat) => decide ((x.ctx n).f 33 0 0 = 1)
  t % 1000 = 0 && (q.tlist 17).any (fun x => flag q x.1 != on && flag (q.govTick t) x.1 == on)

/-- BABBLE_ENTER (R269). -/
def execBabbleEnter (dt : Nat) (s : State) : Host.Outcome State Fault Refusal := emitWhen dt s (babbles true)

/-- BABBLE_EXIT (R269). -/
def execBabbleExit (dt : Nat) (s : State) : Host.Outcome State Fault Refusal := emitWhen dt s (babbles false)

/-- NETWORK_EVALUATE (R476). -/
def execNetworkEvaluate (dt : Nat) (s : State) : Host.Outcome State Fault Refusal := emitWhen dt s (fun _ t => t % 100 = 0)

/-- HOLD_THRESHOLD (R480): a holder has kept its network awake for HOLD_LIMIT by this evaluation. -/
def execHoldThreshold (dt : Nat) (s : State) : Host.Outcome State Fault Refusal :=
  emitWhen dt s (fun q t => t % 100 = 0 &&
    (List.range (netCount q.truss)).any (fun i => (Net.accrue (netOf q i)).table.any (fun e =>
      match e.2 with | some h => q.holdDue h | none => false)))

/-- AUTHORITY_COMMAND (R447). -/
def execAuthorityCommand (dt : Nat) (s : State) : Host.Outcome State Fault Refusal :=
  emitWhen dt s (fun q t => q.st.auths.any (fun x => decide (x.1 ≤ t)))

end Sys2Proof.Machine
end

