-- ==== Sys2Proof/Machine/Dispatch.lean ====
section
/-!
DEFINITION. One arm for each command of the table.
-/

namespace Sys2Proof.Machine

open Host

/-- The effect of one command on everything but the queue: one direct call of its meaning. -/
def exec (i : Instr) (s : State) : Host.Outcome State Fault Refusal :=
  match i with
  | .tick => Sys2Proof.Machine.execTick s
  | .mergerEmit dt => Sys2Proof.Machine.execMergerEmit dt s
  | .unitLookup p => Sys2Proof.Machine.execUnitLookup p s
  | .portRestartProcess p => Sys2Proof.Machine.execPortRestartProcess p s
  | .linkDownFlush p => Sys2Proof.Machine.execLinkDownFlush p s
  | .planeLagDetect p lag => Sys2Proof.Machine.execPlaneLagDetect p lag s
  | .eavesAccess => Sys2Proof.Machine.execEavesAccess s
  | .regReadCompletion p => Sys2Proof.Machine.execRegReadCompletion p s
  | .hostMsgReceive h p hx cx => Sys2Proof.Machine.execHostMsgReceive h p hx cx s
  | .receiptReceived p => Sys2Proof.Machine.execReceiptReceived p s
  | .admissionRequest p => Sys2Proof.Machine.execAdmissionRequest p s
  | .hostAdmit p => Sys2Proof.Machine.execHostAdmit p s
  | .receiptTimeout ep tenant seq => Sys2Proof.Machine.execReceiptTimeout ep tenant seq s
  | .candidateArrive p => Sys2Proof.Machine.execCandidateArrive p s
  | .mgmtRead ep tenant tag addr count => Sys2Proof.Machine.execMgmtRead ep tenant tag addr count s
  | .mgmtWrite ep tenant tag addr data => Sys2Proof.Machine.execMgmtWrite ep tenant tag addr data s
  | .registerWrite init tenant secure addr v => Sys2Proof.Machine.execRegisterWrite init tenant secure addr v s
  | .snapLowRead init tenant secure addr => Sys2Proof.Machine.execSnapLowRead init tenant secure addr s
  | .snapHighRead init tenant secure addr => Sys2Proof.Machine.execSnapHighRead init tenant secure addr s
  | .snapLowWrite init tenant secure addr v => Sys2Proof.Machine.execSnapLowWrite init tenant secure addr v s
  | .snapHighWrite init tenant secure addr v => Sys2Proof.Machine.execSnapHighWrite init tenant secure addr v s
  | .postedWrite init tenant secure addr v => Sys2Proof.Machine.execPostedWrite init tenant secure addr v s
  | .postedWriteArrive k => Sys2Proof.Machine.execPostedWriteArrive k s
  | .paritySweep bad p => Sys2Proof.Machine.execParitySweep bad p s
  | .eavesCacheCompare upset => Sys2Proof.Machine.execEavesCacheCompare upset s
  | .planeCacheCompare upset => Sys2Proof.Machine.execPlaneCacheCompare upset s
  | .dumpStart ep tenant tag => Sys2Proof.Machine.execDumpStart ep tenant tag s
  | .dumpAbort => Sys2Proof.Machine.execDumpAbort s
  | .dumpSection => Sys2Proof.Machine.execDumpSection s
  | .trussOpen tenant => Sys2Proof.Machine.execTrussOpen tenant s
  | .trussChunk ep tenant tag offset data => Sys2Proof.Machine.execTrussChunk ep tenant tag offset data s
  | .trussVerify tenant => Sys2Proof.Machine.execTrussVerify tenant s
  | .trussVerifyDone flashFail => Sys2Proof.Machine.execTrussVerifyDone flashFail s
  | .trussDiscard tenant => Sys2Proof.Machine.execTrussDiscard tenant s
  | .floorCommit tenant => Sys2Proof.Machine.execFloorCommit tenant s
  | .turnStart tenant cold => Sys2Proof.Machine.execTurnStart tenant cold s
  | .turnAbort tenant => Sys2Proof.Machine.execTurnAbort tenant s
  | .turnReloadDone dt => Sys2Proof.Machine.execTurnReloadDone dt s
  | .inactiveBankFilled => Sys2Proof.Machine.execInactiveBankFilled s
  | .qualifyDone checkDt vectorDt => Sys2Proof.Machine.execQualifyDone checkDt vectorDt s
  | .qualLimitExpire dt => Sys2Proof.Machine.execQualLimitExpire dt s
  | .armed => Sys2Proof.Machine.execArmed s
  | .cutPoint => Sys2Proof.Machine.execCutPoint s
  | .portDrained port => Sys2Proof.Machine.execPortDrained port s
  | .drainLimitExpire port dt => Sys2Proof.Machine.execDrainLimitExpire port dt s
  | .slotRestart n => Sys2Proof.Machine.execSlotRestart n s
  | .slotEnable n => Sys2Proof.Machine.execSlotEnable n s
  | .slotDisable n => Sys2Proof.Machine.execSlotDisable n s
  | .opmodeApply n => Sys2Proof.Machine.execOpmodeApply n s
  | .slotIntegrated n dt => Sys2Proof.Machine.execSlotIntegrated n dt s
  | .canFrameReceived n r dt => Sys2Proof.Machine.execCanFrameReceived n r dt s
  | .protocolException n dt => Sys2Proof.Machine.execProtocolException n dt s
  | .canRxError n kind err dt => Sys2Proof.Machine.execCanRxError n kind err dt s
  | .detectDwellExpire n dt => Sys2Proof.Machine.execDetectDwellExpire n dt s
  | .filterElementWrite n idx both => Sys2Proof.Machine.execFilterElementWrite n idx both s
  | .filterElementRead n idx => Sys2Proof.Machine.execFilterElementRead n idx s
  | .mailboxLock n who dt => Sys2Proof.Machine.execMailboxLock n who dt s
  | .mailboxRelease n who => Sys2Proof.Machine.execMailboxRelease n who s
  | .mailboxSelect n who m => Sys2Proof.Machine.execMailboxSelect n who m s
  | .mailboxLockTimeout n dt => Sys2Proof.Machine.execMailboxLockTimeout n dt s
  | .slotRelease p n => Sys2Proof.Machine.execSlotRelease p n s
  | .slotTxCandidate n => Sys2Proof.Machine.execSlotTxCandidate n s
  | .txCommit n dt => Sys2Proof.Machine.execTxCommit n dt s
  | .arbitrationLost n => Sys2Proof.Machine.execArbitrationLost n s
  | .txSuccess n x => Sys2Proof.Machine.execTxSuccess n x s
  | .txError n kind x dt => Sys2Proof.Machine.execTxError n kind x dt s
  | .txAgeExpire n m dt => Sys2Proof.Machine.execTxAgeExpire n m dt s
  | .txCancel n mask => Sys2Proof.Machine.execTxCancel n mask s
  | .busoffRecovery n k dt => Sys2Proof.Machine.execBusoffRecovery n k dt s
  | .assistFrameConsumed p => Sys2Proof.Machine.execAssistFrameConsumed p s
  | .assistSegment p => Sys2Proof.Machine.execAssistSegment p s
  | .assistPacketGap dt => Sys2Proof.Machine.execAssistPacketGap dt s
  | .assistCts p => Sys2Proof.Machine.execAssistCts p s
  | .assistFlowControl p => Sys2Proof.Machine.execAssistFlowControl p s
  | .assistRts p => Sys2Proof.Machine.execAssistRts p s
  | .assistFirstFrame p => Sys2Proof.Machine.execAssistFirstFrame p s
  | .assistTimeout dt => Sys2Proof.Machine.execAssistTimeout dt s
  | .characterReceived n b stage mark framing parity dt => Sys2Proof.Machine.execCharacterReceived n b stage mark framing parity dt s
  | .packetBoundary n dt => Sys2Proof.Machine.execPacketBoundary n dt s
  | .packerFlush n => Sys2Proof.Machine.execPackerFlush n s
  | .linScheduleEntry n dt => Sys2Proof.Machine.execLinScheduleEntry n dt s
  | .linResponseTimeout n dt => Sys2Proof.Machine.execLinResponseTimeout n dt s
  | .linBreakDetected n pid sync dt => Sys2Proof.Machine.execLinBreakDetected n pid sync dt s
  | .linPublishUpdate n => Sys2Proof.Machine.execLinPublishUpdate n s
  | .linGosleep n => Sys2Proof.Machine.execLinGosleep n s
  | .linWake n dt => Sys2Proof.Machine.execLinWake n dt s
  | .linWakePulse n width dt => Sys2Proof.Machine.execLinWakePulse n width dt s
  | .linScheduleResume n dt => Sys2Proof.Machine.execLinScheduleResume n dt s
  | .slowTxCandidate n dt => Sys2Proof.Machine.execSlowTxCandidate n dt s
  | .slowTxAgeExpire n dt => Sys2Proof.Machine.execSlowTxAgeExpire n dt s
  | .j1708Access n idle dt => Sys2Proof.Machine.execJ1708Access n idle dt s
  | .slowCharSent n back framing dt => Sys2Proof.Machine.execSlowCharSent n back framing dt s
  | .t1sFrameReceived n frame fcsOk ago dt => Sys2Proof.Machine.execT1sFrameReceived n frame fcsOk ago dt s
  | .t1sBeacon n dt => Sys2Proof.Machine.execT1sBeacon n dt s
  | .t1sBeaconLoss n dt => Sys2Proof.Machine.execT1sBeaconLoss n dt s
  | .t1sBeaconSend b => Sys2Proof.Machine.execT1sBeaconSend b s
  | .t1sTxOpportunity n dt => Sys2Proof.Machine.execT1sTxOpportunity n dt s
  | .t1sCollision n dt => Sys2Proof.Machine.execT1sCollision n dt s
  | .t1sRestart n enable dt => Sys2Proof.Machine.execT1sRestart n enable dt s
  | .ethFrameReceived n frame fcsOk ago dt => Sys2Proof.Machine.execEthFrameReceived n frame fcsOk ago dt s
  | .ethLinkUp n lock dt => Sys2Proof.Machine.execEthLinkUp n lock dt s
  | .ethLinkDown n hiBer dt => Sys2Proof.Machine.execEthLinkDown n hiBer dt s
  | .ethRestart n enable dt => Sys2Proof.Machine.execEthRestart n enable dt s
  | .txtsRead n => Sys2Proof.Machine.execTxtsRead n s
  | .mdioAddress n c45 reg data => Sys2Proof.Machine.execMdioAddress n c45 reg data s
  | .mdioWrite n c45 reg data => Sys2Proof.Machine.execMdioWrite n c45 reg data s
  | .mdioRead n c45 reg data => Sys2Proof.Machine.execMdioRead n c45 reg data s
  | .mdioDone bus data => Sys2Proof.Machine.execMdioDone bus data s
  | .phyInterrupt pin => Sys2Proof.Machine.execPhyInterrupt pin s
  | .ethRelease p port => Sys2Proof.Machine.execEthRelease p port s
  | .ethTxCandidate k dt => Sys2Proof.Machine.execEthTxCandidate k dt s
  | .ethTxStart n dt => Sys2Proof.Machine.execEthTxStart n dt s
  | .ethTxDone n dt => Sys2Proof.Machine.execEthTxDone n dt s
  | .gateEntryChange n dt => Sys2Proof.Machine.execGateEntryChange n dt s
  | .queueAgeExpire dt => Sys2Proof.Machine.execQueueAgeExpire dt s
  | .cbRecoveryReset dt => Sys2Proof.Machine.execCbRecoveryReset dt s
  | .tblRead n => Sys2Proof.Machine.execTblRead n s
  | .tblWrite n => Sys2Proof.Machine.execTblWrite n s
  | .tblInsert n => Sys2Proof.Machine.execTblInsert n s
  | .tblDelete n => Sys2Proof.Machine.execTblDelete n s
  | .tblSearch n => Sys2Proof.Machine.execTblSearch n s
  | .tableCommandApply dt => Sys2Proof.Machine.execTableCommandApply dt s
  | .learnApply dt => Sys2Proof.Machine.execLearnApply dt s
  | .macAgingPoint dt => Sys2Proof.Machine.execMacAgingPoint dt s
  | .versionRenewal dt => Sys2Proof.Machine.execVersionRenewal dt s
  | .learningNoticeReceived p => Sys2Proof.Machine.execLearningNoticeReceived p s
  | .tableScrub p t k found => Sys2Proof.Machine.execTableScrub p t k found s
  | .tableRepairReply p => Sys2Proof.Machine.execTableRepairReply p s
  | .thatcherUnit p => Sys2Proof.Machine.execThatcherUnit p s
  | .cyclicTrigger dt => Sys2Proof.Machine.execCyclicTrigger dt s
  | .deferredChangeBuild dt => Sys2Proof.Machine.execDeferredChangeBuild dt s
  | .supervisorExpire dt => Sys2Proof.Machine.execSupervisorExpire dt s
  | .contributorResolve dt => Sys2Proof.Machine.execContributorResolve dt s
  | .hostSignalWrite ep tenant tag => Sys2Proof.Machine.execHostSignalWrite ep tenant tag s
  | .thrWindowRead n => Sys2Proof.Machine.execThrWindowRead n s
  | .thrWindowWrite n => Sys2Proof.Machine.execThrWindowWrite n s
  | .thrWriteApply dt => Sys2Proof.Machine.execThrWriteApply dt s
  | .hostFrameInject ep tenant tag => Sys2Proof.Machine.execHostFrameInject ep tenant tag s
  | .tenantBind dt => Sys2Proof.Machine.execTenantBind dt s
  | .tenantIdleUnbind dt => Sys2Proof.Machine.execTenantIdleUnbind dt s
  | .doipUnbind dt => Sys2Proof.Machine.execDoipUnbind dt s
  | .postCutUnbind dt => Sys2Proof.Machine.execPostCutUnbind dt s
  | .tenRead n => Sys2Proof.Machine.execTenRead n s
  | .tenWrite n => Sys2Proof.Machine.execTenWrite n s
  | .unbind n => Sys2Proof.Machine.execUnbind n s
  | .clearBabble n => Sys2Proof.Machine.execClearBabble n s
  | .zeroCounters n => Sys2Proof.Machine.execZeroCounters n s
  | .tenantCommandApply dt => Sys2Proof.Machine.execTenantCommandApply dt s
  | .governorWindowClose dt => Sys2Proof.Machine.execGovernorWindowClose dt s
  | .babbleEnter dt => Sys2Proof.Machine.execBabbleEnter dt s
  | .babbleExit dt => Sys2Proof.Machine.execBabbleExit dt s
  | .thermalThrottle p temp => Sys2Proof.Machine.execThermalThrottle p temp s
  | .thermalRestore p temp => Sys2Proof.Machine.execThermalRestore p temp s
  | .ridgePairTrained h p => Sys2Proof.Machine.execRidgePairTrained h p s
  | .ridgePairDown h p => Sys2Proof.Machine.execRidgePairDown h p s
  | .halfFault h => Sys2Proof.Machine.execHalfFault h s
  | .halfRestarted h => Sys2Proof.Machine.execHalfRestarted h s
  | .hostResetRelease straps => Sys2Proof.Machine.execHostResetRelease straps s
  | .endpointDown ep clearCtl => Sys2Proof.Machine.execEndpointDown ep clearCtl s
  | .endpointUp ep => Sys2Proof.Machine.execEndpointUp ep s
  | .heartbeatSend toHost h p => Sys2Proof.Machine.execHeartbeatSend toHost h p s
  | .heartbeatReceived atHost h p => Sys2Proof.Machine.execHeartbeatReceived atHost h p s
  | .heartbeatMissed h p => Sys2Proof.Machine.execHeartbeatMissed h p s
  | .dgenChange h => Sys2Proof.Machine.execDgenChange h s
  | .sqFetch ep q cls urgent len seq tag buf => Sys2Proof.Machine.execSqFetch ep q cls urgent len seq tag buf s
  | .rqDeliver ep size => Sys2Proof.Machine.execRqDeliver ep size s
  | .creditReturn atHost h p => Sys2Proof.Machine.execCreditReturn atHost h p s
  | .creditSend toHost h p => Sys2Proof.Machine.execCreditSend toHost h p s
  | .halfOutputSelect h p => Sys2Proof.Machine.execHalfOutputSelect h p s
  | .proxyRead ep c => Sys2Proof.Machine.execProxyRead ep c s
  | .proxyWrite ep c => Sys2Proof.Machine.execProxyWrite ep c s
  | .proxyAcquire ep c => Sys2Proof.Machine.execProxyAcquire ep c s
  | .proxyRelease ep c => Sys2Proof.Machine.execProxyRelease ep c s
  | .proxyResponse ep c => Sys2Proof.Machine.execProxyResponse ep c s
  | .proxyTimeout ep c => Sys2Proof.Machine.execProxyTimeout ep c s
  | .bulkPost ep b => Sys2Proof.Machine.execBulkPost ep b s
  | .semaAcquire ep tenant tag index => Sys2Proof.Machine.execSemaAcquire ep tenant tag index s
  | .semaRelease ep tenant tag index => Sys2Proof.Machine.execSemaRelease ep tenant tag index s
  | .semaQuery ep tenant tag index => Sys2Proof.Machine.execSemaQuery ep tenant tag index s
  | .semaForce ep tenant tag index => Sys2Proof.Machine.execSemaForce ep tenant tag index s
  | .authEngineDone p => Sys2Proof.Machine.execAuthEngineDone p s
  | .mkaPeriod port server => Sys2Proof.Machine.execMkaPeriod port server s
  | .lcArm tenant target confirm => Sys2Proof.Machine.execLcArm tenant target confirm s
  | .lcDisarm tenant => Sys2Proof.Machine.execLcDisarm tenant s
  | .kilnRevoke tenant slot => Sys2Proof.Machine.execKilnRevoke tenant slot s
  | .provRootO => Sys2Proof.Machine.execProvRootO s
  | .provDigest2 => Sys2Proof.Machine.execProvDigest2 s
  | .provDigest3 => Sys2Proof.Machine.execProvDigest3 s
  | .provRetention => Sys2Proof.Machine.execProvRetention s
  | .provEscrow => Sys2Proof.Machine.execProvEscrow s
  | .kilnDestroy tenant handle => Sys2Proof.Machine.execKilnDestroy tenant handle s
  | .keyDestroyApply => Sys2Proof.Machine.execKeyDestroyApply s
  | .sessionOpen => Sys2Proof.Machine.execSessionOpen s
  | .sessionSubmit => Sys2Proof.Machine.execSessionSubmit s
  | .sessionClose tenant => Sys2Proof.Machine.execSessionClose tenant s
  | .challengeExpire => Sys2Proof.Machine.execChallengeExpire s
  | .sessionLifetimeExpire => Sys2Proof.Machine.execSessionLifetimeExpire s
  | .sessionLockoutExpire => Sys2Proof.Machine.execSessionLockoutExpire s
  | .gcmEncrypt n => Sys2Proof.Machine.execGcmEncrypt n s
  | .gcmDecrypt n => Sys2Proof.Machine.execGcmDecrypt n s
  | .ctrCrypt n => Sys2Proof.Machine.execCtrCrypt n s
  | .macGen n => Sys2Proof.Machine.execMacGen n s
  | .macVerify n => Sys2Proof.Machine.execMacVerify n s
  | .randomBytes n => Sys2Proof.Machine.execRandomBytes n s
  | .importKey n => Sys2Proof.Machine.execImportKey n s
  | .tamperActivation src pin => Sys2Proof.Machine.execTamperActivation src pin s
  | .tamperLatchClear tenant => Sys2Proof.Machine.execTamperLatchClear tenant s
  | .entropyReady => Sys2Proof.Machine.execEntropyReady s
  | .entropyStartTimeout => Sys2Proof.Machine.execEntropyStartTimeout s
  | .entropyHealthFail => Sys2Proof.Machine.execEntropyHealthFail s
  | .entropyReserveEmpty => Sys2Proof.Machine.execEntropyReserveEmpty s
  | .driveLinkUp p d => Sys2Proof.Machine.execDriveLinkUp p d s
  | .driveAttachDone p d sb0 sb1 extents => Sys2Proof.Machine.execDriveAttachDone p d sb0 sb1 extents s
  | .driveCommandDone p d gen upTo => Sys2Proof.Machine.execDriveCommandDone p d gen upTo s
  | .driveTimeout p d => Sys2Proof.Machine.execDriveTimeout p d s
  | .driveWriteError p d => Sys2Proof.Machine.execDriveWriteError p d s
  | .driveCriticalWarning p d log => Sys2Proof.Machine.execDriveCriticalWarning p d log s
  | .driveLinkLoss p d => Sys2Proof.Machine.execDriveLinkLoss p d s
  | .mirrorComplete p d => Sys2Proof.Machine.execMirrorComplete p d s
  | .adopt ep tenant tag p d => Sys2Proof.Machine.execAdopt ep tenant tag p d s
  | .retire ep tenant tag p d => Sys2Proof.Machine.execRetire ep tenant tag p d s
  | .sealDue => Sys2Proof.Machine.execSealDue s
  | .journalSnapshot => Sys2Proof.Machine.execJournalSnapshot s
  | .chunkClose => Sys2Proof.Machine.execChunkClose s
  | .chunkWritten p cseq good => Sys2Proof.Machine.execChunkWritten p cseq good s
  | .incidentTrigger what => Sys2Proof.Machine.execIncidentTrigger what s
  | .incidentClose => Sys2Proof.Machine.execIncidentClose s
  | .incidentCopyDone p id => Sys2Proof.Machine.execIncidentCopyDone p id s
  | .legalExpire => Sys2Proof.Machine.execLegalExpire s
  | .headCommit p => Sys2Proof.Machine.execHeadCommit p s
  | .holeRepair p => Sys2Proof.Machine.execHoleRepair p s
  | .legalScrub p bad => Sys2Proof.Machine.execLegalScrub p bad s
  | .journalStatus ep tenant tag => Sys2Proof.Machine.execJournalStatus ep tenant tag s
  | .journalLocate ep tenant tag tier key v => Sys2Proof.Machine.execJournalLocate ep tenant tag tier key v s
  | .journalOpen ep tenant tag tier start stop => Sys2Proof.Machine.execJournalOpen ep tenant tag tier start stop s
  | .journalClose ep tenant tag e => Sys2Proof.Machine.execJournalClose ep tenant tag e s
  | .journalTrigger ep tenant tag => Sys2Proof.Machine.execJournalTrigger ep tenant tag s
  | .journalLock ep tenant tag id => Sys2Proof.Machine.execJournalLock ep tenant tag id s
  | .journalUnlock ep tenant tag id => Sys2Proof.Machine.execJournalUnlock ep tenant tag id s
  | .exportSend => Sys2Proof.Machine.execExportSend s
  | .exportAck ep tenant e acked => Sys2Proof.Machine.execExportAck ep tenant e acked s
  | .servoRun => Sys2Proof.Machine.execServoRun s
  | .timeStep => Sys2Proof.Machine.execTimeStep s
  | .ppsInEdge dt => Sys2Proof.Machine.execPpsInEdge dt s
  | .ppsInLost => Sys2Proof.Machine.execPpsInLost s
  | .ppsOutPulse dt => Sys2Proof.Machine.execPpsOutPulse dt s
  | .timeReport ep tenant tag => Sys2Proof.Machine.execTimeReport ep tenant tag s
  | .timeSet ep tenant tag ref ptp errUs => Sys2Proof.Machine.execTimeSet ep tenant tag ref ptp errUs s
  | .timeUtc ep tenant tag utc => Sys2Proof.Machine.execTimeUtc ep tenant tag utc s
  | .calendarSync => Sys2Proof.Machine.execCalendarSync s
  | .motionEdge n => Sys2Proof.Machine.execMotionEdge n s
  | .gptpSyncSend => Sys2Proof.Machine.execGptpSyncSend s
  | .gptpPdelay port delay => Sys2Proof.Machine.execGptpPdelay port delay s
  | .planeFaultDeclare p o => Sys2Proof.Machine.execPlaneFaultDeclare p o s
  | .rejoinAttempt p dt => Sys2Proof.Machine.execRejoinAttempt p dt s
  | .rejoinStageDone p good => Sys2Proof.Machine.execRejoinStageDone p good s
  | .rejoinTimeout p dt => Sys2Proof.Machine.execRejoinTimeout p dt s
  | .copyRequest p => Sys2Proof.Machine.execCopyRequest p s
  | .snapshotApplied p bytes => Sys2Proof.Machine.execSnapshotApplied p bytes s
  | .rejoinLevel p => Sys2Proof.Machine.execRejoinLevel p s
  | .joinPoint => Sys2Proof.Machine.execJoinPoint s
  | .planeRejoinRelease tenant p => Sys2Proof.Machine.execPlaneRejoinRelease tenant p s
  | .purlinLoss lane => Sys2Proof.Machine.execPurlinLoss lane s
  | .digestMismatch port oseq dLead dShadow => Sys2Proof.Machine.execDigestMismatch port oseq dLead dShadow s
  | .attributionWindowExpire dt => Sys2Proof.Machine.execAttributionWindowExpire dt s
  | .faultSourceOccurrence k stays => Sys2Proof.Machine.execFaultSourceOccurrence k stays s
  | .railFault k => Sys2Proof.Machine.execRailFault k s
  | .flueForcePulse tenant k => Sys2Proof.Machine.execFlueForcePulse tenant k s
  | .flueForceRail tenant k => Sys2Proof.Machine.execFlueForceRail tenant k s
  | .flueSelf => Sys2Proof.Machine.execFlueSelf s
  | .flueCauseClear k => Sys2Proof.Machine.execFlueCauseClear k s
  | .voteDisagreement kind masked => Sys2Proof.Machine.execVoteDisagreement kind masked s
  | .eavesSupplyLoss n => Sys2Proof.Machine.execEavesSupplyLoss n s
  | .refclkLoss p => Sys2Proof.Machine.execRefclkLoss p s
  | .aliveToggle dt => Sys2Proof.Machine.execAliveToggle dt s
  | .aliveHToggle dt => Sys2Proof.Machine.execAliveHToggle dt s
  | .safeEntry => Sys2Proof.Machine.execSafeEntry s
  | .safeRekindle dt => Sys2Proof.Machine.execSafeRekindle dt s
  | .modeStatus ep tenant tag => Sys2Proof.Machine.execModeStatus ep tenant tag s
  | .enterService ep tenant tag => Sys2Proof.Machine.execEnterService ep tenant tag s
  | .enterBanked ep tenant tag force => Sys2Proof.Machine.execEnterBanked ep tenant tag force s
  | .enterEmber ep tenant tag force => Sys2Proof.Machine.execEnterEmber ep tenant tag force s
  | .enterOff ep tenant tag force => Sys2Proof.Machine.execEnterOff ep tenant tag force s
  | .modeReset ep tenant tag => Sys2Proof.Machine.execModeReset ep tenant tag s
  | .modeHold ep tenant tag ms => Sys2Proof.Machine.execModeHold ep tenant tag ms s
  | .holdExpire dt => Sys2Proof.Machine.execHoldExpire dt s
  | .authorityCommand dt => Sys2Proof.Machine.execAuthorityCommand dt s
  | .bankedPortsDrained => Sys2Proof.Machine.execBankedPortsDrained s
  | .bankedDrivesFlushed => Sys2Proof.Machine.execBankedDrivesFlushed s
  | .emberPlanesOff => Sys2Proof.Machine.execEmberPlanesOff s
  | .padRelease c => Sys2Proof.Machine.execPadRelease c s
  | .powerOn boot slept => Sys2Proof.Machine.execPowerOn boot slept s
  | .kindlingPgood => Sys2Proof.Machine.execKindlingPgood s
  | .firmwareVerified p good => Sys2Proof.Machine.execFirmwareVerified p good s
  | .kindlingTrussCheck p => Sys2Proof.Machine.execKindlingTrussCheck p s
  | .kindlingFullLoad p => Sys2Proof.Machine.execKindlingFullLoad p s
  | .kindlingLead p => Sys2Proof.Machine.execKindlingLead p s
  | .kindlingTimeout dt => Sys2Proof.Machine.execKindlingTimeout dt s
  | .wakeNAssert pin => Sys2Proof.Machine.execWakeNAssert pin s
  | .wakeCAssert n pin => Sys2Proof.Machine.execWakeCAssert n pin s
  | .calendarAlarm slept => Sys2Proof.Machine.execCalendarAlarm slept s
  | .vbatLoss => Sys2Proof.Machine.execVbatLoss s
  | .idleEntry dt => Sys2Proof.Machine.execIdleEntry dt s
  | .dvfsStep => Sys2Proof.Machine.execDvfsStep s
  | .avsAdjust p up floorLow => Sys2Proof.Machine.execAvsAdjust p up floorLow s
  | .supplyWarn src dt => Sys2Proof.Machine.execSupplyWarn src dt s
  | .supplyWarnClear dt => Sys2Proof.Machine.execSupplyWarnClear dt s
  | .warnLong dt => Sys2Proof.Machine.execWarnLong dt s
  | .warnOffTimeout dt => Sys2Proof.Machine.execWarnOffTimeout dt s
  | .resetLevel => Sys2Proof.Machine.execResetLevel s
  | .pgoodFall k => Sys2Proof.Machine.execPgoodFall k s
  | .resetNAssert slept => Sys2Proof.Machine.execResetNAssert slept s
  | .resetNRelease dt => Sys2Proof.Machine.execResetNRelease dt s
  | .resetStuck dt => Sys2Proof.Machine.execResetStuck dt s
  | .networkEvaluate dt => Sys2Proof.Machine.execNetworkEvaluate dt s
  | .holdThreshold dt => Sys2Proof.Machine.execHoldThreshold dt s
  | .battenRefresh n dt => Sys2Proof.Machine.execBattenRefresh n dt s
  | .battenSweepStart n dt => Sys2Proof.Machine.execBattenSweepStart n dt s
  | .battenTransactionDone n status data crcOk ret => Sys2Proof.Machine.execBattenTransactionDone n status data crcOk ret s
  | .battenModeWrite n => Sys2Proof.Machine.execBattenModeWrite n s
  | .battenRestart n => Sys2Proof.Machine.execBattenRestart n s
  | .battenInt n pin => Sys2Proof.Machine.execBattenInt n pin s
  | .faultSourceClear k => Sys2Proof.Machine.execFaultSourceClear k s
  | .refclkReturn p => Sys2Proof.Machine.execRefclkReturn p s
  | .purlinLock => Sys2Proof.Machine.execPurlinLock s
  | .serialGapEnd n dt => Sys2Proof.Machine.execSerialGapEnd n dt s

end Sys2Proof.Machine
end

