-- ==== Sys2Proof/Safety.lean ====
section
/-!
DEFINITION. What a safe run is: no step stops, and every state keeps the device's standing rules.
-/

namespace Sys2Proof.Machine

/-- The state a step leads to, if it does not stop. -/
def State.stepTo (s : State) : Option State :=
  match step s with
  | .next t => some t
  | .fault _ => none
  | .refused _ => none

/-- A run of `n` steps that does not stop. -/
def State.runs : State → Nat → Prop
  | _, 0 => True
  | s, n + 1 => ∃ t, step s = .next t ∧ t.runs n

/-- The command `c` completes in `s`: it answers a next state that differs in the dies alone (the queue and the fuses stay), and `P`
holds of the dies there. -/
def Answers (c : Instr) (s : State) (P : Field → Prop) : Prop := ∃ g : Field, exec c s = .next { s with f := g } ∧ P g

/-- The command `c` completes in `s` and changes the OTP of both planes by `h`; `P` holds of the dies after it. -/
def Fuses (c : Instr) (s : State) (h : Otp → Otp) (P : Field → Prop) : Prop :=
  ∃ g : Field, exec c s = .next { s with f := g, otpA := h s.otpA, otpB := h s.otpB } ∧ P g

/-- The counter register at `a` has counted `k` more, and stays at its largest value (R52). -/
def Counted (m m' : Regs) (a k : Nat) : Prop := m'.rd a = BitVec.ofNat 32 (satAdd 32 (m.rd a).toNat k)

/-! What commands leave as it is. -/

/-- From `s` to `t` the queue, the fuses, the host die, a turn, a dump and a state copy stay. -/
def Apart (s t : State) : Prop :=
  t.pending = s.pending ∧ t.otpA = s.otpA ∧ t.otpB = s.otpB ∧ t.f.h = s.f.h ∧ t.f.turn = s.f.turn ∧ t.f.dump = s.f.dump ∧ t.f.copy = s.f.copy

/-- The planes stay. -/
def PlanesStay (s t : State) : Prop := t.f.a = s.f.a ∧ t.f.b = s.f.b

/-- Of Eaves, the modes and roles, the banks, the chains and snapshots stay, every register outside the block at `base` reads as before,
and GEN of every other port stays. -/
def BlockOnly (base port : Nat) (s t : State) : Prop :=
  t.f.e.mode = s.f.e.mode ∧ t.f.e.pstate = s.f.e.pstate ∧ t.f.e.roleA = s.f.e.roleA ∧ t.f.e.roleB = s.f.e.roleB ∧
  t.f.e.live = s.f.e.live ∧ t.f.e.inact = s.f.e.inact ∧ t.f.e.poolIn = s.f.e.poolIn ∧ t.f.e.chains = s.f.e.chains ∧
  t.f.e.snaps = s.f.e.snaps ∧ t.f.e.posted = s.f.e.posted ∧
  (∀ a, (a < base ∨ base + 0x1000 ≤ a) → t.f.e.regs.rd a = s.f.e.regs.rd a) ∧ ∀ k, k ≠ port → t.f.e.genOf k = s.f.e.genOf k

/-- A command of slot `n` changes that slot alone of the field side. -/
def SlotOnly (n : Nat) (s t : State) : Prop :=
  Apart s t ∧ BlockOnly (slotBase n) n s t ∧ t.f.e.seqr = s.f.e.seqr ∧ t.f.e.eths = s.f.e.eths ∧ t.f.e.t1s = s.f.e.t1s ∧
  ∀ k, k ≠ n → t.f.e.slot k = s.f.e.slot k

/-- The slot of a command that acts on a slot and on nothing else. -/
def slotOf : Instr → Option Nat
  | .slotRestart n | .slotEnable n | .slotDisable n | .opmodeApply n | .slotIntegrated n _ | .protocolException n _ | .canRxError n _ _ _
  | .detectDwellExpire n _ | .filterElementRead n _ | .mailboxLock n _ _ | .mailboxRelease n _ | .mailboxSelect n _ _
  | .mailboxLockTimeout n _ | .slotTxCandidate n | .txCommit n _ | .arbitrationLost n | .txSuccess n _ | .txError n _ _ _
  | .txAgeExpire n _ _ | .txCancel n _ | .busoffRecovery n _ _ | .characterReceived n _ _ _ _ _ _ | .packetBoundary n _ | .packerFlush n
  | .linScheduleEntry n _ | .linResponseTimeout n _ | .linBreakDetected n _ _ _ | .linPublishUpdate n
  | .linScheduleResume n _ | .slowTxCandidate n _ | .slowTxAgeExpire n _ | .j1708Access n _ _ | .slowCharSent n _ _ _
  | .serialGapEnd n _ => some n.val
  | _ => none

/-- The Ethernet port of a command that acts on a port and on nothing else. -/
def ethOf : Instr → Option Nat
  | .ethFrameReceived n _ _ _ _ | .ethLinkUp n _ _ | .ethLinkDown n _ _ | .ethRestart n _ _ | .txtsRead n | .ethTxStart n _ | .ethTxDone n _
  | .gateEntryChange n _ | .mdioAddress n _ _ _ | .mdioWrite n _ _ _ | .mdioRead n _ _ _ => some n.val
  | _ => none

/-- The T1S port of a command that acts on a port and on nothing else. -/
def t1sOf : Instr → Option Nat
  | .t1sFrameReceived n _ _ _ _ | .t1sBeacon n _ | .t1sBeaconLoss n _ | .t1sTxOpportunity n _ | .t1sCollision n _
  | .t1sRestart n _ _ => some n.val
  | .t1sBeaconSend b => some b.port.val
  | _ => none

/-- Commands that act in the planes alone. -/
def inPlanes : Instr → Bool
  | .mkaPeriod _ _ | .keyDestroyApply | .sessionOpen | .challengeExpire | .sessionLockoutExpire | .gcmEncrypt _ | .gcmDecrypt _ | .ctrCrypt _
  | .macGen _ | .macVerify _ | .randomBytes _ | .importKey _ | .provEscrow | .semaForce _ _ _ _ | .semaAcquire _ _ _ _ | .semaRelease _ _ _ _
  | .semaQuery _ _ _ _ | .journalSnapshot | .sealDue | .chunkClose | .chunkWritten _ _ _ | .incidentTrigger _ | .incidentClose
  | .incidentCopyDone _ _ | .legalExpire | .journalStatus _ _ _ | .journalLocate _ _ _ _ _ _ | .journalOpen _ _ _ _ _ _
  | .journalClose _ _ _ _ | .journalTrigger _ _ _ | .journalLock _ _ _ _ | .journalUnlock _ _ _ _ | .exportSend | .exportAck _ _ _ _
  | .timeReport _ _ _ | .timeSet _ _ _ _ _ _ | .gptpSyncSend | .tblRead _ | .tblWrite _ | .tblInsert _ | .tblDelete _ | .tblSearch _
  | .thrWindowRead _ | .thrWindowWrite _ | .tenRead _ | .tenWrite _ | .unbind _ | .clearBabble _ | .zeroCounters _ => true
  | _ => false

/-- The endpoint of a command that acts in the host die and on one endpoint alone. -/
def endpointOf : Instr → Option Nat
  | .endpointDown ep _ | .rqDeliver ep _ | .proxyRead ep _ | .proxyWrite ep _ | .proxyAcquire ep _ | .proxyRelease ep _ | .proxyResponse ep _
  | .proxyTimeout ep _ | .bulkPost ep _ => some ep.val
  | _ => none

/-! Fuses. -/

/-- Fuses only blow: counts rise, and what is fused stays. -/
def OtpGains (o n : Otp) : Prop :=
  (∀ k, sget (fun _ => 0) o.lcFuses k ≤ sget (fun _ => 0) n.lcFuses k) ∧ (o.rootO.isSome = true → n.rootO = o.rootO) ∧
  (∀ d ∈ o.digests, d ∈ n.digests) ∧ (∀ k ∈ o.revoked, k ∈ n.revoked) ∧ (o.retention.isSome = true → n.retention = o.retention)

/-- Both dies are fused alike, and no life-cycle state has more than its eight fuses blown. -/
def FuseRules (s : State) : Prop := s.otpA = s.otpB ∧ ∀ k, sget (fun _ => 0) s.otpA.lcFuses k ≤ 8

end Sys2Proof.Machine
end

