-- ==== Sys2Proof/Certificates/Slice0/Obligations.lean ====
section
/-!
DEFINITION. What is stated of the model, for the provers.
-/

open Sys2Proof Sys2Proof.Machine

/-! CAN slots. -/

/-- R97, R98: RESTART empties the slot's queues and mailboxes and raises GEN; ENABLE written from 0 to 1 restarts the slot; ENABLE written to 0
stops it, at once where no frame can be under way on its bus and else when that ends; the written OPMODE comes into force between frames; an integrated slot is in operation. -/
def Obligations.CanSlotControl : Prop := ∀ (s : State) (n : Fin 128),
  (s.f.e.mode ≠ .safe → Answers (.slotRestart n) s (fun g => g.e.genOf n.val = (s.f.e.genOf n.val + 1) % 256 ∧
    (g.e.slot n.val).can.tx = [] ∧ (g.e.slot n.val).can.mbx = [] ∧ (g.e.slot n.val).slow.txq = [])) ∧
  (s.f.e.mode ≠ .safe → s.f.e.sl n.val SLOT_CTL_ENABLE = 0 → Answers (.slotEnable n) s (fun g =>
    g.e.genOf n.val = (s.f.e.genOf n.val + 1) % 256 ∧ (g.e.slot n.val).can.tx = [] ∧ g.e.sl n.val SLOT_CTL_ENABLE = 1)) ∧
  (s.f.e.mode ≠ .safe → s.f.e.sl n.val SLOT_CTL_ENABLE = 1 → Answers (.slotDisable n) s (fun g =>
    g.e.sl n.val SLOT_CTL_ENABLE = 0 ∧ (∀ t ∈ (g.e.slot n.val).can.tx, t.committed = true) ∧
    (g.e.slot n.val).can.stopping = s.f.e.busHeld n.val ∧
    g.e.slotState n.val = if s.f.e.busHeld n.val then s.f.e.slotState n.val else 0)) ∧
  (s.f.e.slotState n.val ≠ 0 → s.f.e.onBus n.val = none → Answers (.opmodeApply n) s (fun g =>
    (g.e.slot n.val).can.opmode = s.f.e.sl n.val SLOT_CTL_OPMODE ∧
    ((s.f.e.slot n.val).can.stopping = true → (s.f.e.slot n.val).slow.inPkt = false → g.e.slotState n.val = 0))) ∧
  (∀ dt, (s.f.e.at dt).slotState n.val = 1 → awake (s.f.e.at dt) = true →
    ((s.f.e.at dt).isSlow n.val = true ∨
      ((s.f.e.at dt).sl n.val SLOT_DETECT_ENABLE = 0 ∧ ((s.f.e.at dt).slot n.val).can.stopping = false)) →
    Answers (.slotIntegrated n dt) s (fun g => g.e.slotState n.val = 3))

/-- R104-R107, R95, R102, R118: a frame that an ACCEPT element decides becomes a unit of the stream with the element's RID and is counted; a
protocol exception is counted, and the slot integrates again; a receive error sets its flag and raises REC by 1, or by 8 for a bit error in a
flag that the slot sends, and by 8 more as ISO 11898-1 adds it; the end of a dwell tries the next candidate rate. -/
def Obligations.CanReception : Prop := ∀ (s : State) (n : Fin 128) (dt : Nat),
  let e := s.f.e.at dt
  (∀ (r : CanRx) (el : Rec), e.canLive n.val = true → persHas (e.pers n.val) r.fmt.utype = true → e.wakeOnly n.val = false →
    e.slotState n.val = 3 → (e.canRxGood n.val).deciding n.val (r.shingle e n.val) = some el → feAction el = 1 → feMbxEn el = false →
    (s.f.onE (fun x => (x.at dt).canRxGood n.val)).mergerLoad + (r.shingle e n.val).size ≤ mergerFieldBytes →
    e.merger.stopped = false →
    Answers (.canFrameReceived n r dt) s (fun g =>
      (∃ w ∈ g.e.merger.waiting, w.sh = { r.shingle e n.val with rid := feRid el, action := 1 }) ∧
      Counted (e.canRxGood n.val).regs g.e.regs (slotBase n.val + SLOT_RX_OK) 1)) ∧
  (e.canLive n.val = true → e.pers n.val ≠ 3 → e.slotState n.val = 3 → Answers (.protocolException n dt) s (fun g =>
    Counted e.regs g.e.regs (slotBase n.val + SLOT_PXE_CNT) 1 ∧
    g.e.sl n.val ⟨SLOT_ERRFLAG, 5, 5⟩ = 1 ∧ g.e.slotState n.val = 1)) ∧
  (∀ (kind : Fin 5) (inFlag : Bool) (eights : Nat), e.canLive n.val = true → e.onBus n.val = none → e.counting n.val = true →
    (e.slot n.val).can.freshRate = false → Answers (.canRxError n kind ⟨inFlag, eights⟩ dt) s (fun g =>
      g.e.sl n.val ⟨SLOT_ERRFLAG, kind.val, kind.val⟩ = 1 ∧
      g.e.recv n.val = min (e.recv n.val + (if inFlag then 8 else 1) + 8 * eights) 255)) ∧
  (persCan (e.pers n.val) = true → e.slotState n.val = 2 →
    (e.slot n.val).can.detAt + e.sl n.val SLOT_DETECT_DWELL * 10000000 ≤ e.steady e.counter → Answers (.detectDwellExpire n dt) s (fun g =>
      g.e.slotState n.val = 2 ∧
      (g.e.slot n.val).can.detK = nextCandidate (e.sl n.val SLOT_DETECT_CAND_MASK) (e.slot n.val).can.detK))

/-- R109, R111: a filter element written and read through SLOT_FE_DATA; the lock of the mailbox window taken, released by its holder and by
the timeout; the selection. -/
def Obligations.CanWindows : Prop := ∀ (s : State) (n : Fin 128),
  (∀ idx : Fin 4096, s.f.e.mode ≠ .safe → persCan (s.f.e.pers n.val) = true → idx.val < (s.f.e.filtList n.val).2 → s.f.phase = 0 →
    Answers (.filterElementWrite n idx false) s (fun g => g.e.sl n.val SLOT_FE_IDX_FE_ERR = 0 ∧
      ∀ w < 4, (g.e.element ((s.f.e.filtList n.val).1 + idx.val)).u (4 * w) 4 = (s.f.e.regs.rd (slotBase n.val + SLOT_FE_DATA w)).toNat)) ∧
  (∀ idx : Fin 4096, s.f.e.mode ≠ .safe → persCan (s.f.e.pers n.val) = true → idx.val < (s.f.e.filtList n.val).2 →
    Answers (.filterElementRead n idx) s (fun g => g.e.sl n.val SLOT_FE_IDX_FE_ERR = 0 ∧
      ∀ w < 4, (g.e.regs.rd (slotBase n.val + SLOT_FE_DATA w)).toNat = (s.f.e.element ((s.f.e.filtList n.val).1 + idx.val)).u (4 * w) 4)) ∧
  (∀ (who : Fin 10) (dt : Nat), persCan (s.f.e.pers n.val) = true → (s.f.e.slot n.val).can.lock = none →
    Answers (.mailboxLock n who dt) s (fun g => (g.e.slot n.val).can.lock = some (who.val, (s.f.e.at dt).steady (s.f.e.at dt).counter) ∧
      (g.e.mbox n.val (s.f.e.sl n.val SLOT_RXMB_SEL_MB)).new = false)) ∧
  (∀ (who : Fin 10) (t : Nat), (s.f.e.slot n.val).can.lock = some (who.val, t) → Answers (.mailboxRelease n who) s (fun g =>
    (g.e.slot n.val).can.lock = none ∧ (g.e.mbox n.val (s.f.e.sl n.val SLOT_RXMB_SEL_MB)).shadow = none)) ∧
  (∀ (who : Fin 10) (m : Fin 64), s.f.e.mode ≠ .safe → persCan (s.f.e.pers n.val) = true → s.f.e.mboxBusy n.val who.val = false →
    Answers (.mailboxSelect n who m) s (fun g => g.e.sl n.val SLOT_RXMB_SEL_MB = m.val)) ∧
  (∀ (dt t : Nat) (h : Nat), (s.f.e.slot n.val).can.lock = some (h, t) →
    t + 10000000 ≤ (s.f.e.at dt).steady (s.f.e.at dt).counter → Answers (.mailboxLockTimeout n dt) s (fun g =>
      (g.e.slot n.val).can.lock = none ∧ Counted s.f.e.regs g.e.regs (slotBase n.val + SLOT_MB_LOCKTO) 1))

/-- R113-R117, R119: a candidate takes a free mailbox; the winning frame is committed; a lost arbitration returns it to PENDING; success
empties its mailbox, is counted and shows the loop delay of an FD frame in TDCV (R101); an error counts an attempt; old and cancelled frames leave their mailboxes; 128 sequences of 11
recessive bits end bus-off. -/
def Obligations.CanTransmission : Prop := ∀ (s : State) (n : Fin 128) (dt : Nat),
  let e := s.f.e.at dt
  (∀ (c : Cand) (x : Eaves), s.f.e.isSlow n.val = false → s.f.e.takeStage n.val = some (c, x) → c.gen = x.genOf n.val → x.slotState n.val = 3 →
    x.opmode n.val = 0 → (x.slot n.val).can.stopping = false → persHas (x.pers n.val) c.unit.utype = true →
    x.sl n.val SLOT_TX_CFG_REPLACE_EN = 0 → (x.slot n.val).can.tx.length < 32 → Answers (.slotTxCandidate n) s (fun g =>
      ∃ m : TxMb, (g.e.slot n.val).can.tx = (s.f.e.slot n.val).can.tx ++ [m] ∧ m.committed = false ∧
        m.frame = txFrame (s.f.e.sl n.val SLOT_TX_CFG_PAD) c.unit)) ∧
  (∀ t : TxMb, e.canLive n.val = true → e.counting n.val = true → e.onBus n.val = none → e.mode ≠ .safe →
    (e.slot n.val).can.stopping = false → (e.slot n.val).can.waiting.all (fun u => !e.tooOld u.frame) = true →
    bestMb TxMb.before (e.slot n.val).can.waiting = some t → Answers (.txCommit n dt) s (fun g =>
      g.e.sl n.val SLOT_STAT_TX_ACTIVE = 1 ∧ ∃ u ∈ (g.e.slot n.val).can.tx, u.idx = t.idx ∧ u.committed = true)) ∧
  (∀ t : TxMb, s.f.e.onBus n.val = some t → (s.f.e.slot n.val).can.stopping = false → Answers (.arbitrationLost n) s (fun g =>
    g.e.sl n.val SLOT_STAT_TX_ACTIVE = 0 ∧ ∀ u ∈ (g.e.slot n.val).can.tx, u.idx = t.idx → u.committed = false)) ∧
  (∀ (t : TxMb) (delay : Fin 128), e.onBus n.val = some t → Answers (.txSuccess n ⟨delay, dt⟩) s (fun g =>
    (∀ u ∈ (g.e.slot n.val).can.tx, u.idx ≠ t.idx) ∧ Counted s.f.e.regs g.e.regs (slotBase n.val + SLOT_TX_OK) 1 ∧
    (e.sl n.val SLOT_TDC_TDC_EN = 1 → t.frame.utype = .canFD → g.e.sl n.val SLOT_TDC_TDCV = delay.val))) ∧
  (∀ (t : TxMb) (kind : Fin 5) (same : Bool) (eights : Nat) (delay : Option (Fin 128)), e.onBus n.val = some t → (e.slot n.val).can.stopping = false →
    e.sl n.val SLOT_TX_CFG_RETRY_LIMIT = 31 → Answers (.txError n kind ⟨same, eights, delay⟩ dt) s (fun g =>
      g.e.sl n.val ⟨SLOT_ERRFLAG, kind.val, kind.val⟩ = 1 ∧
      ∃ u ∈ (g.e.slot n.val).can.tx, u.idx = t.idx ∧ u.committed = false ∧ u.attempts = t.attempts + 1)) ∧
  (∀ (t : TxMb) (m : Fin 32), t ∈ (e.slot n.val).can.waiting → t.idx = m.val → e.tooOld t.frame = true →
    Answers (.txAgeExpire n m dt) s (fun g => ∀ u ∈ (g.e.slot n.val).can.tx, u.idx ≠ m.val)) ∧
  (∀ mask : Word, s.f.e.mode ≠ .safe → Answers (.txCancel n mask) s (fun g =>
    ∀ u ∈ (g.e.slot n.val).can.tx, u.committed = false → bit mask.toNat u.idx = false)) ∧
  (∀ k : Nat, persCan (e.pers n.val) = true → e.sl n.val SLOT_STAT_CONF = 2 → e.slotState n.val = 3 →
    128 ≤ e.sl n.val SLOT_STAT_RECOV + k → Answers (.busoffRecovery n k dt) s (fun g =>
      g.e.tec n.val = 0 ∧ g.e.recv n.val = 0 ∧ g.e.sl n.val SLOT_STAT_CONF = 0))

/-! LIN, SERIAL and J1708 slots. -/

/-- R134, R138-R140: a character enters the packet through the packer; a packet that ends well becomes a unit of the stream and is counted;
FLUSH of a packet in progress waits for its boundary. -/
def Obligations.SlowReception : Prop := ∀ (s : State) (n : Fin 128) (dt : Nat),
  let e := s.f.e.at dt
  let p := (e.slot n.val).slow
  (∀ b : Byte, e.slowLive n.val = true → e.slowSending n.val = false → e.pers n.val = 5 → e.sbCfg n.val SLOT_SB_CFG_DATABITS = 1 →
    e.sbFrame n.val SLOT_SB_FRAME_BOUNDARY = 0 → p.raw.length + 1 < e.sbFrame n.val SLOT_SB_FRAME_MAXLEN →
    Answers (.characterReceived n b (some b) false false false dt) s (fun g => (g.e.slot n.val).slow.inPkt = true ∧
      (g.e.slot n.val).slow.raw = p.raw ++ [b] ∧
      (g.e.slot n.val).slow.asm ++ (g.e.slot n.val).slow.stages = p.asm ++ p.stages ++ [b])) ∧
  (∀ rid : Nat, e.slowLive n.val = true → e.pers n.val = 5 → p.inPkt = true → e.sl n.val SLOT_PK_CTL_FLUSH_PEND = 0 → p.err = 0 →
    checkOk (e.sbCfg n.val SLOT_SB_CFG_CHECK) p.raw = true → (p.asm ++ p.stages).length = p.raw.length →
    serialRid e.live n.val (bytesAt (p.asm ++ p.stages) 0 1) = some rid → e.merger.stopped = false →
    let sh := { Shingle.mk0 .serial e.counter n.val (e.genOf n.val) (p.asm ++ p.stages) with
      rid := rid, info := slowInfo p.marked false 0 0 }
    s.f.mergerLoad + sh.size ≤ mergerFieldBytes →
    Answers (.packetBoundary n dt) s (fun g => (∃ w ∈ g.e.merger.waiting, w.sh = sh) ∧
      Counted e.regs g.e.regs (slotBase n.val + SLOT_RX_OK) 1 ∧ (g.e.slot n.val).slow.inPkt = false)) ∧
  (s.f.e.mode ≠ .safe → s.f.e.isSlow n.val = true → (s.f.e.slot n.val).slow.inPkt = true →
    Answers (.packerFlush n) s (fun g => g.e.sl n.val SLOT_PK_CTL_FLUSH_PEND = 1 ∧ g.e.slots = s.f.e.slots))

/-- R142-R146: a responder reads a header, whose measured bit time serves for the frame; a response that does not come is counted; a commander's schedule moves on, falls asleep after a
GOSLEEP, wakes on a WAKE or a pulse and starts again 100 ms after it; a candidate fills the publish buffer of its FID. -/
def Obligations.LinSchedules : Prop := ∀ (s : State) (n : Fin 128) (dt : Nat),
  let e := s.f.e.at dt
  let p := (e.slot n.val).slow
  (∀ (pid : Byte) (fid : Fin 64) (bit ago : Nat), syncOk bit (e.sbCfg n.val SLOT_SB_CFG_BAUD_DIV) = true → e.slowLive n.val = true →
    e.pers n.val = 4 → e.sl n.val SLOT_LIN_CFG_COMMANDER = 0 →
    e.slowSending n.val = false → p.linFid = none → pid.toNat = linPid fid.val → linDir e.live n.val fid.val = 2 →
    Answers (.linBreakDetected n pid ⟨bit, ago⟩ dt) s (fun g => (g.e.slot n.val).slow.linFid = some fid.val ∧
      (g.e.slot n.val).slow.raw = [pid] ∧ (g.e.slot n.val).slow.linStart = e.steady e.counter - ago ∧
      (g.e.slot n.val).slow.bitDiv = bit)) ∧
  (∀ fid : Nat, p.linFid = some fid → e.slowLive n.val = true → p.linStart + e.linFrameMax n.val fid ≤ e.steady e.counter →
    e.sl n.val SLOT_PK_CTL_FLUSH_PEND = 0 → p.raw.length ≤ 1 → p.err = 0 → e.sl n.val SLOT_LIN_CFG_COMMANDER = 0 →
    Answers (.linResponseTimeout n dt) s (fun g => Counted e.regs g.e.regs (slotBase n.val + SLOT_SB_NORESP) 1 ∧
      g.e.sl n.val ⟨SLOT_SB_ERRFLAG, 4, 4⟩ = 1 ∧ (g.e.slot n.val).slow.linFid = none)) ∧
  (linCommander e n.val = true → e.sl n.val SLOT_LIN_SCHED_ASLEEP = 0 → p.pulseEnd = none → e.linEntryOver n.val = true → p.linFid = none →
    Answers (.linScheduleEntry n dt) s (fun g =>
      (p.sleepPend = true → g.e.sl n.val SLOT_LIN_SCHED_ASLEEP = 1 ∧ (g.e.slot n.val).slow.running = false) ∧
      (p.sleepPend = false → p.reqPend = false → p.altPend = none → p.running = true →
        e.sl n.val SLOT_LIN_SCHED_ENTRY + 1 < (schedTable e.live n.val (e.sl n.val SLOT_LIN_SCHED_CUR)).length →
        g.e.sl n.val SLOT_LIN_SCHED_ENTRY = (e.sl n.val SLOT_LIN_SCHED_ENTRY + 1) % 256 ∧
        (g.e.slot n.val).slow.linStart = e.steady e.counter))) ∧
  (∀ (c : Cand) (x : Eaves), s.f.e.pers n.val = 4 → s.f.e.takeStage n.val = some (c, x) → c.gen = s.f.e.genOf n.val →
    s.f.e.slotState n.val = 3 → s.f.e.opmode n.val = 0 → (s.f.e.slot n.val).can.stopping = false → c.unit.utype = .lin → c.unit.fid ≠ 60 →
    linDir s.f.e.live n.val c.unit.fid = 1 → c.unit.body.length = linLen s.f.e.live n.val c.unit.fid →
    Answers (.linPublishUpdate n) s (fun g => (g.e.slot n.val).slow.pubOf c.unit.fid =
      some ⟨c.unit.body, true, c.unit.ts, c.unit.ageMs⟩ ∧ g.e.stage = s.f.e.stage.erase c)) ∧
  (s.f.e.mode ≠ .safe → linCommander s.f.e n.val = true → s.f.e.sl n.val SLOT_LIN_SCHED_ASLEEP = 0 →
    Answers (.linGosleep n) s (fun g => (g.e.slot n.val).slow.sleepPend = true ∧ g.e.regs = s.f.e.regs)) ∧
  (e.mode ≠ .safe → linCommander e n.val = true → e.slowDrives n.val = true → e.sl n.val SLOT_LIN_SCHED_ASLEEP = 1 → Answers (.linWake n dt) s (fun g =>
    g.e.sl n.val SLOT_LIN_SCHED_ASLEEP = 0 ∧ (g.e.slot n.val).slow.pulseEnd = some (e.steady e.counter + 1000000))) ∧
  (∀ width : Nat, linCommander e n.val = true → e.sl n.val SLOT_LIN_SCHED_ASLEEP = 1 → e.wakeOnly n.val = false → 150000 ≤ width →
    width ≤ 5000000 → Answers (.linWakePulse n width dt) s (fun g =>
      g.e.sl n.val SLOT_LIN_SCHED_ASLEEP = 0 ∧ (g.e.slot n.val).slow.pulseEnd = some (e.steady e.counter))) ∧
  (∀ t : Nat, p.pulseEnd = some t → t + 100000000 ≤ e.steady e.counter → Answers (.linScheduleResume n dt) s (fun g =>
    (g.e.slot n.val).slow.pulseEnd = none ∧ g.e.sl n.val SLOT_LIN_SCHED_CUR = 0 ∧ g.e.sl n.val SLOT_LIN_SCHED_ENTRY = 0))

/-- R148, R149: a message enters the transmit queue with its check bytes; what is past its age limit leaves it; a J1708 slot takes the bus
after 12 + 2 PRIO idle bits; characters go out one by one and the last one counts the message; a SERIAL slot waits for its gap. -/
def Obligations.SlowTransmission : Prop := ∀ (s : State) (n : Fin 128) (dt : Nat),
  let e := s.f.e.at dt
  let p := (e.slot n.val).slow
  (∀ (c : Cand) (x : Eaves), e.pers n.val = 5 → e.takeStage n.val = some (c, x) → c.gen = e.genOf n.val → e.slotState n.val = 3 →
    e.opmode n.val = 0 → (e.slot n.val).can.stopping = false → c.unit.utype = .serial → c.unit.body ≠ [] → p.txq = [] → p.gapWait = true →
    let bytes := c.unit.body ++ checkBytes (e.sbCfg n.val SLOT_SB_CFG_CHECK) c.unit.body
    bytes.length ≤ 2048 → Answers (.slowTxCandidate n dt) s (fun g => ∃ m : SlowMsg, (g.e.slot n.val).slow.txq = [m] ∧ m.bytes = bytes ∧
      m.sent = 0 ∧ m.committed = false ∧ m.ts = c.unit.ts)) ∧
  (Answers (.slowTxAgeExpire n dt) s (fun g =>
    (∀ m ∈ (g.e.slot n.val).slow.txq, m.committed = true ∨ tooOldAt (e.steady e.counter) m.ts m.age = false) ∧
    (∀ x ∈ (g.e.slot n.val).slow.pub, tooOldAt (e.steady e.counter) x.2.ts x.2.age = false) ∧
    (∀ x ∈ (g.e.slot n.val).slow.diag, tooOldAt (e.steady e.counter) x.ts x.age = false))) ∧
  (∀ (m : SlowMsg) (ms : List SlowMsg) (idle : Nat), e.pers n.val = 6 → e.slowDrives n.val = true → p.inPkt = false → p.txq = m :: ms →
    (∀ u ∈ p.txq, tooOldAt (e.steady e.counter) u.ts u.age = false) → m.committed = false → 12 + 2 * m.prio ≤ idle →
    Answers (.j1708Access n idle dt) s (fun g => (g.e.slot n.val).slow.txq = { m with committed := true } :: ms ∧
      g.e.sl n.val SLOT_STAT_TX_ACTIVE = 1)) ∧
  (∀ (m : SlowMsg) (ms : List SlowMsg) (b : Byte), p.txq = m :: ms → m.committed = true → m.bytes[m.sent]? = some b →
    Answers (.slowCharSent n b false dt) s (fun g =>
      (m.sent + 1 < m.bytes.length → (g.e.slot n.val).slow.txq = { m with sent := m.sent + 1 } :: ms ∧ g.e.regs = e.regs) ∧
      (m.sent + 1 = m.bytes.length → (g.e.slot n.val).slow.txq = ms ∧ g.e.sl n.val SLOT_STAT_TX_ACTIVE = 0 ∧
        Counted e.regs g.e.regs (slotBase n.val + SLOT_TX_OK) 1))) ∧
  (e.pers n.val = 5 → p.gapWait = true → p.txq = [] → Answers (.serialGapEnd n dt) s (fun g =>
    (g.e.slot n.val).slow.gapWait = false ∧ (g.e.slot n.val).slow.txq = []))

/-! Ethernet and T1S ports. -/

/-- R155, R156, R158, R159, R161, R163: a frame that ends well becomes a unit and is counted; link rises at a speed after 1 ms of lock and falls, both announced;
a restart empties the buffer and raises GEN; a read of TXTS_HI frees the timestamp. -/
def Obligations.EthReception : Prop := ∀ (s : State) (n : Fin 24) (dt : Nat),
  let e := s.f.e.at dt
  (∀ (frame : List Byte) (ago : Nat), e.ethLive n.val = true → 64 ≤ frame.length + 4 →
    frame.length + 4 ≤ bits (e.eth n.val).mode.toNat 13 0 → beAt frame 12 2 ≠ 0x8808 → e.merger.stopped = false →
    let sh := ethShingle e .eth (128 + n.val) (e.counter - ago - bits (e.eth n.val).lat.toNat 15 0) (e.lsaMatch (ethBase n.val) frame) frame
    s.f.mergerLoad + sh.size ≤ mergerFieldBytes →
    Answers (.ethFrameReceived n frame true ago dt) s (fun g => (∃ w ∈ g.e.merger.waiting, w.sh = sh) ∧
      Counted e.regs g.e.regs (ethBase n.val + ETH_RX_OK) 1)) ∧
  (∀ (speed : Fin 6) (held : Nat), e.et n.val ETH_CTL_ENABLE = 1 → e.et n.val ETH_STAT_LINK = 0 →
    ethSpeedOk (e.eth n.val).mode speed.val = true → awake e = true → bit (e.regs.get 0 PWR_STAT_PGOOD) 3 = true → 1000000 ≤ held →
    e.merger.stopped = false → Answers (.ethLinkUp n ⟨speed, held⟩ dt) s (fun g =>
      g.e.et n.val ETH_STAT_LINK = 1 ∧ g.e.et n.val ETH_STAT_SPEED = speed.val ∧
      ∃ w ∈ g.e.merger.waiting, w.sh.utype = .ctrl ∧ w.sh.port = 128 + n.val ∧ w.sh.body = ctrlLinkUp speed.val)) ∧
  (∀ hiBer : Bool, e.et n.val ETH_STAT_LINK = 1 → e.merger.stopped = false → Answers (.ethLinkDown n hiBer dt) s (fun g =>
    g.e.et n.val ETH_STAT_LINK = 0 ∧ g.e.et n.val ETH_ERRFLAG_LINK_LOSS = 1 ∧ (g.e.eth n.val).buf = [] ∧ (g.e.eth n.val).sending = none ∧
    Counted e.regs g.e.regs (ethBase n.val + ETH_LINK_DOWN_CNT) 1 ∧
    ∃ w ∈ g.e.merger.waiting, w.sh.utype = .ctrl ∧ w.sh.port = 128 + n.val ∧ w.sh.body = ctrlLinkDown)) ∧
  (∀ enable : Bool, e.mode ≠ .safe → (enable = true → e.et n.val ETH_CTL_ENABLE = 0) → Answers (.ethRestart n enable dt) s (fun g =>
    g.e.genOf (128 + n.val) = (s.f.e.genOf (128 + n.val) + 1) % 256 ∧ (g.e.eth n.val).buf = [] ∧ (g.e.eth n.val).sending = none ∧
    (enable = true → g.e.et n.val ETH_CTL_ENABLE = 1))) ∧
  Answers (.txtsRead n) s (fun g => g.e.et n.val ETH_STAT_TXTS_VALID = 0 ∧ g.e.eths = s.f.e.eths)

/-- R164: a START sets BUSY, clears DONE and joins its bus's queue; the oldest transaction of a bus completes with DONE, and a READ brings
its data; while an interrupt input is low it holds PHY_INT of every port that selects it. -/
def Obligations.PhyManagement : Prop := ∀ s : State,
  (∀ (n : Fin 24) (c45 : Bool) (reg : Fin 32) (data : Fin 65536), s.f.e.et n.val ETH_MDIO_RES_BUSY = 0 →
    let bus := bits (s.f.e.eth n.val).phy.toNat 31 31
    let Started := fun (op : Nat) (g : Field) => g.e.et n.val ETH_MDIO_RES_BUSY = 1 ∧ g.e.et n.val ETH_MDIO_RES_DONE = 0 ∧
      g.e.seqr.mdio = s.f.e.seqr.mdio ++ [⟨n.val, bus, c45, op, reg.val, data.val⟩]
    (c45 = true → Answers (.mdioAddress n c45 reg data) s (Started 0)) ∧ Answers (.mdioWrite n c45 reg data) s (Started 1) ∧
    Answers (.mdioRead n c45 reg data) s (Started 2)) ∧
  (∀ (bus : Fin 2) (data : Fin 65536) (x : MdioOp), s.f.e.seqr.mdio.find? (fun y => y.bus = bus.val) = some x →
    Answers (.mdioDone bus data) s (fun g => g.e.seqr.mdio = s.f.e.seqr.mdio.erase x ∧ g.e.et x.port ETH_MDIO_RES_BUSY = 0 ∧
      g.e.et x.port ETH_MDIO_RES_DONE = 1 ∧ (x.op = 2 → g.e.et x.port ETH_MDIO_RES_DATA = data.val))) ∧
  (∀ (k : Fin 4) (low : Bool), Answers (.phyInterrupt ⟨k, low⟩) s (fun g => g.e.seqr.phyLow.contains k.val = low ∧
    (∀ j, j ≠ k.val → g.e.seqr.phyLow.contains j = s.f.e.seqr.phyLow.contains j) ∧
    ∀ n < 24, g.e.et n ETH_ERRFLAG_PHY_INT =
      if g.e.seqr.phyLow.contains (bits (s.f.e.eth n).phy.toNat 3 0) then 1 else s.f.e.et n ETH_ERRFLAG_PHY_INT))

/-- R162, R171, R173-R176: a candidate enters the buffer; a chosen frame starts, with its time captured where TS_REQ asks for it; a frame
that ends is counted; the gate entry in force is shown. -/
def Obligations.EthTransmission : Prop := ∀ (s : State) (n : Fin 24) (dt : Nat),
  let e := s.f.e.at dt
  (∀ (k : Fin 40) (c : Cand) (x : Eaves), k.val = n.val → e.takeStage (128 + n.val) = some (c, x) → e.et n.val ETH_STAT_LINK = 1 →
    c.gen = e.genOf (128 + n.val) →
    bufBytes ((e.eth n.val).buf ++ (e.eth n.val).sending.toList) + frameBytes c.unit.body.length ≤ ethBufBytes n.val →
    Answers (.ethTxCandidate k dt) s (fun g => (g.e.eth n.val).buf = (e.eth n.val).buf ++ [c] ∧ g.e.stage = s.f.e.stage.erase c)) ∧
  (∀ (k : Nat) (c : Cand), e.ethLive n.val = true → (e.eth n.val).sending = none → e.mode ≠ .safe →
    let start := e.counter - preambleNs (e.txCfg n.val).rate
    (e.txCfg n.val).choose (e.eth n.val).frozen ((e.ethCreditsTo n.val start).eth n.val).credit
      (fun k => ((e.eth n.val).buf.find? (fun x => x.qclass = k)).map (fun x => frameBytes x.unit.body.length)) start = some k →
    (e.eth n.val).buf.find? (fun x => x.qclass = k) = some c → Answers (.ethTxStart n dt) s (fun g =>
      (g.e.eth n.val).sending = some c ∧ (g.e.eth n.val).buf = (e.eth n.val).buf.erase c ∧
      (c.tsReq = true → g.e.et n.val ETH_STAT_TXTS_VALID = 1 ∧
        g.e.regs.rd64 (ethBase n.val + ETH_TXTS_LO) = (e.counter + bits (e.eth n.val).lat.toNat 31 16) % 2 ^ 64 ∧
        g.e.regs.rd (ethBase n.val + ETH_TXTS_TAG) = BitVec.ofNat 32 c.oseq))) ∧
  (∀ c : Cand, (e.eth n.val).sending = some c → Answers (.ethTxDone n dt) s (fun g => (g.e.eth n.val).sending = none ∧
    (g.e.eth n.val).buf = (e.eth n.val).buf ∧ Counted e.regs g.e.regs (ethBase n.val + ETH_TX_OK) 1)) ∧
  (∀ i a b : Nat, (e.eth n.val).frozen = none → (e.txCfg n.val).gates none e.counter = some (i, a, b) → i < 256 →
    Answers (.gateEntryChange n dt) s (fun g => g.e.et n.val ETH_GATE_CTL_CUR = i))

/-- R152-R154, R158: a T1S frame becomes a unit; a follower has link from a BEACON until LINK_HOLD without one; the coordinator starts a
cycle when the last one is over; an opportunity sends frames; a collision counts an attempt, and the 16th drops the frame; a restart raises GEN. -/
def Obligations.T1sPorts : Prop := ∀ (s : State) (n : Fin 16) (dt : Nat),
  let e := s.f.e.at dt
  (∀ (frame : List Byte) (ago : Nat), t1Live e n.val = true → e.t1f n.val T1S_STAT_LINK = 1 → 64 ≤ frame.length + 4 →
    frame.length + 4 ≤ 1522 → beAt frame 12 2 ≠ 0x8808 → e.merger.stopped = false →
    let sh := ethShingle e .t1s (152 + n.val) (e.counter - ago) (e.lsaMatch (t1sBase n.val) frame) frame
    s.f.mergerLoad + sh.size ≤ mergerFieldBytes →
    Answers (.t1sFrameReceived n frame true ago dt) s (fun g => (∃ w ∈ g.e.merger.waiting, w.sh = sh) ∧
      Counted e.regs g.e.regs (t1sBase n.val + T1S_RX_OK) 1)) ∧
  (t1Live e n.val = true → (e.t1 n.val).nodeId ≠ 0 → Answers (.t1sBeacon n dt) s (fun g => g.e.t1f n.val T1S_STAT_LINK = 1 ∧
    g.e.t1f n.val T1S_STAT_BEACON_OK = 1 ∧ (g.e.t1 n.val).lastBeacon = e.steady e.counter)) ∧
  (e.t1f n.val T1S_STAT_LINK = 1 → (e.t1 n.val).nodeId ≠ 0 →
    (e.t1 n.val).lastBeacon + (e.t1 n.val).linkHold * 1000000 ≤ e.steady e.counter → Answers (.t1sBeaconLoss n dt) s (fun g =>
      g.e.t1f n.val T1S_STAT_LINK = 0 ∧ (g.e.t1 n.val).txq = [] ∧ Counted e.regs g.e.regs (t1sBase n.val + T1S_BEACON_LOSS) 1)) ∧
  (t1Live e n.val = true → (e.t1 n.val).nodeId = 0 → e.mode ≠ .safe → cycleOver e n.val = true → Answers (.t1sBeaconSend ⟨n, dt⟩) s (fun g =>
    (g.e.t1 n.val).cycle = (e.t1 n.val).cycle + 1 ∧ (g.e.t1 n.val).lastBeacon = e.steady e.counter ∧ (g.e.t1 n.val).due = true ∧
    g.e.regs = s.f.e.regs)) ∧
  (∀ (k : Fin 40) (c : Cand) (x : Eaves), k.val = 24 + n.val → e.takeStage (152 + n.val) = some (c, x) →
    e.t1f n.val T1S_STAT_LINK = 1 → c.gen = e.genOf (152 + n.val) →
    bufBytes ((e.t1 n.val).txq.map (·.1)) + frameBytes c.unit.body.length ≤ 32768 →
    Answers (.ethTxCandidate k dt) s (fun g => (g.e.t1 n.val).txq = (e.t1 n.val).txq ++ [(c, 0)])) ∧
  (∀ x : Cand × Nat, t1Turn e n.val = true → t1Next (e.t1 n.val).txq = some x →
    ((e.t1 n.val).maxBc = 0 → Answers (.t1sTxOpportunity n dt) s (fun g => (g.e.t1 n.val).txq = (e.t1 n.val).txq.erase x ∧
      (g.e.t1 n.val).due = false ∧ Counted e.regs g.e.regs (t1sBase n.val + T1S_TX_OK) 1)) ∧
    Answers (.t1sCollision n dt) s (fun g => Counted e.regs g.e.regs (t1sBase n.val + T1S_COLL) 1 ∧
      (x.2 + 1 < 16 → (g.e.t1 n.val).txq = (e.t1 n.val).txq.map (fun y => if y = x then (y.1, y.2 + 1) else y)) ∧
      (16 ≤ x.2 + 1 → (g.e.t1 n.val).txq = (e.t1 n.val).txq.erase x ∧
        Counted e.regs g.e.regs (t1sBase n.val + T1S_TXDROP) 1))) ∧
  (∀ enable : Bool, e.mode ≠ .safe → (enable = true → e.t1f n.val T1S_CTL_ENABLE = 0) → Answers (.t1sRestart n enable dt) s (fun g =>
    g.e.genOf (152 + n.val) = (s.f.e.genOf (152 + n.val) + 1) % 256 ∧ (g.e.t1 n.val).txq = [] ∧
    (enable = true → g.e.t1f n.val T1S_CTL_ENABLE = 1)))

/-! Windows and tables of the planes. -/

/-- R224, R250, R273: READ of a window fills DATA with the entry that IDX names and ends with STATUS 0 at once; SEARCH finds the key in
DATA and sets IDX; both in every plane that runs, and in no other. -/
def Obligations.WindowReads : Prop := ∀ (s : State) (n : Fin 4),
  let Shows := fun (block idx size : Nat) (q q' : Plane) =>
    (∀ w < (winData block n.val).2, q'.regs.rd ((winData block n.val).1 + 4 * w) =
      BitVec.ofNat 32 (bytesAt (q.winEntry block (q.winTable block n.val) idx size) (4 * w) 4)) ∧
    q'.regs.rd (winBase block n.val + 12) = 0
  let Reads := fun (block : Nat) (c : Instr) => Answers c s (fun g => ∀ p : PlaneId,
    ((s.f.e.role p).running = false → g.plane p = s.f.plane p) ∧
    (∀ count size : Nat, (s.f.e.role p).running = true → (s.f.plane p).winPending block n.val = false →
      winSize block ((s.f.plane p).winTable block n.val) = some (count, size) → (s.f.plane p).winIdx block n.val < count →
      Shows block ((s.f.plane p).winIdx block n.val) size (s.f.plane p) (g.plane p)))
  Reads 0 (.tblRead n) ∧ Reads 1 (.thrWindowRead n) ∧ Reads 2 (.tenRead n) ∧
  Answers (.tblSearch n) s (fun g => ∀ (p : PlaneId) (count size i : Nat), (s.f.e.role p).running = true →
    (s.f.plane p).winPending 0 n.val = false → winSize 0 ((s.f.plane p).winTable 0 n.val) = some (count, size) →
    4 ≤ (s.f.plane p).winTable 0 n.val → (s.f.plane p).winTable 0 n.val ≤ 6 →
    (s.f.plane p).keyIndex ((s.f.plane p).winTable 0 n.val) ((s.f.plane p).winBytes 0 n.val) = some i →
    Shows 0 i size (s.f.plane p) (g.plane p) ∧ (g.plane p).regs.rd (winBase 0 n.val + 4) = BitVec.ofNat 32 i)

/-- R224, R250, R259, R269, R273: a command that changes a table waits, with the window's data as it stands, for the next TICK, and the
window shows PENDING; outside a turn and within range. -/
def Obligations.WindowWrites : Prop := ∀ (s : State) (n : Fin 4),
  let Waits := fun (block cmd : Nat) (c : Instr) => Answers c s (fun g => ∀ (p : PlaneId) (count size : Nat),
    let q := s.f.plane p
    let table := q.winTable block n.val
    let idx := q.winIdx block n.val
    (s.f.e.role p).running = true → q.winPending block n.val = false → winSize block table = some (count, size) →
    winCmdOk block table cmd = true → (cmd = 3 ∨ cmd = 4 ∨ idx < count) → q.regs.get 0 TRUSS_TURN_STAT_PHASE = 0 →
    q.winRange block table cmd idx (q.winBytes block n.val) = true →
    (g.plane p).fwd.cmds = q.fwd.cmds ++ [⟨block, n.val, cmd, table, idx, q.winBytes block n.val⟩] ∧
    (g.plane p).winPending block n.val = true ∧ (g.plane p).fwd.tab = q.fwd.tab)
  Waits 0 2 (.tblWrite n) ∧ Waits 0 3 (.tblInsert n) ∧ Waits 0 4 (.tblDelete n) ∧ Waits 1 2 (.thrWindowWrite n) ∧
  Waits 2 2 (.tenWrite n) ∧ Waits 2 6 (.unbind n) ∧ Waits 2 7 (.clearBabble n) ∧ Waits 2 8 (.zeroCounters n)

/-- R214, R215, R221, R222: a corrected table error is counted; a bad entry that the scrubber finds is held for the partner's copy, which then
replaces it, or is repaired from the plane's own sources where it has no partner; one that nothing has met yet waits for a lookup; a rejoining
plane applies the notices that it receives, and elsewhere notices that differ are the shadow plane's fault. -/
def Obligations.TableCare : Prop := ∀ (s : State) (p : PlaneId),
  (∀ (t : Fin 16) (i : Fin 524288) (found : Fin 4), Answers (.tableScrub p t i found) s (fun g =>
    (found.val = 0 → g = s.f) ∧
    (found.val = 1 → Counted (s.f.plane p).regs (g.plane p).regs TBL_ECC_CORR 1 ∧ (g.plane p).fwd = (s.f.plane p).fwd) ∧
    (found.val = 2 → partnered s.f = true → (g.plane p).fwd.held = (s.f.plane p).fwd.held ++ [tkey (scrubTable t.val) i.val] ∧ g.e = s.f.e) ∧
    (found.val = 2 → partnered s.f = false → t.val ≠ 4 → t.val ≠ 7 →
      (g.plane p).tget t.val i.val = trussEntry (s.f.plane p) t.val i.val ∧
      Counted (s.f.plane p).regs (g.plane p).regs TBL_REPAIRED 1) ∧
    (found.val = 3 → (g.plane p).tsee (scrubTable t.val) i.val = 0 ∧ (g.plane p).fwd.tab = (s.f.plane p).fwd.tab ∧ g.e = s.f.e))) ∧
  (∀ (key : Nat) (rest : List Nat), (s.f.plane p).fwd.held = key :: rest → partnered s.f = true →
    Answers (.tableRepairReply p) s (fun g =>
    (g.plane p).fwd.held = rest ∧
    sget tabDef (g.plane p).fwd.tab key = entryAsOf (s.f.plane p.other) key (s.f.plane p).st.tick ∧
    Counted (s.f.plane p).regs (g.plane p).regs TBL_REPAIRED 1)) ∧
  (let t := min (s.f.plane p).st.tick (s.f.plane p.other).st.tick
   let differ := noticesDiffer (s.f.plane p).fwd.mine (s.f.plane p.other).fwd.outbox t
   (s.f.e.role p = .rejoining → (s.f.plane p).st.takes = true → (s.f.plane p).st.newT = false → Answers (.learningNoticeReceived p) s (fun g =>
     g.plane p = (((s.f.plane p.other).fwd.outbox.filter (fun n => n.tick < t)).foldl Plane.applyNotice (s.f.plane p)).onFwd
       (fun x => { x with mine := x.mine.filter (fun n => t ≤ n.tick) }) ∧
     (g.plane p.other).fwd.outbox = (s.f.plane p.other).fwd.outbox.filter (fun n => t ≤ n.tick) ∧ g.e = s.f.e)) ∧
   (differ = false → s.f.e.role p ≠ .rejoining → Answers (.learningNoticeReceived p) s (fun g =>
     (g.plane p).fwd.mine = (s.f.plane p).fwd.mine.filter (fun n => t ≤ n.tick) ∧
     (g.plane p.other).fwd.outbox = (s.f.plane p.other).fwd.outbox.filter (fun n => t ≤ n.tick) ∧ g.e = s.f.e)) ∧
   (∀ sh : PlaneId, differ = true → s.f.e.role p ≠ .rejoining → s.f.e.shadow = some sh → partnered s.f = true → (s.f.plane p).st.newT = false →
     (s.f.plane p.other).st.newT = false → s.f.phase = 0 → (s.f.e.src (planeSrc sh 10)).live = false →
     Answers (.learningNoticeReceived p) s (fun g => g.e.role sh = .offline ∧ (g.e.src (planeSrc sh 10)).cause = true ∧
       (g.e.src (planeSrc sh 10)).count = satAdd 16 (s.f.e.src (planeSrc sh 10)).count 1)))

/-! TICKs. -/

/-- R28, R29, R87, R387, R401, R422: a TICK moves counter, tick number and calendar by 10,000 ns and is placed in the stream, with a RAND
where entropy is ready; while no TICKs are made the counter goes on alone; a pending step moves the counter and STEP_SUM at its TICK; a
plane that is due to join becomes SHADOW; the CUT changes the banks. -/
def Obligations.TickPlaces : Prop := ∀ s : State,
  let e := s.f.e
  (ticking e = false → e.seqr.off = false → e.mode ≠ .ember → Answers .tick s (fun g =>
    g.e.counter = max e.counter (e.merger.lastTickAt + 10000) ∧ g.e.merger.lastTick = e.merger.lastTick + 1 ∧
    g.e.seqr.cal = e.seqr.cal + 10000 ∧ g.e.merger.waiting = e.merger.waiting)) ∧
  (ticking e = true → e.seqr.kind = .idle → (∀ h p, lostAt (s.f.plane p) h = none) → e.merger.stopped = false →
    (dueNext e = [] → e.seqr.timeStep = none → s.f.phase ≠ 4 → Answers .tick s (fun g =>
      g.e.counter = max e.counter (e.merger.lastTickAt + 10000) ∧ g.e.merger.lastTick = e.merger.lastTick + 1 ∧
      g.e.merger.lastTickAt = e.merger.lastTickAt + 10000 ∧ g.e.seqr.cal = e.seqr.cal + 10000 ∧
      (∃ w ∈ g.e.merger.waiting,
        w.sh = Shingle.mk0 .tick (e.merger.lastTickAt + 10000) 256 0 (leBytes 8 (e.merger.lastTick + 1))) ∧
      (e.entropyReady = true → g.e.merger.rands = e.merger.rands + 1 ∧
        ∃ w ∈ g.e.merger.waiting, w.sh.utype = .rand ∧ w.sh.body = fitBytes 32 (Config.entropy e.merger.rands)))) ∧
    (∀ d : Int, e.seqr.timeStep = some d → dueNext e = [] → s.f.phase ≠ 4 → Answers .timeStep s (fun g =>
      let c := max e.counter (e.merger.lastTickAt + 10000)
      let moved := d + (baseDays ((c : Int) + d) * 86400 * 10 ^ 9 : Nat)
      g.e.seqr.timeStep = none ∧ g.e.counter = movedBy moved c ∧
      g.e.regs.rd64 TIME_STEP_SUM_LO = unsigned 64 (e.stepSum + moved) % 2 ^ 64)) ∧
    (∀ p : PlaneId, dueNext e = [.join p] → e.seqr.timeStep = none → s.f.phase ≠ 4 → s.f.phase ≠ 6 → e.role p = .rejoining →
      (e.rj p).level = true → Answers .joinPoint s (fun g => g.e.role p = .shadow ∧ Counted e.regs g.e.regs PLANE_REJOIN_CNT 1 ∧
        ∃ w ∈ g.e.merger.waiting, w.sh.utype = .ctrl ∧ w.sh.port = 256 ∧ w.sh.ctrlCode = 5)) ∧
    (dueNext e = [.cut] → s.f.phase = 4 → s.f.turn.bankFilled = true → s.f.lead.regs.rd64 TRUSS_CUT_AT_LO = 0 →
      bytesAt (e.inact.sec 0x12) 8 1 = 0 →
      Answers .cutPoint s (fun g => g.e.live = e.inact ∧ g.e.inact = e.live ∧
        ∃ w ∈ g.e.merger.waiting, w.sh.utype = .ctrl ∧ w.sh.port = 256 ∧ w.sh.ctrlCode = 6)))

/-- R34, R199, R247, R260, R447: the command that stands for something due at a TICK emits that TICK, and every plane that takes the
stream does there what the TICK asks for, in the manual's order; the authority's due commands are counted and gone. -/
def Obligations.TickEmission : Prop := ∀ (s : State) (dt : Nat) (sh : Shingle),
  let e := s.f.e.at dt
  let t := tickOf sh
  dueShingle e = some sh → sh.utype = .tick → s.f.copy = none →
  let after := fun (q : Plane) => ((q.popHead sh).atTick sh).releaseAll
  (∀ p, let q := s.f.plane p
    q.st.fill = false ∧ q.st.past = false ∧ q.fwd.metBad = false ∧ q.host.tellRole = false ∧
    (q.st.takes = true → q.st.inbox = [] ∧ q.host.admitted = [] ∧ q.st.sleep = none ∧
      (after q).fwd.metBad = false ∧ (after q).host.tellRole = false)) →
  let Does := fun (c : Instr) (due : Plane → Prop) => (∃ p, (s.f.plane p).st.takes = true ∧ due (s.f.plane p)) →
    Answers c s (fun g => ∀ p, (s.f.plane p).st.takes = true → g.plane p = after (s.f.plane p))
  ((∀ p, (s.f.plane p).st.auths = []) →
    Does (.assistPacketGap dt) (fun q => q.tpReady t ≠ []) ∧ Does (.assistTimeout dt) (fun q => q.tpLate t ≠ []) ∧
    Does (.queueAgeExpire dt) (fun q => (q.ageQueues (10000 * t)).fwd.queues ≠ q.fwd.queues) ∧
    Does (.cbRecoveryReset dt) (fun q => q.fwd.cbs.any (fun x => q.cbDue x.1 t) = true) ∧
    Does (.tableCommandApply dt) (fun q => hasCmds 0 q = true) ∧ Does (.learnApply dt) (fun q => q.fwd.learns ≠ []) ∧
    Does (.macAgingPoint dt) (fun q => q.agingPoint t = true) ∧ Does (.versionRenewal dt) (fun _ => t % 100000 = 0) ∧
    Does (.cyclicTrigger dt) (fun q => ∃ i < q.layCount, cyclicDue (q.lay i) t = true) ∧
    Does (.deferredChangeBuild dt) (fun q => ∃ i < q.layCount, q.deferredDue i t = true) ∧
    Does (.supervisorExpire dt) (fun q => ∃ k < q.supCount, ∃ d ≤ t, q.supDue k = some d) ∧
    Does (.contributorResolve dt) (fun q => q.thr.pend ≠ []) ∧ Does (.thrWriteApply dt) (fun q => hasCmds 1 q = true) ∧
    Does (.tenantBind dt) (fun q => q.fwd.binds ≠ []) ∧
    Does (.tenantIdleUnbind dt) (fun q => (q.tlist 17).any (fun x => q.idleDue x.1 t) = true) ∧
    Does (.doipUnbind dt) (fun q => q.fwd.doipEnd ≠ []) ∧ Does (.postCutUnbind dt) (fun q => q.fwd.postCut = true) ∧
    Does (.tenantCommandApply dt) (fun q => hasCmds 2 q = true) ∧ Does (.governorWindowClose dt) (fun _ => t % 1000 = 0) ∧
    Does (.babbleEnter dt) (fun q => babbles true q t = true) ∧ Does (.babbleExit dt) (fun q => babbles false q t = true) ∧
    Does (.networkEvaluate dt) (fun _ => t % 100 = 0) ∧
    Does (.holdThreshold dt) (fun q => t % 100 = 0 ∧ (List.range (netCount q.truss)).any (fun i =>
      (Net.accrue (netOf q i)).table.any (fun x => match x.2 with | some h => q.holdDue h | none => false)) = true)) ∧
  (∀ (p : PlaneId) (x target : Nat), e.leader = some p → (s.f.plane p).st.takes = true → (s.f.plane p.other).st.takes = false →
    (s.f.plane p).st.auths = [(x, target)] → x ≤ t → e.mode = .service → e.seqr.kind = .idle → (target = 3 ∨ target = 4 ∨ target = 6) →
    Answers (.authorityCommand dt) s (fun g => (g.plane p).st.auths = [] ∧ Counted e.regs g.e.regs PWR_AUTH_CNT 1))

/-- R170, R186, R209-R213, R224, R260, R265: the parts of a plane's TICK on its tables. A written entry reads what was written; no
learning candidate or command is left; a learned entry ages, and is removed at age 4; an old version is renewed; unbound tenants are FREE,
no binding is left; the governor's window closes, and what belongs to the next one is counted there; a CB function resets; heads of queues past their age go. -/
def Obligations.TickTables : Prop := ∀ (q : Plane) (t : Nat),
  (∀ b, (q.winApply b).fwd.cmds = q.fwd.cmds.filter (fun x => x.block ≠ b)) ∧
  (∀ x : WinCmd, x.cmd = 2 → x.table ≠ 4 → x.table ≠ 5 → x.table ≠ 6 → x.idx < 2 ^ 20 →
    (q.tblApply x).1.tget x.table x.idx = Rec.ofBytes (x.data.take ((winSize 0 x.table).getD (0, 0)).2) ∧ (q.tblApply x).2 = 0) ∧
  (q.learnTick.fwd.learns = [] ∧ ∀ (c : Learn) (i : Nat), q.fwd.learns = [c] → q.macFind c.fid c.mac = none → q.macFree c.fid c.mac = some i →
    q.macCount c.port < bits ((q.portLearn c.port).u 0 4) 17 0 → c.tenant = 0xFFFF →
    q.learnTick.tget 4 i = macEntry c.mac c.fid (((q.regs.rd TBL_LEARN_VER).toNat + 1) % 2 ^ 32) c.port 1 0) ∧
  (swf tabDef q.fwd.tab = true →
    (∀ i < 2 ^ 20, macLearned (q.tget 4 i) = true →
      (4 ≤ (q.tget 4 i).u 15 1 → q.ageTick.tget 4 i = 0) ∧
      ((q.tget 4 i).u 15 1 < 4 → (q.ageTick.tget 4 i).u 15 1 = (q.tget 4 i).u 15 1 + 1)) ∧
    (let v := (q.regs.rd TBL_LEARN_VER).toNat
     ∀ i < 2 ^ 20, macValid (q.tget 4 i) = true → 2 ^ 30 < (v + 2 ^ 32 - (q.tget 4 i).u 8 4) % 2 ^ 32 →
      (q.renewTick.tget 4 i).u 8 4 = (v + 2 ^ 32 - 2 ^ 30) % 2 ^ 32) ∧
    ∀ ten < 4096, (q.unbindCause ten t).isSome = true → (q.unbindTick t).tenState ten = 0) ∧
  (q.unbindTick t).fwd.doipEnd = [] ∧ (q.unbindTick t).fwd.postCut = false ∧ q.bindTick.fwd.binds = [] ∧
  (q.govTick t).fwd.offers = q.fwd.offersNext ∧ (q.govTick t).fwd.offersNext = [] ∧
  (q.govTick t).fwd.busy = q.fwd.busyNext ∧ (q.govTick t).fwd.busyNext = [] ∧ (q.govTick t).regs.rd64 GOV_WINDOW_LO = (t / 1000 - 1) % 2 ^ 64 ∧
  (∀ i, q.cbDue i t = true → (q.cbTick t).cb i = (q.cb i).reset) ∧
  (∀ k now, (q.ageQueues now).queue k =
    (q.queue k).dropWhile (fun u => decide (u.ts + q.ageLimit (k / 8) u * 1000000 < now)))

/-- R127, R129, R234, R237, R240, R250, R269, R476, R480: the other parts of a plane's TICK. A transfer past its time is discarded and
counted; a BAM's next packet has its gap; a cyclic layout builds at OFFSET modulo PERIOD; an expired supervisor's signals are expired; every
contributor that is due is resolved; a LUT entry reads what was written; a tenant over its rate for long enough babbles, and one below half
of it ends; a network is ready after QUIET; a holder past its threshold is logged. -/
def Obligations.TickWork : Prop := ∀ (q : Plane) (t : Nat) (sh : Shingle),
  let c : Cause := ⟨sh.ts, sh.stream, t⟩
  (∀ x : TpSess, x.role ≠ 0 → (q.tpTimeout sh x).fwd.tp = q.fwd.tp.erase x ∧ Counted q.regs (q.tpTimeout sh x).regs SW_ASSIST_TIMEOUT 1) ∧
  (∀ x : TpSess, x.role = 4 → x.nxt < packets x.total → (q.tpNext x sh t).2 =
    some { x with nxt := x.nxt + 1, left := x.left - 1, gapAt := some (t + x.gapTicks) }) ∧
  (∀ l : Rec, l.u 0 1 = 2 → (l.u 6 1 = 1 ∨ l.u 6 1 = 4) → 0 < l.u 8 4 → (cyclicDue l t = true ↔ t % l.u 8 4 = l.u 12 4 % l.u 8 4)) ∧
  (∀ k : Nat, ((q.expire c.stream t k).1.supSt k).expired = true ∧
    ∀ i ∈ q.supSigs k, i ∈ (q.expire c.stream t k).1.thr.sigExp) ∧
  (∀ x ∈ (q.resolveTick c).1.thr.pend, t < x.due) ∧
  (∀ x : WinCmd, x.table = 4 → (q.thrApply c x).1.lut (x.idx / 256) (x.idx % 256) = bytesAt x.data 0 8) ∧
  (∀ ten < 4096, bit ((q.tplOf ten).u 1 1) 2 = true → (q.tplOf ten).u 56 2 ≠ 0 →
    let r := q.babbleTenant ten
    ((q.ctx ten).f 33 0 0 = 0 → (q.tplOf ten).u 56 2 < (q.ctx ten).u 76 4 → (q.tplOf ten).u 14 1 ≤ (q.ctx ten).u 84 1 + 1 →
      (r.ctx ten).f 33 0 0 = 1 ∧ Counted q.regs r.regs GOV_BABBLE_CNT 1) ∧
    ((q.ctx ten).f 33 0 0 = 1 → (q.ctx ten).u 76 4 ≤ (q.tplOf ten).u 56 2 / 2 → (q.tplOf ten).u 14 1 ≤ (q.ctx ten).u 84 1 + 1 →
      (r.ctx ten).f 33 0 0 = 0)) ∧
  (∀ i : Nat, (netOf (q.netEval t i) i).ready = decide ((netOf q i).lastKa + quietTicks (netRec q.truss i) ≤ t)) ∧
  (∀ (i k : Nat) (h : Holder), sget (fun _ => none) (netOf (q.holdLog i k h) i).table k = some { h with logged := true })

/-! Stream positions of the planes. -/

/-- R43, R125, R190, R200, R318: a unit at the head of a plane's Rafter is taken through the lookup chain, by whichever command names it, or
waits for the verdict that AUTH_ENGINE_DONE brings; a PORT_RESTART gives the plane the port's new GEN; a LINK_DOWN empties the port's queues.
The plane stands at no admitted message, the unit meets no bad table entry, and no plane has a change of role to tell. -/
def Obligations.UnitTakes : Prop := ∀ (s : State) (p : PlaneId) (sh : Shingle),
  let q := s.f.plane p
  q.ready = true → q.st.inbox = [sh] → (s.f.plane p.other).st.inbox = [] → (s.f.plane p.other).fwd.metBad = false →
  (∀ x, (s.f.plane x).st.auths = [] ∧ (s.f.plane x).host.tellRole = false) →
  let Takes := fun (c : Instr) =>
    let r := q.takeUnit { sh with auth := .noneRequired } (earlyNow s.f p)
    r.fwd.metBad = false → Answers c s (fun g => g.plane p = r ∧ g.plane p.other = s.f.plane p.other)
  (sh.isUnit = true → sh.auth ≠ .pending → q.waits sh = false →
    Takes (.unitLookup p) ∧ (forThatcher q sh = true → Takes (.thatcherUnit p)) ∧
    ((q.tpKind sh).isSome = true → Takes (.assistFrameConsumed p)) ∧ (forSegment q sh = true → Takes (.assistSegment p)) ∧
    (∀ x ctl, q.tpKind sh = some (.answer x ctl) → Takes (.assistCts p)) ∧
    (∀ x, q.tpKind sh = some (.flow x) → Takes (.assistFlowControl p)) ∧
    (∀ r, q.tpKind sh = some (.rts r) → Takes (.assistRts p)) ∧ (∀ r, q.tpKind sh = some (.first r) → Takes (.assistFirstFrame p))) ∧
  (sh.isUnit = true → q.waits sh = true → Answers (.unitLookup p) s (fun g =>
    (g.plane p).st.inbox = [{ sh with auth := .pending }] ∧ g.plane p.other = s.f.plane p.other)) ∧
  (sh.isUnit = true → sh.auth = .pending → Takes (.authEngineDone p)) ∧
  (sh.utype = .ctrl → sh.ctrlCode = 3 → sh.port < 168 → bytesAt sh.body 3 1 < 16 → s.f.dump = none →
    ((q.popHead sh).portRestarted sh).releaseAll.fwd.metBad = false →
    Answers (.portRestartProcess p) s (fun g => g.plane p = ((q.popHead sh).portRestarted sh).releaseAll ∧
      sget (fun _ => 0) (g.plane p).st.gens sh.port = bytesAt sh.body 2 1 ∧ (g.plane p).st.stream = sh.stream)) ∧
  (sh.utype = .ctrl → sh.ctrlCode = 2 → isEthT1s sh.port = true →
    let r := ((((q.popHead sh).portGone sh.port).slaveGone sh.port).unbindPort sh.port).releaseAll
    r.fwd.metBad = false → Answers (.linkDownFlush p) s (fun g => g.plane p = r ∧ (∀ k < 8, (g.plane p).queue (qkey sh.port k) = []) ∧
      (g.plane p).linkOf sh.port = none))

/-- R43, R127-R129, R225, R226, R263, R318: what a unit does at its position. A stale unit does nothing; a unit without a route is counted; a
free tenant's unit and a babbling tenant's are dropped and counted; a tenant without a key fails; a request to send and a first frame open
a transfer; an acknowledgement ends one; a BAM transfer starts; a committed value is read back as VALUE, STATE, STREAM and tick. -/
def Obligations.UnitEffects : Prop := ∀ (q : Plane) (sh : Shingle) (early : Bool),
  (q.stale sh = true → q.takeUnit sh early = (q.popHead sh).releaseAll) ∧
  (∀ lk, routeValid (q.tget 1 sh.rid) = false → Counted q.regs (q.chain sh lk none false).regs TBL_ROUTE_INVALID 1) ∧
  (∀ (t : Nat) (route : Rec) (rid len ts : Nat),
    ((q.ctx t).u 0 1 = 0 → (q.police t route rid len ts).2 = false ∧
      Counted q.regs (q.police t route rid len ts).1.regs TEN_FREE_DROP 1) ∧
    ((q.ctx t).u 0 1 ≠ 0 → (q.ctx t).f 33 0 0 = 1 → (q.police t route rid len ts).2 = false ∧
      ((q.police t route rid len ts).1.ctx t).u 112 4 = satAdd 32 ((q.ctx t).u 112 4) 1)) ∧
  (∀ (r : Rec) (t : Nat), q.authHandle r t = 0xFFFF → (q.judge r t sh).2.1 = .failed ∧
    ((q.judge r t sh).1.ctx t).u 120 4 = satAdd 32 ((q.ctx t).u 120 4) 1) ∧
  (∀ (r : Rec) (now : Nat), q.fwd.tp = [] → ∃ x : TpSess, (q.tpRts r sh now).fwd.tp = [x] ∧ x.role = 2 ∧ x.slot = sh.port ∧
    x.sa = sh.canId % 256 ∧ x.total = bytesAt sh.body 1 2 ∧ x.dueAt = some (now + 125000)) ∧
  (∀ (r : Rec) (now : Nat), q.fwd.tp = [] → ∃ x : TpSess, (q.isoFirst r sh now).fwd.tp = [x] ∧ x.role = 3 ∧ x.slot = sh.port ∧
    x.dueAt = some (now + 100000)) ∧
  (∀ (x : TpSess) (now : Nat), (q.tpAnswer x sh 19 now).fwd.tp = q.fwd.tp.erase x ∧
    Counted q.regs (q.tpAnswer x sh 19 now).regs SW_ASSIST_DONE 1) ∧
  (∀ (x : TpSess) (now : Nat), 2 ≤ bytesAt sh.body (asLead x.entry).length 1 % 16 → (q.isoFlow x sh now).fwd.tp = q.fwd.tp.erase x ∧
    Counted q.regs (q.isoFlow x sh now).regs SW_ASSIST_ABORT 1) ∧
  (∀ (slot age : Nat) (r : Rec), bytesAt sh.body 6 1 ≠ 3 → bytesAt sh.body 5 1 = 0xFF →
    q.j1939Entry slot (bits (bytesAt sh.body 0 4) 17 0) 0xFF asTx = some r → sh.utype = .canCC → persCan (q.pers slot) = true →
    q.fwd.tp = [] → ∃ x : TpSess, (q.tpStart slot sh age).fwd.tp = [x] ∧ x.role = 4 ∧ x.slot = slot ∧ x.data = sh.body.drop 8 ∧ x.nxt = 1) ∧
  (∀ (i : Nat) (v : Int) (st stream tick : Nat), (q.commitVal i v st stream tick).cval i = ⟨v, st, stream, tick⟩)

/-! Hosts. -/

/-- R34, R36, R38-R41, R281, R285, R291, R296, R412: a host message's way to its position: received and answered with a receipt, or
counted as damaged; admission asked for when copy and receipt agree; scheduled by Eaves; checked and admitted; rejected when the receipt does
not come. An endpoint comes UP at its HEARTBEAT. A candidate is passed in sequence, or held. What a plane admits it acts on at its position. A plane
that lags is faulty. -/
def Obligations.HostAdmission : Prop := ∀ (s : State) (p : PlaneId),
  let q := s.f.plane p
  (∀ (h : HalfId) (m : RMsg) (hx : Fin 65536) (cx : Fin 4294967296), s.f.h.toDev.find? (fun x => x.1 = pairNo h p) = some (pairNo h p, m) →
    let w := m.wire hx.val cx.val
    Answers (.hostMsgReceive h p hx cx) s (fun g => g.h.toDev = s.f.h.toDev.erase (pairNo h p, m) ∧
      (hcrcGood w = false → Counted q.regs (g.plane p).regs RIDGE_HCRC_CNT 1 ∧ (g.plane p).host.held = q.host.held) ∧
      (hcrcGood w = true → crcGood w = false → Counted q.regs (g.plane p).regs RIDGE_CRC_CNT 1 ∧ (g.plane p).host.held = q.host.held) ∧
      (hcrcGood w = true → crcGood w = true → (s.f.e.role p).running = true → s.f.e.mode ≠ .safe → m.posted = false →
        (∃ x ∈ (g.plane p).host.held, x.copy = some m) ∧
        (exchanging s.f p = false → (m.receipt m.crc, false) ∈ (g.plane p).host.asks) ∧
        (exchanging s.f p = true → m.receipt m.crc ∈ (g.plane p).host.receipts)))) ∧
  (∀ (r : Receipt) (rest : List Receipt) (x : Held), (s.f.plane p.other).host.receipts = r :: rest →
    q.host.held.find? (fun y => y.hdr.same r) = some x → x.hdr = r → x.copy.isSome = true → x.asked = false →
    Answers (.receiptReceived p) s (fun g => (r, false) ∈ (g.plane p).host.asks ∧ (g.plane p.other).host.receipts = rest)) ∧
  (∀ (r : Receipt) (rest : List (Receipt × Bool)), q.host.asks = (r, false) :: rest → (s.f.e.role p).running = true →
    Answers (.admissionRequest p) s (fun g => (g.plane p).host.asks = rest ∧
      ((s.f.e.role p.other).running = false → g.e.merger.sched = insSched ⟨2, .host r, s.f.e.counter⟩ s.f.e.merger.sched) ∧
      ((s.f.e.role p.other).running = true → s.f.e.merger.reqs = [] → g.e.merger.reqs = [⟨r, p = .A, p = .B, false⟩] ∧
        g.e.merger.sched = s.f.e.merger.sched))) ∧
  (∀ (sh : Shingle) (m : RMsg) (w : SeqWin), q.ready = true → q.st.inbox = [sh] → (s.f.plane p.other).st.inbox = [] →
    (∀ x, (s.f.plane x).st.auths = [] ∧ (s.f.plane x).fwd.metBad = false) → m.cls ≠ clsMode → m.cls ≠ clsJournal → sh.utype = .host →
      bytesAt sh.body 0 1 % 16 ≠ 0 →
    bodyFor q (sh.port - 168) (bytesAt sh.body 0 1 % 16) (bytesAt sh.body 1 3 % 4096) (bytesAt sh.body 5 4) = some m →
    sget (fun _ => 0) q.st.gens sh.port = sh.gen → hostClass m.cls m.posted = true → lengthOk m = true → q.qpMay m.ep m.tenant m.cls = true →
    SeqWin.admitSeq (sget (fun _ => none) q.host.seqs m.tenant) m.seq = some w →
    Answers (.hostAdmit p) s (fun g => (g.plane p).host.admitted = [m] ∧
      sget (fun _ => none) (g.plane p).host.seqs m.tenant = some w ∧ (g.plane p).st.stream = sh.stream)) ∧
  (∀ (ep : Fin 8) (tenant : Fin 4096) (seq : Nat) (x : Held) (m : RMsg), s.f.e.roleA.running = true → s.f.e.roleB.running = true →
    (∀ a, ∀ y ∈ (s.f.plane a).host.held, y.receipt = none) →
    q.host.held.find? (fun y => y.hdr.ep = ep.val ∧ y.hdr.tenant = tenant.val ∧ y.hdr.seq = seq) = some x → x.copy = some m →
    x.asked = false → x.since + 50000 < s.f.e.counter → Answers (.receiptTimeout ep tenant seq) s (fun g =>
      (g.plane p).host.direct = q.host.direct ++
        [⟨m.ep, clsEvent, m.tenant, false, false, false, true, 0, 0, rejectedBody (m.receipt 0) 5 s.f.e.counter, 0⟩] ∧
      (∀ y ∈ (g.plane p).host.held, ¬(y.hdr.ep = ep.val ∧ y.hdr.tenant = tenant.val ∧ y.hdr.seq = seq)) ∧
      Counted q.regs (g.plane p).regs RIDGE_REJECT_CNT 1)) ∧
  (∀ (c : Cand) (rest : List Cand), q.st.up = c :: rest → s.f.e.mode ≠ .safe → c.digest = none → holdBytes s.f.e + Cand.bytes c < 0x400000 →
    Answers (.candidateArrive p) s (fun g => (g.plane p).st.up = rest ∧
      (s.f.e.role p = .leading → c.oseq = s.f.e.sel.nextOf c.port → s.f.e.sel.skips c.port c.cause = false →
        s.f.e.sel.hold.all (fun x => !(decide (x.src ≠ c.src ∧ x.newTruss = c.newTruss ∧ x.port = c.port ∧ x.oseq = c.oseq))) = true →
        g.e.stage = s.f.e.stage ++ [c] ∧ g.e.sel.nextOf c.port = (c.oseq + 1) % 2 ^ 32) ∧
      (s.f.e.role p = .shadow → c.newTruss = false → serialLe 32 c.oseq (s.f.e.sel.nextOf c.port) = false →
        g.e.sel.hold = s.f.e.sel.hold ++ [c] ∧ g.e.stage = s.f.e.stage))) ∧
  (∀ (ep : Fin 8) (sh : Shingle), s.f.e.leader = some p → q.st.takes = true → q.st.inbox = [sh] → isHbFor ep.val sh = true →
    q.epUp ep.val = false → (s.f.plane p.other).st.inbox = [] → (∀ x, (s.f.plane x).st.auths = [] ∧ (s.f.plane x).fwd.metBad = false) →
    Answers (.endpointUp ep) s (fun g => (g.plane p).epUp ep.val = true ∧ g.h.get ep.val EP_STAT_UP = 1)) ∧
  (∀ (ep : Fin 8) (tenant : Fin 4096) (tag : Nat),
    let done := fun (x : Plane) => match x.host.admitted with | [] => x | m :: _ => (x.takeAdmitted.hostInject m).releaseAll
    let Injects := fun (cls : Nat) (c : Instr) => p ∈ s.f.actors ep.val tenant.val cls tag saysAny →
      (∀ x, (s.f.plane x).fwd.metBad = false ∧ (done (s.f.plane x)).fwd.metBad = false) →
      Answers c s (fun g => g.plane p = done q)
    Injects clsFrame (.hostFrameInject ep tenant tag) ∧ Injects clsSignal (.hostSignalWrite ep tenant tag)) ∧
  (∀ lag : Nat, s.f.e.roleA.running = true → s.f.e.roleB.running = true → Answers (.planeLagDetect p lag) s (fun g =>
    (lag ≤ 15000 → g.e.regs.get 0 PLANE_LAG_PEAK_PEAK = max (s.f.e.regs.get 0 PLANE_LAG_PEAK_PEAK) lag ∧ g.e.roleA = s.f.e.roleA ∧
      g.e.roleB = s.f.e.roleB) ∧
    (15000 < lag → s.f.phase = 0 → s.f.e.leader.isSome = true → s.f.e.shadow.isSome = true → (s.f.e.src (planeSrc p 8)).live = false →
      g.e.role p = .offline ∧ g.e.role p.other = .leading ∧ (g.e.src (planeSrc p 8)).cause = true)))

/-- R277-R281, R290: pairs train and go down; a half faults, restarts and comes out of reset; an endpoint goes DOWN; HEARTBEATs are
sent, and what they say is kept. -/
def Obligations.RidgePairs : Prop := ∀ (s : State) (h : HalfId) (p : PlaneId),
  (s.f.h.halfRun h = true → Answers (.ridgePairTrained h p) s (fun g => g.h.pairUp h p = true ∧ lostAt (g.plane p) h = none ∧
    ∀ ep ∈ halfEps h, g.h.get ep (match p with | .A => EP_STAT_PAIR_A | .B => EP_STAT_PAIR_B) = 1)) ∧
  (sget (fun _ => false) (s.f.plane p).host.pairsUp h.num = true → lostAt (s.f.plane p.other) h = none →
    let Down := fun (g : Field) => g.h.pairUp h p = false ∧ lostAt (g.plane p) h = some (s.f.e.counter, false) ∧ g.e = s.f.e
    Answers (.ridgePairDown h p) s Down ∧ Answers (.heartbeatMissed h p) s Down) ∧
  Answers (.halfFault h) s (fun g => g.h.halfRun h = false ∧ g.h.pairUp h p = false ∧ ∀ ep ∈ halfEps h, g.h.get ep EP_STAT_UP = 0) ∧
  (s.f.h.running = true → Answers (.halfRestarted h) s (fun g => g.h.halfRun h = true ∧
    g.h.pairUp h p = decide (s.f.e.role p ≠ .offline))) ∧
  (∀ straps : Fin 4, Answers (.hostResetRelease straps) s (fun g => g.h.running = true ∧ g.h.straps = straps.val ∧
    ∀ ep < 8, g.h.get ep EP_CTL_ENABLE = 0 ∧ g.h.get ep EP_ID_ENDPOINT = ep ∧ g.h.get ep EP_STAT_UP = 0)) ∧
  (∀ (ep : Fin 8) (clear : Bool), Answers (.endpointDown ep clear) s (fun g => g.h.epReady ep.val = false ∧ g.h.get ep.val EP_STAT_UP = 0 ∧
    (clear = true → g.h.get ep.val EP_CTL_ENABLE = 0) ∧ (∀ m ∈ g.h.toHost, m.ep ≠ ep.val))) ∧
  (∀ toHost : Bool, s.f.h.pairUp h p = true → linkCredit s.f toHost h p 0 (creditCost 16) = true →
    Answers (.heartbeatSend toHost h p) s (fun g => sget (fun _ => []) g.h.hbFly (flyKey toHost h p) =
      sget (fun _ => []) s.f.h.hbFly (flyKey toHost h p) ++ [if toHost then planeHb s.f p else halfHb s.f h])) ∧
  (∀ (hb : HbSeen) (rest : List HbSeen), sget (fun _ => []) s.f.h.hbFly (flyKey false h p) = hb :: rest →
    Answers (.heartbeatReceived false h p) s (fun g => sget (fun _ => []) g.h.hbFly (flyKey false h p) = rest ∧
    sget (fun _ => HbSeen.none) (g.plane p).host.hb h.num = { hb with since := s.f.e.counter } ∧
    ((s.f.e.role p).running = true → strapOk (s.f.plane p) s.f.h.straps h = true → ∀ ep ∈ halfEps h, (s.f.plane p).epEnabled ep = true →
      bit hb.ends ep ≠ (s.f.plane p).epUp ep →
      ((⟨ep, 0, 0, false, false, 0, 0, 16, 0⟩ : Receipt), !bit hb.ends ep) ∈ (g.plane p).host.asks))) ∧
  (∀ (hb : HbSeen) (rest : List HbSeen), sget (fun _ => []) s.f.h.hbFly (flyKey true h p) = hb :: rest →
    Answers (.heartbeatReceived true h p) s (fun g =>
      g.h.hbOf h p = { hb with since := s.f.e.counter } ∧ sget (fun _ => []) g.h.hbFly (flyKey true h p) = rest))

/-- R282, R289, R293-R297: a changed DGEN completes what a half tracks; queue entries are fetched, refused or delivered, with their
completions; credits are owed, carried and returned; the leading plane's output is passed in sequence. -/
def Obligations.RidgeQueues : Prop := ∀ (s : State) (h : HalfId) (p : PlaneId),
  let d := s.f.h
  (∀ gen : Nat, gen = (if (d.hbOf h .B).since ≤ (d.hbOf h .A).since then (d.hbOf h .A).dgen else (d.hbOf h .B).dgen) →
    (∃ ep ∈ halfEps h, d.rd ep EP_DGEN ≠ BitVec.ofNat 32 gen) → Answers (.dgenChange h) s (fun g =>
      (∀ ep ∈ halfEps h, g.h.rd ep EP_DGEN = BitVec.ofNat 32 gen ∧ ∀ c < 4, sget (fun _ => none) g.h.proxies (4 * ep + c) = none) ∧
      (∀ t ∈ g.h.tracked, halfOf t.ep ≠ h))) ∧
  (∀ (ep : Fin 8) (q : Fin 256) (cls : Nat) (urgent : Bool) (len seq tag : Nat) (buf : List Byte),
    d.halfRun (halfOf ep.val) = true → q.val < d.get ep.val EP_QP_COUNT_COUNT → d.get ep.val (QP_CTL_ENABLE q.val) = 1 →
    d.get ep.val (QP_SQ_HEAD_HEAD q.val) ≠ d.get ep.val (QP_SQ_TAIL_TAIL q.val) → d.get ep.val EP_STAT_FIELD ≠ 3 →
    let may := bit (d.get ep.val (QP_INFO_CLASSES q.val)) cls = true ∧ (cls = 2 ∨ cls = 4 ∨ cls = 5 ∨ 8 ≤ cls) ∧ len ≤ 9600
    let head := d.get ep.val (QP_SQ_HEAD_HEAD q.val)
    let next := (if head + 1 < d.get ep.val (QP_SQ_SIZE_ENTRIES q.val) then head + 1 else 0) % 4096
    (may → halfCredit d s.f.lead ep.val cls len = true → Answers (.sqFetch ep q cls urgent len seq tag buf) s (fun g =>
      (∀ a ∈ runPlanes d (halfOf ep.val), (pairNo (halfOf ep.val) a, (⟨ep.val, cls, d.get ep.val (QP_INFO_TENANT q.val), false, urgent,
        false, false, seq % 2 ^ 32, tag % 2 ^ 24, fitBytes len buf, 0⟩ : RMsg)) ∈ g.h.toDev) ∧
      g.h.get ep.val (QP_SQ_HEAD_HEAD q.val) = next ∧
      (g.h.qp ep.val q.val).lastCq = some ⟨1, 0, head, seq % 2 ^ 32, tag % 2 ^ 24, cls, 0⟩)) ∧
    (¬may → Answers (.sqFetch ep q cls urgent len seq tag buf) s (fun g => g.h.toDev = d.toDev ∧
      g.h.get ep.val (QP_SQ_HEAD_HEAD q.val) = next ∧ (g.h.qp ep.val q.val).lastCq =
        some ⟨1, 1, head, seq % 2 ^ 32, tag % 2 ^ 24, cls, 0⟩))) ∧
  (∀ (ep : Fin 8) (size q : Nat) (m : RMsg), d.toHost.find? (fun m => m.ep = ep.val ∧ proxyFor d m = false) = some m →
    d.qpOfTenant ep.val m.tenant = some q → Answers (.rqDeliver ep size) s (fun g => g.h.toHost = d.toHost.erase m ∧
      (d.get ep.val (QP_CTL_ENABLE q) = 1 → (d.qp ep.val q).rqHead ≠ d.get ep.val (QP_RQ_TAIL_TAIL q) → 16 + m.body.length ≤ size →
        (g.h.qp ep.val q).lastRecv = some m ∧
        (g.h.qp ep.val q).lastCq = some ⟨2, 0, (d.qp ep.val q).rqHead, m.seq, m.tag, m.cls, 16 + m.body.length⟩) ∧
      (size < 16 + m.body.length → g.h.rd ep.val (QP_RQ_DROP q) =
        BitVec.ofNat 32 (satAdd 32 (d.rd ep.val (QP_RQ_DROP q)).toNat 1)))) ∧
  (let l := owedOf (s.f.plane p).host.owed 0 256 h
   d.pairUp h p = true → l ≠ [] → linkCredit s.f true h p 1 (creditCost (8 * l.length)) = true → Answers (.creditSend true h p) s (fun g =>
    sget (fun _ => []) g.h.credFly (flyKey true h p) = sget (fun _ => []) d.credFly (flyKey true h p) ++ [l] ∧
    ∀ x ∈ l, x ∉ (g.plane p).host.owed)) ∧
  (∀ (l : List (Nat × Nat)) (rest : List (List (Nat × Nat))), sget (fun _ => []) d.credFly (flyKey false h p) = l :: rest →
    Answers (.creditReturn false h p) s (fun g => sget (fun _ => []) g.h.credFly (flyKey false h p) = rest ∧
      (g.plane p).host.used = l.foldl (fun u x => creditSub u x.1 x.2) (s.f.plane p).host.used)) ∧
  (∀ m : RMsg, d.pairUp h p = true → (s.f.plane p).host.direct = [] → (s.f.plane p).host.out.find? (fun m => halfOf m.ep = h) = some m →
    creditOk (s.f.plane p).host.used 0 m.ep m.cls (creditCost m.body.length) ((s.f.plane p).bulkShare m.ep) = true →
    (d.hbOf h p).role = 1 → m.seq = d.nextOf m.ep m.cls → s.f.e.sel.skips (168 + m.ep) m.cause = false → (s.f.plane p).st.newT = false →
    d.proxyOld.contains (m.ep, m.tag) = false →
    Answers (.halfOutputSelect h p) s (fun g => g.h.toHost = d.toHost ++ [m] ∧ g.h.nextOf m.ep m.cls = (m.seq + 1) % 2 ^ 32 ∧
      (g.plane p).host.out = (s.f.plane p).host.out.erase m))

/-- R299-R302: a proxy command or a bulk post becomes one message to every plane that runs, or waits for its credit; a busy channel sets
OVERRUN; the response or 10 ms end it; semaphores are taken, given back, read and freed, and the requester is answered. -/
def Obligations.RidgeBridge : Prop := ∀ s : State,
  let d := s.f.h
  (∀ (ep : Fin 8) (c : Fin 4),
    let Sends := fun (i : Instr) (cls cmd : Nat) (body : List Byte) =>
      d.halfRun (halfOf ep.val) = true → d.epExists ep.val = true →
      (sget (fun _ => none) d.proxies (4 * ep.val + c.val) = none → d.waiting = [] → d.get ep.val EP_STAT_FIELD ≠ 3 →
       (halfCredit d s.f.lead ep.val cls body.length = false → Answers i s (fun g => g.h.toDev = d.toDev ∧
          g.h.get ep.val (PROXY_RESULT_LO_STATUS c.val) = 1 ∧ ∃ x ∈ g.h.waiting, x.ep = ep.val ∧ x.cls = cls ∧ x.body = body)) ∧
       (halfCredit d s.f.lead ep.val cls body.length = true →
         Answers i s (fun g => sget (fun _ => none) g.h.proxies (4 * ep.val + c.val) = some ⟨cmd, d.proxyTag, s.f.e.counter⟩ ∧
          g.h.get ep.val (PROXY_RESULT_LO_STATUS c.val) = 1 ∧
          ∀ a ∈ runPlanes d (halfOf ep.val), ∃ x ∈ g.h.toDev, x.1 = pairNo (halfOf ep.val) a ∧ x.2.cls = cls ∧ x.2.body = body ∧
            x.2.tag = d.proxyTag ∧ x.2.tenant = sget (fun _ => 0) d.proxyTenant ep.val))) ∧
      (∀ b, sget (fun _ => none) d.proxies (4 * ep.val + c.val) = some b → Answers i s (fun g =>
        g.h.get ep.val (PROXY_FLAGS_OVERRUN c.val) = 1 ∧ g.h.toDev = d.toDev))
    let sema := fun (op : Nat) => leBytes 1 op ++ leBytes 1 (d.get ep.val (PROXY_ADDR_ADDR c.val) % 64) ++ leBytes 2 0
    Sends (.proxyRead ep c) 2 1 (proxyReq d ep.val c.val 1) ∧
    Sends (.proxyWrite ep c) 2 2 (proxyReq d ep.val c.val 2 ++ (List.range (d.get ep.val (PROXY_COUNT_COUNT c.val))).flatMap (fun i =>
      leBytes 4 (d.rd ep.val (PROXY_DATA c.val i)).toNat)) ∧
    Sends (.proxyAcquire ep c) 11 3 (sema 1) ∧ Sends (.proxyRelease ep c) 11 4 (sema 2) ∧
    (∀ (b : ProxyBusy) (m : RMsg), sget (fun _ => none) d.proxies (4 * ep.val + c.val) = some b →
      d.toHost.find? (fun m => m.ep = ep.val ∧ m.tag = b.tag ∧ m.tenant = sget (fun _ => 0) d.proxyTenant ep.val) = some m →
      Answers (.proxyResponse ep c) s (fun g => sget (fun _ => none) g.h.proxies (4 * ep.val + c.val) = none ∧
        g.h.toHost = d.toHost.erase m ∧ g.h.get ep.val (PROXY_RESULT_LO_STATUS c.val) = bytesAt m.body 0 1 % 16)) ∧
    (∀ b : ProxyBusy, sget (fun _ => none) d.proxies (4 * ep.val + c.val) = some b → d.waiting = [] → Answers (.proxyTimeout ep c) s (fun g =>
      sget (fun _ => none) g.h.proxies (4 * ep.val + c.val) = none ∧ g.h.get ep.val (PROXY_RESULT_LO_STATUS c.val) = 4 ∧
      (ep.val, b.tag) ∈ g.h.proxyOld)) ∧
    (d.halfRun (halfOf ep.val) = true → d.epExists ep.val = true → d.get ep.val (BULK_CTL_FREE c.val) = 1 →
      (9600 < d.get ep.val (BULK_CTL_LENGTH c.val) → d.get ep.val (BULK_CTL_KIND c.val) < 2 → Answers (.bulkPost ep c) s (fun g =>
        g.h.get ep.val (BULK_CTL_REFUSED c.val) = 1 ∧ g.h.toDev = d.toDev)) ∧
      (d.get ep.val (BULK_CTL_LENGTH c.val) ≤ 9600 → d.get ep.val (BULK_CTL_KIND c.val) = 0 →
        d.waiting = [] → d.get ep.val EP_STAT_FIELD ≠ 3 →
        halfCredit d s.f.lead ep.val 7 (d.get ep.val (BULK_CTL_LENGTH c.val)) = true → Answers (.bulkPost ep c) s (fun g =>
          g.h.get ep.val (BULK_CTL_FREE c.val) = 0 ∧ sget (fun _ => none) g.h.bulkOut (4 * ep.val + c.val) =
            some ⟨sget (fun _ => 0) d.proxySeq ep.val, false, false⟩ ∧
          ∀ a ∈ runPlanes d (halfOf ep.val), ∃ x ∈ g.h.toDev, x.1 = pairNo (halfOf ep.val) a ∧ x.2.cls = 7 ∧ x.2.posted = true ∧
            x.2.body.length = d.get ep.val (BULK_CTL_LENGTH c.val))))) ∧
  (∀ (p : PlaneId) (ep : Fin 8) (tenant : Fin 4096) (tag : Nat) (i : Fin 64),
    let q := s.f.plane p
    let me := semaOf q ep.val tenant.val
    q.epUp ep.val = true → q.st.sends = true → q.st.past = false → q.partner ep.val = none →
    let Ends := fun (op : Nat) (c : Instr) (status : Nat) (x : Option Sema) =>
      p ∈ s.f.actors ep.val tenant.val clsSema tag (saysSema op i.val) → Answers c s (fun g => semaAt (g.plane p) i.val = x ∧
      ∃ m ∈ (g.plane p).host.out, m.ep = ep.val ∧ m.cls = clsSema ∧ m.tag = tag ∧ m.body = semaRsp status i.val x)
    (semaAt q i.val = none → Ends 1 (.semaAcquire ep tenant tag i) 0 (some me)) ∧
    (∀ x, semaAt q i.val = some x → x ≠ me → Ends 1 (.semaAcquire ep tenant tag i) 6 (some x) ∧
      Ends 2 (.semaRelease ep tenant tag i) 6 (some x)) ∧
    (semaAt q i.val = some me → Ends 2 (.semaRelease ep tenant tag i) 0 none) ∧
    Ends 3 (.semaQuery ep tenant tag i) 0 (semaAt q i.val))


/-! Management. -/

/-- R27, R35: the merger emits no shingle before TS + 1 µs; then the first that waits goes to every plane that takes the stream, with the next
STREAM and the next SEQ of its port. -/
def Obligations.MergerEmission : Prop := ∀ (s : State) (dt : Nat),
  let e := s.f.e.at dt
  (dueShingle e = none → Answers (.mergerEmit dt) s (fun g => g = s.f.onE (·.at dt))) ∧
  (∀ sh : Shingle, dueShingle e = some sh → sh.isUnit = true → e.seqr.p1At = none →
    (∀ p, (s.f.plane p).st.fill = false ∧ (s.f.plane p).st.auths = [] ∧ (s.f.plane p).fwd.metBad = false ∧
      ((s.f.plane p).st.takes = true → (s.f.plane p).st.inbox = [])) →
    sh.stream = e.merger.stream ∧ sh.seq = nextSeq e.merger sh.port ∧
    Answers (.mergerEmit dt) s (fun g => g.e.merger.waiting = e.merger.waiting.drop 1 ∧ g.e.merger.stream = e.merger.stream + 1 ∧
      nextSeq g.e.merger sh.port = (sh.seq + 1) % 2 ^ 32 ∧
      ∀ p, (g.plane p).st.inbox = if (s.f.plane p).st.takes = true then [sh] else (s.f.plane p).st.inbox))

/-- R33, R44, R54, R55, R56, R64: Eaves performs the leading plane's next access once and answers in the stream, RESTARTED where the block has
restarted since; the planes take the answer, and a host's request whose last word it is ends with its data. A posted write arrives; a
sweep raises Flue for a bad word; cached words that disagree are counted and reloaded. -/
def Obligations.EavesAccesses : Prop := ∀ s : State,
  (∀ (p : PlaneId) (a : EavesAcc), s.f.e.leader = some p → (s.f.plane p).st.accs = [a] → s.f.e.sel.nextOf 256 = a.oseq →
    a.oseq < 2 ^ 32 → a.time = none → s.f.e.merger.stopped = false →
    (accessStale s.f.e a = true ∨ a.val = none ∨ a.addr = FLUE_SEL) → Answers .eavesAccess s (fun g =>
      (g.plane p).st.accs = [] ∧ g.e.sel.nextOf 256 = (a.oseq + 1) % 2 ^ 32 ∧
      (∃ w ∈ g.e.merger.waiting, w.sh.utype = .ctrl ∧ w.sh.port = 256 ∧ w.sh.ctrlCode = 4 ∧ bytesAt w.sh.body 12 4 = a.oseq ∧
        (accessStale s.f.e a = true → bytesAt w.sh.body 2 1 = 5)) ∧
      (accessStale s.f.e a = true → g.e.regs = s.f.e.regs) ∧
      (∀ v, a.addr = FLUE_SEL → a.val = some v → g.e.regs.get 0 FLUE_SEL_INDEX = FLUE_SEL_INDEX.get v))) ∧
  (∀ (p : PlaneId) (sh : Shingle) (a : EavesAcc),
    let q := s.f.plane p
    let x := BitVec.ofNat 32 (bytesAt sh.body 8 4)
    q.ready = true → q.st.inbox = [sh] → (s.f.plane p.other).st.inbox = [] →
    (∀ b, (s.f.plane b).st.auths = [] ∧ (s.f.plane b).fwd.metBad = false) → sh.utype = .ctrl → sh.ctrlCode = 4 →
      q.st.sent.find? (fun a => a.oseq = bytesAt sh.body 12 4) = some a →
    (a.val.isSome = true → a.who.init = 8 → q.st.jobs = [] → Answers (.regReadCompletion p) s (fun g => (g.plane p).st.sent = q.st.sent.erase a ∧
      (g.plane p).st.inbox = [] ∧ (g.plane p).st.stream = sh.stream)) ∧
    (∀ j : MgmtJob, a.who.init = j.ep → a.val = none → a.addr = j.next → j.ep < 8 → q.st.jobs = [j] → j.waiting = true → j.left = 1 →
      j.isWrite = false → bytesAt sh.body 2 1 = 0 → q.epUp j.ep = true → q.partner j.ep = none → q.st.sends = true →
      Answers (.regReadCompletion p) s (fun g => (g.plane p).st.jobs = [] ∧ (g.plane p).st.sent = q.st.sent.erase a ∧
        ∃ m ∈ (g.plane p).host.out, m.ep = j.ep ∧ m.cls = clsMgmtRsp ∧ m.tag = j.tag ∧ m.tenant = j.who.tenant ∧
          m.body = mgmtRspBody 0 0 (wordsDone (jobStep j x)) j.base (j.got ++ [x])))) ∧
  (∀ k : Fin 7, (k.val ≠ 2 → ∀ (a : Nat) (v : Word) (r : RegRow),
      sget (fun _ => none) s.f.e.posted (postedBlock k.val) = some (a, v) → s.f.e.rowOf a = some r →
      Answers (.postedWriteArrive k) s (fun g => g.e.regs.rd a = r.write (s.f.e.regs.rd a) v ∧ g.e.postBusy (postedBlock k.val) = false)) ∧
    (k.val = 2 → ∀ cal trim setAt err : Nat, s.f.e.seqr.calNew = some (cal, trim, setAt, err) →
      Answers (.postedWriteArrive k) s (fun g => g.e.seqr.cal = cal ∧ g.e.seqr.calNew = none ∧ g.e.regs.get 0 TIME_CAL_STAT_BUSY = 0 ∧
        g.e.regs.get 0 TIME_CAL_STAT_VALID = 1))) ∧
  (∀ (bad : Fin 4) (p : PlaneId), s.f.e.shadow = none → Answers (.paritySweep bad p) s (fun g =>
    (bad = 0 → g = s.f) ∧ (bad = 1 → (s.f.e.src (planeSrc p 6)).live = false → (g.e.src (planeSrc p 6)).cause = true) ∧
    (bad = 2 → (s.f.e.src 5).live = false → (g.e.src 5).cause = true) ∧ (bad = 3 → (s.f.e.src 6).live = false → (g.e.src 6).cause = true))) ∧
  (∀ (upset : Fin 256) (p : PlaneId), s.f.e.leader = some p → timeStale s.f.e (s.f.plane p) = 0 →
    Answers (.eavesCacheCompare upset) s (fun g => (upset = 0 → g = s.f) ∧ Counted s.f.e.regs g.e.regs DEVICE_DISAGREE_CNT upset.val)) ∧
  (∀ (upset : Fin 256) (p : PlaneId), upset ≠ 0 → (s.f.plane p).st.takes = true → (s.f.plane p.other).st.takes = false →
    (s.f.plane p).st.tick % 10 = 0 → Answers (.planeCacheCompare upset) s (fun g =>
      ∀ i < 32, (g.plane p).regs.rd (RICK_SNAP (i / 16) (i % 16)) = BitVec.ofNat 32 (snapGot (s.f.plane p) i)))

/-- R44, R46-R49, R288: a host's READ of one word, taken at its admission position, answers it, a WRITE writes it in every plane that stands there
and answers; a word of Eaves goes up the Rafter and the request waits. A word that does not exist is a bus error, counted with its address, and
the request ends. A request waits while the endpoint's last one is not done. -/
def Obligations.HostRequests : Prop := ∀ (s : State) (ep : Fin 8) (tenant : Fin 4096) (tag : Nat) (p : PlaneId),
  let q := s.f.plane p
  let at_ := fun (a : Nat) (wr : Option (List Word)) => s.f.actors ep.val tenant.val clsMgmtReq tag (saysMgmt a 1 wr)
  (∀ a : Nat, a < addrSpan → p ∈ at_ a none → s.f.e.leader = some p → (nextJob q ep.val).isSome = true →
    Answers (.mgmtRead ep tenant tag a 1) s (fun g => g.e = s.f.e ∧ (g.plane p).host.admitted = q.host.admitted.drop 1 ∧
      ∃ j, (g.plane p).st.jobs = q.st.jobs ++ [j] ∧ j.ep = ep.val ∧ j.tag = tag ∧ j.base = a ∧ j.waiting = false)) ∧
  (s.f.e.leader = some p → q.epUp ep.val = true → q.st.sends = true → q.partner ep.val = none → nextJob q ep.val = none →
   let Sent := fun (g : Field) (body : List Byte) => ∃ m ∈ (g.plane p).host.out, m.ep = ep.val ∧ m.cls = clsMgmtRsp ∧ m.tenant = tenant.val ∧
     m.tag = tag ∧ m.body = body
   (∀ (a : Nat) (r : RegRow), a < addrSpan → a % 4 = 0 → inEaves a = false → q.rowOf a = some r → r.guard = false → r.snap = 0 →
     p ∈ at_ a none → Answers (.mgmtRead ep tenant tag a 1) s (fun g =>
       Sent g (mgmtRspBody 0 0 1 a [r.read (q.takeAdmitted.word s.f.e tenant.val a)]) ∧ g.e = s.f.e)) ∧
   (∀ a : Nat, a < addrSpan → a % 4 = 0 → inEaves a = true →
     (p ∈ at_ a none → Answers (.mgmtRead ep tenant tag a 1) s (fun g => ∃ x ∈ (g.plane p).st.accs, x.who = ⟨ep.val, tenant.val, false⟩ ∧
       x.addr = a ∧ x.val = none ∧ x ∈ (g.plane p).st.sent ∧
       ∃ j ∈ (g.plane p).st.jobs, j.ep = ep.val ∧ j.tag = tag ∧ j.next = a ∧ j.waiting = true)) ∧
     (∀ v : Word, p ∈ at_ a (some [v]) → Answers (.mgmtWrite ep tenant tag a [v]) s (fun g => ∃ x ∈ (g.plane p).st.accs,
       x.who = ⟨ep.val, tenant.val, false⟩ ∧ x.addr = a ∧ x.val = some v ∧
       ∃ j ∈ (g.plane p).st.jobs, j.ep = ep.val ∧ j.tag = tag ∧ j.waiting = true))) ∧
   (∀ v : Word, p ∈ at_ SW_Q_SEL (some [v]) → Answers (.mgmtWrite ep tenant tag SW_Q_SEL [v]) s (fun g =>
     Sent g (mgmtRspBody 0 0 1 SW_Q_SEL []) ∧ ∀ x ∈ at_ SW_Q_SEL (some [v]),
       (g.plane x).regs.get 0 SW_Q_SEL_PORT = SW_Q_SEL_PORT.get v ∧ (g.plane x).regs.get 0 SW_Q_SEL_CLASS = SW_Q_SEL_CLASS.get v)) ∧
   (∀ a : Nat, a < addrSpan → inEaves a = false → a % 4 ≠ 0 ∨ q.rowOf a = none →
     let Fails := fun (g : Field) => Sent g (mgmtRspBody 2 0 0 a []) ∧ Counted s.f.e.regs g.e.regs DEVICE_BUSERR_CNT 1 ∧
       g.e.regs.get 0 DEVICE_BUSERR_ADDR_ADDR = a ∧ g.e.regs.get 0 DEVICE_BUSERR_ADDR_CAUSE = if a % 4 ≠ 0 then 2 else 1
     (p ∈ at_ a none → Answers (.mgmtRead ep tenant tag a 1) s Fails) ∧
     ∀ v : Word, p ∈ at_ a (some [v]) → Answers (.mgmtWrite ep tenant tag a [v]) s Fails))

/-- R47, R50, R56, R59, R61, R62, R307, R430, R509: a single access. A host's is its admitted MGMT_REQ, or reaches its own BARs; the closed test
balls reach nothing. A core's write sets the written fields; one to a guarded register without a session is counted and has no other effect;
an unaligned one is a bus error. A SNAP low word's read keeps the high word for the reader, the high word's read without one is counted; the
written low word of TRUSS_CUT_AT, the device's one 64-bit RW SNAP register, is held and applies with the high word, for every initiator; a posted
write waits, and a second is a bus error. -/
def Obligations.SingleAccesses : Prop := ∀ (s : State) (init : Fin 11) (tenant : Fin 4096) (secure : Bool),
  let w := initiator init tenant secure
  (∀ (a : Fin 536870912) (v : Word),
    (addrSpan ≤ a.val → Answers (.registerWrite init tenant secure a v) s (fun g =>
      g = if init.val < 8 then hostBar s.f init.val (a.val - addrSpan) v else s.f)) ∧
    (a.val < addrSpan → shutOut s init = true → Answers (.registerWrite init tenant secure a v) s (fun g => g = s.f)) ∧
    (∀ (ep : Fin 8) (tag : Nat), a.val < addrSpan → init.val = ep.val →
      wordTag s.f ep.val tenant.val (saysMgmt a.val 1 (some [v])) = some tag →
      exec (.registerWrite init tenant secure a v) s = exec (.mgmtWrite ep tenant tag a.val [v]) s)) ∧
  (8 ≤ init.val → shutOut s init = false →
   (∀ v : Word, Answers (.registerWrite init tenant secure (Fin.ofNat _ FLUE_SEL) v) s (fun g =>
     g.e.regs.get 0 FLUE_SEL_INDEX = FLUE_SEL_INDEX.get v ∧ g.a = s.f.a ∧ g.b = s.f.b ∧ g.h = s.f.h)) ∧
   (∀ (a : Fin 536870912) (v : Word) (r : RegRow), inEaves a.val = true → a.val % 4 = 0 → s.f.e.rowOf a.val = some r → r.guard = true →
     authorised s.f w = false → Answers (.registerWrite init tenant secure a v) s (fun g =>
       g = s.f.onE (fun e => { e with regs := g.e.regs }) ∧ Counted s.f.e.regs g.e.regs DEVICE_GUARD_CNT 1 ∧
       ∀ x, x ≠ DEVICE_GUARD_CNT → g.e.regs.rd x = s.f.e.regs.rd x)) ∧
   (∀ (a : Fin 536870912) (v : Word), inEaves a.val = true → a.val % 4 ≠ 0 → Answers (.registerWrite init tenant secure a v) s (fun g =>
     Counted s.f.e.regs g.e.regs DEVICE_BUSERR_CNT 1 ∧ g.e.regs.get 0 DEVICE_BUSERR_ADDR_ADDR = a.val ∧
     g.e.regs.get 0 DEVICE_BUSERR_ADDR_CAUSE = 2)) ∧
   (∀ (a : Fin 268435456) (r : RegRow), inEaves a.val = true → a.val % 4 = 0 → s.f.e.rowOf a.val = some r → r.guard = false →
     windowBusy s.f.e init.val a.val = false →
     (r.snap = 1 → Answers (.snapLowRead init tenant secure (Fin.ofNat _ a.val)) s (fun g =>
       tagged g.e.snaps init.val (a.val + 4) = some (s.f.eavesWord init.val (a.val + 4)))) ∧
     (r.snap = 2 → tagged s.f.e.snaps init.val a.val = none → Answers (.snapHighRead init tenant secure a) s (fun g =>
       Counted s.f.e.regs g.e.regs DEVICE_SNAPMISS_CNT 1 ∧ g.e.snaps = s.f.e.snaps))) ∧
   (∀ (a : Fin 268435456) (v : Word) (r : RegRow), inEaves a.val = true → a.val % 4 = 0 → s.f.e.rowOf a.val = some r → r.pw = true →
     r.guard = false →
     (s.f.e.postBusy (postBase a.val) = false → Answers (.postedWrite init tenant secure a v) s (fun g =>
       sget (fun _ => none) g.e.posted (postBase a.val) = some (a.val, v) ∧ g.e.regs = s.f.e.regs)) ∧
     (s.f.e.postBusy (postBase a.val) = true → Answers (.postedWrite init tenant secure a v) s (fun g =>
       Counted s.f.e.regs g.e.regs DEVICE_BUSERR_CNT 1 ∧ g.e.regs.get 0 DEVICE_BUSERR_ADDR_CAUSE = 3 ∧ g.e.posted = s.f.e.posted)))) ∧
  (let acting := fun (a : Nat) (v : Word) =>
     if init.val < 8 then
       match wordTag s.f init.val tenant.val (saysMgmt a 1 (some [v])) with
       | some tag => s.f.actors init.val tenant.val clsMgmtReq tag (saysMgmt a 1 (some [v]))
       | none => []
     else if shutOut s init then [] else runners s.f
   ∀ (p : PlaneId) (v : Word), s.f.e.leader = some p → (s.f.plane p).hasSession w.guardAs = true → nextJob (s.f.plane p) init.val = none →
    (p ∈ acting TRUSS_CUT_AT_LO v → Answers (.snapLowWrite init tenant secure (Fin.ofNat _ TRUSS_CUT_AT_LO) v) s (fun g =>
      tagged g.e.holds init.val TRUSS_CUT_AT_LO = some v ∧ ∀ x, (g.plane x).regs = (s.f.plane x).regs)) ∧
    (p ∈ acting (TRUSS_CUT_AT_LO + 4) v → Answers (.snapHighWrite init tenant secure (Fin.ofNat _ (TRUSS_CUT_AT_LO + 4)) v) s (fun g =>
      tagged g.e.holds init.val TRUSS_CUT_AT_LO = none ∧ ∀ x ∈ acting (TRUSS_CUT_AT_LO + 4) v,
        (g.plane x).regs.rd64 TRUSS_CUT_AT_LO =
          ((tagged s.f.e.holds init.val TRUSS_CUT_AT_LO).getD ((s.f.plane x).regs.rd TRUSS_CUT_AT_LO)).toNat + 2 ^ 32 * v.toNat)))

/-- R65, R66: START begins a dump at the leading plane's position, and a second one is BUSY; ABORT ends it at its next section. Each section goes
to the requester in MGMT_RSP messages of at most 1,024 words, the first after the dump header; while one waits for its credits nothing
follows. The END section, with the CRC of what went before, follows the last section or an ABORT, in the one message with FLAGS.LAST. -/
def Obligations.StateDump : Prop := ∀ s : State,
  (∀ (ep : Fin 8) (tenant : Fin 4096) (tag : Nat),
    (s.f.dump = none → Answers (.dumpStart ep tenant tag) s (fun g =>
      (∃ d, g.dump = some d ∧ d.ep = ep.val ∧ d.tenant = tenant.val ∧ d.tag = tag ∧ d.ts = s.f.e.counter ∧ d.stream = s.f.lead.st.stream ∧
        d.aborting = false ∧ d.sect = 0 ∧ d.sentBytes = 0 ∧ d.scope = s.f.e.regs.get 0 DEVICE_DUMP_CTL_SCOPE % 512) ∧
      g.e.regs.get 0 DEVICE_DUMP_STAT_RUNNING = 1 ∧ g.e.regs.get 0 DEVICE_DUMP_STAT_SECTIONS = 0 ∧ g.a = s.f.a ∧ g.b = s.f.b)) ∧
    (s.f.dump.isSome = true → Answers (.dumpStart ep tenant tag) s (fun g => g = s.f))) ∧
  Answers .dumpAbort s (fun g => g = { s.f with dump := s.f.dump.map (fun d => { d with aborting := true }) }) ∧
  (s.f.dump = none → Answers .dumpSection s (fun g => g = s.f)) ∧
  (∀ d : Dump, s.f.dump = some d →
    (dumpWaits s.f d = true → Answers .dumpSection s (fun g => g = s.f)) ∧
    (∀ p : PlaneId, dumpWaits s.f d = false → s.f.e.leader = some p →
      let q := s.f.plane p
      let head := if d.sentBytes = 0 then dumpHeader s.f d else []
      let Sent := fun (g : Field) (last : Bool) (bs : List Byte) => ∃ m ∈ (g.plane p).host.out, m.ep = d.ep ∧ m.cls = clsMgmtRsp ∧
        m.tenant = d.tenant ∧ m.tag = d.tag ∧ m.last = last ∧ bytesAt m.body 4 4 = d.sentBytes % 2 ^ 32 ∧ m.body.drop 16 = bs
      q.st.takes = true → q.st.sends = true → q.epUp d.ep = true → q.partner d.ep = none →
      (∀ x, d.aborting = false → dumpSec d.scope dumpRuns d.sect = some x →
        let bs := head ++ secBytes s.f d x
        Answers .dumpSection s (fun g =>
          g.dump = some { d with sect := d.sect + 1, sentBytes := d.sentBytes + bs.length, crc := crcOn d.crc bs } ∧
          Sent g false (bs.take 4096) ∧
          g.e.regs.get 0 DEVICE_DUMP_STAT_SECTIONS = satAdd 24 (s.f.e.regs.get 0 DEVICE_DUMP_STAT_SECTIONS) 1)) ∧
      (d.aborting = true ∨ dumpSec d.scope dumpRuns d.sect = none →
        let h := secHeader 4 0 0 0 1 q.st.stream
        Answers .dumpSection s (fun g => g.dump = none ∧
          Sent g true (head ++ h ++ leBytes 4 (crcOn (crcOn d.crc head) h ^^^ 0xFFFFFFFF)) ∧
          g.e.regs.get 0 DEVICE_DUMP_STAT_RUNNING = 0 ∧
          g.e.regs.get 0 (if d.aborting = true then DEVICE_DUMP_STAT_ABORTED else DEVICE_DUMP_STAT_DONE) = 1))))

/-! Trusses and turns. -/

/-- R58, R59, R69, R73-R76, R93: the actions of the TRUSS block. Without a session each is counted and has no other effect; where no truss passes
none is asked for (log entry 40). OPEN erases the other slot of both planes and receives; a refused one leaves ERROR 10; VERIFY, DISCARD and
FLOOR_COMMIT have their effect in both planes; a chunk in order is programmed, another is not; the verification ends in STAGED, which ends hold
NO_TRUSS, or in REJECTED with its ERROR. -/
def Obligations.Staging : Prop := ∀ (s : State) (tenant : Fin 4096),
  let f := s.f
  (f.lead.hasSession tenant.val = false → noTruss f = false → ∀ (c : Instr) (cold : Bool),
    (c = .trussOpen tenant ∨ c = .trussVerify tenant ∨ c = .trussDiscard tenant ∨ c = .floorCommit tenant ∨ c = .turnStart tenant cold ∨
      c = .turnAbort tenant) → Answers c s (fun g => g.a = f.a ∧ g.b = f.b ∧ g.turn = f.turn ∧
        Counted f.e.regs g.e.regs DEVICE_GUARD_CNT 1)) ∧
  (f.lead.hasSession tenant.val = true ∨ noTruss f = true →
    (stagingOk f = true →
      Answers (.trussOpen tenant) s (fun g => ∀ p, (g.plane p).nv.slotRec.otherState = 1 ∧ (g.plane p).nv.otherFlash = FlashSlot.erased) ∧
      Answers (.trussVerify tenant) s (fun g => ∀ p, (g.plane p).nv.slotRec.otherState = 2)) ∧
    (stagingOk f = false → ∀ c : Instr, (c = .trussOpen tenant ∨ c = .trussVerify tenant) → Answers c s (fun g => ∀ p,
      (g.plane p).nv.slotRec = { (f.plane p).nv.slotRec with otherErr := 10 } ∧ (g.plane p).nv.otherFlash = (f.plane p).nv.otherFlash ∧
      (g.plane p).regs.get 0 TRUSS_STAGE_STAT_ERROR = 10)) ∧
    (f.phase = 0 → Answers (.trussDiscard tenant) s (fun g => ∀ p, (g.plane p).nv.slotRec.otherState = 0)) ∧
    Answers (.floorCommit tenant) s (fun g => (∀ p, (g.plane p).nv.floor = f.lead.nv.slotRec.activeVer) ∧
      g.e.regs.rd BBR_FLOOR = BitVec.ofNat 32 f.lead.nv.slotRec.activeVer ∧ g.e.regs.rd BBR_FLOOR_INV = ~~~(g.e.regs.rd BBR_FLOOR) ∧
      ∀ p, (f.plane p).nv.slotRec.otherState = 4 → (f.plane p).nv.slotRec.otherVer < f.lead.nv.slotRec.activeVer →
        (g.plane p).nv.slotRec.otherState = 5 ∧ (g.plane p).nv.slotRec.otherErr = 7)) ∧
  (∀ (ep : Fin 8) (tag offset : Nat) (data : List Byte) (p : PlaneId),
    (noTruss f = true ∨ p ∈ f.actors ep.val tenant.val clsTruss tag (fun b => bytesAt b 0 4 = offset && decide (b.drop 8 = data))) →
    (offset % 64 = 0 → offset + data.length ≤ 33554432 → (f.plane p).nv.slotRec.otherState = 1 →
      Answers (.trussChunk ep tenant tag offset data) s (fun g =>
        (g.plane p).nv.otherFlash = (f.plane p).nv.otherFlash.program offset data ∧ (g.plane p).nv.slotRec = (f.plane p).nv.slotRec)) ∧
    (offset < 2 ^ 32 → offset % 64 ≠ 0 ∨ 33554432 < offset + data.length ∨ (f.plane p).nv.slotRec.otherState ≠ 1 →
      Answers (.trussChunk ep tenant tag offset data) s (fun g => (g.plane p).nv = (f.plane p).nv))) ∧
  (f.lead.nv.slotRec.otherState = 2 →
    Answers (.trussVerifyDone true) s (fun g => ∀ p, (g.plane p).nv.slotRec.otherState = 5 ∧ (g.plane p).nv.slotRec.otherErr = 9) ∧
    Answers (.trussVerifyDone false) s (fun g =>
      let eA := verifyOther f .A s.otpA
      let eB := verifyOther f .B s.otpB
      let same := Config.sha384 f.a.nv.otherFlash.image = Config.sha384 f.b.nv.otherFlash.image
      (eA = 0 → eB = 0 → same → (∀ p, (g.plane p).nv.slotRec.otherState = 3 ∧ (g.plane p).nv.slotRec.otherErr = 0) ∧
        (f.e.mode = .safe → bit g.e.seqr.holds 2 = false)) ∧
      (eA ≠ 0 → g.a.nv.slotRec.otherState = 5 ∧ g.a.nv.slotRec.otherErr = eA) ∧
      (eB ≠ 0 → g.b.nv.slotRec.otherState = 5 ∧ g.b.nv.slotRec.otherErr = eB) ∧
      (eA = 0 → (eB ≠ 0 ∨ ¬ same) → g.a.nv.slotRec.otherState = 5 ∧ g.a.nv.slotRec.otherErr = 8)))

/-- R83-R89: a turn. START is refused with the DETAIL of the first check that fails, else the SHADOW plane restarts in LOADING; it loads,
qualifies, and is ARMED as SHADOW on the new truss once it is level and its Ridge pairs are up; a failed structure check, a failed vector, the
time limit and ABORT end the turn with its RESULT, and ABORT from DRAINING on is ignored. -/
def Obligations.Turns : Prop := ∀ (s : State) (p : PlaneId),
  let f := s.f
  let Ends := fun (g : Field) (result detail : Nat) => g.turn = Turn.idle ∧ g.phase = 0 ∧ g.lead.regs.get 0 TRUSS_TURN_STAT_RESULT = result ∧
    g.lead.regs.get 0 TRUSS_TURN_STAT_DETAIL = detail ∧ g.e.role p = .rejoining
  (∀ (tenant : Fin 4096) (cold : Bool), f.lead.hasSession tenant.val = true →
    (∀ d, turnRefusal f cold = some d → Answers (.turnStart tenant cold) s (fun g => g.lead.regs.get 0 TRUSS_TURN_STAT_RESULT = 7 ∧
      g.lead.regs.get 0 TRUSS_TURN_STAT_DETAIL = d ∧ g.phase = f.phase ∧ g.turn = f.turn)) ∧
    (turnRefusal f cold = none → f.e.role p = .shadow → f.e.role p.other = .leading → Answers (.turnStart tenant cold) s (fun g =>
      g.e.role p = .rejoining ∧ g.e.role p.other = .leading ∧ g.phase = 1 ∧
      g.turn = { Turn.idle with newPlane := some p, oldVer := f.lead.nv.slotRec.activeVer, newVer := f.otherVer })) ∧
    (f.turn.newPlane = some p → f.e.role p.other = .leading → f.e.role p ≠ .leading → 1 ≤ f.phase → f.phase ≤ 4 →
      Answers (.turnAbort tenant) s (fun g => Ends g 2 0)) ∧
    (4 < f.phase → Answers (.turnAbort tenant) s (fun g => g = f))) ∧
  (f.turn.newPlane = some p → f.e.role p.other = .leading → f.e.role p ≠ .leading →
    (∀ dt, f.phase = 1 → Answers (.turnReloadDone dt) s (fun g => g.phase = 2 ∧ g.e.stageOf p = 3 ∧ g.turn.loaded = true ∧
      (g.plane p).st.newT = true ∧ (g.plane p).truss = parseTruss (f.plane p).nv.otherFlash.image)) ∧
    (1 ≤ f.phase → f.phase ≤ 4 → Answers .inactiveBankFilled s (fun g => g.turn.bankFilled = true ∧
      g.e.inact = parseTruss f.lead.nv.otherFlash.image ∧ g.e.live = f.e.live)) ∧
    (f.phase = 2 → (∀ checkDt vectorDt, Answers (.qualifyDone checkDt vectorDt) s (fun g =>
        (structPass (f.plane p) = false → Ends g 3 1) ∧
        (structPass (f.plane p) = true → vectorsPass s p = false → Ends g 3 2) ∧
        (structPass (f.plane p) = true → vectorsPass s p = true → g.phase = 3 ∧ g.e.stageOf p = 4))) ∧
      (∀ dt, f.turn.qualStart + (f.plane p).truss.qual * 1000000 ≤ (f.e.at dt).counter →
        Answers (.qualLimitExpire dt) s (fun g => Ends g 3 3))) ∧
    (f.phase = 3 → f.e.stageOf p = 5 → (f.plane p).st.inbox = [] → f.h.pairUp .HA p = true → f.h.pairUp .HB p = true →
      Answers .armed s (fun g => g.phase = 4 ∧ g.e.role p = .shadow ∧
      g.e.stageOf p = 0 ∧ (g.plane p).st.sends = true ∧
      (f.turn.bankFilled = true → f.lead.regs.rd64 TRUSS_CUT_AT_LO = 0 → f.e.merger.sched = [] → g.e.merger.sched = [⟨2, .cut, f.e.counter⟩]))))

/-- R84 steps 10-12, R88, R112, R147, R172: a drained port passes with what Eaves and the halves hold for it of causes from the cut on, and goes on
with the new-truss plane's output sequences; a port past its limit passes and loses what the old plane holds of causes before the cut; with the
last one the new-truss plane leads. A queued unit is released to Eaves while the model of its port has room. -/
def Obligations.DrainsAndReleases : Prop := ∀ (s : State) (p : PlaneId),
  let f := s.f
  let q := f.plane p
  let new := f.plane p.other
  (f.e.leader = some p → f.phase = 5 → q.st.past = true → new.st.me = p.other → ∀ port : Fin 176, f.turn.drained.contains port.val = false →
    (undrained q port.val = 0 →
      ((∃ x < 176, x ≠ port.val ∧ f.turn.drained.contains x = false) → Answers (.portDrained port) s (fun g =>
        g.turn.drained = f.turn.drained ++ [port.val] ∧ g.e.role p = .leading ∧
        (port.val < 168 → g.e.sel.nextOf port.val = new.nextCand port.val ∧ ∀ c ∈ f.e.sel.hold, c.port = port.val → c ∉ g.e.sel.hold ∧
          (c.src = p.other → f.e.sel.cut ≤ c.cause → f.e.sel.recording = true → c ∈ g.e.stage)) ∧
        (168 ≤ port.val → ∀ x ∈ f.h.hold, heldBulk p.other (port.val - 168) x = true → x ∉ g.h.hold ∧
          (f.e.sel.cut ≤ x.2.cause → f.e.sel.recording = true → f.h.proxyOld = [] → x.2 ∈ g.h.toHost)))) ∧
      ((∀ x < 176, x ≠ port.val → f.turn.drained.contains x = true) → Answers (.portDrained port) s (fun g =>
        g.e.role p.other = .leading ∧ g.e.role p = .rejoining ∧ g.phase = 6 ∧ (g.plane p.other).st.newT = false))) ∧
    (∀ dt, 0 < undrained q port.val → f.turn.cutAt + new.truss.drain * 1000000 ≤ (f.e.at dt).steady (f.e.at dt).counter →
      (∃ x < 176, x ≠ port.val ∧ f.turn.drained.contains x = false) → Answers (.drainLimitExpire port dt) s (fun g =>
        g.turn.drained = f.turn.drained ++ [port.val] ∧ undrained (g.plane p) port.val = 0 ∧
        ∀ x, Counted (f.plane x).regs (g.plane x).regs TRUSS_CUT_DROP (undrained q port.val)))) ∧
  (∀ (n : Fin 128) (u : QUnit), q.ready = true → q.st.past = false → q.st.sends = true → q.queue (qkey n.val 0) = [u] →
    (q.busOf n.val).ends = [] → Answers (.slotRelease p n) s (fun g => (g.plane p).queue (qkey n.val 0) = [] ∧
      (∃ c, (g.plane p).st.up = q.st.up ++ [c] ∧ c.port = n.val ∧ c.cause = u.sh.stream ∧ c.gen = u.gen ∧ c.unit.body = u.sh.body) ∧
      ((g.plane p).busOf n.val).ends = [q.std q.st.ts + q.slotNs n.val u.sh true true])) ∧
  (∀ n : Fin 128, q.ready = true → (∀ x ∈ (q.busOf n.val).ends, q.std q.st.ts < x) →
    (q.pers n.val ≠ 4 → 28 ≤ (q.busOf n.val).ends.length) → q.pers n.val ≠ 4 → Answers (.slotRelease p n) s (fun g => g = f)) ∧
  (∀ (port : Fin 40) (k : Nat) (u : QUnit), k < 8 →
    let n := 128 + port.val
    let b := frameBytes u.sh.body.length
    q.ready = true → q.st.past = false → q.st.sends = true → (q.linkOf n).isSome = true → q.msOn n = none →
    (∀ j < 8, q.queue (qkey n j) = if j = k then [u] else []) →
    ((q.model n).runTo (q.modelCfg n) q.st.ts).bytes k < classLimit n → (q.modelCfg n).everFits k b = true →
    Answers (.ethRelease p port) s (fun g => (g.plane p).queue (qkey n k) = [] ∧
      (∃ c, (g.plane p).st.up = q.st.up ++ [c] ∧ c.port = n ∧ c.qclass = k ∧ c.cause = u.sh.stream ∧ c.gen = u.gen ∧ c.unit.body = u.sh.body) ∧
      (k, b) ∈ ((g.plane p).model n).waiting))

/-! The Kiln. -/

/-- R326-R329, R332, R346: life cycle and provisioning. ARM arms an allowed transition with CONFIRM 0xC0DE, else RESULT is REFUSED; without
the right each is counted and does nothing. A revocation and each provisioned item change the OTP of both planes alike; a refused item, a
blob that does not open and an item that is not asked for change no OTP; ESCROW waits for randomness that the pool lacks. A destroyed handle
loses its key at a later TICK. -/
def Obligations.KeyLifeCycle : Prop := ∀ (s : State) (p : PlaneId) (tenant : Fin 4096),
  let f := s.f
  let q := f.plane p
  let Status := fun (n : Nat) (g : Field) => (g.plane p).regs.get 0 KILN_PROV_STAT_STATUS = n ∧
    (g.plane p).regs.get 0 KILN_PROV_STAT_PENDING = 0 ∧ (g.plane p).kiln.prov = none
  f.e.leader = some p → q.st.takes = true →
  (∀ (tgt : Fin 16) (confirm : Fin 65536),
    (q.hasRight tenant.val 0 = false → Answers (.lcArm tenant tgt confirm) s (fun g => (g.plane p).nv = q.nv ∧
      Counted f.e.regs g.e.regs DEVICE_GUARD_CNT 1) ∧ Answers (.lcDisarm tenant) s (fun g => (g.plane p).nv = q.nv)) ∧
    (q.hasRight tenant.val 0 = true →
      (confirm.val = 0xC0DE → lcAllowed s.otpA tgt.val = true → Answers (.lcArm tenant tgt confirm) s (fun g =>
        (g.plane p).nv.kiln.armed = some tgt.val ∧ (g.plane p).regs.get 0 KILN_LC_STAT_ARMED = 1 ∧
        (g.plane p).regs.get 0 KILN_LC_STAT_TARGET = tgt.val)) ∧
      (confirm.val ≠ 0xC0DE ∨ lcAllowed s.otpA tgt.val = false → Answers (.lcArm tenant tgt confirm) s (fun g =>
        (g.plane p).nv.kiln.armed = q.nv.kiln.armed ∧ (g.plane p).regs.get 0 KILN_LC_STAT_RESULT = 2)) ∧
      Answers (.lcDisarm tenant) s (fun g => (g.plane p).nv.kiln.armed = none ∧ (g.plane p).regs.get 0 KILN_LC_STAT_ARMED = 0))) ∧
  (∀ k : Fin 4, q.hasRight tenant.val 0 = true →
    (slotsLeft s.otpA k.val ≠ [] → s.otpA.revoked.contains k.val = false →
      Fuses (.kilnRevoke tenant k) s (fun o => { o with revoked := o.revoked ++ [k.val] }) (fun g =>
        g.a.regs.get 0 KILN_LC_REVOKED = (Otp.revokedBits { s.otpA with revoked := s.otpA.revoked ++ [k.val] }))) ∧
    (slotsLeft s.otpA k.val = [] → Answers (.kilnRevoke tenant k) s (fun g => g = f))) ∧
  (provPending f 1 = true →
    let opened := openBlob (Config.kdf Config.rootV (ascii "OEMROOT") serialBe 32) serialBe (provData q 60)
    (s.otpA.lc ≠ 1 ∨ s.otpA.rootO.isSome = true → Answers .provRootO s (Status 2)) ∧
    (s.otpA.lc = 1 → s.otpA.rootO = none → Fuses .provRootO s (fun o => match opened with
        | some key => { o with rootO := some key }
        | none => o) (Status (if opened.isSome = true then 0 else 6)))) ∧
  (provPending f 2 = true → s.otpA.digests.any (·.1 = 2) = false →
    (s.otpA.lc = 1 → Fuses .provDigest2 s (fun o => { o with digests := o.digests ++ [(2, provData q 48)] }) (Status 0)) ∧
    (s.otpA.lc ≠ 1 → Answers .provDigest2 s (Status 2))) ∧
  (provPending f 3 = true → s.otpA.digests.any (·.1 = 3) = false →
    (s.otpA.lc = 1 ∨ s.otpA.lc = 2 → Fuses .provDigest3 s (fun o => { o with digests := o.digests ++ [(3, provData q 48)] }) (Status 0)) ∧
    (s.otpA.lc ≠ 1 → s.otpA.lc ≠ 2 → Answers .provDigest3 s (Status 2))) ∧
  (provPending f 4 = true → s.otpA.lc = 1 → s.otpA.retention = none →
    let days := (q.regs.rd (KILN_PROV_DATA 0)).toNat
    (365 ≤ days → days ≤ 1095 → Fuses .provRetention s (fun o => { o with retention := some days }) (Status 0)) ∧
    (days < 365 ∨ 1095 < days → Answers .provRetention s (Status 2))) ∧
  (provPending f 5 = true → (s.otpA.lc ≠ 2 → Answers .provEscrow s (Status 2)) ∧
    (s.otpA.lc = 2 → q.kiln.randSeen = false → Answers .provEscrow s (Status 8)) ∧
    (s.otpA.lc = 2 → q.kiln.randSeen = true → q.mayDraw 1 12 = false → Answers .provEscrow s (fun g =>
      (g.plane p).kiln.waits.contains 1 = true ∧ (g.plane p).kiln.prov = q.kiln.prov)) ∧
    (s.otpA.lc = 2 → q.mayDraw 1 12 = true → Answers .provEscrow s (fun g => Status 0 g ∧
      (g.plane p).st.pool = q.st.pool.drop 12 ∧ ∀ i < 3, (g.plane p).regs.rd (KILN_PROV_DATA i) = BitVec.ofNat 32 (bytesAt q.st.pool (4 * i) 4)))) ∧
  (∀ h : Fin 1024, (q.hasSession tenant.val = true → Answers (.kilnDestroy tenant h) s (fun g =>
      (g.plane p).kiln.destroyQ = q.kiln.destroyQ ++ [(h.val, q.st.tick)])) ∧
    (q.hasSession tenant.val = false → Answers (.kilnDestroy tenant h) s (fun g => g.a = f.a ∧ g.b = f.b ∧
      Counted f.e.regs g.e.regs DEVICE_GUARD_CNT 1))) ∧
  Answers .keyDestroyApply s (fun g => (g.plane p).kiln.destroyQ = q.kiln.destroyQ.filter (fun x => ¬ x.2 < q.st.tick) ∧
    ∀ x ∈ q.kiln.destroyQ, x.2 < q.st.tick → ((g.plane p).keySlot x.1).state = 3 ∧ ((g.plane p).keySlot x.1).key = [])

/-- R325, R336-R338: WORKSHOP sessions. OPEN takes 32 bytes of the pool as a challenge for 60 s, waits for them, or is LOCKED or NOT_READY; SUBMIT
opens a session, or counts a failure and may lock; a session ends at CLOSE and at its LIFETIME; a challenge and a lockout end in time. The MKA
frame of a port goes out with its ICV through the port's queue, and the key server's SAK becomes the port's association. -/
def Obligations.WorkshopSessions : Prop := ∀ (s : State) (p : PlaneId),
  let f := s.f
  let q := f.plane p
  let Shows := fun (n : Nat) (g : Field) => (g.plane p).regs.get 0 CPH_SESS_STAT_STATUS = n ∧
    (g.plane p).regs.get 0 CPH_SESS_STAT_PENDING = 0 ∧ (g.plane p).kiln.ask = none
  f.e.leader = some p → q.st.takes = true →
  (∀ l : Later, q.kiln.ask = some l → l.since < q.st.tick →
    (l.what = 1 →
      (q.st.tick < q.kiln.lockUntil → Answers .sessionOpen s (Shows 10)) ∧
      (q.kiln.lockUntil ≤ q.st.tick → q.kiln.randSeen = false → Answers .sessionOpen s (Shows 8)) ∧
      (q.kiln.lockUntil ≤ q.st.tick → q.kiln.randSeen = true → q.mayDraw 0 32 = false → Answers .sessionOpen s (fun g =>
        (g.plane p).kiln.waits.contains 0 = true ∧ (g.plane p).kiln.ask = some l)) ∧
      (q.kiln.lockUntil ≤ q.st.tick → q.mayDraw 0 32 = true → Answers .sessionOpen s (fun g => Shows 0 g ∧
        (g.plane p).kiln.chal = some ⟨l.tenant, q.st.pool.take 32, q.st.tick + 6000000⟩ ∧ (g.plane p).st.pool = q.st.pool.drop 32 ∧
        ∀ i < 8, (g.plane p).regs.rd (CPH_SESS_CHAL i) = BitVec.ofNat 32 (bytesAt q.st.pool (4 * i) 4)))) ∧
    (l.what = 2 → Answers .sessionSubmit s (fun g =>
      (q.submitOk l.tenant = true → Shows 0 g ∧ (g.plane p).hasSession l.tenant = true ∧
        (g.plane p).nv.kiln.fails = 0 ∧ (g.plane p).kiln.chal = none ∧ (f.e.mode = .service → g.e.mode = .workshop)) ∧
      (q.submitOk l.tenant = false → Shows 7 g ∧ (g.plane p).kiln.sess = q.kiln.sess ∧
        (g.plane p).nv.kiln.fails = q.nv.kiln.fails + 1 ∧ Counted q.regs (g.plane p).regs CPH_SESS_FAIL 1 ∧
        (g.plane p).kiln.lockUntil = q.st.tick + lockTime (q.nv.kiln.fails + 1) * 100000)))) ∧
  (∀ tenant : Fin 4096, Answers (.sessionClose tenant) s (fun g => (∀ x ∈ (g.plane p).kiln.sess, x.tenant ≠ tenant.val) ∧
    (f.e.mode = .workshop → (g.plane p).kiln.sess = [] → g.e.mode = .service))) ∧
  (∀ c, q.kiln.chal = some c → Answers .challengeExpire s (fun g =>
    (g.plane p).kiln.chal = if c.until_ ≤ q.st.tick then none else some c)) ∧
  Answers .sessionLifetimeExpire s (fun g => (∀ x ∈ (g.plane p).kiln.sess, q.st.tick < x.until_) ∧
    ∀ x ∈ q.kiln.sess, q.st.tick < x.until_ → x ∈ (g.plane p).kiln.sess) ∧
  (q.kiln.lockUntil ≤ q.st.tick → q.regs.get 0 CPH_SESS_STAT_STATUS = 10 → Answers .sessionLockoutExpire s (fun g =>
    (g.plane p).kiln.lockUntil = 0 ∧ (g.plane p).regs.get 0 CPH_SESS_STAT_STATUS = 0)) ∧
  (∀ (port : Fin 24) (r : Rec),
    let n := 128 + port.val
    let m := q.msPort n
    let len := algBytes (r.u 1 1)
    let cak := (q.keySlot (r.u 2 2)).key
    let key := fun (label : String) => fitBytes cak.length (Config.mkaKdf cak (ascii label) (fitBytes 16 ((r.bytes 48).drop 8 |>.take (r.u 7 1))) cak.length)
    let sent := fun (x : Plane) (wrapped : List Byte) =>
      let body := Config.mkaFrame port.val (m.mn + 1) wrapped
      (x.fwSend n false (body ++ fitBytes 16 (Config.cmac (key "IEEE8021 ICK") body))).releaseAll
    let sak := q.st.pool.take len
    let an := (m.tx.elim 3 (·.an) + 1) % 4
    q.msOn n = some r →
    (cak ≠ [] → m.cak = cak →
      Answers (.mkaPeriod port false) s (fun g => g.plane p = sent (q.onMs n (fun st => { st with mn := st.mn + 1 })) []) ∧
      (m.wantSak = true → q.mayDraw (16 + port.val) len = true → Answers (.mkaPeriod port true) s (fun g =>
        ∃ x, g.plane p = sent x (Config.keyWrap (key "IEEE8021 KEK") sak) ∧ (x.msPort n).tx = some ⟨an, sak, 1⟩ ∧
          (x.msPort n).wantSak = false ∧ (∀ ch ∈ (x.msPort n).rx, (⟨an, sak, 1⟩ : Assoc) ∈ ch.2) ∧ x.st.pool = q.st.pool.drop len))) ∧
    ((cak = [] ∨ m.cak ≠ cak) → q.keyOk (r.u 2 2) 4 = false →
      Answers (.mkaPeriod port false) s (fun g => g.plane p = q.releaseAll)))

/-- R315, R331, R334, R339, R343, R345: a cipher job ends with its status and writes its results: lengths out of range end it with RANGE, a key
that it may not use with DENIED or EXHAUSTED; the two verifying jobs end with AUTH_FAIL on a wrong tag; a job takes one use of its key. A RANDOM
job waits for bytes that the pool lacks; an IMPORT fills its handle where requester, wrapping key, version and tag pass. -/
def Obligations.CipherJobs : Prop := ∀ (s : State) (p : PlaneId) (n : Fin 4),
  let q := s.f.plane p
  let k := n.val
  let h := q.regs.get 0 (CPH_JOB_KEY_HANDLE k)
  let key := (q.keySlot h).key
  let len := q.regs.get 0 (CPH_JOB_LEN_TAG_LEN k)
  let Ends := fun (status : Nat) (g : Field) => (g.plane p).regs.get 0 (CPH_JOB_STAT_STATUS k) = status ∧
    (g.plane p).regs.get 0 (CPH_JOB_STAT_PENDING k) = 0 ∧ sget (fun _ => none) (g.plane p).kiln.jobs k = none
  let Text := fun (g : Field) (bs : List Byte) => jobBytes (g.plane p) k (q.regs.get 0 (CPH_JOB_LEN_AAD_LEN k)) bs.length = bs
  let Tag := fun (g : Field) (bs : List Byte) => (jobWords (g.plane p) (CPH_JOB_TAG k) 4).take len = fitBytes len bs
  let Used := fun (g : Field) => ((q.keyRec h).u 8 4 ≠ 0 → (q.keySlot h).uses = 1 → ((g.plane p).keySlot h).state = 2) ∧
    ((q.keyRec h).u 8 4 ≠ 0 → 1 < (q.keySlot h).uses → ((g.plane p).keySlot h).uses = (q.keySlot h).uses - 1)
  q.st.takes = true →
  (∀ (c : Instr) (code : Nat) (l : Later) (usage : Nat → Bool),
    ((c, code) = (.gcmEncrypt n, 1) ∧ usage = (bit · 0)) ∨ ((c, code) = (.gcmDecrypt n, 2) ∧ usage = (bit · 1)) ∨
      ((c, code) = (.ctrCrypt n, 3) ∧ usage = (fun u => bit u 0 || bit u 1)) ∨ ((c, code) = (.macGen n, 4) ∧ usage = (bit · 2)) ∨
      ((c, code) = (.macVerify n, 5) ∧ usage = (bit · 3)) →
    jobOf q k code = some l →
    (jobRange q k = true → Answers c s (Ends 3)) ∧
    (jobRange q k = false → ∀ st, jobKey q h l.tenant usage = some st → Answers c s (Ends st)) ∧
    (jobRange q k = false → jobKey q h l.tenant usage = none → q.regs.get 0 (CPH_JOB_KEY_RAND_IV k) = 0 → Answers c s (fun g => Used g ∧
      (code = 1 → Ends 0 g ∧ Text g (fitBytes (jobText q k).length (Config.gcmText key (jobWords q (CPH_JOB_IV k) 3) (jobAad q k) (jobText q k))) ∧
        Tag g (Config.gcmTag key (jobWords q (CPH_JOB_IV k) 3) (jobAad q k)
          (fitBytes (jobText q k).length (Config.gcmText key (jobWords q (CPH_JOB_IV k) 3) (jobAad q k) (jobText q k))))) ∧
      (code = 2 → Text g (fitBytes (jobText q k).length (Config.gcmText key (jobWords q (CPH_JOB_IV k) 3) (jobAad q k) (jobText q k))) ∧
        Ends (if fitBytes len (Config.gcmTag key (jobWords q (CPH_JOB_IV k) 3) (jobAad q k) (jobText q k)) =
          (jobWords q (CPH_JOB_TAG k) 4).take len then 0 else 6) g) ∧
      (code = 3 → Ends 0 g ∧ Text g (fitBytes (jobText q k).length (Config.ctrText key (jobWords q (CPH_JOB_IV k) 4) (jobText q k)))) ∧
      (code = 4 → Ends 0 g ∧ Tag g (Config.cmac key (jobText q k))) ∧
      (code = 5 → Ends (if fitBytes len (Config.cmac key (jobText q k)) = (jobWords q (CPH_JOB_TAG k) 4).take len then 0 else 6) g)))) ∧
  (∀ l : Later, jobOf q k 6 = some l → jobRange q k = false →
    (q.kiln.randSeen = false → Answers (.randomBytes n) s (Ends 8)) ∧
    (q.kiln.randSeen = true → q.mayDraw (2 + k) (q.regs.get 0 (CPH_JOB_LEN_TEXT_LEN k)) = false → Answers (.randomBytes n) s (fun g =>
      (g.plane p).kiln.waits.contains (2 + k) = true ∧ (g.plane p).kiln.jobs = q.kiln.jobs)) ∧
    (q.mayDraw (2 + k) (q.regs.get 0 (CPH_JOB_LEN_TEXT_LEN k)) = true → Answers (.randomBytes n) s (fun g => Ends 0 g ∧
      Text g (q.st.pool.take (q.regs.get 0 (CPH_JOB_LEN_TEXT_LEN k))) ∧
      (g.plane p).st.pool = q.st.pool.drop (q.regs.get 0 (CPH_JOB_LEN_TEXT_LEN k))))) ∧
  (∀ l : Later, jobOf q k 7 = some l →
    let r := q.keyRec h
    let ver := (q.regs.rd (CPH_JOB_IV k 0)).toNat
    let blob := jobBytes q k (q.regs.get 0 (CPH_JOB_LEN_AAD_LEN k)) (28 + algBytes (r.u 1 1))
    let opened := openBlob (q.keySlot (r.u 6 2)).key (serialBe ++ beBytes 2 h ++ beBytes 4 ver) blob
    (jobRange q k = true → Answers (.importKey n) s (Ends 3)) ∧
    (jobRange q k = false → r.u 0 1 ≠ 2 ∨ (r.u 4 2 ≠ l.tenant ∧ q.hasSession l.tenant = false) → Answers (.importKey n) s (Ends 7)) ∧
    (jobRange q k = false → r.u 0 1 = 2 → (r.u 4 2 = l.tenant ∨ q.hasSession l.tenant = true) → (q.keySlot (r.u 6 2)).state = 2 →
      Answers (.importKey n) s (Ends 9)) ∧
    (jobRange q k = false → r.u 0 1 = 2 → (r.u 4 2 = l.tenant ∨ q.hasSession l.tenant = true) → q.keyOk (r.u 6 2) 5 = true →
      (ver ≤ sget (fun _ => 0) q.nv.kiln.vers h → Answers (.importKey n) s (Ends 7)) ∧
      (sget (fun _ => 0) q.nv.kiln.vers h < ver → Answers (.importKey n) s (fun g => (opened = none → Ends 6 g) ∧
        (∀ bs, opened = some bs → Ends 0 g ∧ ((g.plane p).keySlot h).state = 1 ∧
          ((g.plane p).keySlot h).key = bs ∧ ((g.plane p).keySlot h).fvRx = 0 ∧ sget (fun _ => 0) (g.plane p).nv.kiln.vers h = ver)))))

/-- R302, R337, R340-R344: an enabled tamper input that comes to its active level, or the mesh that fails, latches, destroys every key, ends the
sessions and takes the device to SAFE under hold 1; another level is only noted; a session clears the latch. Entropy becomes ready, or fails into SAFE; a health failure is INFO. FORCE frees a semaphore for a session. -/
def Obligations.TamperAndEntropy : Prop := ∀ (s : State) (p : PlaneId),
  let f := s.f
  let e := f.e
  let Safe := fun (g : Field) (src : Nat) => (g.e.src src).cause = true ∧ (g.e.src src).live = true ∧ g.e.mode = .safe
  (∀ (src : Fin 5) (high : Bool) (slept : Nat), e.pstate = .p0 →
    let active := bit e.seqr.tamperEn src.val && (if src.val = 4 then high else high == bit e.seqr.tamperPol src.val)
    (active = true → e.mode = .service → e.seqr.kind = .idle → e.seqr.off = false → (e.src 13).live = false →
      Answers (.tamperActivation src ⟨high, slept⟩) s (fun g => Safe g 13 ∧ bit g.e.seqr.tamperHigh src.val = high ∧
        g.e.regs.get 0 BBR_TAMPER_LATCHED = 1 ∧ bit (g.e.regs.get 0 BBR_TAMPER_SOURCE) src.val = true ∧ bit g.e.seqr.holds 0 = true ∧
        (g.plane p).kiln.sess = [] ∧ ∀ h < 1024, ((g.plane p).keySlot h).state = 3 ∧ ((g.plane p).keySlot h).key = [])) ∧
    (active = false → Answers (.tamperActivation src ⟨high, slept⟩) s (fun g => g.a = f.a ∧ g.b = f.b ∧ g.e.regs = e.regs ∧ g.e.mode = e.mode ∧
      bit g.e.seqr.tamperHigh src.val = high))) ∧
  (∀ tenant : Fin 4096, (f.lead.hasSession tenant.val = true → Answers (.tamperLatchClear tenant) s (fun g =>
      g.e.regs.get 0 BBR_TAMPER_LATCHED = 0 ∧ g.e.regs.get 0 BBR_TAMPER_SOURCE = 0 ∧ g.e.regs.rd64 BBR_TAMPER_S_LO = 0)) ∧
    (f.lead.hasSession tenant.val = false → Answers (.tamperLatchClear tenant) s (fun g =>
      g.e.regs.get 0 BBR_TAMPER_LATCHED = e.regs.get 0 BBR_TAMPER_LATCHED ∧ Counted e.regs g.e.regs DEVICE_GUARD_CNT 1))) ∧
  Answers .entropyReady s (fun g => g = f.onE (fun e => { e with entropyReady := true })) ∧
  (e.mode = .service → e.seqr.kind = .idle → e.seqr.off = false →
    (e.entropyReady = false → (e.src 10).live = false → Answers .entropyStartTimeout s (fun g => Safe g 10)) ∧
    (e.entropyReady = true → Answers .entropyStartTimeout s (fun g => g = f)) ∧
    ((e.src 12).live = false → Answers .entropyReserveEmpty s (fun g => Safe g 12))) ∧
  ((e.src 11).live = false → Answers .entropyHealthFail s (fun g => (g.e.src 11).cause = true ∧ (g.e.src 11).live = false ∧
    (g.e.src 11).count = satAdd 16 (e.src 11).count 1 ∧ g.e.mode = e.mode)) ∧
  (∀ (ep : Fin 8) (tenant : Fin 4096) (tag : Nat) (i : Fin 64),
    let q := f.plane p
    p ∈ f.actors ep.val tenant.val clsSema tag (saysSema 4 i.val) → q.epUp ep.val = true → q.st.sends = true → q.st.past = false →
    q.partner ep.val = none → Answers (.semaForce ep tenant tag i) s (fun g =>
      let free := q.hasSession tenant.val
      semaAt (g.plane p) i.val = (if free = true then none else semaAt q i.val) ∧
      ∃ m ∈ (g.plane p).host.out, m.ep = ep.val ∧ m.cls = clsSema ∧ m.tag = tag ∧
        m.body = (if free = true then semaRsp 0 i.val none else semaRsp 2 i.val (semaAt q i.val))))

/-! Rick. -/

/-- R349-R352, R376: a drive's life: LINKUP while PGOOD3 is high, attached as FOREIGN, MIRRORING or ONLINE by the higher EPOCH of its superblock's
copies, failed by a second timeout within one hour, a write error or a critical warning, absent after its link loss, ONLINE when mirrored; a
session adopts and retires drives. -/
def Obligations.Drives : Prop := ∀ (s : State) (p : PlaneId) (d : Fin 4),
  let f := s.f
  let q := f.plane p
  let x := q.drive d.val
  let St := fun (g : Field) => (g.plane p).drive d.val
  let Failed := fun (g : Field) => (St g).state = 5 ∧ (St g).legalDone = 0 ∧
    ((f.e.src (planeSrc p (37 + d.val))).live = false → (g.e.src (planeSrc p (37 + d.val))).cause = true)
  (x.state = 0 → Answers (.driveLinkUp p d) s (fun g => (St g).state = if bit (f.e.regs.get 0 PWR_STAT_PGOOD) 3 = true then 1 else 0)) ∧
  (∀ (sb0 sb1 : List Byte) (extents : Nat), x.state = 1 → Answers (.driveAttachDone p d sb0 sb1 extents) s (fun g =>
    (St g).extents = extents ∧ (St g).super = superOf p.num d.val [sb0, sb1] ∧
    ((St g).super = .none ∨ q.rick.geom = none → (St g).state = 2) ∧
    (∀ m epoch, q.rick.geom = some m → (St g).super = .ofSet epoch →
      (St g).state = if epoch = m.epoch then 4 else if epoch < m.epoch then 3 else 2))) ∧
  (∀ gen upTo : Nat,
    (gen ≠ x.gen → Answers (.driveCommandDone p d gen upTo) s (fun g => g = f)) ∧
    (gen = x.gen → (x.state = 3 ∨ x.state = 4) → Answers (.driveCommandDone p d gen upTo) s (fun g =>
      St g = { x with legalDone := max x.legalDone (min upTo q.legalMost) }))) ∧
  (x.timeoutAt = none → Answers (.driveTimeout p d) s (fun g => (St g).gen = x.gen + 1 ∧ (St g).timeoutAt = some f.e.counter ∧
    (St g).state = x.state)) ∧
  (∀ t, x.timeoutAt = some t → f.e.counter ≤ t + 3600 * 10 ^ 9 → (x.state = 3 ∨ x.state = 4) → Answers (.driveTimeout p d) s Failed) ∧
  ((x.state = 3 ∨ x.state = 4) → Answers (.driveWriteError p d) s Failed ∧
    ∀ warn used temp : Fin 256, (2 ≤ warn.val → Answers (.driveCriticalWarning p d ⟨warn, used, temp⟩) s Failed) ∧
      (warn.val < 2 → Answers (.driveCriticalWarning p d ⟨warn, used, temp⟩) s (fun g => St g = { x with used := used.val, temp := temp.val }))) ∧
  ((x.state = 5 ∨ x.state = 6) → Answers (.driveLinkLoss p d) s (fun g => (St g).state = 0 ∧ (St g).gen = x.gen + 1)) ∧
  (x.state = 3 → (f.e.role p.other).running = true → Answers (.mirrorComplete p d) s (fun g => (St g).state = 4 ∧
    (St g).mirrored = q.rick.geom.elim 0 (·.usedExt))) ∧
  (∀ (ep : Fin 8) (tenant : Fin 4096) (tag : Nat) (m : Geom), f.lead.rick.geom = some m → q.rick.geom = some m → d.val < m.drives →
    q.st.me = p →
    let at_ := fun (op : Nat) => p ∈ f.actors ep.val tenant.val clsJournal tag (saysJournal [(0, 1, op), (3, 1, 16 * p.num + d.val)])
    (f.lead.hasSession tenant.val = true →
      (at_ 8 → (x.state = 2 ∨ x.state = 5) → m.usedExt ≤ x.extents → Answers (.adopt ep tenant tag p d) s (fun g => (St g).state = 3 ∧
        (St g).super = .ofSet (m.epoch + 1) ∧ (g.plane p).rick.geom = some { m with epoch := m.epoch + 1 })) ∧
      (at_ 9 → x.state = 4 → Answers (.retire ep tenant tag p d) s (fun g => (St g).state = 6))) ∧
    (f.lead.hasSession tenant.val = false → ∀ (c : Instr) (op : Nat), (c = .adopt ep tenant tag p d ∧ op = 8) ∨
      (c = .retire ep tenant tag p d ∧ op = 9) → Answers c s (fun g => St g = x ∧ (at_ op → q.epUp ep.val = true → q.st.sends = true →
        q.st.past = false → q.partner ep.val = none → ∃ m ∈ (g.plane p).host.out, m.ep = ep.val ∧ m.cls = clsJournal ∧ m.tag = tag ∧
          bytesAt m.body 0 1 = 3))))

/-- R358, R360-R366, R370, R376, R378: what the journal does at its times: a SEAL, the snapshot's reads, a closed chunk and its writing, an
incident opened, closed and copied, an expired LEGAL extent, a commit into the head, a repaired hole, a scrub. -/
def Obligations.JournalKeeping : Prop := ∀ (s : State) (p : PlaneId),
  let f := s.f
  let q := f.plane p
  let n := q.regs.rd64 RICK_RSEQ_LO
  q.st.takes = true → q.runsJournal = true →
  (0 < q.rk 2 2 → q.rk 2 2 ≤ q.unsealed → Answers .sealDue s (fun g => (g.plane p).rick.firstUnsealed = n + 1 ∧
    (g.plane p).regs.rd64 RICK_SEAL_LO = n ∧ ∃ r, (g.plane p).rick.recs = q.rick.recs ++ [r] ∧ r.kind = 3 ∧ r.rseq = n)) ∧
  (q.st.tick % 100000 = 0 → Answers .journalSnapshot s (fun g => (g.plane p).rick.snapBuf = [] ∧
    ∃ l, (g.plane p).st.sent = q.st.sent ++ l ∧ l.map (·.addr) = (List.range 34).map snapAddr ∧ ∀ a ∈ l, a.val = none ∧ a.who = firmware)) ∧
  (∀ c, q.rick.chunkOpen = some c → c.firstTick + 50000 ≤ q.st.tick → 0 < q.rick.geom.elim 0 Geom.nchunk → Answers .chunkClose s (fun g =>
    (g.plane p).rick.chunkOpen = none ∧ { c with cseq := q.regs.rd64 RICK_ROLL_NEXT_LO } ∈ (g.plane p).rick.chunks ∧
    (g.plane p).regs.rd64 RICK_ROLL_NEXT_LO = (q.regs.rd64 RICK_ROLL_NEXT_LO + 1) % 2 ^ 64)) ∧
  (∀ cseq, q.rick.chunks.any (·.cseq = cseq) = true →
    (canWrite q ⟨3, cseq, false⟩ = true →
      Answers (.chunkWritten p cseq true) s (fun g => ∀ c ∈ (g.plane p).rick.chunks, c.cseq = cseq → c.written = true)) ∧
    (canWrite q ⟨3, cseq, false⟩ = false →
      Answers (.chunkWritten p cseq true) s (fun g => ∃ h ∈ (g.plane p).rick.holes, h.tier = 3 ∧ h.pos = cseq)) ∧
    Answers (.chunkWritten p cseq false) s (fun g => ∃ h ∈ (g.plane p).rick.holes, h.tier = 3 ∧ h.pos = cseq)) ∧
  (∀ what : Fin 4, q.rick.incOpen = none → (what = 0 ∨ bit (q.rk 10 2) (what.val - 1) = true) → Answers (.incidentTrigger what) s (fun g =>
    (∃ i, (g.plane p).rick.incOpen = some i ∧ i.id = q.regs.get 0 ⟨RICK_INC_NEXT, 31, 0⟩ ∧ i.fromTs = q.st.ts - q.rk 6 1 * 10 ^ 9 ∧
      i.toTs = q.st.ts + q.rk 7 1 * 10 ^ 9 ∧ i.stream = q.st.stream) ∧ (g.plane p).regs.get 0 RICK_STAT_INC_OPEN = 1)) ∧
  (∀ i, q.rick.incOpen = some i → (∃ c ∈ q.rick.chunks, i.toTs ≤ c.lastTs) → Answers .incidentClose s (fun g =>
    (g.plane p).rick.incOpen = none ∧ (g.plane p).regs.get 0 RICK_STAT_INC_OPEN = 0)) ∧
  (∀ id, Answers (.incidentCopyDone p id) s (fun g => ∀ i ∈ (g.plane p).rick.incs, i.id = id → i.copied = true)) ∧
  (let till := q.regs.rd64 RICK_LEGAL_FREED_LO + 0x100000
   q.servo.tq = 0 → till ≤ q.regs.rd64 RICK_LEGAL_END_LO → (∀ x ∈ q.rick.recs, x.off < till → x.rseq < q.rick.firstUnsealed ∧
     x.utc + q.rick.geom.elim 0 (·.retention) * 86400 * 10 ^ 9 < q.utcOf q.st.ts) → Answers .legalExpire s (fun g =>
     (g.plane p).regs.rd64 RICK_LEGAL_FREED_LO = till ∧ Counted q.regs (g.plane p).regs RICK_EXPIRED 1)) ∧
  (∀ x, q.rick.uncommitted = [x] → q.rick.committedRseq < n → x.bytes.length ≤ 140 → q.rick.granules = [] → q.rick.warnTick = none →
    q.st.tick % 100 = 0 → q.rick.lastCommit ≠ q.st.tick → Answers (.headCommit p) s (fun g =>
      (g.plane p).rick.committedRseq = x.rseq + 1 ∧ (g.plane p).rick.lastCommit = q.st.tick ∧
      (g.plane p).regs.rd64 RICK_HEAD_GSEQ_LO = (q.regs.rd64 RICK_HEAD_GSEQ_LO + 1) % 2 ^ 64 ∧
      (∃ k, sget (fun _ => none) (g.plane p).rick.granules q.rick.nextGran = some k ∧ k.records = x.bytes ∧ k.nextRseq = x.rseq + 1) ∧
      (g.plane p).regs.get 0 RICK_HEAD_CREDIT_GRANULES = min 16 (q.regs.get 0 RICK_HEAD_CREDIT_GRANULES + 1) - 1)) ∧
  (∀ h, q.rick.holes = [h] → h.final = false → (f.e.role p.other).running = true →
    let has := (f.plane p.other).rick.holes.any (fun x => x.tier = h.tier ∧ x.pos = h.pos)
    (has = false → canWrite q h = true → Answers (.holeRepair p) s (fun g => (g.plane p).rick.holes = [])) ∧
    (has = false → canWrite q h = false → Answers (.holeRepair p) s (fun g => g = f)) ∧
    (has = true → (f.e.src (planeSrc p 41)).live = false → Answers (.holeRepair p) s (fun g =>
      (g.plane p).rick.holes = [{ h with final := true }] ∧ (g.e.src (planeSrc p 41)).cause = true))) ∧
  (∀ bad : List (Nat × Bool), Answers (.legalScrub p bad) s (fun g =>
    Counted q.regs (g.plane p).regs RICK_SCRUB_REPAIR (bad.filter (·.2)).length ∧
    (∀ b ∈ bad, b.2 = false → (g.plane p).rick.holes.contains ⟨1, b.1 / 0x100000, false⟩ = true) ∧
    ((∃ b ∈ bad, b.2 = true) → bit (g.plane p).rick.conds 28 = true)))

/-- R363, R365, R379-R381: JOURNAL requests answer with their status and have their effect; an export sends from its offset what its budget
allows, and its acknowledgement frees what was sent. -/
def Obligations.JournalRequests : Prop := ∀ (s : State) (p : PlaneId) (ep : Fin 8) (tenant : Fin 4096) (tag : Nat),
  let q := s.f.plane p
  let Rsp := fun (g : Field) (status op exp value : Nat) (data : List Byte) => ∃ m ∈ (g.plane p).host.out, m.ep = ep.val ∧ m.cls = clsJournal ∧
    m.tenant = tenant.val ∧ m.tag = tag ∧
    m.body = leBytes 1 status ++ leBytes 1 op ++ leBytes 1 exp ++ leBytes 5 0 ++ leBytes 8 value ++ leBytes 16 0 ++ data
  q.st.sends = true → q.st.past = false → q.epUp ep.val = true → q.partner ep.val = none →
  let at_ := fun (what : List (Nat × Nat × Nat)) => p ∈ s.f.actors ep.val tenant.val clsJournal tag (saysJournal what)
  ((at_ [(0, 1, 1)] → Answers (.journalStatus ep tenant tag) s (fun g => Rsp g 0 1 0 0
      ((List.range 96).flatMap (fun i => leBytes 4 (q.regs.rd (RICK_STAT + 4 * i)).toNat)))) ∧
    (∀ (tier key : Fin 256) (v : Nat), at_ [(0, 1, 2), (1, 1, tier.val), (3, 1, key.val), (8, 8, v)] →
      Answers (.journalLocate ep tenant tag tier key v) s (fun g =>
      (∀ off, locate q.rick tier.val key.val v = some off → Rsp g 0 2 0 off []) ∧
      (locate q.rick tier.val key.val v = none → Rsp g 2 2 0 0 []))) ∧
    (∀ (tier : Fin 256) (start stop : Nat), at_ [(0, 1, 3), (1, 1, tier.val), (8, 8, start), (16, 8, stop)] →
      (q.runsJournal = false → Answers (.journalOpen ep tenant tag tier start stop) s (fun g => Rsp g 1 3 0 0 [])) ∧
      (q.runsJournal = true → (tier.val = 0 ∨ 3 < tier.val ∨ (stop ≠ 0 ∧ stop < start)) →
        Answers (.journalOpen ep tenant tag tier start stop) s (fun g => Rsp g 2 3 0 0 [])) ∧
      (q.runsJournal = true → 1 ≤ tier.val → tier.val ≤ 3 → (stop = 0 ∨ start ≤ stop) →
        (∀ e, findIdx (fun e => (exportAt q e).isNone) 4 = some e → Answers (.journalOpen ep tenant tag tier start stop) s (fun g =>
          Rsp g 0 3 0 e [] ∧ (g.plane p).regs.get 0 (RICK_EXP_STAT_OPEN e) = 1 ∧ ∃ x, exportAt (g.plane p) e = some x ∧ x.ep = ep.val ∧
            x.tenant = tenant.val ∧ x.tag = tag ∧ x.tier = tier.val ∧ x.next = start ∧ x.stop = stop ∧ x.unacked = 0)) ∧
        ((∀ e < 4, (exportAt q e).isSome = true) → Answers (.journalOpen ep tenant tag tier start stop) s (fun g => Rsp g 4 3 0 0 [])))) ∧
    (∀ e : Fin 4, at_ [(0, 1, 4), (2, 1, e.val)] →
      (∀ x, exportAt q e.val = some x → x.tenant = tenant.val → Answers (.journalClose ep tenant tag e) s (fun g => Rsp g 0 4 e.val 0 [] ∧
        exportAt (g.plane p) e.val = none ∧ (g.plane p).regs.get 0 (RICK_EXP_STAT_OPEN e.val) = 0)) ∧
      ((∀ x, exportAt q e.val = some x → x.tenant ≠ tenant.val) → Answers (.journalClose ep tenant tag e) s (fun g =>
        Rsp g 1 4 e.val 0 [] ∧ (g.plane p).rick = q.rick))) ∧
    (at_ [(0, 1, 5)] → q.runsJournal = true → q.rick.incOpen = none → Answers (.journalTrigger ep tenant tag) s (fun g => Rsp g 0 5 0 0 [] ∧
      (g.plane p).rick.incOpen.isSome = true ∧ (g.plane p).regs.get 0 RICK_STAT_INC_OPEN = 1)) ∧
    (at_ [(0, 1, 5)] → q.runsJournal = false → Answers (.journalTrigger ep tenant tag) s (fun g => Rsp g 1 5 0 0 [])) ∧
    (∀ id : Nat,
      (at_ [(0, 1, 6), (8, 8, id)] →
        (q.hasSession tenant.val = false → Answers (.journalLock ep tenant tag id) s (fun g => Rsp g 3 6 0 0 [] ∧ (g.plane p).rick = q.rick)) ∧
        (q.hasSession tenant.val = true → q.rick.incs.any (·.id = id) = true →
          ((q.rick.incs.filter (fun i => i.locked ∧ i.id ≠ id)).length < 256 → Answers (.journalLock ep tenant tag id) s (fun g =>
            Rsp g 0 6 0 0 [] ∧ ∀ i ∈ (g.plane p).rick.incs, i.id = id → i.locked = true)) ∧
          (256 ≤ (q.rick.incs.filter (fun i => i.locked ∧ i.id ≠ id)).length → Answers (.journalLock ep tenant tag id) s (fun g =>
            Rsp g 1 6 0 0 [] ∧ (g.plane p).rick = q.rick)))) ∧
      (at_ [(0, 1, 7), (8, 8, id)] →
        (q.hasSession tenant.val = false → Answers (.journalUnlock ep tenant tag id) s (fun g => Rsp g 3 7 0 0 [] ∧ (g.plane p).rick = q.rick)) ∧
        (q.hasSession tenant.val = true → q.rick.incs.any (·.id = id) = true → Answers (.journalUnlock ep tenant tag id) s (fun g =>
          Rsp g 0 7 0 0 [] ∧ ∀ i ∈ (g.plane p).rick.incs, i.id = id → i.locked = false))))) ∧
  (∀ (e : Fin 4) (x : Export), q.st.takes = true → (∀ j < 4, exportAt q j = if j = e.val then some x else none) → x.ep = ep.val →
    x.tenant = tenant.val → x.tag = tag → x.lastTick ≠ q.st.tick → x.stop = 0 → (tierSpan q x.tier).1 ≤ x.next → q.rick.noTap = false →
    let budget := if x.prio then q.rk 26 2 else q.rk 24 2
    let n := min (min budget 9568) (min ((tierSpan q x.tier).2 - x.next) (0x1000000 - x.unacked))
    let hole := (List.range n).any (fun i => q.rick.lost x.tier (x.next + i))
    0 < n → Answers .exportSend s (fun g =>
      (∃ m ∈ (g.plane p).host.out, m.ep = ep.val ∧ m.cls = clsJournal ∧ m.tenant = tenant.val ∧ m.tag = tag ∧
        m.body = leBytes 1 e.val ++ leBytes 1 x.tier ++ leBytes 1 (if hole then 1 else 0) ++ leBytes 5 0 ++ leBytes 8 x.next ++ leBytes 16 0 ++
          (List.range n).map (fun i => tierByte q.rick x.tier (x.next + i))) ∧
      ∃ y, exportAt (g.plane p) e.val = some y ∧ y.lastTick = q.st.tick ∧ x.next + n ≤ y.next)) ∧
  (∀ (e : Fin 4) (acked : Nat),
    p ∈ s.f.actors ep.val tenant.val clsJournal 0 (fun b => decide (b.length = 16) && saysFields [(0, 1, e.val), (8, 8, acked)] b) →
    (∀ x, exportAt q e.val = some x → x.tenant = tenant.val → Answers (.exportAck ep tenant e acked) s (fun g =>
      exportAt (g.plane p) e.val = some { x with unacked := min x.unacked (x.next - acked) })) ∧
    ((∀ x, exportAt q e.val = some x → x.tenant ≠ tenant.val) → Answers (.exportAck ep tenant e acked) s (fun g =>
      (g.plane p).rick = q.rick ∧ Counted q.regs (g.plane p).regs RIDGE_ERR_CNT 1)))

/-! Time. -/

/-- R385, R387, R390-R393, R397-R401, R404: the servo runs in every plane that has read the PPS_IN capture for it, and writes Eaves with one access;
the PPS input is captured, and lost 2 s after its last edge; the PPS output pulses; the calendar is set; edges of motion are counted. The
frequency correction is a free value within 2,000 ppb. -/
def Obligations.TimeKeeping : Prop := ∀ (s : State) (p : PlaneId) (dt : Nat),
  let f := s.f
  let q := f.plane p
  let e := f.e.at dt
  let src := q.selectSrc.1
  let Writes := fun (g : Field) (ok : TimeWrite → Prop) => ∃ a w, (g.plane p).st.sent = q.st.sent ++ [a] ∧ a.time = some w ∧ ok w
  (q.st.takes = true →
    (q.servo.due = true → Answers .servoRun s (fun g =>
      let v := (g.plane p).servo
      v.src = src ∧ v.lastRun = q.st.tick ∧ v.due = false ∧
      (src ≠ 0 → -2000 ≤ v.freq ∧ v.freq ≤ 2000) ∧ (src = 0 → v.slew = 0 ∧ v.freq = q.servo.freq) ∧
      (src = 0 → q.servo.tq = 0 → v.tq = 1) ∧
      Writes g (fun w => (TIME_STAT_SRC, src) ∈ w.fields ∧ (TIME_STAT_TQ, v.tq) ∈ w.fields ∧ (⟨TIME_FREQ, 31, 0⟩, unsigned 32 v.freq) ∈ w.fields ∧
        (q.servo.src ≠ src → (4, (q.servo.src : Int), (src : Int)) ∈ w.changes) ∧
        w.step = if src ≠ 0 ∧ 1000000000 < (q.offsetOf src).natAbs then some (roundStep (q.offsetOf src)) else none))) ∧
    (q.servo.due = false → Answers .servoRun s (fun g => g.plane p = q))) ∧
  Answers (.ppsInEdge dt) s (fun g => g.e.regs.rd64 TIME_PPS_IN_LO = e.counter % 2 ^ 64 ∧ Counted f.e.regs g.e.regs TIME_PPS_IN_CNT 1 ∧
    (e.regs.rd64 TIME_PPS_IN_LO ≠ 0 → e.steady (e.regs.rd64 TIME_PPS_IN_LO) + 1001000000 < e.steady e.counter →
      Counted f.e.regs g.e.regs TIME_PPS_IN_BAD 1)) ∧
  (q.st.takes = true → ∀ x, q.servo.pps.getLast? = some x →
    (x + 2 * 10 ^ 9 ≤ 10000 * q.st.tick → Answers .ppsInLost s (fun g => (g.plane p).servo.pps = [])) ∧
    (10000 * q.st.tick < x + 2 * 10 ^ 9 → Answers .ppsInLost s (fun g => g.plane p = q))) ∧
  (e.regs.get 0 TIME_PPS_STATUS_OUT_EN = 1 → e.counter % 1000000000 = 0 → e.seqr.ppsLast = none → awake e = true →
    Answers (.ppsOutPulse dt) s (fun g =>
      g.e.regs.get 0 TIME_PPS_STATUS_SEQ = (e.regs.get 0 TIME_PPS_STATUS_SEQ + 1) % 65536 ∧
      g.e.regs.get 0 TIME_PPS_STATUS_TQ = e.regs.get 0 TIME_STAT_TQ ∧ g.e.seqr.ppsLast = some (e.steady e.counter) ∧
      (e.seqr.ppsStep = true → g.e.regs.get 0 TIME_PPS_STATUS_STEPPED = 1 ∧
        g.e.regs.get 0 TIME_PPS_STEP_SEQ_SEQ = (e.regs.get 0 TIME_PPS_STATUS_SEQ + 1) % 65536))) ∧
  (let ptp := q.servo.base * 10 ^ 9 + q.st.ts
   let sec := ptp / 10 ^ 9
   q.st.takes = true → q.servo.tq = 0 → bit (q.tm 0 1 0) 3 = true → sec % 60 = 0 → q.servo.calMin ≠ sec / 60 → Answers .calendarSync s (fun g =>
     (g.plane p).servo.calMin = sec / 60 ∧ Writes g (fun w => ∃ trim, w.cal = some (ptp, trim, sec, q.servo.err)))) ∧
  (∀ n : Fin 2, awake f.e = true → Answers (.motionEdge n) s (fun g =>
    Counted f.e.regs g.e.regs (if n.val = 0 then TIME_MOTION0 else TIME_MOTION1) 1))

/-- R385, R389, R396, R400: TIME messages of a host and gPTP frames: a REPORT is kept and answered; SET names a kept REPORT, or is refused; UTC sets
the offset and announces its change; Sync and Follow_Up of a master port go through its queue; a peer delay is kept on the slave port. -/
def Obligations.TimeMessages : Prop := ∀ (s : State) (p : PlaneId),
  let q := s.f.plane p
  (∀ (ep : Fin 8) (tenant : Fin 4096) (tag : Nat), q.epUp ep.val = true → q.st.sends = true → q.st.past = false → q.partner ep.val = none →
    let at_ := fun (what : List (Nat × Nat × Nat)) => p ∈ s.f.actors ep.val tenant.val clsTime tag (saysFields what)
    let Rsp := fun (g : Field) (status : Nat) => ∃ m ∈ (g.plane p).host.out, m.ep = ep.val ∧ m.cls = clsTime ∧ m.tenant = tenant.val ∧
      m.tag = tag ∧ bytesAt m.body 0 1 = status ∧ bytesAt m.body 8 8 = q.st.ts % 2 ^ 64 ∧
      bytesAt m.body 16 8 = (q.servo.base * 10 ^ 9 + q.st.ts) % 2 ^ 64
    (at_ [(0, 1, 1)] → Answers (.timeReport ep tenant tag) s (fun g => Rsp g 0 ∧
      (tenant.val = timeTenant q → q.servo.reports = [] → (g.plane p).servo.reports = [(q.st.ts, q.st.stepSum)]))) ∧
    (∀ ref ptp err : Nat, at_ [(0, 1, 2), (4, 4, err), (8, 8, ref), (16, 8, ptp)] →
      (tenant.val ≠ timeTenant q ∨ q.servo.reports.find? (fun r => r.1 = ref) = none → Answers (.timeSet ep tenant tag ref ptp err) s (fun g =>
        Rsp g 1 ∧ (g.plane p).servo = q.servo)) ∧
      (∀ r, tenant.val = timeTenant q → q.servo.reports.find? (fun r => r.1 = ref) = some r →
        Answers (.timeSet ep tenant tag ref ptp err) s (fun g => Rsp g 0 ∧
          (g.plane p).servo.set = some ⟨ptp, ref, r.2, err, q.st.tick⟩))) ∧
    (∀ utc : Nat, at_ [(0, 1, 3), (2, 2, utc)] →
      (tenant.val ≠ timeTenant q → Answers (.timeUtc ep tenant tag utc) s (fun g => Rsp g 1 ∧ (g.plane p).servo = q.servo)) ∧
      (tenant.val = timeTenant q → q.servo.src ≠ 1 → utc < 65536 → Answers (.timeUtc ep tenant tag utc) s (fun g =>
        Rsp g 0 ∧ (g.plane p).servo.utc = utc ∧ (q.servo.utc ≠ utc → ∃ a ∈ (g.plane p).st.sent,
          a.time = some ⟨[(TIME_STAT_UTC_OFFSET, utc)], [(5, (q.servo.utc : Int), (utc : Int))], none, none⟩))))) ∧
  (q.st.takes = true → ∀ n : Fin 24,
    let frame := fun (kind : Nat) => Config.gptpFrame kind n.val (q.tm 5 1 0) (q.servo.base * 10 ^ 9 + q.st.ts) q.servo.utc
    ((ethRec q.truss n.val).f 0 2 2 = 1 → q.tm 28 4 0 = 2 ^ n.val → Answers .gptpSyncSend s (fun g =>
      g.plane p = ((q.fwSend (128 + n.val) true (frame 0)).fwSend (128 + n.val) false (frame 1)).releaseAll)) ∧
    (q.tm 28 4 0 = 0 → Answers .gptpSyncSend s (fun g => g.plane p = q.releaseAll)) ∧
    (∀ d : Nat, q.tm 24 1 0xFF = n.val → Answers (.gptpPdelay n (some d)) s (fun g => (g.plane p).servo.pdelay = d ∧
      (g.plane p).servo.pdelayTick = some q.st.tick ∧
      ∃ a ∈ (g.plane p).st.sent, a.time = some ⟨[(⟨TIME_GPTP_PDELAY, 31, 0⟩, d % 2 ^ 32)], [], none, none⟩)) ∧
    Answers (.gptpPdelay n none) s (fun g =>
      g.plane p = (if (ethRec q.truss n.val).f 0 2 2 = 1 then q.fwSend (128 + n.val) true (frame 2) else q).releaseAll))

/-! Planes and Flue. -/

/-- R407, R410, R415, R416, R419-R423, R89: a plane that declares itself faulty goes OFFLINE, the other leads, or the device goes to SAFE; it
restarts into a rejoin attempt, passes its stages, LOAD with both Ridge pairs up, copies the state, is level, or fails; a held plane is released
by a session. -/
def Obligations.PlaneFaults : Prop := ∀ (s : State) (p : PlaneId) (dt : Nat),
  let f := s.f
  let q := f.plane p
  let Offline := fun (g : Field) => g.e.role p = .offline ∧ (g.plane p).st.takes = false
  (∀ o : Fin 64, fluePlaneClass o.val = some 1 → (f.e.src (planeSrc p o.val)).live = false → f.phase = 0 →
    let Marked := fun (g : Field) => (g.e.src (planeSrc p o.val)).live = true ∧ (g.e.src (planeSrc p o.val)).cause = true
    (f.e.role p = .leading → f.e.role p.other = .shadow → Answers (.planeFaultDeclare p o) s (fun g => Marked g ∧ Offline g ∧
      g.e.role p.other = .leading ∧ Counted f.e.regs g.e.regs PLANE_TAKEOVER_CNT 1 ∧ g.e.mode = f.e.mode)) ∧
    (f.e.role p = .shadow → f.e.role p.other = .leading → Answers (.planeFaultDeclare p o) s (fun g => Marked g ∧ Offline g ∧
      g.e.role p.other = .leading ∧ g.e.mode = f.e.mode)) ∧
    (f.e.role p = .leading → f.e.role p.other ≠ .shadow → f.e.mode = .service → f.e.seqr.kind = .idle → f.e.seqr.off = false →
      Answers (.planeFaultDeclare p o) s (fun g => Marked g ∧ g.e.mode = .safe ∧ g.e.regs.get 0 FLUE_LAST_SAFE_REASON = 2 ∧
        g.e.regs.get 0 FLUE_LAST_SAFE_SOURCE = planeSrc p o.val))) ∧
  (let e := f.e.at dt
   let r := e.rj p
   f.e.role p = .offline → f.e.role p.other = .leading → rejoinMode e = true → e.stageOf p ≠ 6 → r.noTry = false →
   r.offAt + (if r.fails.head? = some r.offAt then 10 ^ 9 else 100000) ≤ e.counter → Answers (.rejoinAttempt p dt) s (fun g =>
     g.e.role p = .rejoining ∧ g.e.stageOf p = 1 ∧ (g.plane p).st.pgen = (q.st.pgen + 1) % 65536 ∧ g.e.pgen p = (q.st.pgen + 1) % 65536 ∧
     (g.e.rj p).attemptAt = e.counter)) ∧
  (f.e.role p = .rejoining → f.turn.newPlane = none →
    (f.e.stageOf p = 1 → Answers (.rejoinStageDone p true) s (fun g => g.e.stageOf p = 2 ∧ g.e.role p = .rejoining)) ∧
    (f.e.stageOf p = 2 → Answers (.rejoinStageDone p true) s (fun g => g.e.stageOf p = 3 ∧
      ∀ o < 64, fluePlaneClass o = some 1 → (g.e.src (planeSrc p o)).live = false)) ∧
    (f.e.stageOf p = 3 → Answers (.rejoinStageDone p true) s (fun g =>
      (f.h.pairUp .HA p = true → f.h.pairUp .HB p = true → f.checkActive p (match p with | .A => s.otpA | .B => s.otpB) = 0 →
        g.e.stageOf p = 4 ∧ (g.plane p).truss = parseTruss q.nv.activeFlash.image) ∧
      ((f.h.pairUp .HA p = false ∨ f.h.pairUp .HB p = false) → Offline g))) ∧
    ((f.e.stageOf p = 1 ∨ f.e.stageOf p = 2 ∨ f.e.stageOf p = 3) → Answers (.rejoinStageDone p false) s (fun g => Offline g ∧
      Counted f.e.regs g.e.regs PLANE_REJOIN_FAIL_CNT 1 ∧
      ((∀ t ∈ (f.e.rj p).fails, f.e.counter < t + 600 * 10 ^ 9) → (f.e.rj p).fails.length = 2 → g.e.stageOf p = 6))) ∧
    (1 ≤ f.e.stageOf p → f.e.stageOf p ≤ 5 → (f.e.rj p).stageAt + stageMax (f.e.stageOf p) < (f.e.at dt).counter →
      Answers (.rejoinTimeout p dt) s (fun g => Offline g ∧ Counted f.e.regs g.e.regs PLANE_REJOIN_FAIL_CNT 1)) ∧
    (f.e.stageOf p = 4 → f.e.leader = some p.other →
      (purlinUp q = true → f.e.merger.lastTick ≤ (f.plane p.other).st.tick → Answers (.copyRequest p) s (fun g =>
        g.copy = some ⟨p, (f.plane p.other).st.tick + 1, none⟩ ∧ (g.plane p).st.fill = true)) ∧
      (purlinUp q = false → Answers (.copyRequest p) s Offline)) ∧
    (f.e.stageOf p = 5 → q.st.inbox = [] → (f.e.rj p).level = false → Answers (.rejoinLevel p) s (fun g => (g.e.rj p).level = true ∧
      g.e.merger.sched = insSched ⟨2, .join p, f.e.counter⟩ f.e.merger.sched))) ∧
  (∀ (j bytes : Nat) (snap : Plane), f.copy = some ⟨p, j, some snap⟩ → f.e.role p = .rejoining → f.e.leader = some p.other →
    q.st.inbox = [] → (f.plane p.other).st.inbox = [] → (f.plane p.other).st.auths = [] → q.fwd.metBad = false →
    (f.plane p.other).fwd.metBad = false →
    (q.st.newT = false → Answers (.snapshotApplied p bytes) s (fun g => g.copy = none ∧ g.e.stageOf p = 5 ∧ (g.plane p).thr = snap.thr ∧
      (g.plane p).fwd = { snap.fwd with bad := [], metBad := false, held := [] } ∧ (g.plane p).servo = snap.servo ∧ (g.plane p).kiln = snap.kiln ∧
        (g.plane p).nv = q.nv ∧
      (g.plane p).st.takes = true ∧ (g.plane p).st.sends = false ∧ (g.plane p).st.stream = snap.st.stream ∧
      (g.plane p).rick.drives = q.rick.drives ∧ (g.plane p).regs.rd64 (PURLIN_COPY_BYTES_LO q.st.me.num) = bytes % 2 ^ 64)) ∧
    (q.st.newT = true → snap.regs.get 0 TRUSS_TURN_CTL_COLD_CARRY = 1 → Answers (.snapshotApplied p bytes) s (fun g => g.copy = none ∧
      g.e.stageOf p = 5 ∧ (g.plane p).truss = q.truss ∧ (g.plane p).servo = snap.servo ∧ (g.plane p).nv = q.nv ∧
      (g.plane p).st.takes = true ∧ (g.plane p).st.stream = snap.st.stream))) ∧
  (∀ tenant : Fin 4096,
    (f.lead.hasSession tenant.val = true → f.e.stageOf p = 6 → (f.e.rj p).noTry = false → Answers (.planeRejoinRelease tenant p) s (fun g =>
      g.e.stageOf p = 0 ∧ (g.e.rj p).fails = [])) ∧
    (f.lead.hasSession tenant.val = false → Answers (.planeRejoinRelease tenant p) s (fun g => Counted f.e.regs g.e.regs DEVICE_GUARD_CNT 1 ∧
      g.e.rj p = f.e.rj p)))

/-- R13, R14, R21, R413, R414, R418, R427-R433: what Flue's sources do by their class. An occurrence is recorded; a plane's takes it out of
service, a DEVICE source takes the device to SAFE, a RECORD source of a condition sets it in the plane's journal status, others change nothing
more; a source in fault makes no new occurrence, and takes note of a rail fault. Digests that differ open a window that ends with the shadow
plane blamed. -/
def Obligations.FaultSources : Prop := ∀ (s : State),
  let f := s.f
  let e := f.e
  let Recorded := fun (g : Field) (i : Nat) (stays : Bool) => (g.e.src i).live = stays ∧ (g.e.src i).cause = true ∧
    (g.e.src i).last = e.counter ∧ (g.e.src i).count = satAdd 16 (e.src i).count 1 ∧
    (g.e.src i).first = if (e.src i).cause = true then (e.src i).first else e.counter
  let Same := fun (g : Field) => g.e.roleA = e.roleA ∧ g.e.roleB = e.roleB ∧ g.e.mode = e.mode ∧ g.e.regs = e.regs ∧ g.a = f.a ∧ g.b = f.b
  let Calm := e.mode = .service ∧ e.seqr.kind = .idle ∧ e.seqr.off = false
  (∀ i : Fin 2048,
    let q := f.plane (srcPlane i.val)
    let condition := 32 ≤ i.val % 64 ∧ i.val % 64 ≤ 36
    let Noted := fun (g : Field) => g.e.roleA = e.roleA ∧ g.e.roleB = e.roleB ∧ g.e.mode = e.mode ∧ g.e.regs = e.regs ∧
      g.plane (srcPlane i.val).other = f.plane (srcPlane i.val).other ∧
      g.plane (srcPlane i.val) = if condition then q.onRick (fun r => { r with conds := r.conds ||| 2 ^ (63 - i.val % 64) }) else q
    let Does := fun (g : Field) => (flueClass i.val = some 0 → Same g) ∧ (flueClass i.val = some 3 → Noted g)
    (flueClass i.val = none → (∀ stays, Answers (.faultSourceOccurrence i stays) s (fun g => g = f)) ∧
      Answers (.railFault i) s (fun g => g = f)) ∧
    (flueClass i.val ≠ none → (e.src i.val).live = true →
      (∀ stays, Answers (.faultSourceOccurrence i stays) s (fun g => (∀ k, g.e.src k = e.src k) ∧ Same g)) ∧
      Answers (.railFault i) s (fun g => g.e.src i.val = { e.src i.val with rail := true } ∧ Same g)) ∧
    ((e.src i.val).live = false →
      (flueClass i.val = some 0 ∨ flueClass i.val = some 3 → (∀ stays, Answers (.faultSourceOccurrence i stays) s (fun g =>
          Recorded g i.val stays ∧ Does g)) ∧
        Answers (.railFault i) s (fun g => Recorded g i.val true ∧ (g.e.src i.val).rail = true ∧ Does g) ∧
        ∀ tenant : Fin 4096, f.lead.hasSession tenant.val = true →
          Answers (.flueForcePulse tenant i) s (fun g => Recorded g i.val false ∧ Does g) ∧
          Answers (.flueForceRail tenant i) s (fun g => Recorded g i.val false ∧ (g.e.src i.val).rail = true ∧ Does g)) ∧
      (flueClass i.val = some 2 → Calm → ∀ stays, Answers (.faultSourceOccurrence i stays) s (fun g => Recorded g i.val stays ∧
        g.e.mode = .safe ∧ g.e.merger.stopped = true ∧ g.e.regs.get 0 FLUE_LAST_SAFE_SOURCE = i.val ∧
        Counted e.regs g.e.regs FLUE_SAFE_CNT 1))) ∧
    (∀ tenant : Fin 4096,
      (f.lead.hasSession tenant.val = false → ∀ c : Instr, (c = .flueForcePulse tenant i ∨ c = .flueForceRail tenant i) → Answers c s (fun g =>
        g.e.src i.val = e.src i.val ∧ Counted e.regs g.e.regs DEVICE_GUARD_CNT 1)) ∧
      (f.lead.hasSession tenant.val = true → flueClass i.val = none → ∀ c : Instr,
        (c = .flueForcePulse tenant i ∨ c = .flueForceRail tenant i) → Answers c s (fun g =>
          Counted e.regs g.e.regs DEVICE_BUSERR_CNT 1 ∧ g.e.regs.get 0 DEVICE_BUSERR_ADDR_CAUSE = 1))) ∧
    Answers (.flueCauseClear i) s (fun g => (g.e.src i.val).cause = false ∧ (g.e.src i.val).first = 0 ∧ (g.e.src i.val).last = 0 ∧
      (g.e.src i.val).live = (e.src i.val).live ∧ ∀ k, k ≠ i.val → g.e.src k = e.src k) ∧
    ((i.val = 13 → ∀ k < 5, tamperActive e k = false) → Answers (.faultSourceClear i) s (fun g =>
      (g.e.src i.val).live = false ∧ (g.e.src i.val).cause = (e.src i.val).cause ∧ (i.val = 13 → bit g.e.seqr.holds 0 = false))) ∧
    (i.val = 13 → (∃ k < 5, tamperActive e k = true) → Answers (.faultSourceClear i) s (fun g => g = f))) ∧
  ((e.src 0).live = false → Calm → Answers .flueSelf s (fun g => Recorded g 0 true ∧ g.e.mode = .safe ∧
    g.e.regs.get 0 FLUE_LAST_SAFE_REASON = 3)) ∧
  (∀ k : Fin 3, ((e.src (1 + 2 * k.val)).live = false → Answers (.voteDisagreement k true) s (fun g =>
      Recorded g (1 + 2 * k.val) false ∧ Same g)) ∧
    ((e.src (2 + 2 * k.val)).live = false → Calm → Answers (.voteDisagreement k false) s (fun g => Recorded g (2 + 2 * k.val) true ∧
      g.e.mode = .safe))) ∧
  (∀ n : Fin 2, (e.src (7 + n.val)).live = false → Answers (.eavesSupplyLoss n) s (fun g => Recorded g (7 + n.val) true ∧ Same g)) ∧
  (∀ p : PlaneId,
    let other := match p with | .A => e.seqr.refB | .B => e.seqr.refA
    (other = true → (e.src (planeSrc p 16)).live = false → e.role p = .shadow → e.role p.other = .leading → f.phase = 0 →
      Answers (.refclkLoss p) s (fun g => Recorded g (planeSrc p 16) true ∧ g.e.role p = .offline ∧ g.e.mode = e.mode)) ∧
    (other = false → (e.src 9).live = false → Calm → Answers (.refclkLoss p) s (fun g => Recorded g 9 true ∧ g.e.mode = .safe)) ∧
    Answers (.refclkReturn p) s (fun g => (g.e.src 9).live = false ∧ (g.e.src (planeSrc p 16)).live = false ∧
      (match p with | .A => g.e.seqr.refA | .B => g.e.seqr.refB) = true)) ∧
  (∀ lane : Fin 4, (e.shadow = none → Answers (.purlinLoss lane) s (fun g => ∀ a, purlinUp (g.plane a) = false ∧
      bit ((g.plane a).regs.get 0 (PURLIN_STAT_LANES (f.plane a).st.me.num)) lane.val = false)) ∧
    (∀ p, e.role p = .shadow → e.role p.other = .leading → (e.src (planeSrc p 14)).live = false → f.phase = 0 →
      Answers (.purlinLoss lane) s (fun g => Recorded g (planeSrc p 14) true ∧ g.e.role p = .offline ∧ g.e.role p.other = .leading))) ∧
  Answers .purlinLock s (fun g => ∀ a, purlinUp (g.plane a) = true ∧ (g.e.src (planeSrc a 14)).live = false ∧
    (g.plane a).regs.get 0 (PURLIN_STAT_LANES (f.plane a).st.me.num) = 15) ∧
  (∀ (port : Fin 512) (oseq dLead dShadow : Nat), (f.compares = false ∨ dLead = dShadow) → Answers (.digestMismatch port oseq dLead dShadow) s
    (fun g => g = f)) ∧
  (∀ (port : Fin 512) (oseq dLead dShadow : Nat), f.compares = true → dLead ≠ dShadow → e.sel.window = none →
    Answers (.digestMismatch port oseq dLead dShadow) s (fun g =>
      g.e.sel.window = some (port.val, oseq, dLead, dShadow) ∧ g.e.sel.windowAt = e.counter)) ∧
  (∀ (dt port oseq a b : Nat) (p : PlaneId), e.sel.window = some (port, oseq, a, b) → e.sel.windowAt + 5000 ≤ (e.at dt).counter → port < 512 →
    e.role p = .shadow → e.role p.other = .leading → f.phase = 0 → (e.src (planeSrc p 9)).live = false →
    Answers (.attributionWindowExpire dt) s (fun g => g.e.sel.window = none ∧ Counted e.regs g.e.regs PLANE_DISCREP_CNT 1 ∧
      g.e.regs.get 0 PLANE_LAST_DISCREP_PORT = port ∧ g.e.regs.rd PLANE_LAST_DISCREP_OSEQ = BitVec.ofNat 32 oseq ∧ g.e.role p = .offline ∧
      (g.e.src (planeSrc p 9)).cause = true))

/-- R434, R435, R437: 500 µs after its last toggle ALIVE toggles P with Q following while the leading plane runs, and stops else; 500 µs after its last
toggle ALIVE_H toggles while a plane's most recent HEARTBEAT has STATE RUN and came within 300 µs, and else holds its level; in SAFE the planes
seal and stop once they stand at the end of the stream. -/
def Obligations.AliveAndSafe : Prop := ∀ (s : State) (dt : Nat),
  let f := s.f
  let fd := f.onE (·.at dt)
  (aliveRuns fd = true → (fd.e.seqr.aliveAt + 500000 ≤ fd.e.counter → Answers (.aliveToggle dt) s (fun g =>
      g.e.regs.get 0 FLUE_ALIVE_RUNNING = 1 ∧ g.e.regs.get 0 FLUE_ALIVE_P = 1 - f.e.regs.get 0 FLUE_ALIVE_P ∧
      g.e.regs.get 0 FLUE_ALIVE_Q = f.e.regs.get 0 FLUE_ALIVE_P ∧ g.e.seqr.aliveAt = fd.e.counter)) ∧
    (fd.e.counter < fd.e.seqr.aliveAt + 500000 → Answers (.aliveToggle dt) s (fun g => g = fd))) ∧
  (aliveRuns fd = false → Answers (.aliveToggle dt) s (fun g => g.e.regs.get 0 FLUE_ALIVE_RUNNING = 0 ∧
    g.e.regs.get 0 FLUE_ALIVE_P = f.e.regs.get 0 FLUE_ALIVE_P ∧ g.e.regs.get 0 FLUE_ALIVE_Q = f.e.regs.get 0 FLUE_ALIVE_Q)) ∧
  (let latest := fun (p : PlaneId) =>
      if (f.h.hbOf .HB p).since ≤ (f.h.hbOf .HA p).since then f.h.hbOf .HA p else f.h.hbOf .HB p
    let fresh := fun (p : PlaneId) => (latest p).state = 1 ∧ fd.e.counter ≤ (latest p).since + 300000
    ((∃ p, fresh p) → (f.h.aliveHAt + 500000 ≤ fd.e.counter → Answers (.aliveHToggle dt) s (fun g =>
        g.h.aliveH = !f.h.aliveH ∧ g.h.aliveHAt = fd.e.counter)) ∧
      (fd.e.counter < f.h.aliveHAt + 500000 → Answers (.aliveHToggle dt) s (fun g => g = fd))) ∧
    ((∀ p, ¬ fresh p) → Answers (.aliveHToggle dt) s (fun g => g = fd))) ∧
  (f.e.mode = .safe → f.e.seqr.safeDone = false → f.a.st.inbox = [] → f.b.st.inbox = [] → Answers .safeEntry s (fun g =>
    g.e.seqr.safeDone = true ∧ g.e.regs.get 0 FLUE_ALIVE_RUNNING = 0 ∧ g.a.st.takes = false ∧ g.b.st.takes = false))

/-! Modes and power. -/

/-- R83, R443-R448, R451, R453, R456, R468: MODE requests answer with their STATUS: in a turn BUSY, with nothing changed. ENTER of the present mode
is OK at once; a taken ENTER starts its sequence, or wakes the device, at once or after the sequence that runs; one that a check refuses changes
nothing. RESET and HOLD need a session and reset the field side after their response has left for the host; the hold ends. -/
def Obligations.ModeRequests : Prop := ∀ (s : State) (p : PlaneId) (ep : Fin 8) (tenant : Fin 4096) (tag : Nat),
  let f := s.f
  let e := f.e
  let q := f.plane p
  let IsRsp := fun (m : RMsg) (status : Nat) => m.ep = ep.val ∧ m.cls = clsMode ∧ m.tenant = tenant.val ∧
    m.tag = tag ∧ bytesAt m.body 0 1 = status ∧ bytesAt m.body 1 1 = e.mode.code ∧ bytesAt m.body 2 1 = e.pstate.code
  let Rsp := fun (g : Field) (status : Nat) => ∃ m ∈ (g.plane p).host.out, IsRsp m status
  let Refused := fun (status : Nat) (g : Field) => Rsp g status ∧ g.e = e
  let at_ := fun (what : List Byte → Bool) => p ∈ f.actors ep.val tenant.val clsMode tag what
  e.leader = some p → e.mode ≠ .safe → q.epUp ep.val = true → q.st.sends = true → q.partner ep.val = none →
  (at_ (saysFields [(0, 1, 1)]) → Answers (.modeStatus ep tenant tag) s (Refused (if f.phase = 0 ∧ e.seqr.kind = .idle then 0 else 2))) ∧
  (at_ (saysEnter 1 false) →
    (f.phase ≠ 0 → Answers (.enterService ep tenant tag) s (Refused 2)) ∧
    (f.phase = 0 → e.mode = .service → e.seqr.kind = .idle → Answers (.enterService ep tenant tag) s (fun g => Rsp g 0 ∧ g.e = e)) ∧
    (f.phase = 0 → q.nv.slotRec.otherState ≠ 1 → q.nv.slotRec.otherState ≠ 2 → e.seqr.latched = none →
      (e.mode = .banked → e.seqr.kind = .idle → e.seqr.off = false → q.kiln.sess = [] → Answers (.enterService ep tenant tag) s (fun g =>
        g.e.mode = .service ∧ g.e.pstate = .p0 ∧ g.e.seqr.latched = none ∧ Rsp g 0)) ∧
      (e.seqr.kind = .banked → Answers (.enterService ep tenant tag) s (fun g => Rsp g 0 ∧ g.e.seqr.latched = some (4, 0) ∧
        g.e.mode = e.mode ∧ g.e.seqr.kind = .banked)))) ∧
  (∀ (force : Bool) (c : Instr) (target : Nat), ((c, target) = (.enterBanked ep tenant tag force, 3) ∨
      (c, target) = (.enterEmber ep tenant tag force, 4) ∨ (c, target) = (.enterOff ep tenant tag force, 6)) → at_ (saysEnter target force) →
    (f.phase ≠ 0 → Answers c s (Refused 2)) ∧
    (f.phase = 0 → e.mode = .banked → e.seqr.kind = .idle → target = 3 → Answers c s (fun g => Rsp g 0 ∧ g.e = e)) ∧
    (f.phase = 0 → e.seqr.kind ≠ .idle → Answers c s (Refused 2)) ∧
    (f.phase = 0 → q.nv.slotRec.otherState ≠ 1 → q.nv.slotRec.otherState ≠ 2 → e.seqr.kind = .idle →
      (e.mode = .service → e.regs.get 0 PWR_OVERRIDE_NO_SLEEP = 0 → q.kiln.sess = [] →
          (notReady q = 0 ∨ (force = true ∧ bit (modesSec q.truss 0 1) 0 = true)) → Answers c s (fun g => Rsp g 0 ∧
        g.e.seqr.kind = .banked ∧ g.e.seqr.step = 1 ∧ g.e.seqr.goal = target ∧ g.e.seqr.tenant = tenant.val ∧
        g.e.regs.get 0 PWR_STAT_CAUSE = 1 ∧ g.e.mode = .service)) ∧
      (e.mode = .banked → target ≠ 3 → e.regs.get 0 PWR_OVERRIDE_NO_SLEEP = 0 → q.kiln.sess = [] → notReady q = 0 → Answers c s (fun g =>
        Rsp g 0 ∧ g.e.seqr.kind = (if target = 6 then .off else .ember) ∧ g.e.seqr.step = 1)) ∧
      (e.mode = .service → e.regs.get 0 PWR_OVERRIDE_NO_SLEEP = 1 → Answers c s (Refused 6)) ∧
      (e.mode = .workshop → e.regs.get 0 PWR_OVERRIDE_NO_SLEEP = 0 → q.kiln.sess ≠ [] → Answers c s (Refused 5)) ∧
      (e.mode = .service → e.regs.get 0 PWR_OVERRIDE_NO_SLEEP = 0 → q.kiln.sess = [] → 0 < notReady q →
        (force = false ∨ bit (modesSec q.truss 0 1) 0 = false) → Answers c s (Refused 3)))) ∧
  (∀ (c : Instr) (ms : Nat), ((c = .modeReset ep tenant tag ∧ at_ (saysFields [(0, 1, 3)])) ∨
      (c = .modeHold ep tenant tag ms ∧ at_ (saysFields [(0, 1, 4), (4, 4, ms)]))) →
    (f.phase ≠ 0 ∨ e.seqr.kind ≠ .idle → Answers c s (Refused 2)) ∧
    (f.phase = 0 → e.seqr.kind = .idle → q.hasSession tenant.val = false → Answers c s (Refused 4)) ∧
    (f.phase = 0 → e.seqr.kind = .idle → q.hasSession tenant.val = true →
      (c = .modeHold ep tenant tag ms → ms < 10 ∨ 600000 < ms → Answers c s (Refused 1)) ∧
      ((c = .modeHold ep tenant tag ms → 10 ≤ ms ∧ ms ≤ 600000) → Answers c s (fun g =>
        g.e.mode = .kindling ∧ g.e.roleA = .offline ∧ g.e.roleB = .offline ∧ g.a.host.dgen = (f.a.host.dgen + 1) % 2 ^ 32 ∧
        g.b.host.dgen = (f.b.host.dgen + 1) % 2 ^ 32 ∧ g.a.kiln.sess = [] ∧ g.b.kiln.sess = [] ∧ g.e.flue = e.flue ∧
        (f.h.proxyOld = [] → f.h.pairUp (halfOf ep.val) q.st.me = true → ∃ m ∈ g.h.toHost, IsRsp m 0) ∧
        (c = .modeReset ep tenant tag → Counted e.regs g.e.regs BBR_KINDLE_CNT 1 ∧ 1 ≤ g.e.seqr.kin) ∧
        (c = .modeHold ep tenant tag ms → g.e.seqr.kin = 0 ∧ g.e.seqr.holdEnd = some (e.counter + ms * 1000000))))))

/-- R42, R439, R451-R460, R482, R485: a wake pin acts once it has held its level for its filter time; the sleep sequences go through their steps to BANKED, EMBER and OFF; a wake is latched with its source,
and served at once where the device sleeps; a later one is added to OTHERS; pads are released; the VBAT domain clears; the device idles
in P1, and leaves SAFE by KINDLING. -/
def Obligations.SleepAndWake : Prop := ∀ (s : State) (p : PlaneId) (dt slept : Nat),
  let f := s.f
  let e := f.e
  let Woken := fun (g : Field) (src idx : Nat) => g.e.mode = .service ∧ g.e.pstate = .p0 ∧ g.e.regs.get 0 BBR_WAKE_SOURCE = src ∧
    g.e.regs.get 0 BBR_WAKE_INDEX = idx ∧ g.e.seqr.latched = none ∧ g.e.regs.get 0 PWR_STAT_PWR_EN = e.regs.get 0 PWR_STAT_PWR_EN % 8 + 8
  let Banked := e.mode = .banked ∧ e.pstate = .p2 ∧ e.seqr.kind = .idle ∧ e.seqr.off = false ∧ e.seqr.latched = none ∧ f.lead.kiln.sess = []
  (e.seqr.kind = .banked → e.seqr.step = 4 → (∀ x ∈ e.eths, x.2.buf = [] ∧ x.2.sending = none) → (∀ x ∈ e.t1s, x.2.txq = []) →
    Answers .bankedPortsDrained s (fun g => g.e.seqr.step = 5 ∧
    g.e.seqr.kind = .banked)) ∧
  (e.seqr.kind = .banked → e.seqr.step = 5 → e.seqr.latched = none → (f.plane p).st.takes = true → Machine.slept f = true →
    (e.seqr.goal = 3 → Answers .bankedDrivesFlushed s (fun g => g.e.mode = .banked ∧ g.e.pstate = .p2 ∧ g.e.seqr.kind = .idle ∧
      g.e.regs.get 0 PWR_STAT_PWR_EN = e.regs.get 0 PWR_STAT_PWR_EN % 8 ∧ ∀ d < 4, ((g.plane p).drive d).state = 0)) ∧
    (e.seqr.goal = 4 → Answers .bankedDrivesFlushed s (fun g => g.e.mode = .banked ∧ g.e.seqr.kind = .ember ∧ g.e.seqr.step = 1)) ∧
    (e.seqr.goal = 6 → Answers .bankedDrivesFlushed s (fun g => g.e.mode = .banked ∧ g.e.seqr.kind = .off ∧ g.e.seqr.step = 1))) ∧
  (e.seqr.step = 6 → e.seqr.latched = none →
    (e.seqr.kind = .ember → Answers .emberPlanesOff s (fun g => g.e.mode = .ember ∧ g.e.pstate = .p3 ∧ g.e.seqr.kind = .idle ∧
      g.e.seqr.off = false ∧ g.e.regs.get 0 PWR_STAT_PGOOD = 1)) ∧
    (e.seqr.kind = .off → Answers .emberPlanesOff s (fun g => g.e.mode = .ember ∧ g.e.pstate = .p4 ∧ g.e.seqr.off = true ∧
      g.e.regs.get 0 PWR_STAT_PGOOD = 0))) ∧
  (∀ c : Fin 16, Answers (.padRelease c) s (fun g => bit (g.e.regs.get 0 BBR_PAD_HELD_COURSES) c.val = false ∧
    ∀ k : Fin 16, k ≠ c → bit (g.e.regs.get 0 BBR_PAD_HELD_COURSES) k.val = bit (e.regs.get 0 BBR_PAD_HELD_COURSES) k.val)) ∧
  (Banked →
    (∀ held, e.seqr.wakeNFilt * 1000 ≤ held → pinHigh e 31 = true → Answers (.wakeNAssert ⟨false, held, slept⟩) s (fun g => Woken g 3 0)) ∧
    (∀ high held, held < e.seqr.wakeNFilt * 1000 → Answers (.wakeNAssert ⟨high, held, slept⟩) s (fun g => g = f)) ∧
    (∀ (n : Fin 16) (held : Nat), e.seqr.wakeCFilt * 1000 ≤ held → pinHigh e n.val = false →
      (bit e.seqr.wakeEn n.val = true → Answers (.wakeCAssert n ⟨true, held, slept⟩) s (fun g => Woken g 2 n.val)) ∧
      (bit e.seqr.wakeEn n.val = false → Answers (.wakeCAssert n ⟨true, held, slept⟩) s (fun g => pinHigh g.e n.val = true ∧
        g.e.mode = .banked ∧ g.e.seqr = e.seqr))) ∧
    (e.regs.rd64 PWR_ALARM_LO ≠ 0 → e.regs.rd64 PWR_ALARM_LO ≤ e.calSec → Answers (.calendarAlarm slept) s (fun g => Woken g 5 0 ∧
      g.e.regs.get 0 PWR_ALARM_STAT_FIRED = 1 ∧ g.e.regs.rd64 PWR_ALARM_LO = 0))) ∧
  (∀ x held, e.seqr.kind = .banked → e.pstate = .p0 → e.seqr.latched = some x → bit e.seqr.others 3 = false →
    e.seqr.wakeNFilt * 1000 ≤ held → pinHigh e 31 = true → Answers (.wakeNAssert ⟨false, held, slept⟩) s (fun g => bit g.e.seqr.others 3 = true ∧
      g.e.seqr.latched = some x ∧ g.e.mode = e.mode)) ∧
  (∀ held, e.mode = .ember → e.pstate = .p3 → e.seqr.kind = .idle → e.seqr.off = false → e.seqr.latched = none →
    e.seqr.wakeNFilt * 1000 ≤ held → pinHigh e 31 = true → Answers (.wakeNAssert ⟨false, held, slept⟩) s (fun g => g.e.mode = .kindling ∧
      g.e.pstate = .p0 ∧ g.e.seqr.cal = e.seqr.cal + slept ∧
      g.e.counter = e.regs.rd64 BBR_SLEEP_CNT_LO + (e.seqr.cal + slept - e.seqr.sleepCal))) ∧
  Answers .vbatLoss s (fun g => g.e.seqr.cal = 0 ∧ g.e.seqr.tamperEn = 0 ∧ g.e.seqr.wakeEn = 0 ∧ g.e.regs.rd BBR_FLOOR = resetWord BBR_FLOOR ∧
    g.e.regs.rd BBR_SHUTDOWN = resetWord BBR_SHUTDOWN ∧ g.e.regs.rd PWR_OVERRIDE = e.regs.rd PWR_OVERRIDE) ∧
  (e.pstate = .p0 →
    (e.mode = .safe → e.seqr.safeDone = true → Answers (.idleEntry dt) s (fun g => g.e.pstate = .p1 ∧ g.e.seqr.p1At = some (e.at dt).counter)) ∧
    (e.mode = .service → bit (devSec e.live 0 1) 0 = true → e.regs.get 0 PWR_OVERRIDE_NO_IDLE = 0 →
      e.seqr.idleSince + devSec e.live 10 2 * 1000 ≤ (e.at dt).counter → Answers (.idleEntry dt) s (fun g => g.e.pstate = .p1))) ∧
  (e.mode = .safe → e.seqr.safeDone = true → e.seqr.holds = 0 → e.seqr.safeAt + 20000000 ≤ (e.at dt).counter →
    e.seqr.holdClearAt + 20000000 ≤ (e.at dt).counter → Answers (.safeRekindle dt) s (fun g => g.e.mode = .kindling ∧
      Counted e.regs g.e.regs BBR_KINDLE_CNT 1 ∧ g.e.counter = (e.at dt).counter ∧ g.turn = Turn.idle))

/-- R272, R461-R463: the DVFS point moves one step towards its target, or the raise is refused and counted; the adaptive loop moves a plane's
voltage by 5 mV within its bounds; heat lowers the point, and cooling restores the request. -/
def Obligations.PowerPoints : Prop := ∀ s : State,
  let e := s.f.e
  let cur := e.regs.get 0 PWR_DVFS_CUR
  (e.serving = true → e.seqr.dvfsAt < e.merger.lastTick →
    (cur < dvfsTarget e → pointLow (cur + 1) ≤ e.regs.get 0 PWR_AVS_VMAX → Answers .dvfsStep s (fun g => g.e.regs.get 0 PWR_DVFS_CUR = cur + 1)) ∧
    (cur < dvfsTarget e → e.regs.get 0 PWR_AVS_VMAX < pointLow (cur + 1) → Answers .dvfsStep s (fun g => g.e.regs.get 0 PWR_DVFS_CUR = cur ∧
      g.e.regs.get 0 PWR_DVFS_REFUSED = 1 ∧ Counted e.regs g.e.regs PWR_SEQ_REFUSE_CNT 1)) ∧
    (dvfsTarget e < cur → Answers .dvfsStep s (fun g => g.e.regs.get 0 PWR_DVFS_CUR = cur - 1)) ∧
    (cur = dvfsTarget e → Answers .dvfsStep s (fun g => g = s.f))) ∧
  (∀ p : PlaneId,
    let v := e.regs.get 0 (voltOf p)
    let lo := e.regs.get 0 PWR_AVS_VMIN
    let hi := e.regs.get 0 PWR_AVS_VMAX
    e.serving = true →
    (v + 5 ≤ hi → hi ≤ 850 → ∀ low, Answers (.avsAdjust p true low) s (fun g => g.e.regs.get 0 (voltOf p) = v + 5)) ∧
    (hi < v + 5 → Answers (.avsAdjust p true false) s (fun g => g = s.f)) ∧
    (hi < v + 5 → v + 5 ≤ 850 → (e.src (planeSrc p 19)).live = false → Answers (.avsAdjust p true true) s (fun g =>
      g.e.regs.get 0 (voltOf p) = v + 5 ∧ (g.e.src (planeSrc p 19)).cause = true)) ∧
    (pointLow cur + 5 ≤ v → lo + 5 ≤ v → ∀ low, Answers (.avsAdjust p false low) s (fun g => g.e.regs.get 0 (voltOf p) = v - 5)) ∧
    (v - 5 < pointLow cur → ∀ low, Answers (.avsAdjust p false low) s (fun g => g.e.regs.get 0 (voltOf p) = v ∧
      Counted e.regs g.e.regs PWR_SEQ_REFUSE_CNT 1)) ∧
    (∀ temp : Fin 256,
      (179 ≤ temp.val → e.pstate = .p0 → e.regs.get 0 PWR_DVFS_MIN < cur → Answers (.thermalThrottle p temp) s (fun g =>
        g.e.regs.get 0 PWR_DVFS_CUR = cur - 1 ∧ g.e.seqr.thermal = cur - 1)) ∧
      (temp.val < 179 → Answers (.thermalThrottle p temp) s (fun g => g.e.regs.get 0 PWR_DVFS_CUR = cur ∧
        g.e.regs.get 0 (match p with | .A => PWR_TEMP_PLANE_A | .B => PWR_TEMP_PLANE_B) = temp.val)) ∧
      (temp.val < 169 → e.regs.get 0 (match p with | .A => PWR_TEMP_PLANE_B | .B => PWR_TEMP_PLANE_A) < 169 → e.seqr.thermal < 3 →
        Answers (.thermalRestore p temp) s (fun g => g.e.seqr.thermal = 3 ∧ g.e.seqr.dvfsAt = e.merger.lastTick)) ∧
      (169 ≤ temp.val → Answers (.thermalRestore p temp) s (fun g => g.e.seqr = e.seqr))))

/-- R464-R468, R508, R509, R521: a supply warning, its end, its long and its OFF limits; the reset level takes the device to P4; a lost rail; RESET_N
resets the field side, its release starts KINDLING, and a stuck one is recorded and ignored; the test balls are closed outside the life-cycle
states and modes that open them; in SAFE SAFE_N is low and the slots are recessive. -/
def Obligations.SupplyAndReset : Prop := ∀ (s : State) (p : PlaneId) (dt : Nat),
  let f := s.f
  let e := f.e.at dt
  (∀ src : Fin 4, bit src.val 0 = true → awake f.e = true → f.e.regs.get 0 PWR_STAT_WARN = 0 → f.e.merger.stopped = false →
    Answers (.supplyWarn src dt) s (fun g => g.e.regs.get 0 PWR_STAT_WARN = 1 ∧ g.e.regs.get 0 PWR_STAT_LOW_SUPPLY = 1 ∧
      Counted f.e.regs g.e.regs PWR_WARN_CNT 1 ∧ g.e.seqr.warnAt = e.counter ∧
      ∃ w ∈ g.e.merger.waiting, w.sh.utype = .ctrl ∧ w.sh.ctrlCode = 14 ∧ bytesAt w.sh.body 2 1 = 1)) ∧
  (f.e.regs.get 0 PWR_STAT_WARN = 1 → f.e.seqr.kind = .idle → f.e.mode = .service → Answers (.supplyWarnClear dt) s (fun g =>
    g.e.regs.get 0 PWR_STAT_WARN = 0 ∧ g.e.regs.get 0 PWR_STAT_WARN_LONG = 0 ∧ g.e.regs.get 0 PWR_STAT_BROWN_N = 1 ∧
    g.e.regs.rd PWR_LAST_WARN = BitVec.ofNat 32 (min ((e.counter - f.e.seqr.warnAt) / 1000) 0xFFFFFFFF))) ∧
  (f.e.regs.get 0 PWR_STAT_WARN = 1 → f.e.regs.get 0 PWR_STAT_WARN_LONG = 0 → f.e.seqr.warnAt + 50000000 ≤ e.counter →
    Answers (.warnLong dt) s (fun g => g.e.regs.get 0 PWR_STAT_WARN_LONG = 1)) ∧
  (∀ w, (f.plane p).st.takes = true → (f.plane p).rick.warnLong = false → (f.plane p).rick.warnTick = some w →
    (w + 5000 ≤ (f.plane p).st.tick → Answers (.warnLong dt) s (fun g => (g.plane p).rick.warnLong = true)) ∧
    ((f.plane p).st.tick < w + 5000 → Answers (.warnLong dt) s (fun g => g.plane p = f.plane p))) ∧
  (f.e.regs.get 0 PWR_STAT_WARN = 1 → devSec f.e.live 8 2 ≠ 0 → f.e.seqr.warnAt + devSec f.e.live 8 2 * 10 ^ 9 ≤ e.counter →
    f.e.mode = .service → f.e.seqr.kind = .idle → Answers (.warnOffTimeout dt) s (fun g => g.e.seqr.kind = .banked ∧ g.e.seqr.goal = 6 ∧
      g.e.seqr.cause = 4 ∧ g.e.seqr.step = 1)) ∧
  (f.e.seqr.off = false → Answers .resetLevel s (fun g => g.e.mode = .ember ∧ g.e.pstate = .p4 ∧ g.e.seqr.off = true ∧
    g.e.roleA = .offline ∧ g.e.roleB = .offline ∧ g.e.regs.get 0 BBR_SHUTDOWN_KIND = 4 ∧ g.e.regs.get 0 PWR_STAT_PWR_EN = 0 ∧
    g.e.regs.get 0 PWR_STAT_PGOOD = 0 ∧ (∀ a, (g.plane a).st.takes = false))) ∧
  (∀ k : Fin 4, bit (f.e.regs.get 0 PWR_STAT_PWR_EN) k.val = true → bit (f.e.regs.get 0 PWR_STAT_PGOOD) k.val = true →
    (k = 0 → Answers (.pgoodFall k) s (fun g => bit (g.e.regs.get 0 PWR_STAT_PGOOD) 0 = false)) ∧
    (k = 3 → Answers (.pgoodFall k) s (fun g => bit (g.e.regs.get 0 PWR_STAT_PGOOD) 3 = false)) ∧
    (k = 1 → f.e.roleA = .shadow → f.e.roleB = .leading → f.phase = 0 → (f.e.src 81).live = false → Answers (.pgoodFall k) s (fun g =>
      bit (g.e.regs.get 0 PWR_STAT_PGOOD) 1 = false ∧ g.e.roleA = .offline ∧ (g.e.src 81).cause = true)) ∧
    (k = 2 → f.e.roleB = .shadow → f.e.roleA = .leading → f.phase = 0 → (f.e.src 145).live = false → Answers (.pgoodFall k) s (fun g =>
      bit (g.e.regs.get 0 PWR_STAT_PGOOD) 2 = false ∧ g.e.roleB = .offline ∧ (g.e.src 145).cause = true))) ∧
  (∀ slept, f.e.mode = .service → f.e.pstate = .p0 → f.e.seqr.off = false → f.e.seqr.resetDeaf = false →
    Answers (.resetNAssert slept) s (fun g => g.e.mode = .kindling ∧ g.e.seqr.resetLow = some f.e.counter ∧ g.e.roleA = .offline ∧
      g.e.roleB = .offline ∧ g.e.seqr.kin = 0 ∧ g.e.counter = f.e.counter)) ∧
  (f.e.seqr.resetDeaf = false → f.e.seqr.resetLow.isSome = true → f.e.mode = .kindling → f.e.seqr.kin = 0 → f.e.seqr.holdEnd = none →
    Answers (.resetNRelease dt) s (fun g => g.e.seqr.resetLow = none ∧ 1 ≤ g.e.seqr.kin ∧ g.e.regs.get 0 PWR_STAT_PWR_EN = 15 ∧
      Counted f.e.regs g.e.regs BBR_KINDLE_CNT 1)) ∧
  (∀ t, f.e.seqr.resetLow = some t → t + 8 * 10 ^ 9 < e.counter → f.e.mode = .kindling → f.e.seqr.kin = 0 → f.e.seqr.holdEnd = none →
    Answers (.resetStuck dt) s (fun g => g.e.seqr.resetDeaf = true ∧ g.e.regs.get 0 BBR_RESET_STUCK_NEW = 1 ∧ 1 ≤ g.e.seqr.kin)) ∧
  (∀ t, f.e.seqr.holdEnd = some t → t ≤ e.counter → f.e.mode = .kindling → f.e.seqr.kin = 0 → f.e.seqr.resetLow = none →
    Answers (.holdExpire dt) s (fun g => g.e.seqr.holdEnd = none ∧ 1 ≤ g.e.seqr.kin ∧ Counted f.e.regs g.e.regs BBR_KINDLE_CNT 1)) ∧
  (f.e.seqr.off = false → f.e.mode ≠ .ember →
    ((s.otpA.lc = 2 ∨ s.otpA.lc = 3 ∨ f.e.mode = .service ∨ f.e.mode = .banked) → s.pad .tdo = .hiZ ∧ s.pad .conTx = .high ∧
      s.testTakes .bypass = true ∧ s.testTakes .idcode = true ∧ s.testTakes .other = false) ∧
    (s.otpA.lc ≤ 1 → (f.e.mode = .workshop ∨ f.e.mode = .safe) → s.pad .tdo = .block ∧ s.pad .conTx = .block ∧ s.testTakes .other = true)) ∧
  (f.e.mode = .safe → f.e.seqr.off = false → s.pad .safeN = .low ∧ ∀ n : Fin 128, f.e.courseHeld n.val = false → s.pad (.slotTx n) = .high)

/-! KINDLING. -/

/-- R402, R449, R450, R519: power on starts KINDLING with the counter of R402, and a boot strap stops it after step 2; the rails start both planes,
and a plane whose own rail is not up after 20 ms fails with its SUPPLY source; a plane whose firmware fails stays OFFLINE, held; without a
leading plane in 400 ms the device enters SAFE. -/
def Obligations.KindlingStart : Prop := ∀ (s : State) (p : PlaneId) (slept dt : Nat),
  let f := s.f
  let e := f.e
  (e.seqr.off = true → ∀ boot : Fin 8, Answers (.powerOn boot slept) s (fun g => g.e.mode = .kindling ∧ g.e.pstate = .p0 ∧
    g.e.seqr.off = false ∧ g.e.seqr.pwrAt = g.e.counter ∧ g.e.seqr.kin = (if boot = 0 then 1 else 2) ∧ g.e.roleA = .offline ∧ g.e.roleB = .offline ∧
    g.e.regs.get 0 PWR_STAT_PWR_EN = 15 ∧ g.e.regs.get 0 PWR_STAT_PGOOD = 1 ∧ g.e.regs.get 0 TIME_STAT_TQ = 2 ∧
    g.e.seqr.cal = e.seqr.cal + slept ∧ 86400 * 10 ^ 9 ≤ g.e.counter ∧ g.e.counter < 86401 * 10 ^ 9 ∧ g.e.flue = [])) ∧
  (e.mode = .kindling → e.seqr.kin = 1 →
    let good := e.regs.get 0 PWR_STAT_PGOOD ||| ((14 ^^^ (e.seqr.pgLow &&& 14)) &&& e.regs.get 0 PWR_STAT_PWR_EN)
    let mine := match p with | .A => 1 | .B => 2
    let all := bit good 1 = true ∧ bit good 2 = true ∧ bit good 3 = true
    ((e.seqr.holdEnd.isSome = true ∨ (e.seqr.resetLow.isSome = true ∧ e.seqr.resetDeaf = false)) →
      Answers .kindlingPgood s (fun g => g.e.seqr.kin = 1 ∧ g.e.regs.get 0 PWR_STAT_PGOOD = good ∧ g.a = f.a ∧ g.b = f.b)) ∧
    (e.seqr.holdEnd = none → e.seqr.resetLow = none →
      (all → Answers .kindlingPgood s (fun g => g.e.seqr.kin = 3 ∧ g.e.seqr.resetOutN = true ∧
        g.e.regs.get 0 PWR_STAT_PGOOD = good ∧ ∀ a, (g.plane a).st.takes = true ∧ (g.plane a).st.tick = e.merger.lastTick)) ∧
      (¬ all → e.counter < e.seqr.pwrAt + 20000000 → Answers .kindlingPgood s (fun g => g.e.seqr.kin = 1 ∧
        g.e.regs.get 0 PWR_STAT_PGOOD = good ∧ g.a = f.a ∧ g.b = f.b)) ∧
      (¬ all → e.seqr.pwrAt + 20000000 ≤ e.counter → e.role p = .offline → (e.src (planeSrc p 17)).live = false →
        Answers .kindlingPgood s (fun g => g.e.seqr.kin = 3 ∧ g.e.seqr.resetOutN = true ∧
          (bit good mine = true → (g.plane p).st.takes = true) ∧
          (bit good mine = false → (g.plane p).st.takes = false ∧ g.e.failed p = true ∧ (g.e.src (planeSrc p 17)).cause = true))))) ∧
  (∀ k : Fin 4, bit (e.regs.get 0 PWR_STAT_PWR_EN) k.val = true → bit (e.regs.get 0 PWR_STAT_PGOOD) k.val = false →
    Answers (.pgoodFall k) s (fun g => g = { f with e := { e with seqr := { e.seqr with pgLow := e.seqr.pgLow ||| 2 ^ k.val } } })) ∧
  (e.doneStep p < 6 → e.kindles p (e.doneStep p) = true →
    Answers (.firmwareVerified p true) s (fun g => g.e.doneStep p = 6 ∧ g.e.failed p = false ∧ g.plane p = f.plane p) ∧
    Answers (.firmwareVerified p false) s (fun g => g.e.failed p = true ∧ g.e.doneStep p = e.doneStep p ∧
      g.e.regs.get 0 ⟨planeStat p, 31, 28⟩ = 6 ∧ (g.plane p).st.takes = false ∧ g.plane p.other = f.plane p.other)) ∧
  (e.mode = .kindling → (e.seqr.kin = 1 ∧ e.seqr.cold = true) ∨ e.seqr.kin = 3 →
    (e.seqr.kinAt + 400000000 < (e.at dt).counter → e.seqr.kind = .idle → e.seqr.off = false → f.phase = 0 →
      Answers (.kindlingTimeout dt) s (fun g => g.e.mode = .safe ∧ g.e.merger.stopped = true ∧ g.e.regs.get 0 FLUE_LAST_SAFE_REASON = 2)) ∧
    ((e.at dt).counter ≤ e.seqr.kinAt + 400000000 → Answers (.kindlingTimeout dt) s (fun g => g.e = e.at dt ∧ g.a = f.a ∧ g.b = f.b)))

/-- R69, R78, R326, R327, R437: at KINDLING a plane runs its ACTIVE truss where that verifies, repairs it from the other plane's, or makes its other slot
ACTIVE; with no truss in either plane the device enters SAFE with the hold for it; an armed life-cycle transition blows eight fuses of the
target in both planes first, which for OEM, FIELD and RETURN the other slot of both must be STAGED for and pass, and one that is not
allowed blows none. -/
def Obligations.KindlingTruss : Prop := ∀ (s : State) (p : PlaneId),
  let f := s.f
  let e := f.e
  let q := f.plane p
  let o := s.otp p
  e.kindles p 6 = true →
  (q.nv.kiln.armed = none → f.phase = 0 →
    Answers (.kindlingTrussCheck p) s (fun g =>
      (f.checkActive p o = 0 → g.e.doneStep p = 8 ∧ (g.plane p).truss = parseTruss q.nv.activeFlash.image ∧ (g.plane p).nv = q.nv ∧
        g.plane p.other = f.plane p.other) ∧
      (f.checkActive p o ≠ 0 → f.checkActive p.other o = 0 → g.e.doneStep p = 8 ∧
        (g.plane p).nv.activeFlash = (f.plane p.other).nv.activeFlash ∧
        (g.plane p).nv.slotRec.activeVer = (f.plane p.other).nv.slotRec.activeVer) ∧
      (f.checkActive p o ≠ 0 → f.checkActive p.other o ≠ 0 → (q.nv.slotRec.otherState = 3 ∨ q.nv.slotRec.otherState = 4) →
        verifySlot q.nv.otherFlash (f.verEnv p o o.lc none) = 0 → g.e.doneStep p = 8 ∧
        (g.plane p).nv.slotRec.active = 1 - q.nv.slotRec.active ∧ (g.plane p).nv.slotRec.otherState = 4)) ∧
    (f.checkActive p o ≠ 0 → f.checkActive p.other o ≠ 0 →
      (q.nv.slotRec.otherState ≠ 3 → q.nv.slotRec.otherState ≠ 4 → e.seqr.kind = .idle → e.seqr.off = false →
        (e.failed p.other = false → Answers (.kindlingTrussCheck p) s (fun g => g.e.failed p = true ∧ g.e.mode = e.mode ∧
          (g.plane p).st.takes = false)) ∧
        (e.failed p.other = true → e.mode = .kindling → Answers (.kindlingTrussCheck p) s (fun g => g.e.failed p = true ∧ g.e.mode = .safe ∧
          bit g.e.seqr.holds (if o.lc = 5 then 1 else 2) = true ∧ g.e.regs.get 0 FLUE_LAST_SAFE_REASON = 2))))) ∧
  (∀ t, q.nv.kiln.armed = some t → f.phase = 0 →
    (lcAllowed o t = true → ((t = 2 ∨ t = 3 ∨ t = 4) → ∀ a, (f.plane a).nv.slotRec.otherState = 3 ∧
        verifySlot (f.plane a).nv.otherFlash (f.verEnv a (s.otp a) t none) = 0) →
      let fuse := fun (x : Otp) => { x with lcFuses := sput (fun _ => 0) x.lcFuses t 8 }
      Fuses (.kindlingTrussCheck p) s fuse (fun g => ∀ a, (g.plane a).nv.kiln.armed = none ∧
        (g.plane a).kiln.lc = (fuse (s.otp a)).lc)) ∧
    (lcAllowed o t = false ∨ ((t = 2 ∨ t = 3 ∨ t = 4) ∧ ∃ a, (f.plane a).nv.slotRec.otherState ≠ 3) →
      Answers (.kindlingTrussCheck p) s (fun g => ∀ a, (g.plane a).nv.kiln.armed = none ∧
      (g.plane a).kiln.lc = (f.plane a).kiln.lc)))

/-- R331, R340, R407, R449, R474: a plane that has verified loads its full truss with every network AWAKE, waits for entropy where it generates
keys, and goes on to COPY where another plane leads; a tamper input that the truss just loaded enables and that stands at its active level takes
the device to SAFE; the first plane to finish leads, and the device is in SERVICE. -/
def Obligations.KindlingEnd : Prop := ∀ (s : State) (p : PlaneId),
  let f := s.f
  let e := f.e
  let t := parseTruss (f.plane p).nv.activeFlash.image
  (e.kindles p 8 = true →
    (needsRand t = true → (f.plane p).kiln.randSeen = false → Answers (.kindlingFullLoad p) s (fun g => g = f)) ∧
    (needsRand t = false ∨ (f.plane p).kiln.randSeen = true →
      (e.mode = .kindling → e.doneStep p.other < 9 → (∃ k < 5, tamperActive (e.loadVbat t) k = true) → e.seqr.kind = .idle → e.seqr.off = false →
        f.phase = 0 → (e.src 13).live = false → Answers (.kindlingFullLoad p) s (fun g => g.e.mode = .safe ∧
          g.e.regs.get 0 BBR_TAMPER_LATCHED = 1 ∧ bit g.e.seqr.holds 0 = true)) ∧
      ((e.mode = .kindling → e.doneStep p.other < 9 → ∀ k < 5, tamperActive (e.loadVbat t) k = false) →
        Answers (.kindlingFullLoad p) s (fun g => g.e.doneStep p = 9 ∧ (g.plane p).truss = t ∧ (g.plane p).nv.kiln.clean = false ∧
        (e.leader.isSome = true → g.e.role p = .rejoining) ∧ ∀ i < netCount t, (netOf (g.plane p) i).ready = false)))) ∧
  (e.mode = .kindling → e.kindles p 9 = true → e.leader = none → e.merger.stopped = false →
    (f.plane p).kiln.sess = [] → Answers (.kindlingLead p) s (fun g =>
    g.e.mode = .service ∧ g.e.leader = some p ∧ g.e.seqr.kin = 10 ∧ g.e.seqr.safeN = true ∧ g.e.seqr.latched = none ∧
    (g.plane p).st.sends = true ∧ (e.doneStep p.other = 9 → e.failed p.other = false → g.e.role p.other = .rejoining) ∧
    (∃ w ∈ g.e.merger.waiting, w.sh.utype = .ctrl ∧ w.sh.ctrlCode = 5 ∧ bytesAt w.sh.body 4 1 = 6) ∧
    ∃ w ∈ g.e.merger.waiting, w.sh.utype = .ctrl ∧ w.sh.ctrlCode = 7 ∧ bytesAt w.sh.body 2 1 = 2 ∧ bytesAt w.sh.body 4 1 = 1))

/-! Batten chains. -/

/-- R490-R493: a refresh; a sweep starts when it is due, and a chain without packages ends it at once; a read that answers moves the sweep on
and the last one ends it; a read without an answer is tried once more, and then is a break; BT_RET with another position is a break of the
chain's length. -/
def Obligations.BattenSweeps : Prop := ∀ (s : State) (n : Fin 4) (dt : Nat),
  let e := s.f.e.at dt
  let c := e.chain n.val
  let len := e.bt n.val BT_CFG_LEN
  let due := c.again = true ∨ c.sweepTs + e.bt n.val BT_SWEEP_MS * 1000000 ≤ e.counter
  let Broken := fun (g : Field) (pos : Nat) => (g.e.chain n.val).sweeping = false ∧ g.e.bt n.val BT_STAT_STATE = 3 ∧
    g.e.bt n.val BT_STAT_BREAK_POS = pos ∧ (g.e.chain n.val).cfgFrom = some pos ∧
    Counted e.regs g.e.regs (battenBase n.val + BT_BREAK_CNT) 1
  (e.chainRuns n.val = true →
    (c.refreshAt + e.bt n.val BT_CFG_FS_UNITS * 4000000 ≤ e.counter → Answers (.battenRefresh n dt) s (fun g =>
      (g.e.chain n.val).refreshAt = e.counter ∧ (g.e.chain n.val).sweeping = c.sweeping)) ∧
    (e.counter < c.refreshAt + e.bt n.val BT_CFG_FS_UNITS * 4000000 → Answers (.battenRefresh n dt) s (fun g => g.e = e)) ∧
    (c.sweeping = false → due → 0 < len → Answers (.battenSweepStart n dt) s (fun g => (g.e.chain n.val).sweeping = true ∧
      (g.e.chain n.val).again = false ∧ (g.e.chain n.val).pkg = 0 ∧ (g.e.chain n.val).word = 0 ∧ (g.e.chain n.val).sweepTs = e.counter ∧
      g.e.bt n.val BT_STAT_STATE = (if e.bt n.val BT_STAT_STATE = 3 then 3 else 1))) ∧
    (c.sweeping = false → due → len = 0 → Answers (.battenSweepStart n dt) s (fun g => (g.e.chain n.val).sweeping = false ∧
      g.e.bt n.val BT_STAT_STATE = 2 ∧ Counted e.regs g.e.regs (battenBase n.val + BT_SWEEP_CNT) 1)) ∧
    (¬ due → Answers (.battenSweepStart n dt) s (fun g => g.e = e))) ∧
  (dt = 0 → e.chainRuns n.val = true → c.sweeping = true → len ≤ 16 → c.pkg < len → c.word ≤ 8 → ∀ (status : Fin 256) (data : Word),
    (c.retried = false → ∀ ok ret, Answers (.battenTransactionDone n 255 data ok ret) s (fun g => (g.e.chain n.val).retried = true ∧
      (g.e.chain n.val).pkg = c.pkg ∧ (g.e.chain n.val).word = c.word ∧ (g.e.chain n.val).sweeping = true)) ∧
    (c.retried = true → ∀ ok ret, Answers (.battenTransactionDone n 255 data ok ret) s (fun g => Broken g c.pkg)) ∧
    (status.val ≠ 255 → ∀ pos : Fin 256, pos.val ≠ len → ∀ ok, Answers (.battenTransactionDone n status data ok (some pos)) s (fun g =>
      Broken g pos.val)) ∧
    (status.val ≠ 255 → ∀ pos : Fin 256, pos.val = len →
      (c.retried = false → Answers (.battenTransactionDone n status data false (some pos)) s (fun g => (g.e.chain n.val).retried = true ∧
        (g.e.chain n.val).word = c.word)) ∧
      (status.val % 4 = 1 → c.word < 8 → Answers (.battenTransactionDone n status data true (some pos)) s (fun g =>
        (g.e.chain n.val).word = c.word + 1 ∧ (g.e.chain n.val).pkg = c.pkg ∧ (g.e.chain n.val).retried = false ∧
        sget (fun _ => (0 : Word)) (g.e.chain n.val).res (10 * c.pkg + 1 + c.word) = data)) ∧
      (status.val % 4 = 1 → c.word = 8 → c.pkg + 1 < len → Answers (.battenTransactionDone n status data true (some pos)) s (fun g =>
        (g.e.chain n.val).word = 0 ∧ (g.e.chain n.val).pkg = c.pkg + 1 ∧ (g.e.chain n.val).sweeping = true)) ∧
      (status.val % 4 = 1 → c.word = 8 → c.pkg + 1 = len → sget (fun _ => (0 : Word)) c.res 1000 = 0 → e.merger.stopped = false →
        Answers (.battenTransactionDone n status data true (some pos)) s (fun g => (g.e.chain n.val).sweeping = false ∧
          g.e.bt n.val BT_STAT_STATE = 2 ∧ g.e.bt n.val BT_STAT_BREAK_POS = 255 ∧
          g.e.regs.rd (battenBase n.val + BT_RES (len - 1) 9) = data ∧
          Counted e.regs g.e.regs (battenBase n.val + BT_SWEEP_CNT) 1 ∧
          ∃ w ∈ g.e.merger.waiting, w.sh.utype = .ctrl ∧ w.sh.ctrlCode = 10 ∧ bytesAt w.sh.body 2 1 = n.val ∧ bytesAt w.sh.body 3 1 = 0))))

/-- R489, R494, R495, R485: the lowest channel whose mode is not what the rule gives is written, and none where all agree; a restart raises
GEN and sweeps at once; BT_INT_N, which BT_STAT shows, asks for a sweep when low, or wakes a device that sleeps. -/
def Obligations.BattenControl : Prop := ∀ (s : State) (n : Fin 4) (slept : Nat),
  let e := s.f.e
  let c := e.chain n.val
  let upTo := min (e.bt n.val BT_CFG_LEN) (if e.bt n.val BT_STAT_STATE = 3 then e.bt n.val BT_STAT_BREAK_POS else 16)
  let settled := fun j => ∀ m, e.channelMode n.val j = some m → c.modeOf j = some m
  (∀ i m, i < 8 * upTo → (∀ j < i, settled j) → e.channelMode n.val i = some m → c.modeOf i ≠ some m → e.bt n.val BT_CTL_ENABLE = 1 →
    awake e = true → Answers (.battenModeWrite n) s (fun g => (g.e.chain n.val).modeOf i = some m ∧
      (∀ j, j ≠ i → (g.e.chain n.val).modeOf j = c.modeOf j) ∧ (e.bt n.val (BT_MAP_PORT i) = 0x1FF → m = 0))) ∧
  ((∀ j < 8 * upTo, settled j) → Answers (.battenModeWrite n) s (fun g => g = s.f)) ∧
  Answers (.battenRestart n) s (fun g => g.e.genOf (400 + n.val) = (e.genOf (400 + n.val) + 1) % 256 ∧
    (g.e.chain n.val).sweeping = false ∧ ((g.e.chain n.val).again = true ↔ g.e.bt n.val BT_CTL_ENABLE = 1) ∧
    (g.e.bt n.val BT_CTL_ENABLE = 1 → g.e.bt n.val BT_STAT_STATE = 2)) ∧
  (e.seqr.off = false → asleep e = false → e.pstate ≠ .p3 → e.pstate ≠ .p4 →
    (e.bt n.val BT_CTL_ENABLE = 1 → Answers (.battenInt n ⟨true, slept⟩) s (fun g => (g.e.chain n.val).again = true ∧
      g.e.bt n.val BT_STAT_INT = 1 ∧ g.e.mode = e.mode)) ∧
    (e.bt n.val BT_CTL_ENABLE = 0 → Answers (.battenInt n ⟨true, slept⟩) s (fun g => g.e.chains = e.chains ∧ g.e.bt n.val BT_STAT_INT = 1)) ∧
    Answers (.battenInt n ⟨false, slept⟩) s (fun g => g.e.chains = e.chains ∧ g.e.bt n.val BT_STAT_INT = 0 ∧ g.e.mode = e.mode)) ∧
  (e.mode = .banked → e.pstate = .p2 → e.seqr.kind = .idle → e.seqr.off = false → e.seqr.latched = none → s.f.lead.kiln.sess = [] →
    Answers (.battenInt n ⟨true, slept⟩) s (fun g => g.e.mode = .service ∧ g.e.pstate = .p0 ∧ g.e.regs.get 0 BBR_WAKE_SOURCE = 10 ∧
      g.e.regs.get 0 BBR_WAKE_INDEX = n.val ∧ g.e.seqr.latched = none))

/-! The block as a whole. -/

/-- A step takes the command at the front of the queue and has its effect on the state with the queue's rest; on an empty queue the block
idles, which is the model's choice (log entry 1). -/
def Obligations.StepTakesFront : Prop :=
  (∀ (s : State) (c : Instr) (rest : List Instr), step { s with pending := c :: rest } = exec c { s with pending := rest }) ∧
  (∀ s : State, s.pending = [] → step s = .next s)

/-- R42, R327, R386, R407, R449: after the COLD reset the device is in KINDLING with both planes OFFLINE, both reset outputs low, the counter
at 0, every register of the dies at its reset value, no command waiting, both dies fused as they leave Mordeow, and the rules
of the fuses hold. -/
def Obligations.ResetState : Prop :=
  let s := State.reset
  s.pending = [] ∧ s.f.e.mode = .kindling ∧ s.f.e.roleA = .offline ∧ s.f.e.roleB = .offline ∧ s.f.e.leader = none ∧
  s.f.e.seqr.safeN = false ∧ s.f.e.seqr.resetOutN = false ∧ s.f.e.counter = 0 ∧
  (∀ a, s.f.e.regs.rd a = resetWord a) ∧ (∀ p a, (s.f.plane p).regs.rd a = resetWord a) ∧
  (∀ ep off, s.f.h.rd ep off = resetBar (barBase ep + off)) ∧
  s.f.e.regs.get 0 TIME_STAT_TQ = 2 ∧ s.f.e.regs.get 0 PWR_DVFS_CUR = 3 ∧ (∀ n < 128, s.f.e.slotState n = 0) ∧
  (∀ n < 24, s.f.e.et n ETH_STAT_SPEED = 15 ∧ s.f.e.et n ETH_STAT_LINK = 0) ∧ (∀ n < 4, s.f.e.bt n BT_STAT_BREAK_POS = 255) ∧
  s.otpA = Otp.shipped ∧ s.otpB = Otp.shipped ∧ s.otpA.lc = 1 ∧ FuseRules s

/-- Every command completes in every state, and leaves the queue to `step`. -/
def Obligations.NothingStops : Prop := ∀ (c : Instr) (s : State), ∃ t, exec c s = .next t ∧ t.pending = s.pending

/-- What a command of a bus slot leaves as it is: the planes, the host die, the fuses, every other slot, port and chain, the modes, and every
register outside the slot's block. A filter element that is written is the one element of the pool that changes; a write of GOSLEEP or WAKE
reaches what the planes know of their networks and buses, and nothing else of them. -/
def Obligations.SlotFrames : Prop := ∀ (s t : State) (n : Fin 128),
  (∀ c, slotOf c = some n.val → exec c s = .next t → SlotOnly n.val s t ∧ PlanesStay s t ∧ t.f.e.pool = s.f.e.pool) ∧
  (∀ r dt, s.f.e.mode ≠ .banked → exec (.canFrameReceived n r dt) s = .next t → SlotOnly n.val s t ∧ PlanesStay s t ∧
    t.f.e.pool = s.f.e.pool) ∧
  (∀ idx both, exec (.filterElementWrite n idx both) s = .next t → SlotOnly n.val s t ∧ PlanesStay s t ∧
    ∀ i, i ≠ (s.f.e.filtList n.val).1 + idx.val → t.f.e.element i = s.f.e.element i) ∧
  (∀ width dt, s.f.e.wakeOnly n.val = false → exec (.linWakePulse n width dt) s = .next t → SlotOnly n.val s t ∧ PlanesStay s t) ∧
  (∀ c dt, (c = .linWake n dt ∨ c = .linGosleep n) → exec c s = .next t → SlotOnly n.val s t ∧ t.f.e.pool = s.f.e.pool ∧
    ∀ p, ∃ nets bus, t.f.plane p = { s.f.plane p with nets := nets, bus := bus })

/-- What a command of an Ethernet or T1S port leaves as it is: the planes, the host die, the fuses, the slots, every other port, the modes,
and every register outside the port's block. -/
def Obligations.PortFrames : Prop := ∀ (s t : State) (c : Instr) (n : Nat),
  (ethOf c = some n → exec c s = .next t → Apart s t ∧ PlanesStay s t ∧ BlockOnly (ethBase n) (128 + n) s t ∧ t.f.e.slots = s.f.e.slots ∧
    t.f.e.t1s = s.f.e.t1s ∧ t.f.e.pool = s.f.e.pool ∧ ∀ k, k ≠ n → t.f.e.eth k = s.f.e.eth k) ∧
  (t1sOf c = some n → exec c s = .next t → Apart s t ∧ PlanesStay s t ∧ BlockOnly (t1sBase n) (152 + n) s t ∧ t.f.e.slots = s.f.e.slots ∧
    t.f.e.eths = s.f.e.eths ∧ t.f.e.pool = s.f.e.pool ∧ t.f.e.seqr = s.f.e.seqr ∧ ∀ k, k ≠ n → t.f.e.t1 k = s.f.e.t1 k)

/-- What a command of the planes leaves as it is: all of Eaves and of the host die, and the fuses; a command of an endpoint leaves Eaves,
the planes, the fuses, and every register and queue pair of every other endpoint. -/
def Obligations.PlaneAndHostFrames : Prop := ∀ (s t : State) (c : Instr),
  (inPlanes c = true → exec c s = .next t → Apart s t ∧ t.f.e = s.f.e) ∧
  (∀ ep, endpointOf c = some ep → s.f.h.get ep EP_QP_COUNT_COUNT ≤ 256 → exec c s = .next t →
    t = { s with f := { s.f with h := t.f.h } } ∧
    (∀ a, (a < barBase ep ∨ barBase (ep + 1) ≤ a) → sget resetBar t.f.h.regs a = sget resetBar s.f.h.regs a) ∧
    ∀ e' q, e' ≠ ep → q < 256 → t.f.h.qp e' q = s.f.h.qp e' q)

/-- R326-R329: in every step the two plane dies stay fused alike with at most eight fuses for a life-cycle state, a fuse that is blown stays
blown, what is fused is never replaced, and the life cycle moves only forward, by a transition that the table of R327 allows. -/
def Obligations.FusesOnlyGain : Prop := ∀ s t : State, FuseRules s → step s = .next t →
  FuseRules t ∧ OtpGains s.otpA t.otpA ∧ OtpGains s.otpB t.otpB ∧ s.otpA.lc ≤ t.otpA.lc ∧
  (t.otpA.lc ≠ s.otpA.lc → lcAllowed s.otpA t.otpA.lc = true)
end

