-- ==== Sys2Proof/Laws/State.lean ====
section
/-!
SUPPORT. What each update of the state leaves of every field: one lemma per field per update.
-/

namespace Sys2Proof

/-! The device. -/

@[simp] theorem Machine.Field.onE_e (f : Machine.Field) (g : Eaves → Eaves) : (f.onE g).e = g f.e := rfl
@[simp] theorem Machine.Field.onE_a (f : Machine.Field) (g : Eaves → Eaves) : (f.onE g).a = f.a := rfl
@[simp] theorem Machine.Field.onE_b (f : Machine.Field) (g : Eaves → Eaves) : (f.onE g).b = f.b := rfl
@[simp] theorem Machine.Field.onE_h (f : Machine.Field) (g : Eaves → Eaves) : (f.onE g).h = f.h := rfl
@[simp] theorem Machine.Field.onE_turn (f : Machine.Field) (g : Eaves → Eaves) : (f.onE g).turn = f.turn := rfl
@[simp] theorem Machine.Field.onE_dump (f : Machine.Field) (g : Eaves → Eaves) : (f.onE g).dump = f.dump := rfl
@[simp] theorem Machine.Field.onE_copy (f : Machine.Field) (g : Eaves → Eaves) : (f.onE g).copy = f.copy := rfl
@[simp] theorem Machine.Field.onE_fresh (f : Machine.Field) (g : Eaves → Eaves) : (f.onE g).fresh = f.fresh := rfl

@[simp] theorem Machine.Field.onH_e (f : Machine.Field) (g : HostDie → HostDie) : (f.onH g).e = f.e := rfl
@[simp] theorem Machine.Field.onH_a (f : Machine.Field) (g : HostDie → HostDie) : (f.onH g).a = f.a := rfl
@[simp] theorem Machine.Field.onH_b (f : Machine.Field) (g : HostDie → HostDie) : (f.onH g).b = f.b := rfl
@[simp] theorem Machine.Field.onH_h (f : Machine.Field) (g : HostDie → HostDie) : (f.onH g).h = g f.h := rfl
@[simp] theorem Machine.Field.onH_turn (f : Machine.Field) (g : HostDie → HostDie) : (f.onH g).turn = f.turn := rfl
@[simp] theorem Machine.Field.onH_dump (f : Machine.Field) (g : HostDie → HostDie) : (f.onH g).dump = f.dump := rfl
@[simp] theorem Machine.Field.onH_copy (f : Machine.Field) (g : HostDie → HostDie) : (f.onH g).copy = f.copy := rfl
@[simp] theorem Machine.Field.onH_fresh (f : Machine.Field) (g : HostDie → HostDie) : (f.onH g).fresh = f.fresh := rfl

@[simp] theorem Machine.Field.onBoth_e (f : Machine.Field) (g : Plane → Plane) : (f.onBoth g).e = f.e := rfl
@[simp] theorem Machine.Field.onBoth_a (f : Machine.Field) (g : Plane → Plane) : (f.onBoth g).a = g f.a := rfl
@[simp] theorem Machine.Field.onBoth_b (f : Machine.Field) (g : Plane → Plane) : (f.onBoth g).b = g f.b := rfl
@[simp] theorem Machine.Field.onBoth_h (f : Machine.Field) (g : Plane → Plane) : (f.onBoth g).h = f.h := rfl
@[simp] theorem Machine.Field.onBoth_turn (f : Machine.Field) (g : Plane → Plane) : (f.onBoth g).turn = f.turn := rfl
@[simp] theorem Machine.Field.onBoth_dump (f : Machine.Field) (g : Plane → Plane) : (f.onBoth g).dump = f.dump := rfl
@[simp] theorem Machine.Field.onBoth_copy (f : Machine.Field) (g : Plane → Plane) : (f.onBoth g).copy = f.copy := rfl
@[simp] theorem Machine.Field.onBoth_fresh (f : Machine.Field) (g : Plane → Plane) : (f.onBoth g).fresh = f.fresh := rfl

@[simp] theorem Machine.Field.onPlaneA_e (f : Machine.Field) (g : Plane → Plane) : (f.onPlane .A g).e = f.e := rfl
@[simp] theorem Machine.Field.onPlaneA_a (f : Machine.Field) (g : Plane → Plane) : (f.onPlane .A g).a = g f.a := rfl
@[simp] theorem Machine.Field.onPlaneA_b (f : Machine.Field) (g : Plane → Plane) : (f.onPlane .A g).b = f.b := rfl
@[simp] theorem Machine.Field.onPlaneA_h (f : Machine.Field) (g : Plane → Plane) : (f.onPlane .A g).h = f.h := rfl
@[simp] theorem Machine.Field.onPlaneA_turn (f : Machine.Field) (g : Plane → Plane) : (f.onPlane .A g).turn = f.turn := rfl
@[simp] theorem Machine.Field.onPlaneA_dump (f : Machine.Field) (g : Plane → Plane) : (f.onPlane .A g).dump = f.dump := rfl
@[simp] theorem Machine.Field.onPlaneA_copy (f : Machine.Field) (g : Plane → Plane) : (f.onPlane .A g).copy = f.copy := rfl
@[simp] theorem Machine.Field.onPlaneA_fresh (f : Machine.Field) (g : Plane → Plane) : (f.onPlane .A g).fresh = f.fresh := rfl
@[simp] theorem Machine.Field.onPlaneB_e (f : Machine.Field) (g : Plane → Plane) : (f.onPlane .B g).e = f.e := rfl
@[simp] theorem Machine.Field.onPlaneB_a (f : Machine.Field) (g : Plane → Plane) : (f.onPlane .B g).a = f.a := rfl
@[simp] theorem Machine.Field.onPlaneB_b (f : Machine.Field) (g : Plane → Plane) : (f.onPlane .B g).b = g f.b := rfl
@[simp] theorem Machine.Field.onPlaneB_h (f : Machine.Field) (g : Plane → Plane) : (f.onPlane .B g).h = f.h := rfl
@[simp] theorem Machine.Field.onPlaneB_turn (f : Machine.Field) (g : Plane → Plane) : (f.onPlane .B g).turn = f.turn := rfl
@[simp] theorem Machine.Field.onPlaneB_dump (f : Machine.Field) (g : Plane → Plane) : (f.onPlane .B g).dump = f.dump := rfl
@[simp] theorem Machine.Field.onPlaneB_copy (f : Machine.Field) (g : Plane → Plane) : (f.onPlane .B g).copy = f.copy := rfl
@[simp] theorem Machine.Field.onPlaneB_fresh (f : Machine.Field) (g : Plane → Plane) : (f.onPlane .B g).fresh = f.fresh := rfl

@[simp] theorem Machine.Field.onPlane_e (f : Machine.Field) (p : PlaneId) (g : Plane → Plane) : (f.onPlane p g).e = f.e := by cases p <;> rfl
@[simp] theorem Machine.Field.onPlane_h (f : Machine.Field) (p : PlaneId) (g : Plane → Plane) : (f.onPlane p g).h = f.h := by cases p <;> rfl
@[simp] theorem Machine.Field.onPlane_turn (f : Machine.Field) (p : PlaneId) (g : Plane → Plane) : (f.onPlane p g).turn = f.turn := by cases p <;> rfl
@[simp] theorem Machine.Field.onPlane_dump (f : Machine.Field) (p : PlaneId) (g : Plane → Plane) : (f.onPlane p g).dump = f.dump := by cases p <;> rfl
@[simp] theorem Machine.Field.onPlane_copy (f : Machine.Field) (p : PlaneId) (g : Plane → Plane) : (f.onPlane p g).copy = f.copy := by cases p <;> rfl
@[simp] theorem Machine.Field.onPlane_fresh (f : Machine.Field) (p : PlaneId) (g : Plane → Plane) : (f.onPlane p g).fresh = f.fresh := by cases p <;> rfl
@[simp] theorem Machine.Field.plane_onPlane (f : Machine.Field) (p : PlaneId) (g : Plane → Plane) : (f.onPlane p g).plane p = g (f.plane p) := by
  cases p <;> rfl
@[simp] theorem Machine.Field.plane_onPlane_other (f : Machine.Field) (p : PlaneId) (g : Plane → Plane) :
    (f.onPlane p g).plane p.other = f.plane p.other := by cases p <;> rfl
@[simp] theorem Machine.Field.plane_onE (f : Machine.Field) (p : PlaneId) (g : Eaves → Eaves) : (f.onE g).plane p = f.plane p := by
  cases p <;> rfl
@[simp] theorem Machine.Field.plane_onH (f : Machine.Field) (p : PlaneId) (g : HostDie → HostDie) : (f.onH g).plane p = f.plane p := by
  cases p <;> rfl

/-! Eaves. -/

@[simp] theorem Eaves.onRegs_regs (e : Eaves) (g : Regs → Regs) : (e.onRegs g).regs = g e.regs := rfl
@[simp] theorem Eaves.onRegs_counter (e : Eaves) (g : Regs → Regs) : (e.onRegs g).counter = e.counter := rfl
@[simp] theorem Eaves.onRegs_mode (e : Eaves) (g : Regs → Regs) : (e.onRegs g).mode = e.mode := rfl
@[simp] theorem Eaves.onRegs_pstate (e : Eaves) (g : Regs → Regs) : (e.onRegs g).pstate = e.pstate := rfl
@[simp] theorem Eaves.onRegs_roleA (e : Eaves) (g : Regs → Regs) : (e.onRegs g).roleA = e.roleA := rfl
@[simp] theorem Eaves.onRegs_roleB (e : Eaves) (g : Regs → Regs) : (e.onRegs g).roleB = e.roleB := rfl
@[simp] theorem Eaves.onRegs_seqr (e : Eaves) (g : Regs → Regs) : (e.onRegs g).seqr = e.seqr := rfl
@[simp] theorem Eaves.onRegs_rjA (e : Eaves) (g : Regs → Regs) : (e.onRegs g).rjA = e.rjA := rfl
@[simp] theorem Eaves.onRegs_rjB (e : Eaves) (g : Regs → Regs) : (e.onRegs g).rjB = e.rjB := rfl
@[simp] theorem Eaves.onRegs_merger (e : Eaves) (g : Regs → Regs) : (e.onRegs g).merger = e.merger := rfl
@[simp] theorem Eaves.onRegs_sel (e : Eaves) (g : Regs → Regs) : (e.onRegs g).sel = e.sel := rfl
@[simp] theorem Eaves.onRegs_stage (e : Eaves) (g : Regs → Regs) : (e.onRegs g).stage = e.stage := rfl
@[simp] theorem Eaves.onRegs_flue (e : Eaves) (g : Regs → Regs) : (e.onRegs g).flue = e.flue := rfl
@[simp] theorem Eaves.onRegs_live (e : Eaves) (g : Regs → Regs) : (e.onRegs g).live = e.live := rfl
@[simp] theorem Eaves.onRegs_inact (e : Eaves) (g : Regs → Regs) : (e.onRegs g).inact = e.inact := rfl
@[simp] theorem Eaves.onRegs_pool (e : Eaves) (g : Regs → Regs) : (e.onRegs g).pool = e.pool := rfl
@[simp] theorem Eaves.onRegs_poolIn (e : Eaves) (g : Regs → Regs) : (e.onRegs g).poolIn = e.poolIn := rfl
@[simp] theorem Eaves.onRegs_slots (e : Eaves) (g : Regs → Regs) : (e.onRegs g).slots = e.slots := rfl
@[simp] theorem Eaves.onRegs_t1s (e : Eaves) (g : Regs → Regs) : (e.onRegs g).t1s = e.t1s := rfl
@[simp] theorem Eaves.onRegs_eths (e : Eaves) (g : Regs → Regs) : (e.onRegs g).eths = e.eths := rfl
@[simp] theorem Eaves.onRegs_chains (e : Eaves) (g : Regs → Regs) : (e.onRegs g).chains = e.chains := rfl
@[simp] theorem Eaves.onRegs_gens (e : Eaves) (g : Regs → Regs) : (e.onRegs g).gens = e.gens := rfl
@[simp] theorem Eaves.onRegs_snaps (e : Eaves) (g : Regs → Regs) : (e.onRegs g).snaps = e.snaps := rfl
@[simp] theorem Eaves.onRegs_holds (e : Eaves) (g : Regs → Regs) : (e.onRegs g).holds = e.holds := rfl
@[simp] theorem Eaves.onRegs_posted (e : Eaves) (g : Regs → Regs) : (e.onRegs g).posted = e.posted := rfl
@[simp] theorem Eaves.onRegs_entropyReady (e : Eaves) (g : Regs → Regs) : (e.onRegs g).entropyReady = e.entropyReady := rfl

@[simp] theorem Eaves.onSeq_regs (e : Eaves) (g : Seqr → Seqr) : (e.onSeq g).regs = e.regs := rfl
@[simp] theorem Eaves.onSeq_counter (e : Eaves) (g : Seqr → Seqr) : (e.onSeq g).counter = e.counter := rfl
@[simp] theorem Eaves.onSeq_mode (e : Eaves) (g : Seqr → Seqr) : (e.onSeq g).mode = e.mode := rfl
@[simp] theorem Eaves.onSeq_pstate (e : Eaves) (g : Seqr → Seqr) : (e.onSeq g).pstate = e.pstate := rfl
@[simp] theorem Eaves.onSeq_roleA (e : Eaves) (g : Seqr → Seqr) : (e.onSeq g).roleA = e.roleA := rfl
@[simp] theorem Eaves.onSeq_roleB (e : Eaves) (g : Seqr → Seqr) : (e.onSeq g).roleB = e.roleB := rfl
@[simp] theorem Eaves.onSeq_seqr (e : Eaves) (g : Seqr → Seqr) : (e.onSeq g).seqr = g e.seqr := rfl
@[simp] theorem Eaves.onSeq_rjA (e : Eaves) (g : Seqr → Seqr) : (e.onSeq g).rjA = e.rjA := rfl
@[simp] theorem Eaves.onSeq_rjB (e : Eaves) (g : Seqr → Seqr) : (e.onSeq g).rjB = e.rjB := rfl
@[simp] theorem Eaves.onSeq_merger (e : Eaves) (g : Seqr → Seqr) : (e.onSeq g).merger = e.merger := rfl
@[simp] theorem Eaves.onSeq_sel (e : Eaves) (g : Seqr → Seqr) : (e.onSeq g).sel = e.sel := rfl
@[simp] theorem Eaves.onSeq_stage (e : Eaves) (g : Seqr → Seqr) : (e.onSeq g).stage = e.stage := rfl
@[simp] theorem Eaves.onSeq_flue (e : Eaves) (g : Seqr → Seqr) : (e.onSeq g).flue = e.flue := rfl
@[simp] theorem Eaves.onSeq_live (e : Eaves) (g : Seqr → Seqr) : (e.onSeq g).live = e.live := rfl
@[simp] theorem Eaves.onSeq_inact (e : Eaves) (g : Seqr → Seqr) : (e.onSeq g).inact = e.inact := rfl
@[simp] theorem Eaves.onSeq_pool (e : Eaves) (g : Seqr → Seqr) : (e.onSeq g).pool = e.pool := rfl
@[simp] theorem Eaves.onSeq_poolIn (e : Eaves) (g : Seqr → Seqr) : (e.onSeq g).poolIn = e.poolIn := rfl
@[simp] theorem Eaves.onSeq_slots (e : Eaves) (g : Seqr → Seqr) : (e.onSeq g).slots = e.slots := rfl
@[simp] theorem Eaves.onSeq_t1s (e : Eaves) (g : Seqr → Seqr) : (e.onSeq g).t1s = e.t1s := rfl
@[simp] theorem Eaves.onSeq_eths (e : Eaves) (g : Seqr → Seqr) : (e.onSeq g).eths = e.eths := rfl
@[simp] theorem Eaves.onSeq_chains (e : Eaves) (g : Seqr → Seqr) : (e.onSeq g).chains = e.chains := rfl
@[simp] theorem Eaves.onSeq_gens (e : Eaves) (g : Seqr → Seqr) : (e.onSeq g).gens = e.gens := rfl
@[simp] theorem Eaves.onSeq_snaps (e : Eaves) (g : Seqr → Seqr) : (e.onSeq g).snaps = e.snaps := rfl
@[simp] theorem Eaves.onSeq_holds (e : Eaves) (g : Seqr → Seqr) : (e.onSeq g).holds = e.holds := rfl
@[simp] theorem Eaves.onSeq_posted (e : Eaves) (g : Seqr → Seqr) : (e.onSeq g).posted = e.posted := rfl
@[simp] theorem Eaves.onSeq_entropyReady (e : Eaves) (g : Seqr → Seqr) : (e.onSeq g).entropyReady = e.entropyReady := rfl

@[simp] theorem Eaves.onSlot_regs (e : Eaves) (n : Nat) (g : Slot → Slot) : (e.onSlot n g).regs = e.regs := rfl
@[simp] theorem Eaves.onSlot_counter (e : Eaves) (n : Nat) (g : Slot → Slot) : (e.onSlot n g).counter = e.counter := rfl
@[simp] theorem Eaves.onSlot_mode (e : Eaves) (n : Nat) (g : Slot → Slot) : (e.onSlot n g).mode = e.mode := rfl
@[simp] theorem Eaves.onSlot_pstate (e : Eaves) (n : Nat) (g : Slot → Slot) : (e.onSlot n g).pstate = e.pstate := rfl
@[simp] theorem Eaves.onSlot_roleA (e : Eaves) (n : Nat) (g : Slot → Slot) : (e.onSlot n g).roleA = e.roleA := rfl
@[simp] theorem Eaves.onSlot_roleB (e : Eaves) (n : Nat) (g : Slot → Slot) : (e.onSlot n g).roleB = e.roleB := rfl
@[simp] theorem Eaves.onSlot_seqr (e : Eaves) (n : Nat) (g : Slot → Slot) : (e.onSlot n g).seqr = e.seqr := rfl
@[simp] theorem Eaves.onSlot_rjA (e : Eaves) (n : Nat) (g : Slot → Slot) : (e.onSlot n g).rjA = e.rjA := rfl
@[simp] theorem Eaves.onSlot_rjB (e : Eaves) (n : Nat) (g : Slot → Slot) : (e.onSlot n g).rjB = e.rjB := rfl
@[simp] theorem Eaves.onSlot_merger (e : Eaves) (n : Nat) (g : Slot → Slot) : (e.onSlot n g).merger = e.merger := rfl
@[simp] theorem Eaves.onSlot_sel (e : Eaves) (n : Nat) (g : Slot → Slot) : (e.onSlot n g).sel = e.sel := rfl
@[simp] theorem Eaves.onSlot_stage (e : Eaves) (n : Nat) (g : Slot → Slot) : (e.onSlot n g).stage = e.stage := rfl
@[simp] theorem Eaves.onSlot_flue (e : Eaves) (n : Nat) (g : Slot → Slot) : (e.onSlot n g).flue = e.flue := rfl
@[simp] theorem Eaves.onSlot_live (e : Eaves) (n : Nat) (g : Slot → Slot) : (e.onSlot n g).live = e.live := rfl
@[simp] theorem Eaves.onSlot_inact (e : Eaves) (n : Nat) (g : Slot → Slot) : (e.onSlot n g).inact = e.inact := rfl
@[simp] theorem Eaves.onSlot_pool (e : Eaves) (n : Nat) (g : Slot → Slot) : (e.onSlot n g).pool = e.pool := rfl
@[simp] theorem Eaves.onSlot_poolIn (e : Eaves) (n : Nat) (g : Slot → Slot) : (e.onSlot n g).poolIn = e.poolIn := rfl
@[simp] theorem Eaves.onSlot_slots (e : Eaves) (n : Nat) (g : Slot → Slot) : (e.onSlot n g).slots = supd (fun _ => Slot.init) e.slots n g := rfl
@[simp] theorem Eaves.onSlot_t1s (e : Eaves) (n : Nat) (g : Slot → Slot) : (e.onSlot n g).t1s = e.t1s := rfl
@[simp] theorem Eaves.onSlot_eths (e : Eaves) (n : Nat) (g : Slot → Slot) : (e.onSlot n g).eths = e.eths := rfl
@[simp] theorem Eaves.onSlot_chains (e : Eaves) (n : Nat) (g : Slot → Slot) : (e.onSlot n g).chains = e.chains := rfl
@[simp] theorem Eaves.onSlot_gens (e : Eaves) (n : Nat) (g : Slot → Slot) : (e.onSlot n g).gens = e.gens := rfl
@[simp] theorem Eaves.onSlot_snaps (e : Eaves) (n : Nat) (g : Slot → Slot) : (e.onSlot n g).snaps = e.snaps := rfl
@[simp] theorem Eaves.onSlot_holds (e : Eaves) (n : Nat) (g : Slot → Slot) : (e.onSlot n g).holds = e.holds := rfl
@[simp] theorem Eaves.onSlot_posted (e : Eaves) (n : Nat) (g : Slot → Slot) : (e.onSlot n g).posted = e.posted := rfl
@[simp] theorem Eaves.onSlot_entropyReady (e : Eaves) (n : Nat) (g : Slot → Slot) : (e.onSlot n g).entropyReady = e.entropyReady := rfl

@[simp] theorem Eaves.at_regs (e : Eaves) (dt : Nat) : (e.at dt).regs = e.regs := rfl
@[simp] theorem Eaves.at_counter (e : Eaves) (dt : Nat) : (e.at dt).counter = max e.counter (e.merger.lastTickAt + dt) := rfl
@[simp] theorem Eaves.at_mode (e : Eaves) (dt : Nat) : (e.at dt).mode = e.mode := rfl
@[simp] theorem Eaves.at_pstate (e : Eaves) (dt : Nat) : (e.at dt).pstate = e.pstate := rfl
@[simp] theorem Eaves.at_roleA (e : Eaves) (dt : Nat) : (e.at dt).roleA = e.roleA := rfl
@[simp] theorem Eaves.at_roleB (e : Eaves) (dt : Nat) : (e.at dt).roleB = e.roleB := rfl
@[simp] theorem Eaves.at_seqr (e : Eaves) (dt : Nat) : (e.at dt).seqr = e.seqr := rfl
@[simp] theorem Eaves.at_rjA (e : Eaves) (dt : Nat) : (e.at dt).rjA = e.rjA := rfl
@[simp] theorem Eaves.at_rjB (e : Eaves) (dt : Nat) : (e.at dt).rjB = e.rjB := rfl
@[simp] theorem Eaves.at_merger (e : Eaves) (dt : Nat) : (e.at dt).merger = e.merger := rfl
@[simp] theorem Eaves.at_sel (e : Eaves) (dt : Nat) : (e.at dt).sel = e.sel := rfl
@[simp] theorem Eaves.at_stage (e : Eaves) (dt : Nat) : (e.at dt).stage = e.stage := rfl
@[simp] theorem Eaves.at_flue (e : Eaves) (dt : Nat) : (e.at dt).flue = e.flue := rfl
@[simp] theorem Eaves.at_live (e : Eaves) (dt : Nat) : (e.at dt).live = e.live := rfl
@[simp] theorem Eaves.at_inact (e : Eaves) (dt : Nat) : (e.at dt).inact = e.inact := rfl
@[simp] theorem Eaves.at_pool (e : Eaves) (dt : Nat) : (e.at dt).pool = e.pool := rfl
@[simp] theorem Eaves.at_poolIn (e : Eaves) (dt : Nat) : (e.at dt).poolIn = e.poolIn := rfl
@[simp] theorem Eaves.at_slots (e : Eaves) (dt : Nat) : (e.at dt).slots = e.slots := rfl
@[simp] theorem Eaves.at_t1s (e : Eaves) (dt : Nat) : (e.at dt).t1s = e.t1s := rfl
@[simp] theorem Eaves.at_eths (e : Eaves) (dt : Nat) : (e.at dt).eths = e.eths := rfl
@[simp] theorem Eaves.at_chains (e : Eaves) (dt : Nat) : (e.at dt).chains = e.chains := rfl
@[simp] theorem Eaves.at_gens (e : Eaves) (dt : Nat) : (e.at dt).gens = e.gens := rfl
@[simp] theorem Eaves.at_snaps (e : Eaves) (dt : Nat) : (e.at dt).snaps = e.snaps := rfl
@[simp] theorem Eaves.at_holds (e : Eaves) (dt : Nat) : (e.at dt).holds = e.holds := rfl
@[simp] theorem Eaves.at_posted (e : Eaves) (dt : Nat) : (e.at dt).posted = e.posted := rfl
@[simp] theorem Eaves.at_entropyReady (e : Eaves) (dt : Nat) : (e.at dt).entropyReady = e.entropyReady := rfl

@[simp] theorem Eaves.bumpGen_regs (e : Eaves) (port : Nat) : (e.bumpGen port).regs = e.regs := rfl
@[simp] theorem Eaves.bumpGen_counter (e : Eaves) (port : Nat) : (e.bumpGen port).counter = e.counter := rfl
@[simp] theorem Eaves.bumpGen_mode (e : Eaves) (port : Nat) : (e.bumpGen port).mode = e.mode := rfl
@[simp] theorem Eaves.bumpGen_pstate (e : Eaves) (port : Nat) : (e.bumpGen port).pstate = e.pstate := rfl
@[simp] theorem Eaves.bumpGen_roleA (e : Eaves) (port : Nat) : (e.bumpGen port).roleA = e.roleA := rfl
@[simp] theorem Eaves.bumpGen_roleB (e : Eaves) (port : Nat) : (e.bumpGen port).roleB = e.roleB := rfl
@[simp] theorem Eaves.bumpGen_seqr (e : Eaves) (port : Nat) : (e.bumpGen port).seqr = e.seqr := rfl
@[simp] theorem Eaves.bumpGen_rjA (e : Eaves) (port : Nat) : (e.bumpGen port).rjA = e.rjA := rfl
@[simp] theorem Eaves.bumpGen_rjB (e : Eaves) (port : Nat) : (e.bumpGen port).rjB = e.rjB := rfl
@[simp] theorem Eaves.bumpGen_merger (e : Eaves) (port : Nat) : (e.bumpGen port).merger = e.merger := rfl
@[simp] theorem Eaves.bumpGen_sel (e : Eaves) (port : Nat) : (e.bumpGen port).sel = e.sel := rfl
@[simp] theorem Eaves.bumpGen_stage (e : Eaves) (port : Nat) : (e.bumpGen port).stage = e.stage := rfl
@[simp] theorem Eaves.bumpGen_flue (e : Eaves) (port : Nat) : (e.bumpGen port).flue = e.flue := rfl
@[simp] theorem Eaves.bumpGen_live (e : Eaves) (port : Nat) : (e.bumpGen port).live = e.live := rfl
@[simp] theorem Eaves.bumpGen_inact (e : Eaves) (port : Nat) : (e.bumpGen port).inact = e.inact := rfl
@[simp] theorem Eaves.bumpGen_pool (e : Eaves) (port : Nat) : (e.bumpGen port).pool = e.pool := rfl
@[simp] theorem Eaves.bumpGen_poolIn (e : Eaves) (port : Nat) : (e.bumpGen port).poolIn = e.poolIn := rfl
@[simp] theorem Eaves.bumpGen_slots (e : Eaves) (port : Nat) : (e.bumpGen port).slots = e.slots := rfl
@[simp] theorem Eaves.bumpGen_t1s (e : Eaves) (port : Nat) : (e.bumpGen port).t1s = e.t1s := rfl
@[simp] theorem Eaves.bumpGen_eths (e : Eaves) (port : Nat) : (e.bumpGen port).eths = e.eths := rfl
@[simp] theorem Eaves.bumpGen_chains (e : Eaves) (port : Nat) : (e.bumpGen port).chains = e.chains := rfl
@[simp] theorem Eaves.bumpGen_gens (e : Eaves) (port : Nat) : (e.bumpGen port).gens = sput (fun _ => 0) e.gens port ((e.genOf port + 1) % 256) := rfl
@[simp] theorem Eaves.bumpGen_snaps (e : Eaves) (port : Nat) : (e.bumpGen port).snaps = e.snaps := rfl
@[simp] theorem Eaves.bumpGen_holds (e : Eaves) (port : Nat) : (e.bumpGen port).holds = e.holds := rfl
@[simp] theorem Eaves.bumpGen_posted (e : Eaves) (port : Nat) : (e.bumpGen port).posted = e.posted := rfl
@[simp] theorem Eaves.bumpGen_entropyReady (e : Eaves) (port : Nat) : (e.bumpGen port).entropyReady = e.entropyReady := rfl

/-! A plane. -/

@[simp] theorem Plane.onRegs_regs (p : Plane) (g : Regs → Regs) : (p.onRegs g).regs = g p.regs := rfl
@[simp] theorem Plane.onRegs_st (p : Plane) (g : Regs → Regs) : (p.onRegs g).st = p.st := rfl
@[simp] theorem Plane.onRegs_host (p : Plane) (g : Regs → Regs) : (p.onRegs g).host = p.host := rfl
@[simp] theorem Plane.onRegs_nv (p : Plane) (g : Regs → Regs) : (p.onRegs g).nv = p.nv := rfl
@[simp] theorem Plane.onRegs_truss (p : Plane) (g : Regs → Regs) : (p.onRegs g).truss = p.truss := rfl
@[simp] theorem Plane.onRegs_bus (p : Plane) (g : Regs → Regs) : (p.onRegs g).bus = p.bus := rfl
@[simp] theorem Plane.onRegs_servo (p : Plane) (g : Regs → Regs) : (p.onRegs g).servo = p.servo := rfl
@[simp] theorem Plane.onRegs_nets (p : Plane) (g : Regs → Regs) : (p.onRegs g).nets = p.nets := rfl
@[simp] theorem Plane.onRegs_rick (p : Plane) (g : Regs → Regs) : (p.onRegs g).rick = p.rick := rfl
@[simp] theorem Plane.onRegs_kiln (p : Plane) (g : Regs → Regs) : (p.onRegs g).kiln = p.kiln := rfl
@[simp] theorem Plane.onRegs_fwd (p : Plane) (g : Regs → Regs) : (p.onRegs g).fwd = p.fwd := rfl
@[simp] theorem Plane.onRegs_thr (p : Plane) (g : Regs → Regs) : (p.onRegs g).thr = p.thr := rfl

@[simp] theorem Plane.onRick_regs (p : Plane) (g : Rick → Rick) : (p.onRick g).regs = p.regs := rfl
@[simp] theorem Plane.onRick_st (p : Plane) (g : Rick → Rick) : (p.onRick g).st = p.st := rfl
@[simp] theorem Plane.onRick_host (p : Plane) (g : Rick → Rick) : (p.onRick g).host = p.host := rfl
@[simp] theorem Plane.onRick_nv (p : Plane) (g : Rick → Rick) : (p.onRick g).nv = p.nv := rfl
@[simp] theorem Plane.onRick_truss (p : Plane) (g : Rick → Rick) : (p.onRick g).truss = p.truss := rfl
@[simp] theorem Plane.onRick_bus (p : Plane) (g : Rick → Rick) : (p.onRick g).bus = p.bus := rfl
@[simp] theorem Plane.onRick_servo (p : Plane) (g : Rick → Rick) : (p.onRick g).servo = p.servo := rfl
@[simp] theorem Plane.onRick_nets (p : Plane) (g : Rick → Rick) : (p.onRick g).nets = p.nets := rfl
@[simp] theorem Plane.onRick_rick (p : Plane) (g : Rick → Rick) : (p.onRick g).rick = g p.rick := rfl
@[simp] theorem Plane.onRick_kiln (p : Plane) (g : Rick → Rick) : (p.onRick g).kiln = p.kiln := rfl
@[simp] theorem Plane.onRick_fwd (p : Plane) (g : Rick → Rick) : (p.onRick g).fwd = p.fwd := rfl
@[simp] theorem Plane.onRick_thr (p : Plane) (g : Rick → Rick) : (p.onRick g).thr = p.thr := rfl

@[simp] theorem Plane.onKiln_regs (p : Plane) (g : Kiln → Kiln) : (p.onKiln g).regs = p.regs := rfl
@[simp] theorem Plane.onKiln_st (p : Plane) (g : Kiln → Kiln) : (p.onKiln g).st = p.st := rfl
@[simp] theorem Plane.onKiln_host (p : Plane) (g : Kiln → Kiln) : (p.onKiln g).host = p.host := rfl
@[simp] theorem Plane.onKiln_nv (p : Plane) (g : Kiln → Kiln) : (p.onKiln g).nv = p.nv := rfl
@[simp] theorem Plane.onKiln_truss (p : Plane) (g : Kiln → Kiln) : (p.onKiln g).truss = p.truss := rfl
@[simp] theorem Plane.onKiln_bus (p : Plane) (g : Kiln → Kiln) : (p.onKiln g).bus = p.bus := rfl
@[simp] theorem Plane.onKiln_servo (p : Plane) (g : Kiln → Kiln) : (p.onKiln g).servo = p.servo := rfl
@[simp] theorem Plane.onKiln_nets (p : Plane) (g : Kiln → Kiln) : (p.onKiln g).nets = p.nets := rfl
@[simp] theorem Plane.onKiln_rick (p : Plane) (g : Kiln → Kiln) : (p.onKiln g).rick = p.rick := rfl
@[simp] theorem Plane.onKiln_kiln (p : Plane) (g : Kiln → Kiln) : (p.onKiln g).kiln = g p.kiln := rfl
@[simp] theorem Plane.onKiln_fwd (p : Plane) (g : Kiln → Kiln) : (p.onKiln g).fwd = p.fwd := rfl
@[simp] theorem Plane.onKiln_thr (p : Plane) (g : Kiln → Kiln) : (p.onKiln g).thr = p.thr := rfl

@[simp] theorem Plane.onFwd_regs (p : Plane) (g : Fwd → Fwd) : (p.onFwd g).regs = p.regs := rfl
@[simp] theorem Plane.onFwd_st (p : Plane) (g : Fwd → Fwd) : (p.onFwd g).st = p.st := rfl
@[simp] theorem Plane.onFwd_host (p : Plane) (g : Fwd → Fwd) : (p.onFwd g).host = p.host := rfl
@[simp] theorem Plane.onFwd_nv (p : Plane) (g : Fwd → Fwd) : (p.onFwd g).nv = p.nv := rfl
@[simp] theorem Plane.onFwd_truss (p : Plane) (g : Fwd → Fwd) : (p.onFwd g).truss = p.truss := rfl
@[simp] theorem Plane.onFwd_bus (p : Plane) (g : Fwd → Fwd) : (p.onFwd g).bus = p.bus := rfl
@[simp] theorem Plane.onFwd_servo (p : Plane) (g : Fwd → Fwd) : (p.onFwd g).servo = p.servo := rfl
@[simp] theorem Plane.onFwd_nets (p : Plane) (g : Fwd → Fwd) : (p.onFwd g).nets = p.nets := rfl
@[simp] theorem Plane.onFwd_rick (p : Plane) (g : Fwd → Fwd) : (p.onFwd g).rick = p.rick := rfl
@[simp] theorem Plane.onFwd_kiln (p : Plane) (g : Fwd → Fwd) : (p.onFwd g).kiln = p.kiln := rfl
@[simp] theorem Plane.onFwd_fwd (p : Plane) (g : Fwd → Fwd) : (p.onFwd g).fwd = g p.fwd := rfl
@[simp] theorem Plane.onFwd_thr (p : Plane) (g : Fwd → Fwd) : (p.onFwd g).thr = p.thr := rfl

@[simp] theorem Plane.onThr_regs (p : Plane) (g : Thr → Thr) : (p.onThr g).regs = p.regs := rfl
@[simp] theorem Plane.onThr_st (p : Plane) (g : Thr → Thr) : (p.onThr g).st = p.st := rfl
@[simp] theorem Plane.onThr_host (p : Plane) (g : Thr → Thr) : (p.onThr g).host = p.host := rfl
@[simp] theorem Plane.onThr_nv (p : Plane) (g : Thr → Thr) : (p.onThr g).nv = p.nv := rfl
@[simp] theorem Plane.onThr_truss (p : Plane) (g : Thr → Thr) : (p.onThr g).truss = p.truss := rfl
@[simp] theorem Plane.onThr_bus (p : Plane) (g : Thr → Thr) : (p.onThr g).bus = p.bus := rfl
@[simp] theorem Plane.onThr_servo (p : Plane) (g : Thr → Thr) : (p.onThr g).servo = p.servo := rfl
@[simp] theorem Plane.onThr_nets (p : Plane) (g : Thr → Thr) : (p.onThr g).nets = p.nets := rfl
@[simp] theorem Plane.onThr_rick (p : Plane) (g : Thr → Thr) : (p.onThr g).rick = p.rick := rfl
@[simp] theorem Plane.onThr_kiln (p : Plane) (g : Thr → Thr) : (p.onThr g).kiln = p.kiln := rfl
@[simp] theorem Plane.onThr_fwd (p : Plane) (g : Thr → Thr) : (p.onThr g).fwd = p.fwd := rfl
@[simp] theorem Plane.onThr_thr (p : Plane) (g : Thr → Thr) : (p.onThr g).thr = g p.thr := rfl

end Sys2Proof
end

