-- ==== Sys2Proof/Laws/Dies.lean ====
section
/-!
SUPPORT. What the operations over both planes can do, said once: a change to the planes that run or that take the stream, a host's message acted
on where a plane stands at it, a draw from the entropy pool, an output message.
-/

namespace Sys2Proof

/-! The planes that run, or that take the stream. -/

/-- A plane after a change to the planes with a running role. -/
theorem Machine.Field.plane_onRunning (f : Machine.Field) (g : Plane → Plane) (p : PlaneId) :
    (f.onRunning g).plane p = if (f.e.role p).running then g (f.plane p) else f.plane p := by
  unfold Machine.Field.onRunning
  cases p <;> cases ha : f.e.roleA.running <;> cases hb : f.e.roleB.running <;> simp [Machine.Field.plane, Eaves.role, ha, hb]

/-- A plane after a change to the planes that take the stream. -/
theorem Machine.Field.plane_onTaking (f : Machine.Field) (g : Plane → Plane) (p : PlaneId) :
    (f.onTaking g).plane p = if (f.plane p).st.takes then g (f.plane p) else f.plane p := by
  unfold Machine.Field.onTaking
  cases p <;> cases ha : f.a.st.takes <;> cases hb : f.b.st.takes <;> simp [Machine.Field.plane, ha, hb]

/-- A change to running planes changes the planes alone. -/
theorem Machine.Field.onRunning_eq (f : Machine.Field) (g : Plane → Plane) : ∃ a b : Plane, f.onRunning g = { f with a := a, b := b } := by
  refine ⟨(f.onRunning g).a, (f.onRunning g).b, by
    simp only [Machine.Field.onRunning]; split <;> split <;> rfl⟩

/-- A change to planes that take the stream changes the planes alone. -/
theorem Machine.Field.onTaking_eq (f : Machine.Field) (g : Plane → Plane) : ∃ a b : Plane, f.onTaking g = { f with a := a, b := b } := by
  refine ⟨(f.onTaking g).a, (f.onTaking g).b, by
    simp only [Machine.Field.onTaking]; split <;> split <;> rfl⟩

@[simp] theorem Machine.Field.onRunning_e (f : Machine.Field) (g : Plane → Plane) : (f.onRunning g).e = f.e := by
  obtain ⟨a, b, h⟩ := f.onRunning_eq g; rw [h]
@[simp] theorem Machine.Field.onRunning_h (f : Machine.Field) (g : Plane → Plane) : (f.onRunning g).h = f.h := by
  obtain ⟨a, b, h⟩ := f.onRunning_eq g; rw [h]
@[simp] theorem Machine.Field.onRunning_turn (f : Machine.Field) (g : Plane → Plane) : (f.onRunning g).turn = f.turn := by
  obtain ⟨a, b, h⟩ := f.onRunning_eq g; rw [h]
@[simp] theorem Machine.Field.onRunning_dump (f : Machine.Field) (g : Plane → Plane) : (f.onRunning g).dump = f.dump := by
  obtain ⟨a, b, h⟩ := f.onRunning_eq g; rw [h]
@[simp] theorem Machine.Field.onRunning_copy (f : Machine.Field) (g : Plane → Plane) : (f.onRunning g).copy = f.copy := by
  obtain ⟨a, b, h⟩ := f.onRunning_eq g; rw [h]
@[simp] theorem Machine.Field.onRunning_fresh (f : Machine.Field) (g : Plane → Plane) : (f.onRunning g).fresh = f.fresh := by
  obtain ⟨a, b, h⟩ := f.onRunning_eq g; rw [h]
@[simp] theorem Machine.Field.onTaking_e (f : Machine.Field) (g : Plane → Plane) : (f.onTaking g).e = f.e := by
  obtain ⟨a, b, h⟩ := f.onTaking_eq g; rw [h]
@[simp] theorem Machine.Field.onTaking_h (f : Machine.Field) (g : Plane → Plane) : (f.onTaking g).h = f.h := by
  obtain ⟨a, b, h⟩ := f.onTaking_eq g; rw [h]
@[simp] theorem Machine.Field.onTaking_turn (f : Machine.Field) (g : Plane → Plane) : (f.onTaking g).turn = f.turn := by
  obtain ⟨a, b, h⟩ := f.onTaking_eq g; rw [h]
@[simp] theorem Machine.Field.onTaking_dump (f : Machine.Field) (g : Plane → Plane) : (f.onTaking g).dump = f.dump := by
  obtain ⟨a, b, h⟩ := f.onTaking_eq g; rw [h]
@[simp] theorem Machine.Field.onTaking_copy (f : Machine.Field) (g : Plane → Plane) : (f.onTaking g).copy = f.copy := by
  obtain ⟨a, b, h⟩ := f.onTaking_eq g; rw [h]
@[simp] theorem Machine.Field.onTaking_fresh (f : Machine.Field) (g : Plane → Plane) : (f.onTaking g).fresh = f.fresh := by
  obtain ⟨a, b, h⟩ := f.onTaking_eq g; rw [h]

/-! A host's message. -/

/-- The planes that act: those that stand at the message, or none. -/
theorem Machine.Field.actors_cases (f : Machine.Field) (ep tenant cls tag : Nat) (what : List Byte → Bool) :
    f.actors ep tenant cls tag what = [] ∨
    f.actors ep tenant cls tag what = [PlaneId.A, PlaneId.B].filter (fun p => (f.plane p).stands ep tenant cls tag what) := by
  simp only [Machine.Field.actors]
  split
  · exact Or.inl rfl
  · exact Or.inr rfl

/-- A plane that acts on a message stands at it. -/
theorem Machine.Field.stands_of_mem_actors {f : Machine.Field} {ep tenant cls tag : Nat} {what : List Byte → Bool} {p : PlaneId}
    (h : p ∈ f.actors ep tenant cls tag what) : (f.plane p).stands ep tenant cls tag what = true := by
  rcases f.actors_cases ep tenant cls tag what with e | e <;> rw [e] at h
  · cases h
  · exact (List.mem_filter.mp h).2

/-- The planes that act are distinct. -/
theorem Machine.Field.nodup_actors (f : Machine.Field) (ep tenant cls tag : Nat) (what : List Byte → Bool) :
    (f.actors ep tenant cls tag what).Nodup := by
  rcases f.actors_cases ep tenant cls tag what with e | e <;> rw [e]
  · exact List.nodup_nil
  · exact List.Nodup.filter _ (by decide)

/-- Where one plane alone runs, it acts on the message at which it stands. -/
theorem Machine.Field.mem_actors_alone {f : Machine.Field} {ep tenant cls tag : Nat} {what : List Byte → Bool} {p : PlaneId}
    (h : (f.plane p).stands ep tenant cls tag what = true) (o : (f.e.role p.other).running = false) :
    p ∈ f.actors ep tenant cls tag what := by
  have hp : p ∈ [PlaneId.A, PlaneId.B].filter (fun x => (f.plane x).stands ep tenant cls tag what) :=
    List.mem_filter.mpr ⟨by cases p <;> decide, h⟩
  simp only [Machine.Field.actors]
  split
  · next c => exfalso; revert c; cases p <;> simp only [PlaneId.other] at o <;> simp [o, h]
  · exact hp

/-- A plane after planes of a list without repeats were changed. -/
theorem Machine.Field.plane_foldl_onPlane (g : Plane → Plane) (p : PlaneId) : ∀ (l : List PlaneId) (f : Machine.Field), l.Nodup →
    (l.foldl (fun f x => f.onPlane x g) f).plane p = if p ∈ l then g (f.plane p) else f.plane p := by
  intro l
  induction l with
  | nil => intro f _; simp
  | cons x l ih =>
    intro f h
    have hx := (List.nodup_cons.mp h).1
    rw [List.foldl_cons, ih _ (List.nodup_cons.mp h).2]
    by_cases e : p = x
    · subst e; simp [hx]
    · have : (f.onPlane x g).plane p = f.plane p := by cases p <;> cases x <;> first | rfl | exact absurd rfl e
      simp [this, e]

/-- A host's message: in each plane that acts it is taken and has its effect; the other plane stays. -/
theorem Machine.Field.plane_onAdmitted (f : Machine.Field) (ep tenant cls tag : Nat) (what : List Byte → Bool) (g : Plane → Plane)
    (p : PlaneId) : (f.onAdmitted ep tenant cls tag what g).plane p =
      if p ∈ f.actors ep tenant cls tag what then g (f.plane p).takeAdmitted else f.plane p :=
  Machine.Field.plane_foldl_onPlane (fun q => g q.takeAdmitted) p _ f (f.nodup_actors ep tenant cls tag what)

/-- Planes of a list changed: everything else stays. -/
theorem Machine.Field.foldl_onPlane_eq (g : Plane → Plane) : ∀ (l : List PlaneId) (f : Machine.Field),
    ∃ a b : Plane, l.foldl (fun f x => f.onPlane x g) f = { f with a := a, b := b } := by
  intro l
  induction l with
  | nil => intro f; exact ⟨f.a, f.b, rfl⟩
  | cons x l ih =>
    intro f
    obtain ⟨a, b, h⟩ := ih (f.onPlane x g)
    exact ⟨a, b, by rw [List.foldl_cons, h]; cases x <;> rfl⟩

@[simp] theorem Machine.Field.onAdmitted_e (f : Machine.Field) (ep tenant cls tag : Nat) (what : List Byte → Bool) (g : Plane → Plane) :
    (f.onAdmitted ep tenant cls tag what g).e = f.e := by
  obtain ⟨a, b, h⟩ := Machine.Field.foldl_onPlane_eq (fun q => g q.takeAdmitted) (f.actors ep tenant cls tag what) f
  rw [Machine.Field.onAdmitted, h]
@[simp] theorem Machine.Field.onAdmitted_h (f : Machine.Field) (ep tenant cls tag : Nat) (what : List Byte → Bool) (g : Plane → Plane) :
    (f.onAdmitted ep tenant cls tag what g).h = f.h := by
  obtain ⟨a, b, h⟩ := Machine.Field.foldl_onPlane_eq (fun q => g q.takeAdmitted) (f.actors ep tenant cls tag what) f
  rw [Machine.Field.onAdmitted, h]
@[simp] theorem Machine.Field.onAdmitted_turn (f : Machine.Field) (ep tenant cls tag : Nat) (what : List Byte → Bool) (g : Plane → Plane) :
    (f.onAdmitted ep tenant cls tag what g).turn = f.turn := by
  obtain ⟨a, b, h⟩ := Machine.Field.foldl_onPlane_eq (fun q => g q.takeAdmitted) (f.actors ep tenant cls tag what) f
  rw [Machine.Field.onAdmitted, h]
@[simp] theorem Machine.Field.onAdmitted_dump (f : Machine.Field) (ep tenant cls tag : Nat) (what : List Byte → Bool) (g : Plane → Plane) :
    (f.onAdmitted ep tenant cls tag what g).dump = f.dump := by
  obtain ⟨a, b, h⟩ := Machine.Field.foldl_onPlane_eq (fun q => g q.takeAdmitted) (f.actors ep tenant cls tag what) f
  rw [Machine.Field.onAdmitted, h]
@[simp] theorem Machine.Field.onAdmitted_copy (f : Machine.Field) (ep tenant cls tag : Nat) (what : List Byte → Bool) (g : Plane → Plane) :
    (f.onAdmitted ep tenant cls tag what g).copy = f.copy := by
  obtain ⟨a, b, h⟩ := Machine.Field.foldl_onPlane_eq (fun q => g q.takeAdmitted) (f.actors ep tenant cls tag what) f
  rw [Machine.Field.onAdmitted, h]
@[simp] theorem Machine.Field.onAdmitted_fresh (f : Machine.Field) (ep tenant cls tag : Nat) (what : List Byte → Bool) (g : Plane → Plane) :
    (f.onAdmitted ep tenant cls tag what g).fresh = f.fresh := by
  obtain ⟨a, b, h⟩ := Machine.Field.foldl_onPlane_eq (fun q => g q.takeAdmitted) (f.actors ep tenant cls tag what) f
  rw [Machine.Field.onAdmitted, h]

/-- A message taken is the plane's oldest one; nothing else changes. -/
@[simp] theorem Plane.takeAdmitted_regs (q : Plane) : q.takeAdmitted.regs = q.regs := rfl
@[simp] theorem Plane.takeAdmitted_st (q : Plane) : q.takeAdmitted.st = q.st := rfl
@[simp] theorem Plane.takeAdmitted_kiln (q : Plane) : q.takeAdmitted.kiln = q.kiln := rfl
@[simp] theorem Plane.takeAdmitted_rick (q : Plane) : q.takeAdmitted.rick = q.rick := rfl
@[simp] theorem Plane.takeAdmitted_nv (q : Plane) : q.takeAdmitted.nv = q.nv := rfl
@[simp] theorem Plane.takeAdmitted_fwd (q : Plane) : q.takeAdmitted.fwd = q.fwd := rfl
@[simp] theorem Plane.takeAdmitted_thr (q : Plane) : q.takeAdmitted.thr = q.thr := rfl
@[simp] theorem Plane.takeAdmitted_truss (q : Plane) : q.takeAdmitted.truss = q.truss := rfl
@[simp] theorem Plane.takeAdmitted_servo (q : Plane) : q.takeAdmitted.servo = q.servo := rfl

/-! The entropy pool (R29). -/

/-- A draw takes the pool's oldest bytes and the consumer off the list of those that wait. -/
theorem Plane.drawPool_some (q : Plane) (c n : Nat) (h : q.mayDraw c n = true) : q.drawPool c n = some (q.st.pool.take n,
    ({ q with st := { q.st with pool := q.st.pool.drop n } } : Plane).onKiln (fun k => { k with waits := k.waits.filter (· ≠ c) })) := by
  rw [Plane.drawPool, if_pos h]

/-- A consumer that has to wait draws nothing. -/
theorem Plane.drawPool_none (q : Plane) (c n : Nat) (h : q.mayDraw c n = false) : q.drawPool c n = none := by
  rw [Plane.drawPool, if_neg (by simp [h])]

/-! Output messages (R297). -/

/-- A response from a plane that sends, to an endpoint that is UP and in no group, past no CUT: it is the last message of the output queue. -/
theorem Plane.mem_respond (q : Plane) (ep cls tenant tag : Nat) (body : List Byte) (up : q.epUp ep = true) (sends : q.st.sends = true)
    (past : q.st.past = false) (alone : q.partner ep = none) : ∃ m ∈ (q.respond ep cls tenant tag body).host.out,
      m.ep = ep ∧ m.cls = cls ∧ m.tenant = tenant ∧ m.tag = tag ∧ m.body = body := by
  refine ⟨⟨ep, cls, tenant, false, false, true, false, sget (fun _ => 0) q.host.outSeq (2 * q.primary ep + streamOf cls), tag, body,
    q.st.stream⟩, ?_, rfl, rfl, rfl, rfl, rfl⟩
  simp [Plane.respond, Plane.send, Plane.sendFor, past, sends, Plane.members, alone, up]

end Sys2Proof
end

