-- ==== Sys2Proof/Laws/Sparse.lean ====
section
/-!
SUPPORT. Laws of sparse maps: what is read after a write, and that every operation keeps the canonical form.
-/

namespace Sys2Proof

variable {α : Type}

theorem sget_sins_same (d : Nat → α) (k : Nat) (v : α) : ∀ m : List (Nat × α), sget d (sins k v m) k = v
  | [] => by simp [sins, sget]
  | (k', v') :: m => by
    unfold sins
    split
    · simp [sget]
    · split
      · simp [sget]
      · next h =>
        have h' : k' ≠ k := fun e => h e.symm
        simp [sget, h', sget_sins_same d k v m]

theorem sget_sins_other (d : Nat → α) {k j : Nat} (v : α) (h : j ≠ k) :
    ∀ m : List (Nat × α), sget d (sins k v m) j = sget d m j
  | [] => by simp [sins, sget, h.symm]
  | (k', v') :: m => by
    unfold sins
    split
    · simp [sget, h.symm]
    · split
      · next e => subst e; simp [sget, h.symm]
      · by_cases e : k' = j
        · simp [sget, e]
        · simp [sget, e, sget_sins_other d v h m]

theorem sget_sdel_same (d : Nat → α) (k : Nat) : ∀ m : List (Nat × α), sget d (sdel k m) k = d k
  | [] => rfl
  | (k', v') :: m => by
    have ih := sget_sdel_same d k m
    by_cases e : k' = k
    · simpa [sdel, e] using ih
    · simpa [sdel, e, sget] using ih

theorem sget_sdel_other (d : Nat → α) {k j : Nat} (h : j ≠ k) : ∀ m : List (Nat × α), sget d (sdel k m) j = sget d m j
  | [] => rfl
  | (k', v') :: m => by
    have ih := sget_sdel_other d h m
    by_cases e : k' = k
    · subst e; simpa [sdel, sget, h.symm] using ih
    · by_cases e' : k' = j
      · subst e'; simp [sdel, e, sget]
      · simpa [sdel, e, sget, e'] using ih

/-- What is written is read. -/
@[simp] theorem sget_sput_same [DecidableEq α] (d : Nat → α) (m : List (Nat × α)) (k : Nat) (v : α) :
    sget d (sput d m k v) k = v := by
  unfold sput
  split
  · next h => rw [sget_sdel_same, h]
  · exact sget_sins_same d k v m

/-- A write leaves every other key alone. -/
theorem sget_sput_other [DecidableEq α] (d : Nat → α) (m : List (Nat × α)) {k j : Nat} (v : α) (h : j ≠ k) :
    sget d (sput d m k v) j = sget d m j := by
  unfold sput
  split
  · exact sget_sdel_other d h m
  · exact sget_sins_other d v h m

/-- A read after a write. -/
theorem sget_sput [DecidableEq α] (d : Nat → α) (m : List (Nat × α)) (k j : Nat) (v : α) :
    sget d (sput d m k v) j = if j = k then v else sget d m j := by
  split
  · next h => subst h; exact sget_sput_same d m j v
  · next h => exact sget_sput_other d m v h

/-- A read after a change. -/
theorem sget_supd [DecidableEq α] (d : Nat → α) (m : List (Nat × α)) (k j : Nat) (f : α → α) :
    sget d (supd d m k f) j = if j = k then f (sget d m k) else sget d m j := sget_sput d m k j _

@[simp] theorem sget_supd_same [DecidableEq α] (d : Nat → α) (m : List (Nat × α)) (k : Nat) (f : α → α) :
    sget d (supd d m k f) k = f (sget d m k) := sget_sput_same d m k _

/-- Cleared keys read as unlisted; the others stay. -/
theorem sget_sclear (d : Nat → α) (p : Nat → Bool) (j : Nat) :
    ∀ m : List (Nat × α), sget d (sclear p m) j = if p j then d j else sget d m j
  | [] => by simp [sclear, sget]
  | (k, v) :: m => by
    have ih := sget_sclear d p j m
    by_cases hk : p k
    · by_cases e : k = j
      · subst e; simpa [sclear, hk] using ih
      · simpa [sclear, hk, sget, e] using ih
    · by_cases e : k = j
      · subst e; simp [sclear, hk, sget]
      · simpa [sclear, hk, sget, e] using ih

/-! The canonical form. -/

section
variable [DecidableEq α]

theorem swfFrom_mono {d : Nat → α} : ∀ {m : List (Nat × α)} {l l' : Nat}, l' ≤ l → swfFrom d (some l) m = true →
    swfFrom d (some l') m = true
  | [], _, _, _, _ => rfl
  | (k, v) :: m, l, l', h, w => by
    simp only [swfFrom, Bool.and_eq_true, decide_eq_true_eq] at w ⊢
    exact ⟨⟨by omega, w.1.2⟩, w.2⟩

theorem swf_of_swfFrom {d : Nat → α} {m : List (Nat × α)} {l : Nat} (h : swfFrom d (some l) m = true) : swf d m = true := by
  cases m with
  | nil => rfl
  | cons e m =>
    obtain ⟨k, v⟩ := e
    simp only [swf, swfFrom, Bool.and_eq_true, decide_eq_true_eq] at h ⊢
    exact ⟨⟨trivial, h.1.2⟩, h.2⟩

theorem swfFrom_filter {d : Nat → α} (q : Nat × α → Bool) : ∀ {m : List (Nat × α)} {lo : Option Nat}, swfFrom d lo m = true →
    swfFrom d lo (m.filter q) = true
  | [], _, _ => rfl
  | (k, v) :: m, lo, w => by
    have w' := w
    simp only [swfFrom, Bool.and_eq_true, decide_eq_true_eq] at w
    have ih := swfFrom_filter q w.2
    by_cases hq : q (k, v)
    · simp only [List.filter_cons, hq, if_true, swfFrom, Bool.and_eq_true, decide_eq_true_eq]
      exact ⟨w.1, ih⟩
    · simp only [List.filter_cons, hq]
      cases lo with
      | none => exact swf_of_swfFrom ih
      | some l =>
        have : l < k := by simpa using w.1.1
        exact swfFrom_mono (Nat.le_of_lt this) ih

theorem swfFrom_sins {d : Nat → α} {k : Nat} {v : α} (hv : v ≠ d k) : ∀ {m : List (Nat × α)} {lo : Option Nat},
    (∀ l, lo = some l → l < k) → swfFrom d lo m = true → swfFrom d lo (sins k v m) = true
  | [], lo, hl, _ => by cases lo <;> simp_all [sins, swfFrom]
  | (k', v') :: m, lo, hl, w => by
    simp only [swfFrom, Bool.and_eq_true, decide_eq_true_eq] at w
    unfold sins
    split
    · next h =>
      simp only [swfFrom, Bool.and_eq_true, decide_eq_true_eq]
      refine ⟨⟨?_, hv⟩, ⟨h, w.1.2⟩, w.2⟩
      cases lo <;> simp_all
    · next h =>
      split
      · next e =>
        subst e
        simp only [swfFrom, Bool.and_eq_true, decide_eq_true_eq]
        exact ⟨⟨w.1.1, hv⟩, w.2⟩
      · next e =>
        simp only [swfFrom, Bool.and_eq_true, decide_eq_true_eq]
        exact ⟨w.1, swfFrom_sins hv (fun l hl' => by cases hl'; omega) w.2⟩

/-- A write keeps the canonical form. -/
theorem swf_sput {d : Nat → α} {m : List (Nat × α)} (k : Nat) (v : α) (h : swf d m = true) : swf d (sput d m k v) = true := by
  unfold sput
  split
  · exact swfFrom_filter _ h
  · next hv => exact swfFrom_sins hv (fun l hl => by cases hl) h

/-- A change keeps the canonical form. -/
theorem swf_supd {d : Nat → α} {m : List (Nat × α)} (k : Nat) (f : α → α) (h : swf d m = true) : swf d (supd d m k f) = true :=
  swf_sput k _ h

/-- Clearing keeps the canonical form. -/
theorem swf_sclear {d : Nat → α} {m : List (Nat × α)} (p : Nat → Bool) (h : swf d m = true) : swf d (sclear p m) = true :=
  swfFrom_filter _ h

theorem swfFrom_smap {d : Nat → α} (f : α → α) : ∀ {m : List (Nat × α)} {lo : Option Nat}, swfFrom d lo m = true →
    swfFrom d lo (smap d f m) = true
  | [], _, _ => rfl
  | (k, v) :: m, lo, w => by
    simp only [swfFrom, Bool.and_eq_true, decide_eq_true_eq] at w
    have ih := swfFrom_smap f w.2
    by_cases e : f v = d k
    · have : smap d f ((k, v) :: m) = smap d f m := by simp [smap, e]
      rw [this]
      cases lo with
      | none => exact swf_of_swfFrom ih
      | some l =>
        have : l < k := by simpa using w.1.1
        exact swfFrom_mono (Nat.le_of_lt this) ih
    · have : smap d f ((k, v) :: m) = (k, f v) :: smap d f m := by simp [smap, e]
      rw [this]
      simp only [swfFrom, Bool.and_eq_true, decide_eq_true_eq]
      exact ⟨⟨w.1.1, e⟩, ih⟩

/-- A change of every listed value keeps the canonical form. -/
theorem swf_smap {d : Nat → α} {m : List (Nat × α)} (f : α → α) (h : swf d m = true) : swf d (smap d f m) = true := swfFrom_smap f h

end

end Sys2Proof
end

