-- ==== Sys2Proof/Laws/Regs.lean ====
section
/-!
SUPPORT. Laws of register words, fields and register files.
-/

namespace Sys2Proof

/-- What is written to a register is read. -/
@[simp] theorem Regs.rd_wr_same (m : Regs) (a : Nat) (v : Word) : (m.wr a v).rd a = v := sget_sput_same _ _ _ _

/-- A write leaves every other register alone. -/
theorem Regs.rd_wr_other (m : Regs) {a b : Nat} (v : Word) (h : b ≠ a) : (m.wr a v).rd b = m.rd b := sget_sput_other _ _ _ h

/-- A register read after a write. -/
theorem Regs.rd_wr (m : Regs) (a b : Nat) (v : Word) : (m.wr a v).rd b = if b = a then v else m.rd b := sget_sput _ _ _ _ _

/-- Cleared registers read their reset value. -/
theorem Regs.rd_clear (m : Regs) (p : Nat → Bool) (a : Nat) : (m.clear p).rd a = if p a then resetWord a else m.rd a :=
  sget_sclear _ _ _ _

/-- The word of a register after a field of it was set. -/
theorem Regs.rd_set (m : Regs) (b : Nat) (f : Fld) (v : Nat) (a : Nat) :
    (m.set b f v).rd a = if a = b + f.reg then f.set (m.rd (b + f.reg)) v else m.rd a := Regs.rd_wr _ _ _ _

/-- Setting a field leaves the fields of other registers alone. -/
theorem Regs.get_set_other (m : Regs) {b c : Nat} {f g : Fld} (v : Nat) (h : c + g.reg ≠ b + f.reg) :
    (m.set b f v).get c g = m.get c g := by
  simp [Regs.get, Regs.rd_set, h]

/-- Writing a register leaves the fields of others alone. -/
theorem Regs.get_wr_other (m : Regs) {a c : Nat} {g : Fld} (v : Word) (h : c + g.reg ≠ a) : (m.wr a v).get c g = m.get c g := by
  simp [Regs.get, Regs.rd_wr, h]

/-- The canonical form stays through every operation on a register file. -/
theorem Regs.wf_wr {m : Regs} (a : Nat) (v : Word) (h : m.wf = true) : (m.wr a v).wf = true := swf_sput _ _ h
theorem Regs.wf_set {m : Regs} (b : Nat) (f : Fld) (v : Nat) (h : m.wf = true) : (m.set b f v).wf = true := Regs.wf_wr _ _ h
theorem Regs.wf_clear {m : Regs} (p : Nat → Bool) (h : m.wf = true) : (m.clear p).wf = true := swf_sclear _ h
theorem Regs.wf_addCnt {m : Regs} (a n : Nat) (h : m.wf = true) : (m.addCnt a n).wf = true := Regs.wf_wr _ _ h
theorem Regs.wf_inc {m : Regs} (a : Nat) (h : m.wf = true) : (m.inc a).wf = true := Regs.wf_addCnt _ _ h
theorem Regs.wf_wr64 {m : Regs} (a v : Nat) (h : m.wf = true) : (m.wr64 a v).wf = true := Regs.wf_wr _ _ (Regs.wf_wr _ _ h)

/-- A bit of a mask. -/
theorem maskOf_getLsbD (hi lo i : Nat) (h : i < 32) : (maskOf hi lo).getLsbD i = (decide (lo ≤ i) && decide (i < lo + (hi + 1 - lo))) := by
  unfold maskOf
  rw [BitVec.getLsbD_ofNat]
  simp only [h, decide_true, Bool.true_and]
  rw [Nat.mul_comm, Nat.testBit_two_pow_mul, Nat.testBit_two_pow_sub_one]
  by_cases h1 : lo ≤ i
  · by_cases h2 : i < lo + (hi + 1 - lo)
    · simp only [h1, h2, decide_true, Bool.true_and]; exact decide_eq_true (by omega)
    · simp only [h1, h2, decide_true, decide_false, Bool.true_and]; exact decide_eq_false (by omega)
  · simp [h1]

/-- A bit of a word after a field was set. -/
theorem Fld.getLsbD_set (f : Fld) (w : Word) (v i : Nat) (h : i < 32) :
    (f.set w v).getLsbD i =
      if f.lo ≤ i ∧ i < f.lo + (f.hi + 1 - f.lo) then (v % 2 ^ (f.hi + 1 - f.lo)).testBit (i - f.lo) else w.getLsbD i := by
  unfold Fld.set
  rw [BitVec.getLsbD_or, BitVec.getLsbD_and, BitVec.getLsbD_not, maskOf_getLsbD _ _ _ h, BitVec.getLsbD_shiftLeft]
  simp only [h, decide_true, Bool.true_and, BitVec.getLsbD_ofNat]
  by_cases h1 : f.lo ≤ i
  · by_cases h2 : i < f.lo + (f.hi + 1 - f.lo)
    · have h3 : i - f.lo < 32 := by omega
      simp [h1, h2, h3, Nat.not_lt.mpr h1]
    · have h4 : (v % 2 ^ (f.hi + 1 - f.lo)).testBit (i - f.lo) = false := by
        apply Nat.testBit_lt_two_pow
        refine Nat.lt_of_lt_of_le (Nat.mod_lt _ (Nat.two_pow_pos _)) (Nat.pow_le_pow_right (by decide) (by omega))
      simp [h1, h2, h4]
  · simp [h1, Nat.not_le.mp h1]

/-- A bit of a field's value. -/
theorem Fld.testBit_get (f : Fld) (w : Word) (i : Nat) :
    (f.get w).testBit i = (decide (i < f.hi + 1 - f.lo) && w.getLsbD (f.lo + i)) := by
  unfold Fld.get bits
  rw [Nat.testBit_mod_two_pow, Nat.testBit_shiftRight, ← BitVec.testBit_toNat]

/-- A field reads what was written to it, cut to its width. -/
theorem Fld.get_set (f : Fld) (w : Word) (v : Nat) (h : f.hi < 32) : f.get (f.set w v) = v % 2 ^ (f.hi + 1 - f.lo) := by
  apply Nat.eq_of_testBit_eq
  intro i
  rw [Fld.testBit_get]
  by_cases hi : i < f.hi + 1 - f.lo
  · rw [Fld.getLsbD_set _ _ _ _ (by omega)]
    have : f.lo ≤ f.lo + i ∧ f.lo + i < f.lo + (f.hi + 1 - f.lo) := by omega
    simp only [hi, decide_true, Bool.true_and, this, and_self, if_true]
    congr 1
    omega
  · rw [Nat.testBit_mod_two_pow]
    simp [hi]

/-- A field beside the one written keeps its value. -/
theorem Fld.get_set_other (f g : Fld) (w : Word) (v : Nat) (hg : g.hi < 32) (h : g.hi < f.lo ∨ f.hi < g.lo) :
    g.get (f.set w v) = g.get w := by
  apply Nat.eq_of_testBit_eq
  intro i
  rw [Fld.testBit_get, Fld.testBit_get]
  by_cases hi : i < g.hi + 1 - g.lo
  · rw [Fld.getLsbD_set _ _ _ _ (by omega)]
    have : ¬ (f.lo ≤ g.lo + i ∧ g.lo + i < f.lo + (f.hi + 1 - f.lo)) := by omega
    simp [this]
  · simp [hi]

/-- A field set in a register file is read back. -/
theorem Regs.get_set_same (m : Regs) (b : Nat) (f : Fld) (v : Nat) (h : f.hi < 32) :
    (m.set b f v).get b f = v % 2 ^ (f.hi + 1 - f.lo) := by
  unfold Regs.get
  rw [Regs.rd_set, if_pos rfl]
  exact Fld.get_set f _ v h

/-- A field of the same register beside the one set stays. -/
theorem Regs.get_set_beside (m : Regs) (b c : Nat) (f g : Fld) (v : Nat) (e : c + g.reg = b + f.reg) (hg : g.hi < 32)
    (h : g.hi < f.lo ∨ f.hi < g.lo) : (m.set b f v).get c g = m.get c g := by
  unfold Regs.get
  rw [Regs.rd_set, if_pos e, Fld.get_set_other f g _ v hg h, e]

/-- A counter counts and saturates (R52). -/
theorem Regs.rd_addCnt (m : Regs) (a n b : Nat) :
    (m.addCnt a n).rd b = if b = a then BitVec.ofNat 32 (satAdd 32 (m.rd a).toNat n) else m.rd b := Regs.rd_wr _ _ _ _

/-- A 64-bit value written is read back, cut to 64 bits. -/
theorem Regs.rd64_wr64 (m : Regs) (a v : Nat) : (m.wr64 a v).rd64 a = v % 2 ^ 64 := by
  unfold Regs.rd64 Regs.wr64
  rw [Regs.rd_wr_same, Regs.rd_wr_other _ _ (by omega), Regs.rd_wr_same]
  simp only [BitVec.toNat_ofNat]
  omega

end Sys2Proof
end

