-- ==== Sys2Proof/Laws/Ops.lean ====
section
/-!
SUPPORT. What each shared operation can do, said once: placing shingles in the merger, the fields of a slot, an Ethernet port and a T1S
port, transmit drops, restarts.
-/

namespace Sys2Proof

/-! Fields of a block. -/

/-- A field of a block read after a field of the same block was set. -/
theorem Eaves.sl_slSet (e : Eaves) (n : Nat) (f g : Fld) (v : Nat) (hf : f.hi < 32) (hg : g.hi < 32)
    (h : g = f ∨ g.reg ≠ f.reg ∨ g.hi < f.lo ∨ f.hi < g.lo) :
    (e.slSet n f v).sl n g = if g = f then v % 2 ^ (f.hi + 1 - f.lo) else e.sl n g := by
  unfold Eaves.sl Eaves.slSet
  rw [Eaves.onRegs_regs]
  by_cases hgf : g = f
  · subst hgf; simp [Regs.get_set_same _ _ _ _ hg]
  · rw [if_neg hgf]
    by_cases hr : g.reg = f.reg
    · rcases h with h | h | h
      · exact absurd h hgf
      · exact absurd hr h
      · exact Regs.get_set_beside _ _ _ _ _ _ (by omega) hg h
    · exact Regs.get_set_other _ _ (by omega)

/-- A field of a block read after a counter of the same block counted. -/
theorem Eaves.sl_slInc (e : Eaves) (n off : Nat) (g : Fld) (h : g.reg ≠ off) : (e.slInc n off).sl n g = e.sl n g := by
  unfold Eaves.sl Eaves.slInc Regs.inc Regs.addCnt
  rw [Eaves.onRegs_regs]
  exact Regs.get_wr_other _ _ (by omega)

@[simp] theorem Eaves.slot_onRegs (e : Eaves) (g : Regs → Regs) (n : Nat) : (e.onRegs g).slot n = e.slot n := rfl
@[simp] theorem Eaves.slot_slSet (e : Eaves) (m : Nat) (f : Fld) (v n : Nat) : (e.slSet m f v).slot n = e.slot n := rfl
@[simp] theorem Eaves.slot_slInc (e : Eaves) (m off n : Nat) : (e.slInc m off).slot n = e.slot n := rfl
@[simp] theorem Eaves.slot_at (e : Eaves) (dt n : Nat) : (e.at dt).slot n = e.slot n := rfl
@[simp] theorem Eaves.slot_onSlot_same (e : Eaves) (n : Nat) (g : Slot → Slot) : (e.onSlot n g).slot n = g (e.slot n) := by
  simp [Eaves.slot]
@[simp] theorem Eaves.slot_onCan_same (e : Eaves) (n : Nat) (g : CanSt → CanSt) :
    (e.onCan n g).slot n = { e.slot n with can := g (e.slot n).can } := by simp [Eaves.onCan]
@[simp] theorem Eaves.slot_onSlow_same (e : Eaves) (n : Nat) (g : SlowSt → SlowSt) :
    (e.onSlow n g).slot n = { e.slot n with slow := g (e.slot n).slow } := by simp [Eaves.onSlow]
@[simp] theorem Eaves.regs_onCan (e : Eaves) (n : Nat) (g : CanSt → CanSt) : (e.onCan n g).regs = e.regs := rfl
@[simp] theorem Eaves.regs_onSlow (e : Eaves) (n : Nat) (g : SlowSt → SlowSt) : (e.onSlow n g).regs = e.regs := rfl
@[simp] theorem Eaves.sl_onCan (e : Eaves) (n : Nat) (g : CanSt → CanSt) (m : Nat) (f : Fld) : (e.onCan n g).sl m f = e.sl m f := rfl
@[simp] theorem Eaves.sl_onSlow (e : Eaves) (n : Nat) (g : SlowSt → SlowSt) (m : Nat) (f : Fld) : (e.onSlow n g).sl m f = e.sl m f := rfl
@[simp] theorem Eaves.sl_onSlot (e : Eaves) (n : Nat) (g : Slot → Slot) (m : Nat) (f : Fld) : (e.onSlot n g).sl m f = e.sl m f := rfl

/-! Placing (R27, R437). -/

/-- What waits after a shingle was put into its place. -/
theorem mem_insWait (w x : Wait) (l : List Wait) : x ∈ insWait w l ↔ x = w ∨ x ∈ l := by
  induction l with
  | nil => simp [insWait]
  | cons v vs ih =>
    unfold insWait
    split
    · simp
    · simp only [List.mem_cons, ih]; exact or_left_comm

/-- A merger that runs takes the shingle. -/
theorem Eaves.mem_placeAt (e : Eaves) (a b : Nat) (sh : Shingle) (h : e.merger.stopped = false) (x : Wait) :
    x ∈ (e.placeAt a b sh).merger.waiting ↔ x = ⟨a, b, sh⟩ ∨ x ∈ e.merger.waiting := by
  unfold Eaves.placeAt
  rw [h]
  exact mem_insWait _ _ _

/-- Placing changes the merger alone. -/
theorem Eaves.placeAt_eq (e : Eaves) (a b : Nat) (sh : Shingle) : ∃ m : Merger, e.placeAt a b sh = { e with merger := m } := by
  unfold Eaves.placeAt
  split
  · exact ⟨e.merger, rfl⟩
  · exact ⟨_, rfl⟩

@[simp] theorem Eaves.placeAt_regs (e : Eaves) (a b : Nat) (sh : Shingle) : (e.placeAt a b sh).regs = e.regs := by
  obtain ⟨m, h⟩ := e.placeAt_eq a b sh; rw [h]
@[simp] theorem Eaves.placeAt_slots (e : Eaves) (a b : Nat) (sh : Shingle) : (e.placeAt a b sh).slots = e.slots := by
  obtain ⟨m, h⟩ := e.placeAt_eq a b sh; rw [h]
@[simp] theorem Eaves.placeAt_gens (e : Eaves) (a b : Nat) (sh : Shingle) : (e.placeAt a b sh).gens = e.gens := by
  obtain ⟨m, h⟩ := e.placeAt_eq a b sh; rw [h]
@[simp] theorem Eaves.placeAt_seqr (e : Eaves) (a b : Nat) (sh : Shingle) : (e.placeAt a b sh).seqr = e.seqr := by
  obtain ⟨m, h⟩ := e.placeAt_eq a b sh; rw [h]
@[simp] theorem Eaves.placeAt_live (e : Eaves) (a b : Nat) (sh : Shingle) : (e.placeAt a b sh).live = e.live := by
  obtain ⟨m, h⟩ := e.placeAt_eq a b sh; rw [h]
@[simp] theorem Eaves.placeAt_mode (e : Eaves) (a b : Nat) (sh : Shingle) : (e.placeAt a b sh).mode = e.mode := by
  obtain ⟨m, h⟩ := e.placeAt_eq a b sh; rw [h]
@[simp] theorem Eaves.placeAt_counter (e : Eaves) (a b : Nat) (sh : Shingle) : (e.placeAt a b sh).counter = e.counter := by
  obtain ⟨m, h⟩ := e.placeAt_eq a b sh; rw [h]
@[simp] theorem Eaves.placeAt_eths (e : Eaves) (a b : Nat) (sh : Shingle) : (e.placeAt a b sh).eths = e.eths := by
  obtain ⟨m, h⟩ := e.placeAt_eq a b sh; rw [h]
@[simp] theorem Eaves.placeAt_t1s (e : Eaves) (a b : Nat) (sh : Shingle) : (e.placeAt a b sh).t1s = e.t1s := by
  obtain ⟨m, h⟩ := e.placeAt_eq a b sh; rw [h]
@[simp] theorem Eaves.placeAt_slot (e : Eaves) (a b : Nat) (sh : Shingle) (n : Nat) : (e.placeAt a b sh).slot n = e.slot n := by
  simp [Eaves.slot]
@[simp] theorem Eaves.placeAt_genOf (e : Eaves) (a b : Nat) (sh : Shingle) (n : Nat) : (e.placeAt a b sh).genOf n = e.genOf n := by
  simp [Eaves.genOf]
@[simp] theorem Eaves.placeAt_sl (e : Eaves) (a b : Nat) (sh : Shingle) (n : Nat) (f : Fld) : (e.placeAt a b sh).sl n f = e.sl n f := by
  simp [Eaves.sl]

@[simp] theorem Eaves.ctrl_regs (e : Eaves) (p : Nat) (b : List Byte) : (e.ctrl p b).regs = e.regs := Eaves.placeAt_regs _ _ _ _
@[simp] theorem Eaves.ctrl_slots (e : Eaves) (p : Nat) (b : List Byte) : (e.ctrl p b).slots = e.slots := Eaves.placeAt_slots _ _ _ _
@[simp] theorem Eaves.ctrl_gens (e : Eaves) (p : Nat) (b : List Byte) : (e.ctrl p b).gens = e.gens := Eaves.placeAt_gens _ _ _ _
@[simp] theorem Eaves.ctrl_seqr (e : Eaves) (p : Nat) (b : List Byte) : (e.ctrl p b).seqr = e.seqr := Eaves.placeAt_seqr _ _ _ _
@[simp] theorem Eaves.ctrl_mode (e : Eaves) (p : Nat) (b : List Byte) : (e.ctrl p b).mode = e.mode := Eaves.placeAt_mode _ _ _ _
@[simp] theorem Eaves.ctrl_eths (e : Eaves) (p : Nat) (b : List Byte) : (e.ctrl p b).eths = e.eths := Eaves.placeAt_eths _ _ _ _
@[simp] theorem Eaves.ctrl_t1s (e : Eaves) (p : Nat) (b : List Byte) : (e.ctrl p b).t1s = e.t1s := Eaves.placeAt_t1s _ _ _ _
@[simp] theorem Eaves.ctrl_slot (e : Eaves) (p : Nat) (b : List Byte) (n : Nat) : (e.ctrl p b).slot n = e.slot n := Eaves.placeAt_slot _ _ _ _ _
@[simp] theorem Eaves.ctrl_genOf (e : Eaves) (p : Nat) (b : List Byte) (n : Nat) : (e.ctrl p b).genOf n = e.genOf n :=
  Eaves.placeAt_genOf _ _ _ _ _
@[simp] theorem Eaves.ctrl_sl (e : Eaves) (p : Nat) (b : List Byte) (n : Nat) (f : Fld) : (e.ctrl p b).sl n f = e.sl n f :=
  Eaves.placeAt_sl _ _ _ _ _ _

/-- A CTRL shingle waits in a merger that runs. -/
theorem Eaves.mem_ctrl (e : Eaves) (p : Nat) (b : List Byte) (h : e.merger.stopped = false) : ∃ w ∈ (e.ctrl p b).merger.waiting,
    w.sh = Shingle.mk0 .ctrl e.counter p (if p = 256 then 0 else e.genOf p) b :=
  ⟨_, (Eaves.mem_placeAt _ _ _ _ h _).mpr (Or.inl rfl), rfl⟩

/-- A restart announced: GEN is one more. -/
@[simp] theorem Eaves.announceRestart_genOf (e : Eaves) (p : Nat) : (e.announceRestart p).genOf p = (e.genOf p + 1) % 256 := by
  simp [Eaves.announceRestart, Eaves.genOf]
@[simp] theorem Eaves.announceRestart_regs (e : Eaves) (p : Nat) : (e.announceRestart p).regs = e.regs := by
  simp [Eaves.announceRestart]
@[simp] theorem Eaves.announceRestart_slot (e : Eaves) (p n : Nat) : (e.announceRestart p).slot n = e.slot n := by
  simp [Eaves.announceRestart]; rfl

/-- A unit delivered with room in the buffer (R35): it is placed, and counted. -/
theorem Machine.Field.deliver_room (f : Machine.Field) (sh : Shingle) (cnt : Eaves → Eaves) (h : f.mergerLoad + sh.size ≤ mergerFieldBytes)
    (hc : (cnt f.e).merger = f.e.merger) : f.deliver sh cnt = f.onE (fun e => (cnt e).place sh) := by
  have h2 : (f.onE cnt).mergerLoad = f.mergerLoad := by
    unfold Machine.Field.mergerLoad
    simp [hc]
  unfold Machine.Field.deliver Machine.Field.offerUnit
  rw [if_neg (by omega), h2, if_neg (by omega)]
  rfl

/-! Transmit drops (R117). -/

theorem Eaves.txDrops_frame (P : Eaves → Prop) (n c : Nat) (step : ∀ e i, P e → P (e.txDrop n c i)) :
    ∀ (ids : List Nat) (e : Eaves), P e → P (e.txDrops n c ids) := by
  intro ids
  induction ids with
  | nil => intro e h; exact h
  | cons i is ih => intro e h; exact ih _ (step e i h)

@[simp] theorem Eaves.txDrops_slot (e : Eaves) (n c : Nat) (ids : List Nat) (k : Nat) : (e.txDrops n c ids).slot k = e.slot k :=
  Eaves.txDrops_frame (fun x => x.slot k = e.slot k) n c (fun _ _ h => h) ids e rfl
@[simp] theorem Eaves.txDrops_genOf (e : Eaves) (n c : Nat) (ids : List Nat) (k : Nat) : (e.txDrops n c ids).genOf k = e.genOf k :=
  Eaves.txDrops_frame (fun x => x.genOf k = e.genOf k) n c (fun _ _ h => h) ids e rfl
@[simp] theorem Eaves.txDrops_live (e : Eaves) (n c : Nat) (ids : List Nat) : (e.txDrops n c ids).live = e.live :=
  Eaves.txDrops_frame (fun x => x.live = e.live) n c (fun _ _ h => h) ids e rfl
@[simp] theorem Eaves.txDrops_counter (e : Eaves) (n c : Nat) (ids : List Nat) : (e.txDrops n c ids).counter = e.counter :=
  Eaves.txDrops_frame (fun x => x.counter = e.counter) n c (fun _ _ h => h) ids e rfl
@[simp] theorem Eaves.txDrops_mode (e : Eaves) (n c : Nat) (ids : List Nat) : (e.txDrops n c ids).mode = e.mode :=
  Eaves.txDrops_frame (fun x => x.mode = e.mode) n c (fun _ _ h => h) ids e rfl

/-- A drop touches SLOT_TXLAST and the drop counters alone. -/
theorem Eaves.txDrop_sl (e : Eaves) (n c i : Nat) (g : Fld) (h : g.reg ≠ SLOT_TXLAST ∧ (g.reg < 0xA0 ∨ 0xB4 ≤ g.reg)) : (e.txDrop n c i).sl n g = e.sl n g := by
  unfold Eaves.txDrop Eaves.sl Eaves.slSet Eaves.slInc Regs.inc Regs.addCnt
  simp only [Eaves.onRegs_regs]
  rw [Regs.get_set_other, Regs.get_set_other, Regs.get_wr_other]
  all_goals simp [SLOT_TXLAST_ID, SLOT_TXLAST_CAUSE, SLOT_TXLAST, SLOT_TXDROP_RETRY, SLOT_TXDROP_AGE, SLOT_TXDROP_OVFL, SLOT_TXDROP_CANCEL, SLOT_TXDROP_OTHER] at *
  all_goals repeat' split
  all_goals omega

end Sys2Proof
end

