-- ==== Sys2Proof/WellFormed.lean ====
section
/-!
DEFINITION. Which commands are well formed: operands within the widths and limits that the manual gives the message, the frame or the
interval they stand for. `exec` has a meaning for every command, well formed or not.
-/

namespace Sys2Proof

/-- A TICK is due every 10 µs (R28), so less than that has passed since the last one. -/
def dtOk (dt : Nat) : Bool := decide (dt < 10000)

/-- TAG has 24 bits (R283). -/
def tagOk (tag : Nat) : Bool := decide (tag < 2 ^ 24)

/-- A management address (R44): word-aligned, 28 bits. -/
def addrOk (a : Nat) : Bool := decide (a < 2 ^ 28 ∧ a % 4 = 0)

/-- An Ethernet frame as the wire carries it, without FCS: it has a header (R157). -/
def frameOk (f : List Byte) : Bool := decide (14 ≤ f.length ∧ f.length ≤ 65535)

/-- A received CAN frame (R104): identifiers of 11 or 29 bits, data of its format's lengths, remote frames classical and empty. -/
def CanRx.wf (r : CanRx) : Bool :=
  decide (r.id < (if r.ide then 2 ^ 29 else 2 ^ 11) ∧ r.dlc < 2048 ∧ r.sdt < 256 ∧ r.vcid < 256 ∧ r.af < 2 ^ 32) &&
    (match r.fmt with
     | .cc => decide (r.data.length ≤ 8 ∧ r.dlc < 16) && (!r.rmt || r.data.isEmpty)
     | .fd => !r.rmt && decide (r.data.length ≤ 64 ∧ r.dlc < 16)
     | .xl => !r.rmt && !r.ide && decide (1 ≤ r.data.length ∧ r.data.length ≤ 2048))

/-- Whether a command is well formed. -/
def Instr.wf : Instr → Bool
  | .tick => true
  | .mergerEmit dt => dtOk dt
  | .unitLookup _ => true
  | .portRestartProcess _ => true
  | .linkDownFlush _ => true
  | .planeLagDetect _ lag => decide (lag < 2 ^ 64)
  | .eavesAccess => true
  | .regReadCompletion _ => true
  | .hostMsgReceive _ _ _ _ => true
  | .receiptReceived _ => true
  | .admissionRequest _ => true
  | .hostAdmit _ => true
  | .receiptTimeout _ _ seq => decide (seq < 2 ^ 32)
  | .candidateArrive _ => true
  | .mgmtRead _ _ tag addr count => tagOk tag && addrOk addr && decide (1 ≤ count ∧ count ≤ 1024)
  | .mgmtWrite _ _ tag addr data => tagOk tag && addrOk addr && decide (1 ≤ data.length ∧ data.length ≤ 1024)
  | .registerWrite _ _ _ addr _ => decide (addr.val % 4 = 0)
  | .snapLowRead _ _ _ addr => decide (addr.val % 4 = 0)
  | .snapHighRead _ _ _ addr => addrOk addr.val
  | .snapLowWrite _ _ _ addr _ => addrOk addr.val
  | .snapHighWrite _ _ _ addr _ => addrOk addr.val
  | .postedWrite _ _ _ addr _ => addrOk addr.val
  | .postedWriteArrive _ => true
  | .paritySweep _ _ => true
  | .eavesCacheCompare _ => true
  | .planeCacheCompare _ => true
  | .dumpStart _ _ tag => tagOk tag
  | .dumpAbort => true
  | .dumpSection => true
  | .trussOpen _ => true
  | .trussChunk _ _ tag offset data => tagOk tag && decide (offset < 2 ^ 32 ∧ 1 ≤ data.length ∧ data.length ≤ 9536)
  | .trussVerify _ => true
  | .trussVerifyDone _ => true
  | .trussDiscard _ => true
  | .floorCommit _ => true
  | .turnStart _ _ => true
  | .turnAbort _ => true
  | .turnReloadDone dt => dtOk dt
  | .inactiveBankFilled => true
  | .qualifyDone checkDt vectorDt => dtOk checkDt && dtOk vectorDt
  | .qualLimitExpire dt => dtOk dt
  | .armed => true
  | .cutPoint => true
  | .portDrained _ => true
  | .drainLimitExpire _ dt => dtOk dt
  | .slotRestart _ => true
  | .slotEnable _ => true
  | .slotDisable _ => true
  | .opmodeApply _ => true
  | .slotIntegrated _ dt => dtOk dt
  | .canFrameReceived _ r dt => r.wf && dtOk dt
  | .protocolException _ dt => dtOk dt
  | .canRxError _ _ _ dt => dtOk dt
  | .detectDwellExpire _ dt => dtOk dt
  | .filterElementWrite _ _ _ => true
  | .filterElementRead _ _ => true
  | .mailboxLock _ _ dt => dtOk dt
  | .mailboxRelease _ _ => true
  | .mailboxSelect _ _ _ => true
  | .mailboxLockTimeout _ dt => dtOk dt
  | .slotRelease _ _ => true
  | .slotTxCandidate _ => true
  | .txCommit _ dt => dtOk dt
  | .arbitrationLost _ => true
  | .txSuccess _ x => dtOk x.dt
  | .txError _ _ _ dt => dtOk dt
  | .txAgeExpire _ _ dt => dtOk dt
  | .txCancel _ _ => true
  | .busoffRecovery _ _ dt => dtOk dt
  | .assistFrameConsumed _ => true
  | .assistSegment _ => true
  | .assistPacketGap dt => dtOk dt
  | .assistCts _ => true
  | .assistFlowControl _ => true
  | .assistRts _ => true
  | .assistFirstFrame _ => true
  | .assistTimeout dt => dtOk dt
  | .characterReceived _ _ _ _ _ _ dt => dtOk dt
  | .packetBoundary _ dt => dtOk dt
  | .packerFlush _ => true
  | .linScheduleEntry _ dt => dtOk dt
  | .linResponseTimeout _ dt => dtOk dt
  | .linBreakDetected _ _ _ dt => dtOk dt
  | .linPublishUpdate _ => true
  | .linGosleep _ => true
  | .linWake _ dt => dtOk dt
  | .linWakePulse _ _ dt => dtOk dt
  | .linScheduleResume _ dt => dtOk dt
  | .slowTxCandidate _ dt => dtOk dt
  | .slowTxAgeExpire _ dt => dtOk dt
  | .j1708Access _ _ dt => dtOk dt
  | .slowCharSent _ _ _ dt => dtOk dt
  | .t1sFrameReceived _ frame _ _ dt => dtOk dt && frameOk frame
  | .t1sBeacon _ dt => dtOk dt
  | .t1sBeaconLoss _ dt => dtOk dt
  | .t1sBeaconSend b => dtOk b.dt
  | .t1sTxOpportunity _ dt => dtOk dt
  | .t1sCollision _ dt => dtOk dt
  | .t1sRestart _ _ dt => dtOk dt
  | .ethFrameReceived _ frame _ _ dt => dtOk dt && frameOk frame
  | .ethLinkUp _ _ dt => dtOk dt
  | .ethLinkDown _ _ dt => dtOk dt
  | .ethRestart _ _ dt => dtOk dt
  | .txtsRead _ => true
  | .mdioAddress _ _ _ _ => true
  | .mdioWrite _ _ _ _ => true
  | .mdioRead _ _ _ _ => true
  | .mdioDone _ _ => true
  | .phyInterrupt _ => true
  | .ethRelease _ _ => true
  | .ethTxCandidate _ dt => dtOk dt
  | .ethTxStart _ dt => dtOk dt
  | .ethTxDone _ dt => dtOk dt
  | .gateEntryChange _ dt => dtOk dt
  | .queueAgeExpire dt => dtOk dt
  | .cbRecoveryReset dt => dtOk dt
  | .tblRead _ => true
  | .tblWrite _ => true
  | .tblInsert _ => true
  | .tblDelete _ => true
  | .tblSearch _ => true
  | .tableCommandApply dt => dtOk dt
  | .learnApply dt => dtOk dt
  | .macAgingPoint dt => dtOk dt
  | .versionRenewal dt => dtOk dt
  | .learningNoticeReceived _ => true
  | .tableScrub _ _ _ _ => true
  | .tableRepairReply _ => true
  | .thatcherUnit _ => true
  | .cyclicTrigger dt => dtOk dt
  | .deferredChangeBuild dt => dtOk dt
  | .supervisorExpire dt => dtOk dt
  | .contributorResolve dt => dtOk dt
  | .hostSignalWrite _ _ tag => tagOk tag
  | .thrWindowRead _ => true
  | .thrWindowWrite _ => true
  | .thrWriteApply dt => dtOk dt
  | .hostFrameInject _ _ tag => tagOk tag
  | .tenantBind dt => dtOk dt
  | .tenantIdleUnbind dt => dtOk dt
  | .doipUnbind dt => dtOk dt
  | .postCutUnbind dt => dtOk dt
  | .tenRead _ => true
  | .tenWrite _ => true
  | .unbind _ => true
  | .clearBabble _ => true
  | .zeroCounters _ => true
  | .tenantCommandApply dt => dtOk dt
  | .governorWindowClose dt => dtOk dt
  | .babbleEnter dt => dtOk dt
  | .babbleExit dt => dtOk dt
  | .thermalThrottle _ _ => true
  | .thermalRestore _ _ => true
  | .ridgePairTrained _ _ => true
  | .ridgePairDown _ _ => true
  | .halfFault _ => true
  | .halfRestarted _ => true
  | .hostResetRelease _ => true
  | .endpointDown _ _ => true
  | .endpointUp _ => true
  | .heartbeatSend _ _ _ => true
  | .heartbeatReceived _ _ _ => true
  | .heartbeatMissed _ _ => true
  | .dgenChange _ => true
  | .sqFetch _ _ cls _ len seq tag buf => tagOk tag && decide (cls < 16 ∧ len < 2 ^ 32 ∧ seq < 2 ^ 32 ∧ buf.length ≤ 9600)
  | .rqDeliver _ _ => true
  | .creditReturn _ _ _ => true
  | .creditSend _ _ _ => true
  | .halfOutputSelect _ _ => true
  | .proxyRead _ _ => true
  | .proxyWrite _ _ => true
  | .proxyAcquire _ _ => true
  | .proxyRelease _ _ => true
  | .proxyResponse _ _ => true
  | .proxyTimeout _ _ => true
  | .bulkPost _ _ => true
  | .semaAcquire _ _ tag _ => tagOk tag
  | .semaRelease _ _ tag _ => tagOk tag
  | .semaQuery _ _ tag _ => tagOk tag
  | .semaForce _ _ tag _ => tagOk tag
  | .authEngineDone _ => true
  | .mkaPeriod _ _ => true
  | .lcArm _ _ _ => true
  | .lcDisarm _ => true
  | .kilnRevoke _ _ => true
  | .provRootO => true
  | .provDigest2 => true
  | .provDigest3 => true
  | .provRetention => true
  | .provEscrow => true
  | .kilnDestroy _ _ => true
  | .keyDestroyApply => true
  | .sessionOpen => true
  | .sessionSubmit => true
  | .sessionClose _ => true
  | .challengeExpire => true
  | .sessionLifetimeExpire => true
  | .sessionLockoutExpire => true
  | .gcmEncrypt _ => true
  | .gcmDecrypt _ => true
  | .ctrCrypt _ => true
  | .macGen _ => true
  | .macVerify _ => true
  | .randomBytes _ => true
  | .importKey _ => true
  | .tamperActivation _ _ => true
  | .tamperLatchClear _ => true
  | .entropyReady => true
  | .entropyStartTimeout => true
  | .entropyHealthFail => true
  | .entropyReserveEmpty => true
  | .driveLinkUp _ _ => true
  | .driveAttachDone _ _ sb0 sb1 extents => decide (sb0.length = 4096 ∧ sb1.length = 4096 ∧ extents < 2 ^ 64)
  | .driveCommandDone _ _ gen upTo => decide (gen < 2 ^ 32 ∧ upTo < 2 ^ 64)
  | .driveTimeout _ _ => true
  | .driveWriteError _ _ => true
  | .driveCriticalWarning _ _ _ => true
  | .driveLinkLoss _ _ => true
  | .mirrorComplete _ _ => true
  | .adopt _ _ tag _ _ => tagOk tag
  | .retire _ _ tag _ _ => tagOk tag
  | .sealDue => true
  | .journalSnapshot => true
  | .chunkClose => true
  | .chunkWritten _ cseq _ => decide (cseq < 2 ^ 64)
  | .incidentTrigger _ => true
  | .incidentClose => true
  | .incidentCopyDone _ id => decide (id < 2 ^ 32)
  | .legalExpire => true
  | .headCommit _ => true
  | .holeRepair _ => true
  | .legalScrub _ _ => true
  | .journalStatus _ _ tag => tagOk tag
  | .journalLocate _ _ tag _ _ v => tagOk tag && decide (v < 2 ^ 64)
  | .journalOpen _ _ tag _ start stop => tagOk tag && decide (start < 2 ^ 64 ∧ stop < 2 ^ 64)
  | .journalClose _ _ tag _ => tagOk tag
  | .journalTrigger _ _ tag => tagOk tag
  | .journalLock _ _ tag id => tagOk tag && decide (id < 2 ^ 32)
  | .journalUnlock _ _ tag id => tagOk tag && decide (id < 2 ^ 32)
  | .exportSend => true
  | .exportAck _ _ _ acked => decide (acked < 2 ^ 64)
  | .servoRun => true
  | .timeStep => true
  | .ppsInEdge dt => dtOk dt
  | .ppsInLost => true
  | .ppsOutPulse dt => dtOk dt
  | .timeReport _ _ tag => tagOk tag
  | .timeSet _ _ tag ref ptp errUs => tagOk tag && decide (ref < 2 ^ 64 ∧ ptp < 2 ^ 64 ∧ errUs < 2 ^ 32)
  | .timeUtc _ _ tag utc => tagOk tag && decide (utc < 2 ^ 16)
  | .calendarSync => true
  | .motionEdge _ => true
  | .gptpSyncSend => true
  | .gptpPdelay _ _ => true
  | .planeFaultDeclare _ _ => true
  | .rejoinAttempt _ dt => dtOk dt
  | .rejoinStageDone _ _ => true
  | .rejoinTimeout _ dt => dtOk dt
  | .copyRequest _ => true
  | .snapshotApplied _ _ => true
  | .rejoinLevel _ => true
  | .joinPoint => true
  | .planeRejoinRelease _ _ => true
  | .purlinLoss _ => true
  | .digestMismatch _ oseq dLead dShadow => decide (oseq < 2 ^ 32 ∧ dLead < 2 ^ 64 ∧ dShadow < 2 ^ 64)
  | .attributionWindowExpire dt => dtOk dt
  | .faultSourceOccurrence _ _ => true
  | .railFault _ => true
  | .flueForcePulse _ _ => true
  | .flueForceRail _ _ => true
  | .flueSelf => true
  | .flueCauseClear _ => true
  | .voteDisagreement _ _ => true
  | .eavesSupplyLoss _ => true
  | .refclkLoss _ => true
  | .aliveToggle dt => dtOk dt
  | .aliveHToggle dt => dtOk dt
  | .safeEntry => true
  | .safeRekindle dt => dtOk dt
  | .modeStatus _ _ tag => tagOk tag
  | .enterService _ _ tag => tagOk tag
  | .enterBanked _ _ tag _ => tagOk tag
  | .enterEmber _ _ tag _ => tagOk tag
  | .enterOff _ _ tag _ => tagOk tag
  | .modeReset _ _ tag => tagOk tag
  | .modeHold _ _ tag ms => tagOk tag && decide (ms < 2 ^ 32)
  | .holdExpire dt => dtOk dt
  | .authorityCommand dt => dtOk dt
  | .bankedPortsDrained => true
  | .bankedDrivesFlushed => true
  | .emberPlanesOff => true
  | .padRelease _ => true
  | .powerOn _ _ => true
  | .kindlingPgood => true
  | .firmwareVerified _ _ => true
  | .kindlingTrussCheck _ => true
  | .kindlingFullLoad _ => true
  | .kindlingLead _ => true
  | .kindlingTimeout dt => dtOk dt
  | .wakeNAssert _ => true
  | .wakeCAssert _ _ => true
  | .calendarAlarm _ => true
  | .vbatLoss => true
  | .idleEntry dt => dtOk dt
  | .dvfsStep => true
  | .avsAdjust _ _ _ => true
  | .supplyWarn _ dt => dtOk dt
  | .supplyWarnClear dt => dtOk dt
  | .warnLong dt => dtOk dt
  | .warnOffTimeout dt => dtOk dt
  | .resetLevel => true
  | .pgoodFall _ => true
  | .resetNAssert _ => true
  | .resetNRelease dt => dtOk dt
  | .resetStuck dt => dtOk dt
  | .networkEvaluate dt => dtOk dt
  | .holdThreshold dt => dtOk dt
  | .battenRefresh _ dt => dtOk dt
  | .battenSweepStart _ dt => dtOk dt
  | .battenTransactionDone _ _ _ _ _ => true
  | .battenModeWrite _ => true
  | .battenRestart _ => true
  | .battenInt _ _ => true
  | .faultSourceClear _ => true
  | .refclkReturn _ => true
  | .purlinLock => true
  | .serialGapEnd _ dt => dtOk dt

end Sys2Proof
end

