-- ==== Sys2Proof/Tests/Slice0.lean ====
section
/-!
SUPPORT. Tests: ill-formed commands, single steps whose results the manual gives, and for every statement with hypotheses states and operands
that meet them, one for each clause.
-/

open Sys2Proof Sys2Proof.Machine

set_option maxRecDepth 20000
set_option linter.unusedVariables false

namespace Sys2Proof.Tests

/-! States to test on. -/

/-- The state after reset with Eaves changed. -/
def inE (g : Eaves → Eaves) : State := { State.reset with f := State.reset.f.onE g }
/-- The state after reset with the dies changed. -/
def inF (g : Field → Field) : State := { State.reset with f := g State.reset.f }
/-- In SERVICE, plane A leading and plane B its shadow, both taking the stream; then changed. -/
def duo (g : Field → Field) : State :=
  inF (fun f => g { f with e := { f.e with mode := .service, roleA := .leading, roleB := .shadow },
                           a := { f.a with st := { f.a.st with takes := true, sends := true } },
                           b := { f.b with st := { f.b.st with takes := true, sends := true } } })
/-- In SERVICE with plane A leading alone; then changed. -/
def solo (g : Field → Field) : State :=
  duo (fun f => g { f with e := { f.e with roleB := .offline }, b := { f.b with st := { f.b.st with takes := false, sends := false } } })
/-- Registers written. -/
def wrs (ws : List (Nat × Word)) (m : Regs) : Regs := ws.foldl (fun m w => m.wr w.1 w.2) m
/-- Bytes written over others. -/
def patch (bs : List Byte) (ws : List (Nat × List Byte)) : List Byte :=
  ws.foldl (fun b w => b.take w.1 ++ w.2 ++ b.drop (w.1 + w.2.length)) bs
/-- A truss with the given sections. -/
def trussOf (secs : List (Nat × List Byte)) : Truss := { Truss.empty with sections := secs }
/-- A SLOTS section of `len` bytes, with bytes written over zeros. -/
def slotsSec (len : Nat) (ws : List (Nat × List Byte)) : Truss := trussOf [(2, patch (List.replicate len 0) ws)]
/-- A slot with a personality in a state. -/
def slotE (n pers st : Nat) (e : Eaves) : Eaves := (e.slSet n SLOT_CTL_PERSONALITY pers).slSet n SLOT_STAT_STATE st
/-- A candidate of plane A for a port. -/
def candOf (port qclass : Nat) (u : Shingle) : Cand := ⟨.A, port, 0, 0, none, 0, 0, false, false, qclass, u⟩
/-- A mailbox of a CAN slot with a frame. -/
def mbOf (idx : Nat) (committed : Bool) (u : Shingle) : TxMb := ⟨idx, u, 0, 0, committed⟩
/-- A classical frame of 8 bytes with an identifier. -/
def ccFrame (id : Nat) : Shingle := { Shingle.mk0 .canCC 0 3 0 (List.replicate 8 1) with info := leBytes 8 (8 * 2 ^ 52 + id) }
/-- A received classical frame. -/
def ccRx : CanRx := ⟨.cc, false, 0x7FF, false, false, false, 8, false, 0, 0, 0, List.replicate 8 1⟩
/-- An ACCEPT element for every base identifier, with RID 7. -/
def acceptAll : Rec := (((0 : Rec).put 0 4 (2 ^ 25 + 7)).put 8 4 0x7FF).put 12 4 (2 ^ 31)
/-- An Ethernet frame of `n` bytes of one EtherType. -/
def ethFrame (n ety : Nat) : List Byte := patch (List.replicate n 2) [(12, beBytes 2 ety)]
/-- A message of a slow slot. -/
def slowMsg (bs : List Byte) (committed : Bool) : SlowMsg := ⟨bs, 0, 8, false, 0, 1000, 0, 0, committed⟩
/-- Both planes changed. -/
def duoP (g : Plane → Plane) : State := duo (fun f => { f with a := g f.a, b := g f.b })
/-- Forwarding state of both planes changed. -/
def duoF (g : Fwd → Fwd) : State := duoP (·.onFwd g)
/-- The merger holds a shingle that is due. -/
def dueE (sh : Shingle) (e : Eaves) : Eaves :=
  { e with counter := sh.ts + 1000, merger := { e.merger with waiting := [⟨sh.ts, sh.port, sh⟩] } }
/-- TICK 100,000. -/
def tickSh : Shingle := Shingle.mk0 .tick 1000000000 256 0 (leBytes 8 100000)
/-- TICK 100,000 is due, both planes changed. -/
def tickOn (g : Plane → Plane) : State := duo (fun f => { f with e := dueE tickSh f.e, a := g f.a, b := g f.b })
/-- A truss section in a plane. -/
def inTruss (secs : List (Nat × List Byte)) (q : Plane) : Plane := { q with truss := trussOf secs }
/-- A table entry. -/
def ent (t i : Nat) (ws : List (Nat × Nat × Nat)) (q : Plane) : Plane := q.tput t i (ws.foldl (fun r w => r.put w.1 w.2.1 w.2.2) 0)
/-- A TENANTS section with one template. -/
def tenSec (ws : List (Nat × List Byte)) : List Byte := leBytes 4 1 ++ leBytes 4 0 ++ patch (List.replicate 96 0) ws ++ leBytes 16 0
/-- A LAYOUTS section with one layout. -/
def laySec (ws : List (Nat × List Byte)) : List Byte := leBytes 4 1 ++ patch (List.replicate 64 0) ws ++ leBytes 4 0
/-- A SIGROUTES section with one supervisor. -/
def supSec (ws : List (Nat × List Byte)) : List Byte := leBytes 16 0 ++ leBytes 4 1 ++ leBytes 4 0 ++ patch (List.replicate 16 0) ws
/-- A transport session. -/
def tpOf (role total : Nat) (gapAt dueAt : Option Nat) : TpSess :=
  ⟨role, 3, 0, 1, 255, 0xFECA, 6, total, List.replicate total 7, 0, 0, 1, 1, 0, 5, gapAt, dueAt, 100, Shingle.mk0 .canCC 0 3 0 []⟩
/-- A shingle at the head of plane A's Rafter, plane A changed. -/
def headA (sh : Shingle) (g : Plane → Plane) : State :=
  duo (fun f => { f with a := g { f.a with st := { f.a.st with inbox := [sh] } } })
/-- Slot 3 is a CAN slot with one assist entry. -/
def assist3 (ws : List (Nat × List Byte)) (q : Plane) : Plane :=
  inTruss [(2, patch (List.replicate 8208 0) ([(192, [1]), (250, [1])] ++ ws.map (fun w => (8192 + w.1, w.2))))] q
/-- A J1939 frame at slot 3. -/
def j1939 (id : Nat) (bs : List Byte) : Shingle := { Shingle.mk0 .canCC 0 3 0 bs with info := leBytes 8 (2 ^ 63 + 8 * 2 ^ 52 + id) }
/-- The host die changed. -/
def duoH (g : HostDie → HostDie) : State := duo (fun f => { f with h := g { f.h with running := true, haRun := true, hbRun := true } })
/-- Both planes run, as a half's HEARTBEATs show. -/
def hbRunning (h : HostDie) : HostDie := { h with straps := 3, hb := (List.range 4).map (fun k => (k, ⟨false, 1, 1 + k % 2, 0, 0, 0, 0⟩)), pairs := (List.range 4).map (fun k => (k, true)) }
/-- A host message. -/
def msgOf (ep cls tenant : Nat) (bs : List Byte) : RMsg := ⟨ep, cls, tenant, false, false, false, false, 0, 9, bs, 0⟩
/-- A HOSTS section: endpoint 7 enabled with one queue pair of tenant 5 for every class, and bulk share 64. -/
def hostsSec : List Byte :=
  patch (List.replicate 280 0) [(16 + 224, [1, 0xFF]), (16 + 224 + 12, leBytes 2 1), (16 + 224 + 18, leBytes 2 64), (272, leBytes 2 5 ++ leBytes 2 0xFFFF)]
/-- A WORKSHOP session of a tenant in both planes. -/
def withSess (tenant rights : Nat) (f : Field) : Field :=
  let g := fun (q : Plane) => { q with kiln := { q.kiln with sess := [⟨tenant, 7, rights, 0, 10, 10 ^ 9⟩] } }
  { f with a := g f.a, b := g f.b }
/-- The slot record of both planes. -/
def withRec (other err : Nat) (f : Field) : Field :=
  let g := fun (q : Plane) => { q with nv := { q.nv with slotRec := ⟨0, 7, other, err, 9⟩ } }
  { f with a := g f.a, b := g f.b }
/-- PHASE of a turn in both planes. -/
def withPhase (ph : Nat) (f : Field) : Field :=
  { f with a := f.a.onRegs (·.set 0 TRUSS_TURN_STAT_PHASE ph), b := f.b.onRegs (·.set 0 TRUSS_TURN_STAT_PHASE ph) }
/-- A turn in which plane B moves to the new truss. -/
def turning (ph stage : Nat) (role : Role) (f : Field) : Field :=
  let f := withPhase ph (withRec 4 0 f)
  { f with e := ({ f.e with roleB := role } : Eaves).onRegs (·.set 0 ⟨planeStat .B, 31, 28⟩ stage), turn := { Turn.idle with newPlane := some .B } }
/-- The row of a register. -/
def rowE (a : Nat) : RegRow := (Eaves.init.rowOf a).getD ⟨0, 0, 0, 0, 0, 0, 0, 0, 0, false, false, 0, .port, 0⟩
/-- The OTP of both dies. -/
def withOtp (o : Otp) (s : State) : State := { s with otpA := o, otpB := o }
/-- The OTP of a life-cycle state. -/
def otpLc (lc : Nat) : Otp := { Otp.blank with lcFuses := [(lc, 8)] }
/-- A provisioning command waits in both planes. -/
def provS (what lc : Nat) (g : Plane → Plane) : State :=
  withOtp (otpLc lc) (duoP (fun q => g { q with kiln := { q.kiln with prov := some ⟨what, 5, 7, 0⟩ } }))
/-- A KEYS section: no group, one KEY record, no WKEY record, one MACSEC record of port 0. -/
def keysSec (ws : List (Nat × List Byte)) : List Byte := patch (List.replicate 128 0) ([(8, leBytes 8 1), (72, leBytes 8 1)] ++ ws.map (fun w => (16 + w.1, w.2)))
/-- A job waits in window 3 of both planes, with key 0 loaded. -/
def jobS (what state : Nat) (ws : List (Nat × List Byte)) (g : Plane → Plane) : State :=
  duoP (fun q => let q := inTruss [(0x12, keysSec ws)] q; let q := q.onRegs (·.set 0 (CPH_JOB_LEN_TAG_LEN 3) 16)
    g { q with st := { q.st with tick := 9 }, kiln := { q.kiln with jobs := [(3, some ⟨what, 5, 7, 0⟩)], slots := [(0, ⟨state, [1, 2], 1, 0, 0, 0⟩)] } })
/-- A journal of one drive runs in both planes. -/
def rickP (g : Plane → Plane) (q : Plane) : Plane :=
  g ({ q with rick := { q.rick with geom := some ⟨1, 1, 1, 4096, 1, 365, 0⟩ }, host := { q.host with epUp := [(7, true)] } }.onRegs (·.set 0 RICK_STAT_STATE 2))
/-- A drive of plane A in a state. -/
def driveS (d : Nat) (x : Drive) : State := duo (fun f => { f with a := rickP (fun q => q.onRick (fun r => { r with drives := [(d, x)] })) f.a, b := rickP id f.b })
/-- A plane stands at a MODE message of tenant 4095 at endpoint 7. -/
def mq (b : List Byte) (q : Plane) : Plane := { q with host := { q.host with admitted := [msgOf 7 clsMode 4095 b], epUp := [(7, true)] } }
/-- A plane stands at an admitted message. -/
def reqIn (ep cls tenant : Nat) (b : List Byte) (q : Plane) : Plane :=
  { q with host := { q.host with admitted := [msgOf ep cls tenant b], epUp := [(ep, true)] } }
/-- A MGMT_REQ of one word. -/
def mgmtB (op addr : Nat) (data : List Byte) : List Byte := leBytes 2 op ++ leBytes 2 1 ++ leBytes 12 addr ++ data
/-- A JOURNAL request of 32 bytes. -/
def jB (op tier e key a b : Nat) : List Byte :=
  leBytes 1 op ++ leBytes 1 tier ++ leBytes 1 e ++ leBytes 5 key ++ leBytes 8 a ++ leBytes 16 b
/-- A posted acknowledgement of an export. -/
def ackMsg (e acked : Nat) : RMsg := { msgOf 7 8 4095 (leBytes 8 e ++ leBytes 8 acked) with tag := 0 }
/-- A flash slot whose image holds one section of 128 bytes, KEYS. -/
def keysFlash (sec : List Byte) : FlashSlot :=
  ⟨(patch (List.replicate 288 0) [(12, leBytes 4 416), (16, leBytes 2 1), (256, leBytes 2 0x12), (260, leBytes 4 288), (264, leBytes 4 128)] ++ sec).zipIdx.map (fun b => (b.2, b.1)), [(0, 416)]⟩
/-- In both planes a transition from OEM to END is armed, and KINDLING has come to the truss. -/
def armedS : State :=
  let g := fun (q : Plane) => { q with nv := { q.nv with slotRec := { q.nv.slotRec with otherState := 3 }, kiln := { q.nv.kiln with armed := some 5 } } }
  withOtp (otpLc 2) (duo (fun f => { f with a := g f.a, b := g f.b, e := { f.e with
    mode := .kindling, roleA := .offline, roleB := .offline, seqr := { f.e.seqr with kin := 3, doneA := 6, doneB := 6 } } }))

/-! A truss with one slow slot. -/

/-- Slot 127's record from byte 16 on and its map: 64 entries, one schedule entry; entry 0 takes every first byte to RID 9, FID 62 is
published with 2 bytes, FID 63 subscribed. -/
def slowTail : List Byte :=
  List.replicate 18 0 ++ leBytes 2 64 ++ [0, 0] ++ leBytes 2 1 ++ List.replicate 40 0 ++ leBytes 4 0x0009FF00 ++ List.replicate 244 0 ++
    [1, 2, 9, 0, 2, 2, 9, 0]
/-- A truss whose SLOTS section is empty but for slot 127's record. -/
def slowTruss : Truss := { Truss.empty with sections := [(2, List.replicate 8128 0 ++ slowTail)] }

theorem recAt_far (k : Nat) (r : List Byte) (start size i j : Nat) (h : start + size * i = k + j) :
    recAt (List.replicate k 0 ++ r) start size i = Rec.ofBytes ((r.drop j).take size) := by
  rw [recAt, h, ← List.drop_drop]; simp

theorem slowTruss_sec : slowTruss.sec 2 = List.replicate 8128 0 ++ slowTail := rfl

theorem slowTruss_slot : slotRec slowTruss 127 = Rec.ofBytes (slowTail.take 64) := by
  rw [slotRec, slowTruss_sec, recAt_far 8128 slowTail 0 64 127 0 rfl]; rfl

theorem recAt_near (k : Nat) (r : List Byte) (size i : Nat) (h : size * i + size ≤ k) :
    recAt (List.replicate k 0 ++ r) 0 size i = Rec.ofBytes (List.replicate size 0) := by
  have e : min size (k - size * i) = size := by omega
  rw [recAt, List.drop_append_of_le_length (by simp; omega), List.take_append_of_le_length (by simp; omega)]
  simp [e]

theorem slowTruss_other (n : Nat) (h : n < 127) : slotRec slowTruss n = Rec.ofBytes (List.replicate 64 0) := by
  rw [slotRec, slowTruss_sec, recAt_near 8128 slowTail 64 n (by omega)]

theorem slowTruss_assist : assistCount slowTruss = 0 := by
  have h : ∀ l : List Nat, (∀ n ∈ l, n < 128) → l.foldl (fun m n => if persCan ((slotRec slowTruss n).u 0 1) then
      max m ((slotRec slowTruss n).u 56 2 + (slotRec slowTruss n).u 58 2) else m) 0 = 0 := by
    intro l
    induction l with
    | nil => intro _; rfl
    | cons n l ih =>
      intro hl
      have hn : persCan ((slotRec slowTruss n).u 0 1) = false := by
        rcases Nat.lt_or_ge n 127 with h | h
        · rw [slowTruss_other n h]; decide +kernel
        · have : n = 127 := by have := hl n (by simp); omega
          rw [this, slowTruss_slot]; decide +kernel
      rw [List.foldl_cons, hn]
      exact ih (fun m hm => hl m (by simp [hm]))
  exact h (List.range 128) (fun n hn => by simpa using hn)

theorem slowTruss_map (k : Nat) : mapEntry slowTruss 127 k = Rec.ofBytes ((slowTail.drop (64 + 4 * k)).take 4) := by
  have h0 : (Rec.ofBytes (slowTail.take 64)).u 16 2 = 0 := by decide +kernel
  rw [mapEntry, slowTruss_slot, slowTruss_sec, h0, recAt_far 8128 slowTail _ 4 (0 + k) (64 + 4 * k)]
  rw [mapOff, slowTruss_assist, show align64 (128 * 64 + 16 * 0) = 8192 by decide]
  omega

theorem slowTruss_rid : serialRid slowTruss 127 1 = some 9 := by
  rw [serialRid, slowTruss_slot, funext slowTruss_map]; decide +kernel
theorem slowTruss_dir62 : linDir slowTruss 127 62 = 1 := by rw [linDir, slowTruss_map]; decide +kernel
theorem slowTruss_len62 : linLen slowTruss 127 62 = 2 := by
  rw [linLen, slowTruss_map]; decide +kernel
theorem slowTruss_dir63 : linDir slowTruss 127 63 = 2 := by rw [linDir, slowTruss_map]; decide +kernel

/-! Ill-formed commands are refused, one for each check. -/

theorem test_wf_dt : (Instr.mergerEmit 10000).wf = false ∧ (Instr.mergerEmit 9999).wf = true := by decide
theorem test_wf_tag : (Instr.dumpStart 7 0 (2 ^ 24)).wf = false ∧ (Instr.dumpStart 7 0 (2 ^ 24 - 1)).wf = true := by decide
theorem test_wf_addr : (Instr.registerWrite 9 0 true 2 0).wf = false ∧ (Instr.mgmtRead 7 0 0 (2 ^ 28) 1).wf = false := by decide
theorem test_wf_count : (Instr.mgmtRead 7 0 0 0 0).wf = false ∧ (Instr.mgmtRead 7 0 0 0 1025).wf = false ∧
    (Instr.mgmtRead 7 0 0 0 1024).wf = true := by decide
theorem test_wf_data : (Instr.mgmtWrite 7 0 0 0 []).wf = false := by decide
theorem test_wf_frame : (Instr.ethFrameReceived 23 (List.replicate 13 0) true 0 0).wf = false := by decide
theorem test_wf_seq : (Instr.receiptTimeout 7 0 (2 ^ 32)).wf = false := by decide
theorem test_wf_lag : (Instr.planeLagDetect .B (2 ^ 64)).wf = false := by decide
theorem test_wf_can_id : (Instr.canFrameReceived 3 { ccRx with id := 2 ^ 11 } 0).wf = false ∧ (Instr.canFrameReceived 3 ccRx 0).wf = true := by
  decide
theorem test_wf_can_len : (Instr.canFrameReceived 3 { ccRx with data := List.replicate 9 0 } 0).wf = false := by decide
theorem test_wf_can_remote : (Instr.canFrameReceived 3 { ccRx with fmt := .xl, rmt := true } 0).wf = false := by decide
theorem test_wf_chunk : (Instr.trussChunk 7 0 0 (2 ^ 32) [0]).wf = false ∧ (Instr.trussChunk 7 0 0 0 []).wf = false := by decide
theorem test_wf_sq : (Instr.sqFetch 7 0 16 false 0 0 0 []).wf = false := by decide

/-! Single steps; the expected values are those of the rule named. -/

/-- The dies after a command. -/
def after (c : Instr) (s : State) : Option Field := (State.stepTo { s with pending := [c] }).map (·.f)

/-- An idle block stays as it is. -/
theorem test_idle : State.stepTo State.reset = some State.reset := rfl
/-- R98: GEN counts modulo 256. -/
theorem test_restart_gen : (after (.slotRestart 127) (duo (·.onE (fun e => { e with gens := [(127, 255)] })))).map (·.e.genOf 127) = some 0 := by decide
/-- R95: a protocol exception is counted. -/
theorem test_exception : (after (.protocolException 127 0) (duo (·.onE (slotE 127 1 3)))).map
    (fun f => f.e.regs.rd (slotBase 127 + SLOT_PXE_CNT)) = some 1 := by decide
/-- R52: a counter saturates. -/
theorem test_saturates : (after (.protocolException 127 0) (duo (·.onE (fun e => (slotE 127 1 3 e).onRegs
    (wrs [(slotBase 127 + SLOT_PXE_CNT, 0xFFFFFFFF)]))))).map (fun f => f.e.regs.rd (slotBase 127 + SLOT_PXE_CNT)) = some 0xFFFFFFFF := by decide
/-- R118: eight dominant bits after the error flag add 8. -/
theorem test_rec : (after (.canRxError 127 0 ⟨false, 1⟩ 0) (duo (·.onE (slotE 127 1 3)))).map (·.e.recv 127) = some 9 := by decide
/-- R49: an unaligned access is a bus error. -/
theorem test_unaligned : (after (.registerWrite 9 0 false 0x22 5) (duo id)).map (fun f => (f.e.regs.rd DEVICE_BUSERR_CNT, f.e.regs.rd 0x20)) =
    some (1, 0) := by decide
/-- R50: a scratch register reads what was written. -/
theorem test_scratch : (after (.registerWrite 9 0 false 0x20 0x12345678) (duo id)).map (fun f => f.e.regs.rd 0x20) = some 0x12345678 := by decide
/-- R152: a BEACON brings a follower link. -/
theorem test_beacon : (after (.t1sBeacon 15 0) (duo (·.onE (fun e => (e.t1Set 15 T1S_CTL_ENABLE 1).onT1 15 (fun x => { x with nodeId := 254 }))))).map
    (fun f => f.e.t1f 15 T1S_STAT_LINK) = some 1 := by decide
/-- R146: LIN protected identifiers of ISO 17987: 0x3C and 0x7D. -/
theorem test_lin_pid : linPid 0x3C = 0x3C ∧ linPid 0x3D = 0x7D := by decide
/-- R146: the classic checksum of 0x4A, 0x55, 0x93, 0xE5. -/
theorem test_lin_sum : linSum false 0x20 [0x4A, 0x55, 0x93, 0xE5] = 0xE6 := by decide

/-! States and operands that meet the hypotheses of the statements. -/

theorem test_met_SlotFrames :
    (slotOf (.slotRestart 127) = some 127 ∧ ∃ t, exec (.slotRestart 127) (duo id) = .next t) ∧
    ((duo id).f.e.mode ≠ .banked ∧ ∃ t, exec (.canFrameReceived 127 ccRx 5) (duo id) = .next t) ∧
    (∃ t, exec (.filterElementWrite 127 4095 true) (duo id) = .next t) ∧
    ((duo id).f.e.wakeOnly 127 = false ∧ ∃ t, exec (.linWakePulse 127 5000000 5) (duo id) = .next t) ∧
    (∃ t, exec (.linWake 127 5) (duo id) = .next t) :=
  ⟨⟨rfl, _, rfl⟩, ⟨by decide, _, rfl⟩, ⟨_, rfl⟩, ⟨by decide, _, rfl⟩, ⟨_, rfl⟩⟩

theorem test_met_PortFrames :
    (ethOf (.ethLinkDown 23 true 5) = some 23 ∧ ∃ t, exec (.ethLinkDown 23 true 5) (duo id) = .next t) ∧
    (t1sOf (.t1sBeacon 15 5) = some 15 ∧ ∃ t, exec (.t1sBeacon 15 5) (duo id) = .next t) :=
  ⟨⟨rfl, _, rfl⟩, ⟨rfl, _, rfl⟩⟩

theorem test_met_PlaneAndHostFrames :
    (inPlanes (.tblRead 3) = true ∧ ∃ t, exec (.tblRead 3) (duo id) = .next t) ∧
    (endpointOf (.proxyTimeout 7 3) = some 7 ∧ (duo id).f.h.get 7 EP_QP_COUNT_COUNT ≤ 256 ∧
      ∃ t, exec (.proxyTimeout 7 3) (duo id) = .next t) :=
  ⟨⟨rfl, _, rfl⟩, ⟨rfl, by decide, _, rfl⟩⟩

/-- Fuses of the two dies that are alike, of one life-cycle state, keep the rules. -/
theorem test_fuseRules (s : State) (o : Otp) (lc : Nat) (ha : s.otpA = o) (hb : s.otpB = o) (h : o.lcFuses = [(lc, 8)]) : FuseRules s := by
  refine ⟨ha.trans hb.symm, fun k => ?_⟩
  rw [ha, h]
  by_cases hk : lc = k <;> simp [sget, hk]

/-- A step that moves the life cycle from OEM to END. -/
theorem test_met_FusesOnlyGain : let s : State := { armedS with pending := [.kindlingTrussCheck .B] }
    FuseRules s ∧ ∃ t, step s = .next t ∧ t.otpA.lc ≠ s.otpA.lc := by
  refine ⟨test_fuseRules _ (otpLc 2) 2 rfl rfl rfl, _, rfl, ?_⟩
  decide

theorem test_met_CanSlotControl :
   (let s : State := State.reset
    s.f.e.mode ≠ .safe) ∧
   (let s : State := State.reset
    let n : Fin 128 := 127
    s.f.e.mode ≠ .safe ∧ s.f.e.sl n.val SLOT_CTL_ENABLE = 0) ∧
   (let s : State := inE (fun e => (slotE 127 1 3 e).slSet 127 SLOT_CTL_ENABLE 1)
    let n : Fin 128 := 127
    s.f.e.mode ≠ .safe ∧ s.f.e.sl n.val SLOT_CTL_ENABLE = 1) ∧
   (let s : State := inE (slotE 127 1 3)
    let n : Fin 128 := 127
    s.f.e.slotState n.val ≠ 0 ∧ s.f.e.onBus n.val = none) ∧
   (let s : State := inE (slotE 127 1 1)
    let n : Fin 128 := 127
    let dt : Nat := 0
    (s.f.e.at dt).slotState n.val = 1 ∧ awake (s.f.e.at dt) = true ∧
      (((s.f.e.at dt).isSlow n.val = true ∨ ((s.f.e.at dt).sl n.val SLOT_DETECT_ENABLE = 0 ∧ ((s.f.e.at dt).slot n.val).can.stopping = false)))) := by and_intros <;> decide

theorem test_met_CanReception :
   (let s : State := inE (fun e => { ((slotE 127 1 3 e).slSet 127 SLOT_FILT_COUNT 1) with pool := sput (fun _ => 0) [] 0 acceptAll })
    let n : Fin 128 := 127
    let dt : Nat := 0
    let e := s.f.e.at dt
    let r : CanRx := ccRx
    let el : Rec := acceptAll
    e.canLive n.val = true ∧ persHas (e.pers n.val) r.fmt.utype = true ∧ e.wakeOnly n.val = false ∧ e.slotState n.val = 3 ∧
      (e.canRxGood n.val).deciding n.val (r.shingle e n.val) = some el ∧ feAction el = 1 ∧ feMbxEn el = false ∧
        ((s.f.onE (fun x => (x.at dt).canRxGood n.val)).mergerLoad + (r.shingle e n.val).size ≤ mergerFieldBytes) ∧ e.merger.stopped = false) ∧
   (let s : State := inE (slotE 127 1 3)
    let n : Fin 128 := 127
    let dt : Nat := 0
    let e := s.f.e.at dt
    e.canLive n.val = true ∧ e.pers n.val ≠ 3 ∧ e.slotState n.val = 3) ∧
   (let s : State := inE (slotE 127 1 3)
    let n : Fin 128 := 127
    let dt : Nat := 0
    let e := s.f.e.at dt
    e.canLive n.val = true ∧ e.onBus n.val = none ∧ e.counting n.val = true ∧ (e.slot n.val).can.freshRate = false) ∧
   (let s : State := inE (fun e => (slotE 127 2 2 e).slSet 127 SLOT_DETECT_CAND_MASK 5)
    let n : Fin 128 := 127
    let dt : Nat := 0
    let e := s.f.e.at dt
    persCan (e.pers n.val) = true ∧ e.slotState n.val = 2 ∧ (e.slot n.val).can.detAt + e.sl n.val SLOT_DETECT_DWELL * 10000000 ≤ e.steady e.counter) := by and_intros <;> decide

theorem test_met_CanWindows :
   (let s : State := inE (fun e => ((slotE 127 3 3 e).slSet 127 SLOT_FILT_COUNT 4096).onRegs (·.wr (slotBase 127 + SLOT_FE_DATA 2) 0xFFFFFFFF))
    let n : Fin 128 := 127
    let idx : Fin 4096 := 4095
    s.f.e.mode ≠ .safe ∧ persCan (s.f.e.pers n.val) = true ∧ idx.val < (s.f.e.filtList n.val).2 ∧ s.f.phase = 0) ∧
   (let s : State := inE (fun e => { (slotE 127 3 3 e).slSet 127 SLOT_FILT_COUNT 4096 with pool := sput (fun _ => 0) [] 4095 acceptAll })
    let n : Fin 128 := 127
    let idx : Fin 4096 := 4095
    s.f.e.mode ≠ .safe ∧ persCan (s.f.e.pers n.val) = true ∧ idx.val < (s.f.e.filtList n.val).2) ∧
   (let s : State := inE (slotE 127 1 3)
    let n : Fin 128 := 127
    persCan (s.f.e.pers n.val) = true ∧ (s.f.e.slot n.val).can.lock = none) ∧
   (let s : State := inE (fun e => (slotE 127 1 3 e).onCan 127 (fun c => { c with lock := some (9, 7), mbx := [(0, ⟨none, false, false, some ⟨0, 1, 0, 0, 5, []⟩⟩)] }))
    let n : Fin 128 := 127
    let who : Fin 10 := 9
    let t : Nat := 7
    (s.f.e.slot n.val).can.lock = some (who.val, t)) ∧
   (let s : State := inE (slotE 127 1 3)
    let n : Fin 128 := 127
    let who : Fin 10 := 9
    s.f.e.mode ≠ .safe ∧ persCan (s.f.e.pers n.val) = true ∧ s.f.e.mboxBusy n.val who.val = false) ∧
   (let s : State := inE (fun e => (slotE 127 1 3 e).onCan 127 (fun c => { c with lock := some (9, 7) }))
    let n : Fin 128 := 127
    let dt : Nat := 10000007
    let t : Nat := 7
    let h : Nat := 9
    (s.f.e.slot n.val).can.lock = some (h, t) ∧ t + 10000000 ≤ (s.f.e.at dt).steady (s.f.e.at dt).counter) := by and_intros <;> decide

theorem test_met_CanTransmission :
   (let s : State := inE (fun e => { slotE 127 1 3 e with stage := [candOf 127 0 (ccFrame 5)] })
    let n : Fin 128 := 127
    let dt : Nat := 0
    let e := s.f.e.at dt
    let c : Cand := candOf 127 0 (ccFrame 5)
    let x : Eaves := slotE 127 1 3 Eaves.init
    s.f.e.isSlow n.val = false ∧ s.f.e.takeStage n.val = some (c, x) ∧ c.gen = x.genOf n.val ∧ x.slotState n.val = 3 ∧ x.opmode n.val = 0 ∧
      (x.slot n.val).can.stopping = false ∧ persHas (x.pers n.val) c.unit.utype = true ∧ x.sl n.val SLOT_TX_CFG_REPLACE_EN = 0 ∧
        (x.slot n.val).can.tx.length < 32) ∧
   (let s : State := inE (fun e => (slotE 127 1 3 e).onCan 127 (fun c => { c with tx := [mbOf 0 false (ccFrame 5)] }))
    let n : Fin 128 := 127
    let dt : Nat := 0
    let e := s.f.e.at dt
    let t : TxMb := mbOf 0 false (ccFrame 5)
    e.canLive n.val = true ∧ e.counting n.val = true ∧ e.onBus n.val = none ∧ e.mode ≠ .safe ∧ (e.slot n.val).can.stopping = false ∧
      ((e.slot n.val).can.waiting.all (fun u => !e.tooOld u.frame) = true) ∧ bestMb TxMb.before (e.slot n.val).can.waiting = some t) ∧
   (let s : State := inE (fun e => (slotE 127 1 3 e).onCan 127 (fun c => { c with tx := [mbOf 0 true (ccFrame 5)] }))
    let n : Fin 128 := 127
    let dt : Nat := 0
    let e := s.f.e.at dt
    let t : TxMb := mbOf 0 true (ccFrame 5)
    s.f.e.onBus n.val = some t ∧ (s.f.e.slot n.val).can.stopping = false) ∧
   (let s : State := inE (fun e => (slotE 127 1 3 e).onCan 127 (fun c => { c with tx := [mbOf 0 true (ccFrame 5)] }))
    let n : Fin 128 := 127
    let dt : Nat := 0
    let e := s.f.e.at dt
    let t : TxMb := mbOf 0 true (ccFrame 5)
    e.onBus n.val = some t) ∧
   (let s : State := inE (fun e => ((slotE 127 1 3 e).slSet 127 SLOT_TX_CFG_RETRY_LIMIT 31).onCan 127 (fun c => { c with tx := [mbOf 0 true (ccFrame 5)] }))
    let n : Fin 128 := 127
    let dt : Nat := 0
    let e := s.f.e.at dt
    let t : TxMb := mbOf 0 true (ccFrame 5)
    e.onBus n.val = some t ∧ (e.slot n.val).can.stopping = false ∧ e.sl n.val SLOT_TX_CFG_RETRY_LIMIT = 31) ∧
   (let s : State := inE (fun e => (slotE 127 1 3 e).onCan 127 (fun c => { c with tx := [mbOf 31 false (ccFrame 5)] }))
    let n : Fin 128 := 127
    let dt : Nat := 1000000001
    let e := s.f.e.at dt
    let t : TxMb := mbOf 31 false (ccFrame 5)
    let m : Fin 32 := 31
    t ∈ (e.slot n.val).can.waiting ∧ t.idx = m.val ∧ e.tooOld t.frame = true) ∧
   (let s : State := inE (fun e => (slotE 127 1 3 e).onCan 127 (fun c => { c with tx := [mbOf 0 false (ccFrame 5)] }))
    let dt : Nat := 0
    let e := s.f.e.at dt
    s.f.e.mode ≠ .safe) ∧
   (let s : State := inE (fun e => ((slotE 127 1 3 e).slSet 127 SLOT_STAT_CONF 2).slSet 127 SLOT_STAT_RECOV 127)
    let n : Fin 128 := 127
    let dt : Nat := 0
    let e := s.f.e.at dt
    let k : Nat := 1
    persCan (e.pers n.val) = true ∧ e.sl n.val SLOT_STAT_CONF = 2 ∧ e.slotState n.val = 3 ∧ 128 ≤ e.sl n.val SLOT_STAT_RECOV + k) := by and_intros <;> decide

theorem test_met_SlowReception_1 :
   (let s : State := inE (fun e => (slotE 127 5 3 e).onSlow 127 (fun p => { p with cfg := SLOT_SB_CFG_DATABITS.set 0 1, frame := SLOT_SB_FRAME_MAXLEN.set 0 8 }))
    let n : Fin 128 := 127
    let dt : Nat := 0
    let e := s.f.e.at dt
    let p := (e.slot n.val).slow
    e.slowLive n.val = true ∧ e.slowSending n.val = false ∧ e.pers n.val = 5 ∧ e.sbCfg n.val SLOT_SB_CFG_DATABITS = 1 ∧
      e.sbFrame n.val SLOT_SB_FRAME_BOUNDARY = 0 ∧ p.raw.length + 1 < e.sbFrame n.val SLOT_SB_FRAME_MAXLEN) ∧
   (let s : State := inE (fun e => (slotE 127 6 3 e).onSlow 127 (fun p => { p with inPkt := true }))
    let n : Fin 128 := 127
    let dt : Nat := 0
    let e := s.f.e.at dt
    s.f.e.mode ≠ .safe ∧ s.f.e.isSlow n.val = true ∧ (s.f.e.slot n.val).slow.inPkt = true) := by and_intros <;> decide

theorem test_met_SlowReception_2 :
    let s : State := inE (fun e => { ((slotE 127 5 3 e).onSlow 127 (fun p => { p with inPkt := true, stages := [1, 2], raw := [1, 2] })) with live := slowTruss })
    let n : Fin 128 := 127
    let dt : Nat := 0
    let e := s.f.e.at dt
    let p := (e.slot n.val).slow
    let rid : Nat := 9
    let sh := { Shingle.mk0 .serial e.counter n.val (e.genOf n.val) (p.asm ++ p.stages) with rid := rid, info := slowInfo p.marked false 0 0 }
    e.slowLive n.val = true ∧ e.pers n.val = 5 ∧ p.inPkt = true ∧ e.sl n.val SLOT_PK_CTL_FLUSH_PEND = 0 ∧ p.err = 0 ∧
      checkOk (e.sbCfg n.val SLOT_SB_CFG_CHECK) p.raw = true ∧ (p.asm ++ p.stages).length = p.raw.length ∧
        serialRid e.live n.val (bytesAt (p.asm ++ p.stages) 0 1) = some rid ∧ e.merger.stopped = false ∧ s.f.mergerLoad + sh.size ≤ mergerFieldBytes := ⟨by decide, by decide, by decide, by decide, by decide, by decide, by decide, slowTruss_rid, by decide, by decide⟩

theorem test_met_LinSchedules_1 :
   (let s : State := inE (fun e => (slotE 127 4 3 e).onSlow 127 (fun p => { p with linFid := some 63, raw := [1] }))
    let n : Fin 128 := 127
    let dt : Nat := 0
    let e := s.f.e.at dt
    let p := (e.slot n.val).slow
    let fid : Nat := 63
    p.linFid = some fid ∧ e.slowLive n.val = true ∧ p.linStart + e.linFrameMax n.val fid ≤ e.steady e.counter ∧
      e.sl n.val SLOT_PK_CTL_FLUSH_PEND = 0 ∧ p.raw.length ≤ 1 ∧ p.err = 0 ∧ e.sl n.val SLOT_LIN_CFG_COMMANDER = 0) ∧
   (let s : State := inE (fun e => (slotE 127 4 3 e).slSet 127 SLOT_LIN_CFG_COMMANDER 1)
    let n : Fin 128 := 127
    let dt : Nat := 0
    let e := s.f.e.at dt
    let p := (e.slot n.val).slow
    linCommander e n.val = true ∧ e.sl n.val SLOT_LIN_SCHED_ASLEEP = 0 ∧ p.pulseEnd = none ∧ e.linEntryOver n.val = true ∧ p.linFid = none) ∧
   (let s : State := inE (fun e => (slotE 127 4 3 e).slSet 127 SLOT_LIN_CFG_COMMANDER 1)
    let n : Fin 128 := 127
    let dt : Nat := 0
    let e := s.f.e.at dt
    s.f.e.mode ≠ .safe ∧ linCommander s.f.e n.val = true ∧ s.f.e.sl n.val SLOT_LIN_SCHED_ASLEEP = 0) ∧
   (let s : State := inE (fun e => ((slotE 127 4 3 e).slSet 127 SLOT_LIN_CFG_COMMANDER 1).slSet 127 SLOT_LIN_SCHED_ASLEEP 1)
    let n : Fin 128 := 127
    let dt : Nat := 0
    let e := s.f.e.at dt
    e.mode ≠ .safe ∧ linCommander e n.val = true ∧ e.slowDrives n.val = true ∧ e.sl n.val SLOT_LIN_SCHED_ASLEEP = 1) ∧
   (let s : State := inE (fun e => ((slotE 127 4 3 e).slSet 127 SLOT_LIN_CFG_COMMANDER 1).slSet 127 SLOT_LIN_SCHED_ASLEEP 1)
    let n : Fin 128 := 127
    let dt : Nat := 0
    let e := s.f.e.at dt
    let width : Nat := 5000000
    linCommander e n.val = true ∧ e.sl n.val SLOT_LIN_SCHED_ASLEEP = 1 ∧ e.wakeOnly n.val = false ∧ 150000 ≤ width ∧ width ≤ 5000000) ∧
   (let s : State := inE (fun e => (slotE 127 4 3 e).onSlow 127 (fun p => { p with pulseEnd := some 0 }))
    let n : Fin 128 := 127
    let dt : Nat := 100000000
    let e := s.f.e.at dt
    let p := (e.slot n.val).slow
    let t : Nat := 0
    p.pulseEnd = some t ∧ t + 100000000 ≤ e.steady e.counter) := by and_intros <;> decide

theorem test_met_LinSchedules_2 :
    let s : State := inE (fun e => { (slotE 127 4 3 e) with live := slowTruss })
    let n : Fin 128 := 127
    let dt : Nat := 0
    let e := s.f.e.at dt
    let p := (e.slot n.val).slow
    let pid : Byte := BitVec.ofNat 8 (linPid 63)
    let fid : Fin 64 := 63
    let bit : Nat := 0
    syncOk bit (e.sbCfg n.val SLOT_SB_CFG_BAUD_DIV) = true ∧ e.slowLive n.val = true ∧ e.pers n.val = 4 ∧ e.sl n.val SLOT_LIN_CFG_COMMANDER = 0 ∧
      e.slowSending n.val = false ∧ p.linFid = none ∧ pid.toNat = linPid fid.val ∧ linDir e.live n.val fid.val = 2 := ⟨by decide, by decide, by decide, by decide, by decide, by decide, by decide, slowTruss_dir63⟩

theorem test_met_LinSchedules_3 :
    let s : State := inE (fun e => { (slotE 127 4 3 e) with live := slowTruss, stage := [candOf 127 0 { Shingle.mk0 .lin 0 127 0 [1, 2] with info := leBytes 8 62 }] })
    let n : Fin 128 := 127
    let dt : Nat := 0
    let e := s.f.e.at dt
    let c : Cand := candOf 127 0 { Shingle.mk0 .lin 0 127 0 [1, 2] with info := leBytes 8 62 }
    let x : Eaves := let e := Eaves.init; { (slotE 127 4 3 e) with live := slowTruss }
    s.f.e.pers n.val = 4 ∧ s.f.e.takeStage n.val = some (c, x) ∧ c.gen = s.f.e.genOf n.val ∧ s.f.e.slotState n.val = 3 ∧ s.f.e.opmode n.val = 0 ∧
      (s.f.e.slot n.val).can.stopping = false ∧ c.unit.utype = .lin ∧ c.unit.fid ≠ 60 ∧ linDir s.f.e.live n.val c.unit.fid = 1 ∧
        c.unit.body.length = linLen s.f.e.live n.val c.unit.fid := ⟨by decide, rfl, by decide, by decide, by decide, by decide, by decide, by decide, slowTruss_dir62, slowTruss_len62.symm⟩

theorem test_met_SlowTransmission :
   (let s : State := inE (fun e => { (slotE 127 5 3 e).onSlow 127 (fun p => { p with gapWait := true }) with stage := [candOf 127 0 (Shingle.mk0 .serial 0 127 0 [7])] })
    let n : Fin 128 := 127
    let dt : Nat := 0
    let e := s.f.e.at dt
    let p := (e.slot n.val).slow
    let c : Cand := candOf 127 0 (Shingle.mk0 .serial 0 127 0 [7])
    let x : Eaves := (slotE 127 5 3 Eaves.init).onSlow 127 (fun p => { p with gapWait := true })
    let bytes := c.unit.body ++ checkBytes (e.sbCfg n.val SLOT_SB_CFG_CHECK) c.unit.body
    e.pers n.val = 5 ∧ e.takeStage n.val = some (c, x) ∧ c.gen = e.genOf n.val ∧ e.slotState n.val = 3 ∧ e.opmode n.val = 0 ∧
      (e.slot n.val).can.stopping = false ∧ c.unit.utype = .serial ∧ c.unit.body ≠ [] ∧ p.txq = [] ∧ p.gapWait = true ∧ bytes.length ≤ 2048) ∧
   (let s : State := inE (fun e => (slotE 127 6 3 e).onSlow 127 (fun p => { p with txq := [slowMsg [7] false] }))
    let n : Fin 128 := 127
    let dt : Nat := 0
    let e := s.f.e.at dt
    let p := (e.slot n.val).slow
    let m : SlowMsg := slowMsg [7] false
    let ms : List SlowMsg := []
    let idle : Nat := 28
    e.pers n.val = 6 ∧ e.slowDrives n.val = true ∧ p.inPkt = false ∧ p.txq = m :: ms ∧
      ((∀ u ∈ p.txq, tooOldAt (e.steady e.counter) u.ts u.age = false)) ∧ m.committed = false ∧ 12 + 2 * m.prio ≤ idle) ∧
   (let s : State := inE (fun e => (slotE 127 5 3 e).onSlow 127 (fun p => { p with txq := [slowMsg [7] true] }))
    let n : Fin 128 := 127
    let dt : Nat := 0
    let e := s.f.e.at dt
    let p := (e.slot n.val).slow
    let m : SlowMsg := slowMsg [7] true
    let ms : List SlowMsg := []
    let b : Byte := 7
    p.txq = m :: ms ∧ m.committed = true ∧ m.bytes[m.sent]? = some b) ∧
   (let s : State := inE (fun e => (slotE 127 5 3 e).onSlow 127 (fun p => { p with gapWait := true }))
    let n : Fin 128 := 127
    let dt : Nat := 0
    let e := s.f.e.at dt
    let p := (e.slot n.val).slow
    e.pers n.val = 5 ∧ p.gapWait = true ∧ p.txq = []) := by and_intros <;> decide

theorem test_met_EthReception :
   (let s : State := inE (fun e => ((e.etSet 23 ETH_STAT_LINK 1).etSet 23 ETH_STAT_SPEED 2).onEth 23 (fun x => { x with mode := 1518 }))
    let n : Fin 24 := 23
    let dt : Nat := 0
    let e := s.f.e.at dt
    let frame : List Byte := ethFrame 60 0x0800
    let ago : Nat := 0
    let sh := ethShingle e .eth (128 + n.val) (e.counter - ago - bits (e.eth n.val).lat.toNat 15 0) (e.lsaMatch (ethBase n.val) frame) frame
    e.ethLive n.val = true ∧ 64 ≤ frame.length + 4 ∧ frame.length + 4 ≤ bits (e.eth n.val).mode.toNat 13 0 ∧ beAt frame 12 2 ≠ 0x8808 ∧
      e.merger.stopped = false ∧ s.f.mergerLoad + sh.size ≤ mergerFieldBytes) ∧
   (let s : State := inE (fun e => ((e.etSet 23 ETH_CTL_ENABLE 1).onRegs (·.set 0 PWR_STAT_PGOOD 8)).onEth 23 (fun x => { x with mode := 0x3F0005EE }))
    let n : Fin 24 := 23
    let dt : Nat := 0
    let e := s.f.e.at dt
    let speed : Fin 6 := 2
    let held : Nat := 1000000
    e.et n.val ETH_CTL_ENABLE = 1 ∧ e.et n.val ETH_STAT_LINK = 0 ∧ ethSpeedOk (e.eth n.val).mode speed.val = true ∧ awake e = true ∧
      bit (e.regs.get 0 PWR_STAT_PGOOD) 3 = true ∧ 1000000 ≤ held ∧ e.merger.stopped = false) ∧
   (let s : State := inE (fun e => ((e.etSet 23 ETH_STAT_LINK 1).etSet 23 ETH_STAT_SPEED 2).onEth 23 (fun x => { x with mode := 1518 }))
    let n : Fin 24 := 23
    let dt : Nat := 0
    let e := s.f.e.at dt
    e.et n.val ETH_STAT_LINK = 1 ∧ e.merger.stopped = false) ∧
   (let s : State := State.reset
    let n : Fin 24 := 23
    let dt : Nat := 0
    let e := s.f.e.at dt
    let enable : Bool := true
    e.mode ≠ .safe ∧ ((enable = true → e.et n.val ETH_CTL_ENABLE = 0))) := by and_intros <;> decide

theorem test_met_PhyManagement :
   (let s : State := State.reset
    let n : Fin 24 := 23
    let c45 : Bool := true
    s.f.e.et n.val ETH_MDIO_RES_BUSY = 0 ∧ c45 = true) ∧
   (let s : State := State.reset
    let n : Fin 24 := 23
    s.f.e.et n.val ETH_MDIO_RES_BUSY = 0) ∧
   (let s : State := inE (fun e => { e with seqr := { e.seqr with mdio := [⟨23, 1, false, 2, 0, 0⟩] } })
    let bus : Fin 2 := 1
    let x : MdioOp := ⟨23, 1, false, 2, 0, 0⟩
    (s.f.e.seqr.mdio.find? (fun y => y.bus = bus.val) = some x)) := by and_intros <;> decide

theorem test_met_EthTransmission :
   (let s : State := inE (fun e => { ((e.etSet 23 ETH_STAT_LINK 1).etSet 23 ETH_STAT_SPEED 2).onEth 23 (fun x => { x with mode := 1518 }) with stage := [candOf 151 7 (Shingle.mk0 .eth 0 151 0 (ethFrame 60 0x0800))] })
    let n : Fin 24 := 23
    let dt : Nat := 0
    let e := s.f.e.at dt
    let k : Fin 40 := 23
    let c : Cand := candOf 151 7 (Shingle.mk0 .eth 0 151 0 (ethFrame 60 0x0800))
    let x : Eaves := let e := Eaves.init; ((e.etSet 23 ETH_STAT_LINK 1).etSet 23 ETH_STAT_SPEED 2).onEth 23 (fun x => { x with mode := 1518 })
    k.val = n.val ∧ e.takeStage (128 + n.val) = some (c, x) ∧ e.et n.val ETH_STAT_LINK = 1 ∧ c.gen = e.genOf (128 + n.val) ∧
      bufBytes ((e.eth n.val).buf ++ (e.eth n.val).sending.toList) + frameBytes c.unit.body.length ≤ ethBufBytes n.val) ∧
   (let s : State := inE (fun e => (((e.etSet 23 ETH_STAT_LINK 1).etSet 23 ETH_STAT_SPEED 2).onEth 23 (fun x => { x with mode := 1518 })).onEth 23 (fun x => { x with buf := [candOf 151 7 (Shingle.mk0 .eth 0 151 0 (ethFrame 60 0x0800))] }))
    let n : Fin 24 := 23
    let dt : Nat := 0
    let e := s.f.e.at dt
    let k : Nat := 7
    let c : Cand := candOf 151 7 (Shingle.mk0 .eth 0 151 0 (ethFrame 60 0x0800))
    let start := e.counter - preambleNs (e.txCfg n.val).rate
    e.ethLive n.val = true ∧ (e.eth n.val).sending = none ∧ e.mode ≠ .safe ∧
      ((e.txCfg n.val).choose (e.eth n.val).frozen ((e.ethCreditsTo n.val start).eth n.val).credit (fun k => ((e.eth n.val).buf.find? (fun x => x.qclass = k)).map (fun x => frameBytes x.unit.body.length)) start = some k) ∧ ((e.eth n.val).buf.find? (fun x => x.qclass = k) = some c)) ∧
   (let s : State := inE (fun e => (((e.etSet 23 ETH_STAT_LINK 1).etSet 23 ETH_STAT_SPEED 2).onEth 23 (fun x => { x with mode := 1518 })).onEth 23 (fun x => { x with sending := some (candOf 151 7 (Shingle.mk0 .eth 0 151 0 (ethFrame 60 0x0800))) }))
    let n : Fin 24 := 23
    let dt : Nat := 0
    let e := s.f.e.at dt
    let c : Cand := candOf 151 7 (Shingle.mk0 .eth 0 151 0 (ethFrame 60 0x0800))
    (e.eth n.val).sending = some c) ∧
   (let s : State := inE (fun e => { ((e.etSet 23 ETH_STAT_LINK 1).etSet 23 ETH_STAT_SPEED 2).onEth 23 (fun x => { x with mode := 1518 }) with live := trussOf [(9, leBytes 8 1 ++ leBytes 2 (23 + 256) ++ leBytes 2 1 ++ leBytes 4 0 ++ leBytes 8 0 ++ leBytes 4 1000 ++ leBytes 4 0 ++ leBytes 8 1 ++ leBytes 4 1000 ++ leBytes 4 0x80)] })
    let n : Fin 24 := 23
    let dt : Nat := 0
    let e := s.f.e.at dt
    let i : Nat := 0
    let a : Nat := 0x80
    let b : Nat := 1000
    (e.eth n.val).frozen = none ∧ (e.txCfg n.val).gates none e.counter = some (i, a, b) ∧ i < 256) := by and_intros <;> decide

theorem test_met_T1sPorts :
   (let s : State := inE (fun e => (e.t1Set 15 T1S_CTL_ENABLE 1).t1Set 15 T1S_STAT_LINK 1)
    let n : Fin 16 := 15
    let dt : Nat := 0
    let e := s.f.e.at dt
    let frame : List Byte := ethFrame 1518 0x0800
    let ago : Nat := 0
    let sh := ethShingle e .t1s (152 + n.val) (e.counter - ago) (e.lsaMatch (t1sBase n.val) frame) frame
    t1Live e n.val = true ∧ e.t1f n.val T1S_STAT_LINK = 1 ∧ 64 ≤ frame.length + 4 ∧ frame.length + 4 ≤ 1522 ∧ beAt frame 12 2 ≠ 0x8808 ∧
      e.merger.stopped = false ∧ s.f.mergerLoad + sh.size ≤ mergerFieldBytes) ∧
   (let s : State := inE (fun e => (e.t1Set 15 T1S_CTL_ENABLE 1).onT1 15 (fun x => { x with nodeId := 254 }))
    let n : Fin 16 := 15
    let dt : Nat := 0
    let e := s.f.e.at dt
    t1Live e n.val = true ∧ (e.t1 n.val).nodeId ≠ 0) ∧
   (let s : State := inE (fun e => (e.t1Set 15 T1S_STAT_LINK 1).onT1 15 (fun x => { x with nodeId := 1, linkHold := 1 }))
    let n : Fin 16 := 15
    let dt : Nat := 1000000
    let e := s.f.e.at dt
    e.t1f n.val T1S_STAT_LINK = 1 ∧ (e.t1 n.val).nodeId ≠ 0 ∧ (e.t1 n.val).lastBeacon + (e.t1 n.val).linkHold * 1000000 ≤ e.steady e.counter) ∧
   (let s : State := inE (fun e => e.t1Set 15 T1S_CTL_ENABLE 1)
    let n : Fin 16 := 15
    let dt : Nat := 0
    let e := s.f.e.at dt
    t1Live e n.val = true ∧ (e.t1 n.val).nodeId = 0 ∧ e.mode ≠ .safe ∧ cycleOver e n.val = true) ∧
   (let s : State := inE (fun e => { e.t1Set 15 T1S_STAT_LINK 1 with stage := [candOf 167 7 (Shingle.mk0 .t1s 0 167 0 (ethFrame 60 0x0800))] })
    let n : Fin 16 := 15
    let dt : Nat := 0
    let e := s.f.e.at dt
    let k : Fin 40 := 39
    let c : Cand := candOf 167 7 (Shingle.mk0 .t1s 0 167 0 (ethFrame 60 0x0800))
    let x : Eaves := Eaves.init.t1Set 15 T1S_STAT_LINK 1
    k.val = 24 + n.val ∧ e.takeStage (152 + n.val) = some (c, x) ∧ e.t1f n.val T1S_STAT_LINK = 1 ∧ c.gen = e.genOf (152 + n.val) ∧
      bufBytes ((e.t1 n.val).txq.map (·.1)) + frameBytes c.unit.body.length ≤ 32768) ∧
   (let s : State := inE (fun e => ((e.t1Set 15 T1S_CTL_ENABLE 1).t1Set 15 T1S_STAT_LINK 1).onT1 15 (fun x => { x with due := true, txq := [(candOf 167 7 (Shingle.mk0 .t1s 0 167 0 (ethFrame 60 0x0800)), 0)] }))
    let n : Fin 16 := 15
    let dt : Nat := 1000000
    let e := s.f.e.at dt
    let x : Cand × Nat := (candOf 167 7 (Shingle.mk0 .t1s 0 167 0 (ethFrame 60 0x0800)), 0)
    t1Turn e n.val = true ∧ t1Next (e.t1 n.val).txq = some x ∧ (e.t1 n.val).maxBc = 0) ∧
   (let s : State := inE (fun e => ((e.t1Set 15 T1S_CTL_ENABLE 1).t1Set 15 T1S_STAT_LINK 1).onT1 15 (fun x => { x with due := true, txq := [(candOf 167 7 (Shingle.mk0 .t1s 0 167 0 (ethFrame 60 0x0800)), 15)] }))
    let n : Fin 16 := 15
    let dt : Nat := 1000000
    let e := s.f.e.at dt
    let x : Cand × Nat := (candOf 167 7 (Shingle.mk0 .t1s 0 167 0 (ethFrame 60 0x0800)), 15)
    t1Turn e n.val = true ∧ t1Next (e.t1 n.val).txq = some x) ∧
   (let s : State := State.reset
    let n : Fin 16 := 15
    let dt : Nat := 0
    let e := s.f.e.at dt
    let enable : Bool := true
    e.mode ≠ .safe ∧ ((enable = true → e.t1f n.val T1S_CTL_ENABLE = 0))) := by and_intros <;> decide

theorem test_met_WindowReads :
   (let n : Fin 4 := 3
    let s : State := duoP (·.onRegs (wrs [(winBase 0 3, 15), (winBase 0 3 + 4, 1023)]))
    let Shows : Nat → Nat → Nat → Plane → Plane → Prop := (fun (block idx size : Nat) (q q' : Plane) => (∀ w < (winData block n.val).2, q'.regs.rd ((winData block n.val).1 + 4 * w) = BitVec.ofNat 32 (bytesAt (q.winEntry block (q.winTable block n.val) idx size) (4 * w) 4)) ∧ q'.regs.rd (winBase block n.val + 12) = 0)
    (∀ p : PlaneId, (s.f.e.role p).running = true ∧ (s.f.plane p).winPending 0 n.val = false ∧
      winSize 0 ((s.f.plane p).winTable 0 n.val) = some (1024, 16) ∧ (s.f.plane p).winIdx 0 n.val < 1024)) ∧
   (let n : Fin 4 := 3
    let s : State := duoP (·.onRegs (wrs [(winBase 1 3, 6), (winBase 1 3 + 4, 65535)]))
    let Shows : Nat → Nat → Nat → Plane → Plane → Prop := (fun (block idx size : Nat) (q q' : Plane) => (∀ w < (winData block n.val).2, q'.regs.rd ((winData block n.val).1 + 4 * w) = BitVec.ofNat 32 (bytesAt (q.winEntry block (q.winTable block n.val) idx size) (4 * w) 4)) ∧ q'.regs.rd (winBase block n.val + 12) = 0)
    (∀ p : PlaneId, (s.f.e.role p).running = true ∧ (s.f.plane p).winPending 1 n.val = false ∧
      winSize 1 ((s.f.plane p).winTable 1 n.val) = some (65536, 16) ∧ (s.f.plane p).winIdx 1 n.val < 65536)) ∧
   (let n : Fin 4 := 3
    let s : State := duoP (·.onRegs (wrs [(winBase 2 3, 4), (winBase 2 3 + 4, 255)]))
    let Shows : Nat → Nat → Nat → Plane → Plane → Prop := (fun (block idx size : Nat) (q q' : Plane) => (∀ w < (winData block n.val).2, q'.regs.rd ((winData block n.val).1 + 4 * w) = BitVec.ofNat 32 (bytesAt (q.winEntry block (q.winTable block n.val) idx size) (4 * w) 4)) ∧ q'.regs.rd (winBase block n.val + 12) = 0)
    (∀ p : PlaneId, (s.f.e.role p).running = true ∧ (s.f.plane p).winPending 2 n.val = false ∧
      winSize 2 ((s.f.plane p).winTable 2 n.val) = some (256, 32) ∧ (s.f.plane p).winIdx 2 n.val < 256)) ∧
   (let n : Fin 4 := 3
    let i : Nat := 4 * 0
    let s : State := duoP (fun q => let q := q.onRegs (wrs [(winBase 0 3, 4), (winBase 0 3 + 0x40, 0x04030201), (winBase 0 3 + 0x44, 0x00070605)]); let k := macBucket q.macSeed 7 0x010203040506; q.tput 4 (8 * k + 7) (macEntry 0x010203040506 7 0 3 1 0))
    let j : Nat := 8 * macBucket s.f.a.macSeed 7 0x010203040506 + 7
    let Shows : Nat → Nat → Nat → Plane → Plane → Prop := (fun (block idx size : Nat) (q q' : Plane) => (∀ w < (winData block n.val).2, q'.regs.rd ((winData block n.val).1 + 4 * w) = BitVec.ofNat 32 (bytesAt (q.winEntry block (q.winTable block n.val) idx size) (4 * w) 4)) ∧ q'.regs.rd (winBase block n.val + 12) = 0)
    (∀ p : PlaneId, (s.f.e.role p).running = true ∧ (s.f.plane p).winPending 0 n.val = false ∧
      winSize 0 ((s.f.plane p).winTable 0 n.val) = some (131072, 16) ∧ 4 ≤ (s.f.plane p).winTable 0 n.val ∧ (s.f.plane p).winTable 0 n.val ≤ 6 ∧
        (s.f.plane p).keyIndex ((s.f.plane p).winTable 0 n.val) ((s.f.plane p).winBytes 0 n.val) = some j)) := by
  and_intros <;> first
    | (refine (fun x => ?_); cases x <;> decide)
    | decide

theorem test_met_WindowWrites :
   (let n : Fin 4 := 3
    let s : State := duoP (fun q => (q.onRegs (wrs [(winBase 0 3, 15), (winBase 0 3 + 4, 1023)])))
    (∀ p : PlaneId, let q := s.f.plane p; let table := q.winTable 0 n.val; let idx := q.winIdx 0 n.val; (s.f.e.role p).running = true ∧
      q.winPending 0 n.val = false ∧ winSize 0 table = some (1024, 16) ∧ winCmdOk 0 table 2 = true ∧ (2 = 3 ∨ 2 = 4 ∨ idx < 1024) ∧
        q.regs.get 0 TRUSS_TURN_STAT_PHASE = 0 ∧ q.winRange 0 table 2 idx (q.winBytes 0 n.val) = true)) ∧
   (let n : Fin 4 := 3
    let s : State := duoP (fun q => (q.onRegs (wrs [(winBase 0 3, 4), (winBase 0 3 + 4, 0)])))
    (∀ p : PlaneId, let q := s.f.plane p; let table := q.winTable 0 n.val; let idx := q.winIdx 0 n.val; (s.f.e.role p).running = true ∧
      q.winPending 0 n.val = false ∧ winSize 0 table = some (131072, 16) ∧ winCmdOk 0 table 3 = true ∧ (3 = 3 ∨ 3 = 4 ∨ idx < 131072) ∧
        q.regs.get 0 TRUSS_TURN_STAT_PHASE = 0 ∧ q.winRange 0 table 3 idx (q.winBytes 0 n.val) = true)) ∧
   (let n : Fin 4 := 3
    let s : State := duoP (fun q => (q.onRegs (wrs [(winBase 0 3, 6), (winBase 0 3 + 4, 0)])))
    (∀ p : PlaneId, let q := s.f.plane p; let table := q.winTable 0 n.val; let idx := q.winIdx 0 n.val; (s.f.e.role p).running = true ∧
      q.winPending 0 n.val = false ∧ winSize 0 table = some (16384, 32) ∧ winCmdOk 0 table 4 = true ∧ (4 = 3 ∨ 4 = 4 ∨ idx < 16384) ∧
        q.regs.get 0 TRUSS_TURN_STAT_PHASE = 0 ∧ q.winRange 0 table 4 idx (q.winBytes 0 n.val) = true)) ∧
   (let n : Fin 4 := 3
    let s : State := duoP (fun q => (q.onRegs (wrs [(winBase 1 3, 4), (winBase 1 3 + 4, 65535)])))
    (∀ p : PlaneId, let q := s.f.plane p; let table := q.winTable 1 n.val; let idx := q.winIdx 1 n.val; (s.f.e.role p).running = true ∧
      q.winPending 1 n.val = false ∧ winSize 1 table = some (65536, 8) ∧ winCmdOk 1 table 2 = true ∧ (2 = 3 ∨ 2 = 4 ∨ idx < 65536) ∧
        q.regs.get 0 TRUSS_TURN_STAT_PHASE = 0 ∧ q.winRange 1 table 2 idx (q.winBytes 1 n.val) = true)) ∧
   (let n : Fin 4 := 3
    let s : State := duoP (fun q => (q.onRegs (wrs [(winBase 2 3, 3), (winBase 2 3 + 4, 16383), (winBase 2 3 + 0x80, 1), (winBase 2 3 + 0x84, 1), (winBase 2 3 + 0x88, 1), (winBase 2 3 + 0x8C, 2)])))
    (∀ p : PlaneId, let q := s.f.plane p; let table := q.winTable 2 n.val; let idx := q.winIdx 2 n.val; (s.f.e.role p).running = true ∧
      q.winPending 2 n.val = false ∧ winSize 2 table = some (16384, 48) ∧ winCmdOk 2 table 2 = true ∧ (2 = 3 ∨ 2 = 4 ∨ idx < 16384) ∧
        q.regs.get 0 TRUSS_TURN_STAT_PHASE = 0 ∧ q.winRange 2 table 2 idx (q.winBytes 2 n.val) = true)) ∧
   (let n : Fin 4 := 3
    let s : State := duoP (fun q => (q.onRegs (wrs [(winBase 2 3, 1), (winBase 2 3 + 4, 4095)])).tput 17 4095 1)
    (∀ p : PlaneId, let q := s.f.plane p; let table := q.winTable 2 n.val; let idx := q.winIdx 2 n.val; (s.f.e.role p).running = true ∧
      q.winPending 2 n.val = false ∧ winSize 2 table = some (4096, 128) ∧ winCmdOk 2 table 6 = true ∧ (6 = 3 ∨ 6 = 4 ∨ idx < 4096) ∧
        q.regs.get 0 TRUSS_TURN_STAT_PHASE = 0 ∧ q.winRange 2 table 6 idx (q.winBytes 2 n.val) = true)) ∧
   (let n : Fin 4 := 3
    let s : State := duoP (fun q => (q.onRegs (wrs [(winBase 2 3, 1), (winBase 2 3 + 4, 4095)])))
    (∀ p : PlaneId, let q := s.f.plane p; let table := q.winTable 2 n.val; let idx := q.winIdx 2 n.val; (s.f.e.role p).running = true ∧
      q.winPending 2 n.val = false ∧ winSize 2 table = some (4096, 128) ∧ winCmdOk 2 table 7 = true ∧ (7 = 3 ∨ 7 = 4 ∨ idx < 4096) ∧
        q.regs.get 0 TRUSS_TURN_STAT_PHASE = 0 ∧ q.winRange 2 table 7 idx (q.winBytes 2 n.val) = true)) ∧
   (let n : Fin 4 := 3
    let s : State := duoP (fun q => (q.onRegs (wrs [(winBase 2 3, 1), (winBase 2 3 + 4, 4095)])))
    (∀ p : PlaneId, let q := s.f.plane p; let table := q.winTable 2 n.val; let idx := q.winIdx 2 n.val; (s.f.e.role p).running = true ∧
      q.winPending 2 n.val = false ∧ winSize 2 table = some (4096, 128) ∧ winCmdOk 2 table 8 = true ∧ (8 = 3 ∨ 8 = 4 ∨ idx < 4096) ∧
        q.regs.get 0 TRUSS_TURN_STAT_PHASE = 0 ∧ q.winRange 2 table 8 idx (q.winBytes 2 n.val) = true)) := by
  and_intros <;> first
    | (refine (fun x => ?_); cases x <;> decide)
    | decide

theorem test_met_TableCare :
   (let s : State := duoF (fun f => { f with held := [tkey 8 5], tab := [(tkey 8 5, 3)] })
    let p : PlaneId := .B
    let key : Nat := tkey 8 5
    let rest : List Nat := []
    (s.f.plane p).fwd.held = key :: rest ∧ partnered s.f = true) ∧
   (let s : State := duo (fun f => { f with e := { f.e with roleB := .rejoining } })
    let p : PlaneId := .B
    s.f.e.role p = .rejoining ∧ (s.f.plane p).st.takes = true ∧ (s.f.plane p).st.newT = false) ∧
   (let s : State := duo id
    let p : PlaneId := .B
    let t := min (s.f.plane p).st.tick (s.f.plane p.other).st.tick
    let differ := noticesDiffer (s.f.plane p).fwd.mine (s.f.plane p.other).fwd.outbox t
    differ = false ∧ s.f.e.role p ≠ .rejoining) ∧
   (let s : State := duo (fun f => let a := f.a.onFwd (fun x => { x with outbox := [⟨1, 0, 3, 0, 5, 1, 0⟩] }); { f with a := { a with st := { a.st with tick := 5 } }, b := { f.b with st := { f.b.st with tick := 5 } } })
    let p : PlaneId := .B
    let t := min (s.f.plane p).st.tick (s.f.plane p.other).st.tick
    let differ := noticesDiffer (s.f.plane p).fwd.mine (s.f.plane p.other).fwd.outbox t
    let sh : PlaneId := .B
    differ = true ∧ s.f.e.role p ≠ .rejoining ∧ s.f.e.shadow = some sh ∧ partnered s.f = true ∧ (s.f.plane p).st.newT = false ∧
      (s.f.plane p.other).st.newT = false ∧ s.f.phase = 0 ∧ (s.f.e.src (planeSrc sh 10)).live = false) ∧
   (let s : State := solo (fun f => { f with a := f.a.tput 8 5 7 })
    let p : PlaneId := .A
    (partnered s.f = false)) := by and_intros <;> decide

theorem test_met_TickPlaces :
   (let s : State := State.reset
    let e := s.f.e
    ticking e = false ∧ e.seqr.off = false ∧ e.mode ≠ .ember) ∧
   (let s : State := duo (fun f => { f with e := { f.e with seqr := { f.e.seqr with kin := 10 }, entropyReady := true } })
    let e := s.f.e
    ticking e = true ∧ e.seqr.kind = .idle ∧ ((∀ h p, lostAt (s.f.plane p) h = none)) ∧ e.merger.stopped = false ∧ dueNext e = [] ∧
      e.seqr.timeStep = none ∧ s.f.phase ≠ 4) ∧
   (let s : State := duo (fun f => { f with e := { f.e with seqr := { f.e.seqr with kin := 10, timeStep := some (-5) }, entropyReady := true } })
    let e := s.f.e
    let d : Int := -5
    ticking e = true ∧ e.seqr.kind = .idle ∧ ((∀ h p, lostAt (s.f.plane p) h = none)) ∧ e.merger.stopped = false ∧ e.seqr.timeStep = some d ∧
      dueNext e = [] ∧ s.f.phase ≠ 4) ∧
   (let s : State := duo (fun f => { f with e := { f.e with seqr := { f.e.seqr with kin := 10 }, entropyReady := true, roleB := .rejoining, rjB := { f.e.rjB with level := true }, merger := { f.e.merger with sched := [⟨1, .join .B, 0⟩] } } })
    let e := s.f.e
    let p : PlaneId := .B
    ticking e = true ∧ e.seqr.kind = .idle ∧ ((∀ h p, lostAt (s.f.plane p) h = none)) ∧ e.merger.stopped = false ∧ dueNext e = [.join p] ∧
      e.seqr.timeStep = none ∧ s.f.phase ≠ 4 ∧ s.f.phase ≠ 6 ∧ e.role p = .rejoining ∧ (e.rj p).level = true) ∧
   (let s : State := duo (fun f => { f with e := { f.e with seqr := { f.e.seqr with kin := 10 }, entropyReady := true, inact := { Truss.empty with version := 9 }, merger := { f.e.merger with sched := [⟨1, .cut, 0⟩] } }, turn := { f.turn with bankFilled := true }, a := f.a.onRegs (·.set 0 TRUSS_TURN_STAT_PHASE 4), b := f.b.onRegs (·.set 0 TRUSS_TURN_STAT_PHASE 4) })
    let e := s.f.e
    ticking e = true ∧ e.seqr.kind = .idle ∧ ((∀ h p, lostAt (s.f.plane p) h = none)) ∧ e.merger.stopped = false ∧ dueNext e = [.cut] ∧
      s.f.phase = 4 ∧ s.f.turn.bankFilled = true ∧ s.f.lead.regs.rd64 TRUSS_CUT_AT_LO = 0 ∧ bytesAt (e.inact.sec 0x12) 8 1 = 0) := by
  and_intros <;> first
    | (refine (fun h p => ?_); cases h <;> cases p <;> decide)
    | decide

theorem test_met_TickEmission_1 :
   (let s : State := solo (fun f => { f with e := dueE tickSh f.e, a := { f.a with st := { f.a.st with auths := [(7, 3)] } } })
    let dt : Nat := 0
    let sh : Shingle := numbered State.reset.f.e.merger tickSh
    let e := s.f.e.at dt
    let t := tickOf sh
    let after := fun (q : Plane) => ((q.popHead sh).atTick sh).releaseAll
    let p : PlaneId := .A
    let x : Nat := 7
    let target : Nat := 3
    dueShingle e = some sh ∧ sh.utype = .tick ∧ s.f.copy = none ∧ ((∀ p, let q := s.f.plane p; q.st.fill = false ∧ q.st.past = false ∧
      q.fwd.metBad = false ∧ q.host.tellRole = false ∧     (q.st.takes = true → q.st.inbox = [] ∧ q.host.admitted = [] ∧ q.st.sleep = none ∧
        (after q).fwd.metBad = false ∧ (after q).host.tellRole = false))) ∧ e.leader = some p ∧ (s.f.plane p).st.takes = true ∧
        (s.f.plane p.other).st.takes = false ∧ (s.f.plane p).st.auths = [(x, target)] ∧ x ≤ t ∧ e.mode = .service ∧ e.seqr.kind = .idle ∧
        ((target = 3 ∨ target = 4 ∨ target = 6))) ∧
   (let s : State := tickOn (fun q => q.onFwd (fun f => { f with tp := [tpOf 4 20 (some 5) none] }))
    let sh : Shingle := numbered State.reset.f.e.merger tickSh
    let e : Eaves := s.f.e.at 0
    let t : Nat := tickOf sh
    let after : Plane → Plane := fun q => ((q.popHead sh).atTick sh).releaseAll
    (dueShingle e = some sh ∧ sh.utype = .tick ∧ s.f.copy = none) ∧ (∀ p : PlaneId, (s.f.plane p).st.fill = false ∧ (s.f.plane p).st.past = false ∧
      (s.f.plane p).fwd.metBad = false ∧ (s.f.plane p).host.tellRole = false ∧ ((s.f.plane p).st.takes = true → (s.f.plane p).st.inbox = [] ∧
        (s.f.plane p).host.admitted = [] ∧ (s.f.plane p).st.sleep = none ∧ (after (s.f.plane p)).fwd.metBad = false ∧
        (after (s.f.plane p)).host.tellRole = false)) ∧ (∀ p : PlaneId, (s.f.plane p).st.auths = []) ∧
        (let q := s.f.plane .B; (s.f.plane .B).st.takes = true ∧ (q.tpReady t ≠ []))) ∧
   (let s : State := tickOn (fun q => q.onFwd (fun f => { f with tp := [tpOf 1 20 none (some 5)] }))
    let sh : Shingle := numbered State.reset.f.e.merger tickSh
    let e : Eaves := s.f.e.at 0
    let t : Nat := tickOf sh
    let after : Plane → Plane := fun q => ((q.popHead sh).atTick sh).releaseAll
    (dueShingle e = some sh ∧ sh.utype = .tick ∧ s.f.copy = none) ∧ (∀ p : PlaneId, (s.f.plane p).st.fill = false ∧ (s.f.plane p).st.past = false ∧
      (s.f.plane p).fwd.metBad = false ∧ (s.f.plane p).host.tellRole = false ∧ ((s.f.plane p).st.takes = true → (s.f.plane p).st.inbox = [] ∧
        (s.f.plane p).host.admitted = [] ∧ (s.f.plane p).st.sleep = none ∧ (after (s.f.plane p)).fwd.metBad = false ∧
        (after (s.f.plane p)).host.tellRole = false)) ∧ (∀ p : PlaneId, (s.f.plane p).st.auths = []) ∧
        (let q := s.f.plane .B; (s.f.plane .B).st.takes = true ∧ (q.tpLate t ≠ []))) ∧
   (let s : State := tickOn (fun q => q.onFwd (fun f => { f with queues := [(24, [⟨0, ccFrame 5, 1, 1, 1, 0⟩])] }))
    let sh : Shingle := numbered State.reset.f.e.merger tickSh
    let e : Eaves := s.f.e.at 0
    let t : Nat := tickOf sh
    let after : Plane → Plane := fun q => ((q.popHead sh).atTick sh).releaseAll
    (dueShingle e = some sh ∧ sh.utype = .tick ∧ s.f.copy = none) ∧ (∀ p : PlaneId, (s.f.plane p).st.fill = false ∧ (s.f.plane p).st.past = false ∧
      (s.f.plane p).fwd.metBad = false ∧ (s.f.plane p).host.tellRole = false ∧ ((s.f.plane p).st.takes = true → (s.f.plane p).st.inbox = [] ∧
        (s.f.plane p).host.admitted = [] ∧ (s.f.plane p).st.sleep = none ∧ (after (s.f.plane p)).fwd.metBad = false ∧
        (after (s.f.plane p)).host.tellRole = false)) ∧ (∀ p : PlaneId, (s.f.plane p).st.auths = []) ∧
        (let q := s.f.plane .B; (s.f.plane .B).st.takes = true ∧ ((q.ageQueues (10000 * t)).fwd.queues ≠ q.fwd.queues))) ∧
   (let s : State := tickOn (fun q => (ent 15 1023 [(0, 1, 2), (4, 2, 10)] q).setCb 1023 { CbSt.init with taken := true })
    let sh : Shingle := numbered State.reset.f.e.merger tickSh
    let e : Eaves := s.f.e.at 0
    let t : Nat := tickOf sh
    let after : Plane → Plane := fun q => ((q.popHead sh).atTick sh).releaseAll
    (dueShingle e = some sh ∧ sh.utype = .tick ∧ s.f.copy = none) ∧ (∀ p : PlaneId, (s.f.plane p).st.fill = false ∧ (s.f.plane p).st.past = false ∧
      (s.f.plane p).fwd.metBad = false ∧ (s.f.plane p).host.tellRole = false ∧ ((s.f.plane p).st.takes = true → (s.f.plane p).st.inbox = [] ∧
        (s.f.plane p).host.admitted = [] ∧ (s.f.plane p).st.sleep = none ∧ (after (s.f.plane p)).fwd.metBad = false ∧
        (after (s.f.plane p)).host.tellRole = false)) ∧ (∀ p : PlaneId, (s.f.plane p).st.auths = []) ∧
        (let q := s.f.plane .B; (s.f.plane .B).st.takes = true ∧ (q.fwd.cbs.any (fun x => q.cbDue x.1 t) = true))) ∧
   (let s : State := tickOn (fun q => q.onFwd (fun f => { f with cmds := [⟨0, 3, 2, 8, 5, leBytes 4 7⟩] }))
    let sh : Shingle := numbered State.reset.f.e.merger tickSh
    let e : Eaves := s.f.e.at 0
    let t : Nat := tickOf sh
    let after : Plane → Plane := fun q => ((q.popHead sh).atTick sh).releaseAll
    (dueShingle e = some sh ∧ sh.utype = .tick ∧ s.f.copy = none) ∧ (∀ p : PlaneId, (s.f.plane p).st.fill = false ∧ (s.f.plane p).st.past = false ∧
      (s.f.plane p).fwd.metBad = false ∧ (s.f.plane p).host.tellRole = false ∧ ((s.f.plane p).st.takes = true → (s.f.plane p).st.inbox = [] ∧
        (s.f.plane p).host.admitted = [] ∧ (s.f.plane p).st.sleep = none ∧ (after (s.f.plane p)).fwd.metBad = false ∧
        (after (s.f.plane p)).host.tellRole = false)) ∧ (∀ p : PlaneId, (s.f.plane p).st.auths = []) ∧
        (let q := s.f.plane .B; (s.f.plane .B).st.takes = true ∧ (hasCmds 0 q = true))) ∧
   (let s : State := tickOn (fun q => (ent 9 47 [(0, 4, 2 ^ 17)] q).onFwd (fun f => { f with learns := [⟨7, 0x010203040506, 175, 0xFFFF⟩] }))
    let sh : Shingle := numbered State.reset.f.e.merger tickSh
    let e : Eaves := s.f.e.at 0
    let t : Nat := tickOf sh
    let after : Plane → Plane := fun q => ((q.popHead sh).atTick sh).releaseAll
    (dueShingle e = some sh ∧ sh.utype = .tick ∧ s.f.copy = none) ∧ (∀ p : PlaneId, (s.f.plane p).st.fill = false ∧ (s.f.plane p).st.past = false ∧
      (s.f.plane p).fwd.metBad = false ∧ (s.f.plane p).host.tellRole = false ∧ ((s.f.plane p).st.takes = true → (s.f.plane p).st.inbox = [] ∧
        (s.f.plane p).host.admitted = [] ∧ (s.f.plane p).st.sleep = none ∧ (after (s.f.plane p)).fwd.metBad = false ∧
        (after (s.f.plane p)).host.tellRole = false)) ∧ (∀ p : PlaneId, (s.f.plane p).st.auths = []) ∧
        (let q := s.f.plane .B; (s.f.plane .B).st.takes = true ∧ (q.fwd.learns ≠ []))) ∧
   (let s : State := tickOn (fun q => (ent 4 131071 [(14, 1, 1)] q).onRegs (·.wr TBL_AGE_TIME 4))
    let sh : Shingle := numbered State.reset.f.e.merger tickSh
    let e : Eaves := s.f.e.at 0
    let t : Nat := tickOf sh
    let after : Plane → Plane := fun q => ((q.popHead sh).atTick sh).releaseAll
    (dueShingle e = some sh ∧ sh.utype = .tick ∧ s.f.copy = none) ∧ (∀ p : PlaneId, (s.f.plane p).st.fill = false ∧ (s.f.plane p).st.past = false ∧
      (s.f.plane p).fwd.metBad = false ∧ (s.f.plane p).host.tellRole = false ∧ ((s.f.plane p).st.takes = true → (s.f.plane p).st.inbox = [] ∧
        (s.f.plane p).host.admitted = [] ∧ (s.f.plane p).st.sleep = none ∧ (after (s.f.plane p)).fwd.metBad = false ∧
        (after (s.f.plane p)).host.tellRole = false)) ∧ (∀ p : PlaneId, (s.f.plane p).st.auths = []) ∧
        (let q := s.f.plane .B; (s.f.plane .B).st.takes = true ∧ (q.agingPoint t = true))) := by
  and_intros <;> first
    | (refine (fun x => ?_); cases x <;> decide)
    | decide

theorem test_met_TickEmission_2 :
   (let s : State := tickOn (fun q => q)
    let sh : Shingle := numbered State.reset.f.e.merger tickSh
    let e : Eaves := s.f.e.at 0
    let t : Nat := tickOf sh
    let after : Plane → Plane := fun q => ((q.popHead sh).atTick sh).releaseAll
    (dueShingle e = some sh ∧ sh.utype = .tick ∧ s.f.copy = none) ∧ (∀ p : PlaneId, (s.f.plane p).st.fill = false ∧ (s.f.plane p).st.past = false ∧
      (s.f.plane p).fwd.metBad = false ∧ (s.f.plane p).host.tellRole = false ∧ ((s.f.plane p).st.takes = true → (s.f.plane p).st.inbox = [] ∧
        (s.f.plane p).host.admitted = [] ∧ (s.f.plane p).st.sleep = none ∧ (after (s.f.plane p)).fwd.metBad = false ∧
        (after (s.f.plane p)).host.tellRole = false)) ∧ (∀ p : PlaneId, (s.f.plane p).st.auths = []) ∧
        (let q := s.f.plane .B; (s.f.plane .B).st.takes = true ∧ (t % 100000 = 0))) ∧
   (let s : State := tickOn (fun q => inTruss [(0x0B, laySec [(0, [2]), (6, [1]), (8, leBytes 4 1000)])] q)
    let sh : Shingle := numbered State.reset.f.e.merger tickSh
    let e : Eaves := s.f.e.at 0
    let t : Nat := tickOf sh
    let after : Plane → Plane := fun q => ((q.popHead sh).atTick sh).releaseAll
    (dueShingle e = some sh ∧ sh.utype = .tick ∧ s.f.copy = none) ∧ (∀ p : PlaneId, (s.f.plane p).st.fill = false ∧ (s.f.plane p).st.past = false ∧
      (s.f.plane p).fwd.metBad = false ∧ (s.f.plane p).host.tellRole = false ∧ ((s.f.plane p).st.takes = true → (s.f.plane p).st.inbox = [] ∧
        (s.f.plane p).host.admitted = [] ∧ (s.f.plane p).st.sleep = none ∧ (after (s.f.plane p)).fwd.metBad = false ∧
        (after (s.f.plane p)).host.tellRole = false)) ∧ (∀ p : PlaneId, (s.f.plane p).st.auths = []) ∧
        (let q := s.f.plane .B; (s.f.plane .B).st.takes = true ∧ (∃ i < q.layCount, cyclicDue (q.lay i) t = true))) ∧
   (let s : State := tickOn (fun q => { inTruss [(0x0A, patch (List.replicate 32 0) [(4, [8]), (7, [2])]), (0x0B, laySec [(0, [2]), (2, leBytes 2 8), (6, [3]), (16, leBytes 4 10), (42, leBytes 2 1)])] q with thr := { q.thr with builds := [(0, [⟨[9], some 99990, false, 0⟩])] } })
    let sh : Shingle := numbered State.reset.f.e.merger tickSh
    let e : Eaves := s.f.e.at 0
    let t : Nat := tickOf sh
    let after : Plane → Plane := fun q => ((q.popHead sh).atTick sh).releaseAll
    (dueShingle e = some sh ∧ sh.utype = .tick ∧ s.f.copy = none) ∧ (∀ p : PlaneId, (s.f.plane p).st.fill = false ∧ (s.f.plane p).st.past = false ∧
      (s.f.plane p).fwd.metBad = false ∧ (s.f.plane p).host.tellRole = false ∧ ((s.f.plane p).st.takes = true → (s.f.plane p).st.inbox = [] ∧
        (s.f.plane p).host.admitted = [] ∧ (s.f.plane p).st.sleep = none ∧ (after (s.f.plane p)).fwd.metBad = false ∧
        (after (s.f.plane p)).host.tellRole = false)) ∧ (∀ p : PlaneId, (s.f.plane p).st.auths = []) ∧
        (let q := s.f.plane .B; (s.f.plane .B).st.takes = true ∧ (∃ i < q.layCount, q.deferredDue i t = true))) ∧
   (let s : State := tickOn (fun q => { q with thr := { q.thr with pend := [⟨0, 0, 100000, true, [], [], none⟩] } })
    let sh : Shingle := numbered State.reset.f.e.merger tickSh
    let e : Eaves := s.f.e.at 0
    let t : Nat := tickOf sh
    let after : Plane → Plane := fun q => ((q.popHead sh).atTick sh).releaseAll
    (dueShingle e = some sh ∧ sh.utype = .tick ∧ s.f.copy = none) ∧ (∀ p : PlaneId, (s.f.plane p).st.fill = false ∧ (s.f.plane p).st.past = false ∧
      (s.f.plane p).fwd.metBad = false ∧ (s.f.plane p).host.tellRole = false ∧ ((s.f.plane p).st.takes = true → (s.f.plane p).st.inbox = [] ∧
        (s.f.plane p).host.admitted = [] ∧ (s.f.plane p).st.sleep = none ∧ (after (s.f.plane p)).fwd.metBad = false ∧
        (after (s.f.plane p)).host.tellRole = false)) ∧ (∀ p : PlaneId, (s.f.plane p).st.auths = []) ∧
        (let q := s.f.plane .B; (s.f.plane .B).st.takes = true ∧ (q.thr.pend ≠ []))) ∧
   (let s : State := tickOn (fun q => q.onFwd (fun f => { f with cmds := [⟨1, 3, 2, 4, 65535, leBytes 8 7⟩] }))
    let sh : Shingle := numbered State.reset.f.e.merger tickSh
    let e : Eaves := s.f.e.at 0
    let t : Nat := tickOf sh
    let after : Plane → Plane := fun q => ((q.popHead sh).atTick sh).releaseAll
    (dueShingle e = some sh ∧ sh.utype = .tick ∧ s.f.copy = none) ∧ (∀ p : PlaneId, (s.f.plane p).st.fill = false ∧ (s.f.plane p).st.past = false ∧
      (s.f.plane p).fwd.metBad = false ∧ (s.f.plane p).host.tellRole = false ∧ ((s.f.plane p).st.takes = true → (s.f.plane p).st.inbox = [] ∧
        (s.f.plane p).host.admitted = [] ∧ (s.f.plane p).st.sleep = none ∧ (after (s.f.plane p)).fwd.metBad = false ∧
        (after (s.f.plane p)).host.tellRole = false)) ∧ (∀ p : PlaneId, (s.f.plane p).st.auths = []) ∧
        (let q := s.f.plane .B; (s.f.plane .B).st.takes = true ∧ (hasCmds 1 q = true))) ∧
   (let s : State := tickOn (fun q => (inTruss [(0x0D, tenSec [(0, [1]), (2, leBytes 2 5), (4, leBytes 2 9)])] q).onFwd (fun f => { f with binds := [⟨⟨1, 3, 77⟩, 0, 5⟩] }))
    let sh : Shingle := numbered State.reset.f.e.merger tickSh
    let e : Eaves := s.f.e.at 0
    let t : Nat := tickOf sh
    let after : Plane → Plane := fun q => ((q.popHead sh).atTick sh).releaseAll
    (dueShingle e = some sh ∧ sh.utype = .tick ∧ s.f.copy = none) ∧ (∀ p : PlaneId, (s.f.plane p).st.fill = false ∧ (s.f.plane p).st.past = false ∧
      (s.f.plane p).fwd.metBad = false ∧ (s.f.plane p).host.tellRole = false ∧ ((s.f.plane p).st.takes = true → (s.f.plane p).st.inbox = [] ∧
        (s.f.plane p).host.admitted = [] ∧ (s.f.plane p).st.sleep = none ∧ (after (s.f.plane p)).fwd.metBad = false ∧
        (after (s.f.plane p)).host.tellRole = false)) ∧ (∀ p : PlaneId, (s.f.plane p).st.auths = []) ∧
        (let q := s.f.plane .B; (s.f.plane .B).st.takes = true ∧ (q.fwd.binds ≠ []))) ∧
   (let s : State := tickOn (fun q => ent 17 4095 [(0, 1, 1)] (inTruss [(0x0D, tenSec [(12, leBytes 2 1)])] q))
    let sh : Shingle := numbered State.reset.f.e.merger tickSh
    let e : Eaves := s.f.e.at 0
    let t : Nat := tickOf sh
    let after : Plane → Plane := fun q => ((q.popHead sh).atTick sh).releaseAll
    (dueShingle e = some sh ∧ sh.utype = .tick ∧ s.f.copy = none) ∧ (∀ p : PlaneId, (s.f.plane p).st.fill = false ∧ (s.f.plane p).st.past = false ∧
      (s.f.plane p).fwd.metBad = false ∧ (s.f.plane p).host.tellRole = false ∧ ((s.f.plane p).st.takes = true → (s.f.plane p).st.inbox = [] ∧
        (s.f.plane p).host.admitted = [] ∧ (s.f.plane p).st.sleep = none ∧ (after (s.f.plane p)).fwd.metBad = false ∧
        (after (s.f.plane p)).host.tellRole = false)) ∧ (∀ p : PlaneId, (s.f.plane p).st.auths = []) ∧
        (let q := s.f.plane .B; (s.f.plane .B).st.takes = true ∧ ((q.tlist 17).any (fun x => q.idleDue x.1 t) = true))) ∧
   (let s : State := tickOn (fun q => (ent 17 4095 [(0, 1, 1)] q).onFwd (fun f => { f with doipEnd := [4095] }))
    let sh : Shingle := numbered State.reset.f.e.merger tickSh
    let e : Eaves := s.f.e.at 0
    let t : Nat := tickOf sh
    let after : Plane → Plane := fun q => ((q.popHead sh).atTick sh).releaseAll
    (dueShingle e = some sh ∧ sh.utype = .tick ∧ s.f.copy = none) ∧ (∀ p : PlaneId, (s.f.plane p).st.fill = false ∧ (s.f.plane p).st.past = false ∧
      (s.f.plane p).fwd.metBad = false ∧ (s.f.plane p).host.tellRole = false ∧ ((s.f.plane p).st.takes = true → (s.f.plane p).st.inbox = [] ∧
        (s.f.plane p).host.admitted = [] ∧ (s.f.plane p).st.sleep = none ∧ (after (s.f.plane p)).fwd.metBad = false ∧
        (after (s.f.plane p)).host.tellRole = false)) ∧ (∀ p : PlaneId, (s.f.plane p).st.auths = []) ∧
        (let q := s.f.plane .B; (s.f.plane .B).st.takes = true ∧ (q.fwd.doipEnd ≠ []))) := by
  and_intros <;> first
    | (refine (fun x => ?_); cases x <;> decide)
    | decide

theorem test_met_TickEmission_3 :
   (let s : State := tickOn (fun q => (ent 17 4095 [(0, 1, 1)] q).onFwd (fun f => { f with postCut := true }))
    let sh : Shingle := numbered State.reset.f.e.merger tickSh
    let e : Eaves := s.f.e.at 0
    let t : Nat := tickOf sh
    let after : Plane → Plane := fun q => ((q.popHead sh).atTick sh).releaseAll
    (dueShingle e = some sh ∧ sh.utype = .tick ∧ s.f.copy = none) ∧ (∀ p : PlaneId, (s.f.plane p).st.fill = false ∧ (s.f.plane p).st.past = false ∧
      (s.f.plane p).fwd.metBad = false ∧ (s.f.plane p).host.tellRole = false ∧ ((s.f.plane p).st.takes = true → (s.f.plane p).st.inbox = [] ∧
        (s.f.plane p).host.admitted = [] ∧ (s.f.plane p).st.sleep = none ∧ (after (s.f.plane p)).fwd.metBad = false ∧
        (after (s.f.plane p)).host.tellRole = false)) ∧ (∀ p : PlaneId, (s.f.plane p).st.auths = []) ∧
        (let q := s.f.plane .B; (s.f.plane .B).st.takes = true ∧ (q.fwd.postCut = true))) ∧
   (let s : State := tickOn (fun q => (ent 17 4095 [(0, 1, 1)] q).onFwd (fun f => { f with cmds := [⟨2, 3, 6, 1, 4095, []⟩] }))
    let sh : Shingle := numbered State.reset.f.e.merger tickSh
    let e : Eaves := s.f.e.at 0
    let t : Nat := tickOf sh
    let after : Plane → Plane := fun q => ((q.popHead sh).atTick sh).releaseAll
    (dueShingle e = some sh ∧ sh.utype = .tick ∧ s.f.copy = none) ∧ (∀ p : PlaneId, (s.f.plane p).st.fill = false ∧ (s.f.plane p).st.past = false ∧
      (s.f.plane p).fwd.metBad = false ∧ (s.f.plane p).host.tellRole = false ∧ ((s.f.plane p).st.takes = true → (s.f.plane p).st.inbox = [] ∧
        (s.f.plane p).host.admitted = [] ∧ (s.f.plane p).st.sleep = none ∧ (after (s.f.plane p)).fwd.metBad = false ∧
        (after (s.f.plane p)).host.tellRole = false)) ∧ (∀ p : PlaneId, (s.f.plane p).st.auths = []) ∧
        (let q := s.f.plane .B; (s.f.plane .B).st.takes = true ∧ (hasCmds 2 q = true))) ∧
   (let s : State := tickOn (fun q => q)
    let sh : Shingle := numbered State.reset.f.e.merger tickSh
    let e : Eaves := s.f.e.at 0
    let t : Nat := tickOf sh
    let after : Plane → Plane := fun q => ((q.popHead sh).atTick sh).releaseAll
    (dueShingle e = some sh ∧ sh.utype = .tick ∧ s.f.copy = none) ∧ (∀ p : PlaneId, (s.f.plane p).st.fill = false ∧ (s.f.plane p).st.past = false ∧
      (s.f.plane p).fwd.metBad = false ∧ (s.f.plane p).host.tellRole = false ∧ ((s.f.plane p).st.takes = true → (s.f.plane p).st.inbox = [] ∧
        (s.f.plane p).host.admitted = [] ∧ (s.f.plane p).st.sleep = none ∧ (after (s.f.plane p)).fwd.metBad = false ∧
        (after (s.f.plane p)).host.tellRole = false)) ∧ (∀ p : PlaneId, (s.f.plane p).st.auths = []) ∧
        (let q := s.f.plane .B; (s.f.plane .B).st.takes = true ∧ (t % 1000 = 0))) ∧
   (let s : State := tickOn (fun q => (ent 17 4095 [(0, 1, 1)] (inTruss [(0x0D, tenSec [(1, [4]), (14, [1]), (56, leBytes 2 1)])] q)).onFwd (fun f => { f with offers := [(4095, (2, 99))] }))
    let sh : Shingle := numbered State.reset.f.e.merger tickSh
    let e : Eaves := s.f.e.at 0
    let t : Nat := tickOf sh
    let after : Plane → Plane := fun q => ((q.popHead sh).atTick sh).releaseAll
    (dueShingle e = some sh ∧ sh.utype = .tick ∧ s.f.copy = none) ∧ (∀ p : PlaneId, (s.f.plane p).st.fill = false ∧ (s.f.plane p).st.past = false ∧
      (s.f.plane p).fwd.metBad = false ∧ (s.f.plane p).host.tellRole = false ∧ ((s.f.plane p).st.takes = true → (s.f.plane p).st.inbox = [] ∧
        (s.f.plane p).host.admitted = [] ∧ (s.f.plane p).st.sleep = none ∧ (after (s.f.plane p)).fwd.metBad = false ∧
        (after (s.f.plane p)).host.tellRole = false)) ∧ (∀ p : PlaneId, (s.f.plane p).st.auths = []) ∧
        (let q := s.f.plane .B; (s.f.plane .B).st.takes = true ∧ (babbles true q t = true))) ∧
   (let s : State := tickOn (fun q => ent 17 4095 [(0, 1, 1), (33, 1, 1)] (inTruss [(0x0D, tenSec [(1, [4]), (14, [1]), (56, leBytes 2 1)])] q))
    let sh : Shingle := numbered State.reset.f.e.merger tickSh
    let e : Eaves := s.f.e.at 0
    let t : Nat := tickOf sh
    let after : Plane → Plane := fun q => ((q.popHead sh).atTick sh).releaseAll
    (dueShingle e = some sh ∧ sh.utype = .tick ∧ s.f.copy = none) ∧ (∀ p : PlaneId, (s.f.plane p).st.fill = false ∧ (s.f.plane p).st.past = false ∧
      (s.f.plane p).fwd.metBad = false ∧ (s.f.plane p).host.tellRole = false ∧ ((s.f.plane p).st.takes = true → (s.f.plane p).st.inbox = [] ∧
        (s.f.plane p).host.admitted = [] ∧ (s.f.plane p).st.sleep = none ∧ (after (s.f.plane p)).fwd.metBad = false ∧
        (after (s.f.plane p)).host.tellRole = false)) ∧ (∀ p : PlaneId, (s.f.plane p).st.auths = []) ∧
        (let q := s.f.plane .B; (s.f.plane .B).st.takes = true ∧ (babbles false q t = true))) ∧
   (let s : State := tickOn (fun q => q)
    let sh : Shingle := numbered State.reset.f.e.merger tickSh
    let e : Eaves := s.f.e.at 0
    let t : Nat := tickOf sh
    let after : Plane → Plane := fun q => ((q.popHead sh).atTick sh).releaseAll
    (dueShingle e = some sh ∧ sh.utype = .tick ∧ s.f.copy = none) ∧ (∀ p : PlaneId, (s.f.plane p).st.fill = false ∧ (s.f.plane p).st.past = false ∧
      (s.f.plane p).fwd.metBad = false ∧ (s.f.plane p).host.tellRole = false ∧ ((s.f.plane p).st.takes = true → (s.f.plane p).st.inbox = [] ∧
        (s.f.plane p).host.admitted = [] ∧ (s.f.plane p).st.sleep = none ∧ (after (s.f.plane p)).fwd.metBad = false ∧
        (after (s.f.plane p)).host.tellRole = false)) ∧ (∀ p : PlaneId, (s.f.plane p).st.auths = []) ∧
        (let q := s.f.plane .B; (s.f.plane .B).st.takes = true ∧ (t % 100 = 0))) ∧
   (let s : State := tickOn (fun q => let q := ent 17 4095 [(0, 1, 1)] (inTruss [(5, patch (List.replicate 64 0) [(0, [1])]), (0x0D, tenSec [(52, leBytes 4 1)])] q); { q with nets := [(0, { Net.init with table := [(0, some ⟨1, 5, 4095, 9, false⟩)] })] })
    let sh : Shingle := numbered State.reset.f.e.merger tickSh
    let e : Eaves := s.f.e.at 0
    let t : Nat := tickOf sh
    let after : Plane → Plane := fun q => ((q.popHead sh).atTick sh).releaseAll
    (dueShingle e = some sh ∧ sh.utype = .tick ∧ s.f.copy = none) ∧ (∀ p : PlaneId, (s.f.plane p).st.fill = false ∧ (s.f.plane p).st.past = false ∧
      (s.f.plane p).fwd.metBad = false ∧ (s.f.plane p).host.tellRole = false ∧ ((s.f.plane p).st.takes = true → (s.f.plane p).st.inbox = [] ∧
        (s.f.plane p).host.admitted = [] ∧ (s.f.plane p).st.sleep = none ∧ (after (s.f.plane p)).fwd.metBad = false ∧
        (after (s.f.plane p)).host.tellRole = false)) ∧ (∀ p : PlaneId, (s.f.plane p).st.auths = []) ∧
        (let q := s.f.plane .B; (s.f.plane .B).st.takes = true ∧ (t % 100 = 0 ∧
        (List.range (netCount q.truss)).any (fun i => (Net.accrue (netOf q i)).table.any (fun x => match x.2 with | some h => q.holdDue h | none => false)) = true))) := by
  and_intros <;> first
    | (refine (fun x => ?_); cases x <;> decide)
    | decide

theorem test_met_TickEmission_4 :
    let s : State := tickOn (fun q => inTruss [(0x0C, supSec [(0, [1]), (4, leBytes 4 1000)])] q)
    let sh : Shingle := numbered State.reset.f.e.merger tickSh
    let e : Eaves := s.f.e.at 0
    let t : Nat := tickOf sh
    let after : Plane → Plane := fun q => ((q.popHead sh).atTick sh).releaseAll
    (dueShingle e = some sh ∧ sh.utype = .tick ∧ s.f.copy = none) ∧ (∀ p : PlaneId, (s.f.plane p).st.fill = false ∧ (s.f.plane p).st.past = false ∧
      (s.f.plane p).fwd.metBad = false ∧ (s.f.plane p).host.tellRole = false ∧ ((s.f.plane p).st.takes = true → (s.f.plane p).st.inbox = [] ∧
        (s.f.plane p).host.admitted = [] ∧ (s.f.plane p).st.sleep = none ∧ (after (s.f.plane p)).fwd.metBad = false ∧
        (after (s.f.plane p)).host.tellRole = false)) ∧ (∀ p : PlaneId, (s.f.plane p).st.auths = []) ∧
        (let q := s.f.plane .B; (s.f.plane .B).st.takes = true ∧ (∃ k < q.supCount, ∃ d ≤ t, q.supDue k = some d)) := ⟨by decide, by refine (fun x => ?_); cases x <;> decide, by refine (fun x => ?_); cases x <;> decide, ⟨by decide, 0, by decide, _, by decide, rfl⟩⟩

theorem test_met_TickTables :
   (let x : WinCmd := ⟨0, 3, 2, 1, 65535, leBytes 64 7⟩
    x.cmd = 2 ∧ x.table ≠ 4 ∧ x.table ≠ 5 ∧ x.table ≠ 6 ∧ x.idx < 2 ^ 20) ∧
   (let q : Plane := (ent 9 47 [(0, 4, 2 ^ 18 - 1)] (Plane.init .A)).onFwd (fun f => { f with learns := [⟨7, 0x010203040506, 175, 0xFFFF⟩] })
    let c : Learn := ⟨7, 0x010203040506, 175, 0xFFFF⟩
    let i : Nat := 8 * macBucket q.macSeed 7 0x010203040506
    q.fwd.learns = [c] ∧ q.macFind c.fid c.mac = none ∧ q.macFree c.fid c.mac = some i ∧
      q.macCount c.port < bits ((q.portLearn c.port).u 0 4) 17 0 ∧ c.tenant = 0xFFFF) ∧
   (let q : Plane := ent 4 131071 [(0, 6, 77), (6, 2, 7), (14, 1, 1), (15, 1, 4)] (Plane.init .A)
    let i := 131071
    swf tabDef q.fwd.tab = true ∧ i < 2 ^ 20 ∧ macLearned (q.tget 4 i) = true ∧ 4 ≤ (q.tget 4 i).u 15 1) ∧
   (let q : Plane := ent 4 131071 [(0, 6, 77), (6, 2, 7), (14, 1, 1), (15, 1, 3)] (Plane.init .A)
    let i := 131071
    swf tabDef q.fwd.tab = true ∧ i < 2 ^ 20 ∧ macLearned (q.tget 4 i) = true ∧ (q.tget 4 i).u 15 1 < 4) ∧
   (let q : Plane := (ent 4 131071 [(0, 6, 77), (6, 2, 7), (14, 1, 1), (15, 1, 1)] (Plane.init .A)).onRegs (·.wr TBL_LEARN_VER 0x40000001)
    let v := (q.regs.rd TBL_LEARN_VER).toNat
    let i := 131071
    swf tabDef q.fwd.tab = true ∧ i < 2 ^ 20 ∧ macValid (q.tget 4 i) = true ∧ 2 ^ 30 < (v + 2 ^ 32 - (q.tget 4 i).u 8 4) % 2 ^ 32) ∧
   (let q : Plane := ent 17 4095 [(0, 1, 1)] (inTruss [(0x0D, tenSec [(12, leBytes 2 1)])] (Plane.init .A))
    let t : Nat := 100000
    let ten := 4095
    swf tabDef q.fwd.tab = true ∧ ten < 4096 ∧ (q.unbindCause ten t).isSome = true) ∧
   (let q : Plane := (ent 15 1023 [(0, 1, 2), (4, 2, 10)] (Plane.init .A)).setCb 1023 { CbSt.init with taken := true }
    let t : Nat := 100000
    let i := 1023
    q.cbDue i t = true) := by and_intros <;> decide

theorem test_met_TickWork :
   (let x : TpSess := tpOf 2 20 none (some 5)
    x.role ≠ 0) ∧
   (let x : TpSess := tpOf 4 20 (some 5) none
    x.role = 4 ∧ x.nxt < packets x.total) ∧
   (let l : Rec := Rec.ofBytes (patch (List.replicate 64 0) [(0, [2]), (6, [1]), (8, leBytes 4 7), (12, leBytes 4 12)])
    l.u 0 1 = 2 ∧ ((l.u 6 1 = 1 ∨ l.u 6 1 = 4)) ∧ 0 < l.u 8 4) ∧
   (let q : Plane := inTruss [(0x0C, supSec [(0, [1]), (2, leBytes 2 65535), (4, leBytes 4 1000)])] (Plane.init .A)
    let k : Nat := 0
    let i := 65535
    i ∈ q.supSigs k) ∧
   (let q : Plane := { (Plane.init .A) with thr := { Thr.init with pend := [⟨0, 0, 100000, true, [], [], none⟩, ⟨1, 0, 100001, true, [], [], none⟩] } }
    let t : Nat := 100000
    let sh : Shingle := tickSh
    let c : Cause := ⟨sh.ts, sh.stream, t⟩
    let x := (⟨1, 0, 100001, true, [], [], none⟩ : Contrib)
    x ∈ (q.resolveTick c).1.thr.pend) ∧
   (let x : WinCmd := ⟨1, 3, 2, 4, 65535, leBytes 8 7⟩
    x.table = 4) ∧
   (let q : Plane := ent 17 4095 [(0, 1, 1), (76, 4, 6), (84, 1, 1)] (inTruss [(0x0D, tenSec [(1, [4]), (14, [2]), (56, leBytes 2 5)])] (Plane.init .A))
    let ten := 4095
    ten < 4096 ∧ bit ((q.tplOf ten).u 1 1) 2 = true ∧ (q.tplOf ten).u 56 2 ≠ 0 ∧ (q.ctx ten).f 33 0 0 = 0 ∧
      (q.tplOf ten).u 56 2 < (q.ctx ten).u 76 4 ∧ (q.tplOf ten).u 14 1 ≤ (q.ctx ten).u 84 1 + 1) ∧
   (let q : Plane := ent 17 4095 [(0, 1, 1), (33, 1, 1), (76, 4, 2), (84, 1, 1)] (inTruss [(0x0D, tenSec [(1, [4]), (14, [2]), (56, leBytes 2 5)])] (Plane.init .A))
    let ten := 4095
    ten < 4096 ∧ bit ((q.tplOf ten).u 1 1) 2 = true ∧ (q.tplOf ten).u 56 2 ≠ 0 ∧ (q.ctx ten).f 33 0 0 = 1 ∧
      (q.ctx ten).u 76 4 ≤ (q.tplOf ten).u 56 2 / 2 ∧ (q.tplOf ten).u 14 1 ≤ (q.ctx ten).u 84 1 + 1) := by and_intros <;> decide

theorem test_met_UnitTakes_1 :
   (let s : State := headA (ccFrame 5) id
    let p : PlaneId := .A
    let sh : Shingle := ccFrame 5
    let q := s.f.plane p
    q.ready = true ∧ q.st.inbox = [sh] ∧ (s.f.plane p.other).st.inbox = [] ∧ (s.f.plane p.other).fwd.metBad = false ∧
      ((∀ x, (s.f.plane x).st.auths = [] ∧ (s.f.plane x).host.tellRole = false)) ∧ sh.isUnit = true ∧ sh.auth ≠ .pending ∧ q.waits sh = false) ∧
   (let s : State := headA (ccFrame 5) (ent 1 0 [(32, 1, 3)])
    let p : PlaneId := .A
    let sh : Shingle := ccFrame 5
    let q := s.f.plane p
    q.ready = true ∧ q.st.inbox = [sh] ∧ (s.f.plane p.other).st.inbox = [] ∧ (s.f.plane p.other).fwd.metBad = false ∧
      ((∀ x, (s.f.plane x).st.auths = [] ∧ (s.f.plane x).host.tellRole = false)) ∧ sh.isUnit = true ∧ sh.auth ≠ .pending ∧ q.waits sh = false ∧
        forThatcher q sh = true) ∧
   (let s : State := headA (j1939 0x18ECFF01 ([32, 20, 0, 3, 255, 0xCA, 0xFE, 0])) (assist3 [(0, [1, 1]), (4, [0xCA, 0xFE, 0, 0xFF])])
    let p : PlaneId := .A
    let sh : Shingle := j1939 0x18ECFF01 ([32, 20, 0, 3, 255, 0xCA, 0xFE, 0])
    let q := s.f.plane p
    q.ready = true ∧ q.st.inbox = [sh] ∧ (s.f.plane p.other).st.inbox = [] ∧ (s.f.plane p.other).fwd.metBad = false ∧
      ((∀ x, (s.f.plane x).st.auths = [] ∧ (s.f.plane x).host.tellRole = false)) ∧ sh.isUnit = true ∧ sh.auth ≠ .pending ∧ q.waits sh = false ∧
        (q.tpKind sh).isSome = true) ∧
   (let s : State := headA { ccFrame 5 with info := leBytes 8 (8 * 2 ^ 52 + 2 ^ 51 + 5) } (fun q => ent 1 0 [(32, 1, 1), (0, 1, 8)] (assist3 [] q))
    let p : PlaneId := .A
    let sh : Shingle := { ccFrame 5 with info := leBytes 8 (8 * 2 ^ 52 + 2 ^ 51 + 5) }
    let q := s.f.plane p
    q.ready = true ∧ q.st.inbox = [sh] ∧ (s.f.plane p.other).st.inbox = [] ∧ (s.f.plane p.other).fwd.metBad = false ∧
      ((∀ x, (s.f.plane x).st.auths = [] ∧ (s.f.plane x).host.tellRole = false)) ∧ sh.isUnit = true ∧ sh.auth ≠ .pending ∧ q.waits sh = false ∧
        forSegment q sh = true) ∧
   (let s : State := headA (j1939 0x18EC0102 ([19, 20, 0, 3, 255, 0xCA, 0xFE, 0])) (fun q => (assist3 [] q).onFwd (fun f => { f with tp := [{ tpOf 5 20 none (some 5) with sa := 1, da := 2 }] }))
    let p : PlaneId := .A
    let sh : Shingle := j1939 0x18EC0102 ([19, 20, 0, 3, 255, 0xCA, 0xFE, 0])
    let q := s.f.plane p
    let x := { tpOf 5 20 none (some 5) with sa := 1, da := 2 }
    let ctl := 19
    q.ready = true ∧ q.st.inbox = [sh] ∧ (s.f.plane p.other).st.inbox = [] ∧ (s.f.plane p.other).fwd.metBad = false ∧
      ((∀ x, (s.f.plane x).st.auths = [] ∧ (s.f.plane x).host.tellRole = false)) ∧ sh.isUnit = true ∧ sh.auth ≠ .pending ∧ q.waits sh = false ∧
        q.tpKind sh = some (.answer x ctl)) ∧
   (let s : State := headA { ccFrame 5 with body := [0x30, 0, 0] } (fun q => (assist3 [] q).onFwd (fun f => { f with tp := [{ tpOf 6 20 none (some 5) with entry := (0 : Rec).put 8 4 5 }] }))
    let p : PlaneId := .A
    let sh : Shingle := { ccFrame 5 with body := [0x30, 0, 0] }
    let q := s.f.plane p
    let x := { tpOf 6 20 none (some 5) with entry := (0 : Rec).put 8 4 5 }
    q.ready = true ∧ q.st.inbox = [sh] ∧ (s.f.plane p.other).st.inbox = [] ∧ (s.f.plane p.other).fwd.metBad = false ∧
      ((∀ x, (s.f.plane x).st.auths = [] ∧ (s.f.plane x).host.tellRole = false)) ∧ sh.isUnit = true ∧ sh.auth ≠ .pending ∧ q.waits sh = false ∧
        q.tpKind sh = some (.flow x)) ∧
   (let s : State := headA (j1939 0x18EC0102 ([16, 20, 0, 3, 255, 0xCA, 0xFE, 0])) (assist3 [(0, [1, 5]), (4, [0xCA, 0xFE, 0, 1])])
    let p : PlaneId := .A
    let sh : Shingle := j1939 0x18EC0102 ([16, 20, 0, 3, 255, 0xCA, 0xFE, 0])
    let q := s.f.plane p
    let r := Rec.ofBytes (patch (List.replicate 16 0) [(0, [1, 5]), (4, [0xCA, 0xFE, 0, 1])])
    q.ready = true ∧ q.st.inbox = [sh] ∧ (s.f.plane p.other).st.inbox = [] ∧ (s.f.plane p.other).fwd.metBad = false ∧
      ((∀ x, (s.f.plane x).st.auths = [] ∧ (s.f.plane x).host.tellRole = false)) ∧ sh.isUnit = true ∧ sh.auth ≠ .pending ∧ q.waits sh = false ∧
        q.tpKind sh = some (.rts r)) ∧
   (let s : State := headA { ccFrame 5 with body := [0x10, 20, 0, 1, 2, 3, 4, 5] } (assist3 [(0, [2, 1]), (4, leBytes 4 5)])
    let p : PlaneId := .A
    let sh : Shingle := { ccFrame 5 with body := [0x10, 20, 0, 1, 2, 3, 4, 5] }
    let q := s.f.plane p
    let r := Rec.ofBytes (patch (List.replicate 16 0) [(0, [2, 1]), (4, leBytes 4 5)])
    q.ready = true ∧ q.st.inbox = [sh] ∧ (s.f.plane p.other).st.inbox = [] ∧ (s.f.plane p.other).fwd.metBad = false ∧
      ((∀ x, (s.f.plane x).st.auths = [] ∧ (s.f.plane x).host.tellRole = false)) ∧ sh.isUnit = true ∧ sh.auth ≠ .pending ∧ q.waits sh = false ∧
        q.tpKind sh = some (.first r)) := by
  and_intros <;> first
    | (refine (fun x => ?_); cases x <;> decide)
    | decide

theorem test_met_UnitTakes_2 :
   (let s : State := headA (ccFrame 5) (ent 1 0 [(32, 1, 1), (35, 1, 1)])
    let p : PlaneId := .A
    let sh : Shingle := ccFrame 5
    let q := s.f.plane p
    q.ready = true ∧ q.st.inbox = [sh] ∧ (s.f.plane p.other).st.inbox = [] ∧ (s.f.plane p.other).fwd.metBad = false ∧
      ((∀ x, (s.f.plane x).st.auths = [] ∧ (s.f.plane x).host.tellRole = false)) ∧ sh.isUnit = true ∧ q.waits sh = true) ∧
   (let s : State := headA { ccFrame 5 with auth := .pending } (ent 1 0 [(32, 1, 1), (35, 1, 1)])
    let p : PlaneId := .A
    let sh : Shingle := { ccFrame 5 with auth := .pending }
    let q := s.f.plane p
    q.ready = true ∧ q.st.inbox = [sh] ∧ (s.f.plane p.other).st.inbox = [] ∧ (s.f.plane p.other).fwd.metBad = false ∧
      ((∀ x, (s.f.plane x).st.auths = [] ∧ (s.f.plane x).host.tellRole = false)) ∧ sh.isUnit = true ∧ sh.auth = .pending) ∧
   (let s : State := headA (Shingle.mk0 .ctrl 0 167 0 (ctrlRestart 255 15)) id
    let p : PlaneId := .A
    let sh : Shingle := Shingle.mk0 .ctrl 0 167 0 (ctrlRestart 255 15)
    let q := s.f.plane p
    q.ready = true ∧ q.st.inbox = [sh] ∧ (s.f.plane p.other).st.inbox = [] ∧ (s.f.plane p.other).fwd.metBad = false ∧
      ((∀ x, (s.f.plane x).st.auths = [] ∧ (s.f.plane x).host.tellRole = false)) ∧ sh.utype = .ctrl ∧ sh.ctrlCode = 3 ∧ sh.port < 168 ∧
        bytesAt sh.body 3 1 < 16 ∧ s.f.dump = none ∧ ((q.popHead sh).portRestarted sh).releaseAll.fwd.metBad = false) ∧
   (let s : State := headA (Shingle.mk0 .ctrl 0 151 0 ctrlLinkDown) (·.onFwd (fun f => { f with links := [(151, 3)], queues := [(8 * 151 + 7, [⟨0, ccFrame 5, 1, 1, 1, 0⟩])] }))
    let p : PlaneId := .A
    let sh : Shingle := Shingle.mk0 .ctrl 0 151 0 ctrlLinkDown
    let q := s.f.plane p
    let r := ((((q.popHead sh).portGone sh.port).slaveGone sh.port).unbindPort sh.port).releaseAll
    q.ready = true ∧ q.st.inbox = [sh] ∧ (s.f.plane p.other).st.inbox = [] ∧ (s.f.plane p.other).fwd.metBad = false ∧
      ((∀ x, (s.f.plane x).st.auths = [] ∧ (s.f.plane x).host.tellRole = false)) ∧ sh.utype = .ctrl ∧ sh.ctrlCode = 2 ∧ isEthT1s sh.port = true ∧
        r.fwd.metBad = false) := by
  and_intros <;> first
    | (refine (fun x => ?_); cases x <;> decide)
    | decide

theorem test_met_UnitEffects :
   (let q : Plane := Plane.init .A
    let sh : Shingle := { ccFrame 5 with gen := 1 }
    q.stale sh = true) ∧
   (let q : Plane := Plane.init .A
    let t : Nat := 4095
    (q.ctx t).u 0 1 = 0) ∧
   (let q : Plane := ent 17 4095 [(0, 1, 1), (33, 1, 1), (112, 4, 0xFFFFFFFF)] (Plane.init .A)
    let t : Nat := 4095
    (q.ctx t).u 0 1 ≠ 0 ∧ (q.ctx t).f 33 0 0 = 1) ∧
   (let q : Plane := ent 17 4095 [(0, 1, 1), (6, 2, 0xFFFF)] (Plane.init .A)
    let r : Rec := (0 : Rec).put 36 2 0xFFFF
    let t : Nat := 4095
    q.authHandle r t = 0xFFFF) ∧
   (let q : Plane := Plane.init .A
    q.fwd.tp = []) ∧
   (let sh : Shingle := { ccFrame 5 with body := [0x32, 0, 0] }
    let x : TpSess := tpOf 6 20 none (some 5)
    2 ≤ bytesAt sh.body (asLead x.entry).length 1 % 16) ∧
   (let q : Plane := assist3 [(0, [1, 2]), (4, [0xCA, 0xFE, 0, 0xFF])] (Plane.init .A)
    let sh : Shingle := { ccFrame 5 with body := [0xCA, 0xFE, 0, 0, 1, 0xFF, 1, 6] ++ List.replicate 20 9 }
    let slot : Nat := 3
    let r : Rec := Rec.ofBytes (patch (List.replicate 16 0) [(0, [1, 2]), (4, [0xCA, 0xFE, 0, 0xFF])])
    bytesAt sh.body 6 1 ≠ 3 ∧ bytesAt sh.body 5 1 = 0xFF ∧ q.j1939Entry slot (bits (bytesAt sh.body 0 4) 17 0) 0xFF asTx = some r ∧
      sh.utype = .canCC ∧ persCan (q.pers slot) = true ∧ q.fwd.tp = []) := by and_intros <;> decide

theorem test_met_HostAdmission_1 :
   (let s : State := duo (fun f => { f with h := { f.h with toDev := [(3, msgOf 7 4 5 [1])] } })
    let p : PlaneId := .B
    let h : HalfId := .HB
    let m : RMsg := msgOf 7 4 5 [1]
    (s.f.h.toDev.find? (fun x => x.1 = pairNo h p) = some (pairNo h p, m))) ∧
   (let s : State := duo (fun f => { f with a := { f.a with host := { f.a.host with held := [⟨(msgOf 7 4 5 []).receipt 0, some (msgOf 7 4 5 []), none, 0, false⟩] } }, b := { f.b with host := { f.b.host with receipts := [(msgOf 7 4 5 []).receipt 0] } } })
    let p : PlaneId := .A
    let q := s.f.plane p
    let r : Receipt := (msgOf 7 4 5 []).receipt 0
    let rest : List Receipt := []
    let x : Held := ⟨(msgOf 7 4 5 []).receipt 0, some (msgOf 7 4 5 []), none, 0, false⟩
    (s.f.plane p.other).host.receipts = r :: rest ∧ (q.host.held.find? (fun y => y.hdr.same r) = some x) ∧ x.hdr = r ∧ x.copy.isSome = true ∧
      x.asked = false) ∧
   (let s : State := duo (fun f => { f with b := { f.b with host := { f.b.host with asks := [((msgOf 7 4 5 []).receipt 0, false)] } } })
    let p : PlaneId := .B
    let q := s.f.plane p
    let r : Receipt := (msgOf 7 4 5 []).receipt 0
    let rest : List (Receipt × Bool) := []
    q.host.asks = (r, false) :: rest ∧ (s.f.e.role p).running = true) ∧
   (let s : State := headA (Shingle.mk0 .host 0 175 0 ((msgOf 7 11 5 []).receipt 0).header) (fun q => let q := inTruss [(0x14, hostsSec)] q; { q with host := { q.host with held := [⟨(msgOf 7 11 5 []).receipt 0, some (msgOf 7 11 5 [4, 1, 0, 0]), none, 0, true⟩] } })
    let p : PlaneId := .A
    let q := s.f.plane p
    let sh : Shingle := Shingle.mk0 .host 0 175 0 ((msgOf 7 11 5 []).receipt 0).header
    let m : RMsg := msgOf 7 11 5 [4, 1, 0, 0]
    let w : SeqWin := ⟨0, 0⟩
    q.ready = true ∧ q.st.inbox = [sh] ∧ (s.f.plane p.other).st.inbox = [] ∧ ((∀ x, (s.f.plane x).st.auths = [] ∧
      (s.f.plane x).fwd.metBad = false)) ∧ m.cls ≠ clsMode ∧ m.cls ≠ clsJournal ∧ sh.utype = .host ∧ bytesAt sh.body 0 1 % 16 ≠ 0 ∧
        bodyFor q (sh.port - 168) (bytesAt sh.body 0 1 % 16) (bytesAt sh.body 1 3 % 4096) (bytesAt sh.body 5 4) = some m ∧
        (sget (fun _ => 0) q.st.gens sh.port = sh.gen) ∧ hostClass m.cls m.posted = true ∧ lengthOk m = true ∧ q.qpMay m.ep m.tenant m.cls = true ∧
        (SeqWin.admitSeq (sget (fun _ => none) q.host.seqs m.tenant) m.seq = some w)) ∧
   (let s : State := duo (fun f => { f with e := { f.e with counter := 50001 }, a := { f.a with host := { f.a.host with held := [⟨(msgOf 7 4 5 []).receipt 0, some (msgOf 7 4 5 []), none, 0, false⟩] } } })
    let p : PlaneId := .A
    let q := s.f.plane p
    let ep : Fin 8 := 7
    let tenant : Fin 4096 := 5
    let seq : Nat := 0
    let x : Held := ⟨(msgOf 7 4 5 []).receipt 0, some (msgOf 7 4 5 []), none, 0, false⟩
    let m : RMsg := msgOf 7 4 5 []
    s.f.e.roleA.running = true ∧ s.f.e.roleB.running = true ∧ ((∀ a, ∀ y ∈ (s.f.plane a).host.held, y.receipt = none)) ∧
      (q.host.held.find? (fun y => y.hdr.ep = ep.val ∧ y.hdr.tenant = tenant.val ∧ y.hdr.seq = seq) = some x) ∧ x.copy = some m ∧ x.asked = false ∧
        x.since + 50000 < s.f.e.counter) ∧
   (let s : State := duo (fun f => { f with a := { f.a with st := { f.a.st with up := [candOf 127 0 (ccFrame 5)] } } })
    let p : PlaneId := .A
    let q := s.f.plane p
    let c : Cand := candOf 127 0 (ccFrame 5)
    let rest : List Cand := []
    q.st.up = c :: rest ∧ s.f.e.mode ≠ .safe ∧ c.digest = none ∧ holdBytes s.f.e + Cand.bytes c < 0x400000) ∧
   (let s : State := headA (Shingle.mk0 .host 0 175 0 ((msgOf 7 0 5 []).receipt 0).header) (inTruss [(0x14, hostsSec)])
    let p : PlaneId := .A
    let q := s.f.plane p
    let ep : Fin 8 := 7
    let sh : Shingle := Shingle.mk0 .host 0 175 0 ((msgOf 7 0 5 []).receipt 0).header
    s.f.e.leader = some p ∧ q.st.takes = true ∧ q.st.inbox = [sh] ∧ isHbFor ep.val sh = true ∧ q.epUp ep.val = false ∧
      (s.f.plane p.other).st.inbox = [] ∧ ((∀ x, (s.f.plane x).st.auths = [] ∧ (s.f.plane x).fwd.metBad = false))) ∧
   (let s : State := duo id
    s.f.e.roleA.running = true ∧ s.f.e.roleB.running = true) := by
  and_intros <;> first
    | (refine (fun x => ?_); cases x <;> decide)
    | decide

theorem test_met_HostAdmission_2 :
   (let s : State := duo (fun f => { f with a := { f.a with host := { f.a.host with admitted := [msgOf 7 4 5 ([0, 0, 0, 8, 0, 0, 0, 0] ++ leBytes 8 (8 * 2 ^ 52 + 5) ++ List.replicate 8 1)] } } })
    let q : Plane := s.f.a
    (.A ∈ s.f.actors 7 5 4 9 saysAny)) ∧
   (let s : State := duo (fun f => { f with a := { f.a with host := { f.a.host with admitted := [msgOf 7 5 5 ([0, 0, 8, 0, 0, 0, 0, 0] ++ leBytes 16 3)] } } })
    let q : Plane := s.f.a
    (.A ∈ s.f.actors 7 5 5 9 saysAny)) ∧
   (let s : State := duo id
    (s.f.phase = 0) ∧ (s.f.e.leader.isSome = true) ∧ (s.f.e.shadow.isSome = true) ∧ ((s.f.e.src (planeSrc .B 8)).live = false)) := by and_intros <;> decide

theorem test_met_RidgePairs :
   (let s : State := duoH id
    let h : HalfId := .HB
    s.f.h.halfRun h = true) ∧
   (let s : State := duo (fun f => { f with b := { f.b with host := { f.b.host with pairsUp := [(1, true)] } } })
    let h : HalfId := .HB
    let p : PlaneId := .B
    (sget (fun _ => false) (s.f.plane p).host.pairsUp h.num = true) ∧ lostAt (s.f.plane p.other) h = none) ∧
   (let s : State := duoH id
    let h : HalfId := .HB
    s.f.h.running = true) ∧
   (let s : State := duoH hbRunning
    let h : HalfId := .HB
    let p : PlaneId := .B
    let toHost : Bool := true
    s.f.h.pairUp h p = true ∧ linkCredit s.f toHost h p 0 (creditCost 16) = true) ∧
   (let s : State := let s := duoH (fun h => { h with hbFly := [(6, [⟨false, 1, 0, 128, 0, 0, 0⟩])] }); { s with f := { s.f with b := inTruss [(0x14, hostsSec)] s.f.b } }
    let h : HalfId := .HB
    let p : PlaneId := .B
    let hb : HbSeen := ⟨false, 1, 0, 128, 0, 0, 0⟩
    let rest : List HbSeen := []
    (sget (fun _ => []) s.f.h.hbFly (flyKey false h p) = hb :: rest)) ∧
   (let s : State := duoH (fun h => { h with hbFly := [(7, [⟨false, 1, 2, 5, 7, 100, 0⟩])] })
    let h : HalfId := .HB
    let p : PlaneId := .B
    let hb : HbSeen := ⟨false, 1, 2, 5, 7, 100, 0⟩
    let rest : List HbSeen := []
    (sget (fun _ => []) s.f.h.hbFly (flyKey true h p) = hb :: rest)) := by and_intros <;> decide

theorem test_met_RidgeQueues :
   (let s : State := duoH (fun h => { h with hb := [(3, ⟨false, 1, 2, 5, 7, 100, 9⟩)], tracked := [⟨7, 5, 9, 2⟩], proxies := [(4 * 7 + 3, some ⟨1, 9, 0⟩)] })
    let h : HalfId := .HB
    let d := s.f.h
    let gen : Nat := 7
    gen = (if (d.hbOf h .B).since ≤ (d.hbOf h .A).since then (d.hbOf h .A).dgen else (d.hbOf h .B).dgen) ∧
      ((∃ ep ∈ halfEps h, d.rd ep EP_DGEN ≠ BitVec.ofNat 32 gen))) ∧
   (let s : State := duoH (fun h => let h := { hbRunning h with regs := [] }; (((((((h.set 7 EP_QP_COUNT_COUNT 256).set 7 (QP_CTL_ENABLE 255) 1).set 7 (QP_SQ_SIZE_ENTRIES 255) 4096).set 7 (QP_SQ_HEAD_HEAD 255) 4095).set 7 (QP_INFO_CLASSES 255) 0xFFFF).set 7 (QP_INFO_TENANT 255) 5).set 7 EP_STAT_FIELD 2)) |> (fun s => { s with f := { s.f with a := inTruss [(0x14, hostsSec)] s.f.a } })
    let h : HalfId := .HB
    let d := s.f.h
    let ep : Fin 8 := 7
    let q : Fin 256 := 255
    let cls : Nat := 4
    let len : Nat := 8
    let may := bit (d.get ep.val (QP_INFO_CLASSES q.val)) cls = true ∧ (cls = 2 ∨ cls = 4 ∨ cls = 5 ∨ 8 ≤ cls) ∧ len ≤ 9600
    d.halfRun (halfOf ep.val) = true ∧ q.val < d.get ep.val EP_QP_COUNT_COUNT ∧ d.get ep.val (QP_CTL_ENABLE q.val) = 1 ∧
      d.get ep.val (QP_SQ_HEAD_HEAD q.val) ≠ d.get ep.val (QP_SQ_TAIL_TAIL q.val) ∧ d.get ep.val EP_STAT_FIELD ≠ 3 ∧ may ∧
        halfCredit d s.f.lead ep.val cls len = true) ∧
   (let s : State := duoH (fun h => let h := { hbRunning h with regs := [] }; (((((((h.set 7 EP_QP_COUNT_COUNT 256).set 7 (QP_CTL_ENABLE 255) 1).set 7 (QP_SQ_SIZE_ENTRIES 255) 4096).set 7 (QP_SQ_HEAD_HEAD 255) 4095).set 7 (QP_INFO_CLASSES 255) 0xFFFF).set 7 (QP_INFO_TENANT 255) 5).set 7 EP_STAT_FIELD 2))
    let h : HalfId := .HB
    let d := s.f.h
    let ep : Fin 8 := 7
    let q : Fin 256 := 255
    let cls : Nat := 4
    let len : Nat := 9601
    let may := bit (d.get ep.val (QP_INFO_CLASSES q.val)) cls = true ∧ (cls = 2 ∨ cls = 4 ∨ cls = 5 ∨ 8 ≤ cls) ∧ len ≤ 9600
    d.halfRun (halfOf ep.val) = true ∧ q.val < d.get ep.val EP_QP_COUNT_COUNT ∧ d.get ep.val (QP_CTL_ENABLE q.val) = 1 ∧
      d.get ep.val (QP_SQ_HEAD_HEAD q.val) ≠ d.get ep.val (QP_SQ_TAIL_TAIL q.val) ∧ d.get ep.val EP_STAT_FIELD ≠ 3 ∧ ¬may) ∧
   (let s : State := duoH (fun h => let h := (((h.set 7 EP_QP_COUNT_COUNT 1).set 7 (QP_INFO_TENANT 0) 5).set 7 (QP_CTL_ENABLE 0) 1).set 7 (QP_RQ_TAIL_TAIL 0) 3; { h with toHost := [msgOf 7 4 5 [1, 2]] })
    let h : HalfId := .HB
    let d := s.f.h
    let ep : Fin 8 := 7
    let q : Nat := 0
    let m : RMsg := msgOf 7 4 5 [1, 2]
    (d.toHost.find? (fun m => m.ep = ep.val ∧ proxyFor d m = false) = some m) ∧ d.qpOfTenant ep.val m.tenant = some q) ∧
   (let s : State := duoH hbRunning |> (fun s => { s with f := { s.f with b := { s.f.b with host := { s.f.b.host with owed := [(16 * 7 + 4, 3)] } } } })
    let h : HalfId := .HB
    let p : PlaneId := .B
    let d := s.f.h
    let l := owedOf (s.f.plane p).host.owed 0 256 h
    d.pairUp h p = true ∧ l ≠ [] ∧ linkCredit s.f true h p 1 (creditCost (8 * l.length)) = true) ∧
   (let s : State := duoH (fun h => { h with credFly := [(6, [[(16 * 7 + 4, 3)]])] }) |> (fun s => { s with f := { s.f with b := { s.f.b with host := { s.f.b.host with used := [(16 * 7 + 4, 5)] } } } })
    let h : HalfId := .HB
    let p : PlaneId := .B
    let d := s.f.h
    let l : List (Nat × Nat) := [(16 * 7 + 4, 3)]
    let rest : List (List (Nat × Nat)) := []
    (sget (fun _ => []) d.credFly (flyKey false h p) = l :: rest)) ∧
   (let s : State := duoH hbRunning |> (fun s => { s with f := { s.f with a := let q := inTruss [(0x14, hostsSec)] s.f.a; { q with host := { q.host with out := [msgOf 7 3 5 [1, 2]] } } } })
    let h : HalfId := .HB
    let p : PlaneId := .A
    let d := s.f.h
    let m : RMsg := msgOf 7 3 5 [1, 2]
    d.pairUp h p = true ∧ (s.f.plane p).host.direct = [] ∧ ((s.f.plane p).host.out.find? (fun m => halfOf m.ep = h) = some m) ∧
      creditOk (s.f.plane p).host.used 0 m.ep m.cls (creditCost m.body.length) ((s.f.plane p).bulkShare m.ep) = true ∧ (d.hbOf h p).role = 1 ∧
        m.seq = d.nextOf m.ep m.cls ∧ s.f.e.sel.skips (168 + m.ep) m.cause = false ∧ (s.f.plane p).st.newT = false ∧
        d.proxyOld.contains (m.ep, m.tag) = false) := by and_intros <;> decide

theorem test_met_RidgeBridge_1 :
   (let s : State := duoH (fun h => let h := hbRunning h; { h with toHost := [msgOf 7 3 5 [2, 0, 0, 0, 0, 0, 0, 0]], proxyTenant := [(7, 5)], proxies := [(31, some ⟨1, 9, 0⟩)] })
    let d := s.f.h
    let ep : Fin 8 := 7
    let c : Fin 4 := 3
    let b : ProxyBusy := ⟨1, 9, 0⟩
    let m : RMsg := msgOf 7 3 5 [2, 0, 0, 0, 0, 0, 0, 0]
    (sget (fun _ => none) d.proxies (4 * ep.val + c.val) = some b) ∧ (d.toHost.find? (fun m => m.ep = ep.val ∧ m.tag = b.tag ∧
      m.tenant = sget (fun _ => 0) d.proxyTenant ep.val) = some m)) ∧
   (let s : State := duoH (fun h => let h := hbRunning h; { h with proxyTag := 4, proxyTenant := [(7, 5)], proxies := [(31, some ⟨1, 9, 0⟩)] })
    let d := s.f.h
    let ep : Fin 8 := 7
    let c : Fin 4 := 3
    let b : ProxyBusy := ⟨1, 9, 0⟩
    (sget (fun _ => none) d.proxies (4 * ep.val + c.val) = some b) ∧ d.waiting = []) ∧
   (let s : State := duoH (fun h => ((hbRunning h).set 7 (BULK_CTL_FREE 3) 1).set 7 (BULK_CTL_LENGTH 3) 9601)
    let d := s.f.h
    let ep : Fin 8 := 7
    let c : Fin 4 := 3
    d.halfRun (halfOf ep.val) = true ∧ d.epExists ep.val = true ∧ d.get ep.val (BULK_CTL_FREE c.val) = 1 ∧
      9600 < d.get ep.val (BULK_CTL_LENGTH c.val) ∧ d.get ep.val (BULK_CTL_KIND c.val) < 2) ∧
   (let s : State := duoH (fun h => ((hbRunning h).set 7 (BULK_CTL_FREE 3) 1).set 7 (BULK_CTL_LENGTH 3) 16) |> (fun s => { s with f := { s.f with a := inTruss [(0x14, hostsSec)] s.f.a } })
    let d := s.f.h
    let ep : Fin 8 := 7
    let c : Fin 4 := 3
    d.halfRun (halfOf ep.val) = true ∧ d.epExists ep.val = true ∧ d.get ep.val (BULK_CTL_FREE c.val) = 1 ∧
      d.get ep.val (BULK_CTL_LENGTH c.val) ≤ 9600 ∧ d.get ep.val (BULK_CTL_KIND c.val) = 0 ∧ d.waiting = [] ∧ d.get ep.val EP_STAT_FIELD ≠ 3 ∧
        halfCredit d s.f.lead ep.val 7 (d.get ep.val (BULK_CTL_LENGTH c.val)) = true) ∧
   (let s : State := duo (fun f => { f with a := let q := inTruss [(0x14, hostsSec)] f.a; { q with host := { q.host with admitted := [msgOf 7 11 5 [4, 63, 0, 0]], epUp := [(7, true)], sema := [] } } })
    let p : PlaneId := .A
    let ep : Fin 8 := 7
    let i : Fin 64 := 63
    let q := s.f.plane p
    q.epUp ep.val = true ∧ q.st.sends = true ∧ q.st.past = false ∧ q.partner ep.val = none ∧ semaAt q i.val = none) ∧
   (let s : State := duo (fun f => { f with a := let q := inTruss [(0x14, hostsSec)] f.a; { q with host := { q.host with admitted := [msgOf 7 11 5 [4, 63, 0, 0]], epUp := [(7, true)], sema := [(63, some ⟨3, false, 1⟩)] } } })
    let p : PlaneId := .A
    let ep : Fin 8 := 7
    let tenant : Fin 4096 := 5
    let i : Fin 64 := 63
    let q := s.f.plane p
    let me := semaOf q ep.val tenant.val
    let x := (⟨3, false, 1⟩ : Sema)
    q.epUp ep.val = true ∧ q.st.sends = true ∧ q.st.past = false ∧ q.partner ep.val = none ∧ semaAt q i.val = some x ∧ x ≠ me) ∧
   (let s : State := duo (fun f => { f with a := let q := inTruss [(0x14, hostsSec)] f.a; { q with host := { q.host with admitted := [msgOf 7 11 5 [4, 63, 0, 0]], epUp := [(7, true)], sema := [(63, some ⟨7, false, 5⟩)] } } })
    let p : PlaneId := .A
    let ep : Fin 8 := 7
    let tenant : Fin 4096 := 5
    let i : Fin 64 := 63
    let q := s.f.plane p
    let me := semaOf q ep.val tenant.val
    q.epUp ep.val = true ∧ q.st.sends = true ∧ q.st.past = false ∧ q.partner ep.val = none ∧ semaAt q i.val = some me) ∧
   (let s : State := duo (fun f => { f with a := let q := inTruss [(0x14, hostsSec)] f.a; { q with host := { q.host with admitted := [msgOf 7 11 5 [4, 63, 0, 0]], epUp := [(7, true)], sema := [] } } })
    let p : PlaneId := .A
    let ep : Fin 8 := 7
    let q := s.f.plane p
    q.epUp ep.val = true ∧ q.st.sends = true ∧ q.st.past = false ∧ q.partner ep.val = none) := by and_intros <;> decide

theorem test_met_RidgeBridge_2 :
   (let s : State := duoH (fun h => let h := (hbRunning h).set 7 EP_STAT_FIELD 2; { h with proxyTag := 4, proxyTenant := [(7, 5)], proxies := [] }) |> (fun s => { s with f := { s.f with a := inTruss [(0x14, hostsSec)] s.f.a } })
    let d : HostDie := s.f.h
    let ep : Fin 8 := 7
    let c : Fin 4 := 3
    (d.halfRun (halfOf ep.val) = true) ∧ (d.epExists ep.val = true) ∧ (sget (fun _ => none) d.proxies (4 * ep.val + c.val) = none) ∧
      (d.waiting = []) ∧ (d.get ep.val EP_STAT_FIELD ≠ 3) ∧ (halfCredit d s.f.lead ep.val 2 ((proxyReq d ep.val c.val 1) : List Byte).length = true)) ∧
   (let s : State := duoH (fun h => let h := (hbRunning h).set 7 EP_STAT_FIELD 2; { h with proxyTag := 4, proxyTenant := [(7, 5)], proxies := [], used := [(16 * 7 + 2, 10 ^ 9), (16 * 7 + 2 + 256, 10 ^ 9)] }) |> (fun s => { s with f := { s.f with a := inTruss [(0x14, hostsSec)] s.f.a } })
    let d : HostDie := s.f.h
    let ep : Fin 8 := 7
    let c : Fin 4 := 3
    (d.halfRun (halfOf ep.val) = true) ∧ (d.epExists ep.val = true) ∧ (sget (fun _ => none) d.proxies (4 * ep.val + c.val) = none) ∧
      (d.waiting = []) ∧ (d.get ep.val EP_STAT_FIELD ≠ 3) ∧ (halfCredit d s.f.lead ep.val 2 ((proxyReq d ep.val c.val 1) : List Byte).length = false)) ∧
   (let s : State := duoH (fun h => let h := (hbRunning h).set 7 EP_STAT_FIELD 2; { h with proxyTag := 4, proxyTenant := [(7, 5)], proxies := [(31, some ⟨1, 9, 0⟩)] })
    let d : HostDie := s.f.h
    let ep : Fin 8 := 7
    let c : Fin 4 := 3
    let b : ProxyBusy := ⟨1, 9, 0⟩
    (d.halfRun (halfOf ep.val) = true) ∧ (d.epExists ep.val = true) ∧ (sget (fun _ => none) d.proxies (4 * ep.val + c.val) = some b)) ∧
   (let s : State := duoH (fun h => let h := (hbRunning h).set 7 EP_STAT_FIELD 2; { h with proxyTag := 4, proxyTenant := [(7, 5)], proxies := [] }) |> (fun s => { s with f := { s.f with a := inTruss [(0x14, hostsSec)] s.f.a } })
    let d : HostDie := s.f.h
    let ep : Fin 8 := 7
    let c : Fin 4 := 3
    (d.halfRun (halfOf ep.val) = true) ∧ (d.epExists ep.val = true) ∧ (sget (fun _ => none) d.proxies (4 * ep.val + c.val) = none) ∧
      (d.waiting = []) ∧ (d.get ep.val EP_STAT_FIELD ≠ 3) ∧
        (halfCredit d s.f.lead ep.val 2 ((proxyReq d ep.val c.val 2 ++ (List.range (d.get ep.val (PROXY_COUNT_COUNT c.val))).flatMap (fun i => leBytes 4 (d.rd ep.val (PROXY_DATA c.val i)).toNat)) : List Byte).length = true)) ∧
   (let s : State := duoH (fun h => let h := (hbRunning h).set 7 EP_STAT_FIELD 2; { h with proxyTag := 4, proxyTenant := [(7, 5)], proxies := [], used := [(16 * 7 + 2, 10 ^ 9), (16 * 7 + 2 + 256, 10 ^ 9)] }) |> (fun s => { s with f := { s.f with a := inTruss [(0x14, hostsSec)] s.f.a } })
    let d : HostDie := s.f.h
    let ep : Fin 8 := 7
    let c : Fin 4 := 3
    (d.halfRun (halfOf ep.val) = true) ∧ (d.epExists ep.val = true) ∧ (sget (fun _ => none) d.proxies (4 * ep.val + c.val) = none) ∧
      (d.waiting = []) ∧ (d.get ep.val EP_STAT_FIELD ≠ 3) ∧
        (halfCredit d s.f.lead ep.val 2 ((proxyReq d ep.val c.val 2 ++ (List.range (d.get ep.val (PROXY_COUNT_COUNT c.val))).flatMap (fun i => leBytes 4 (d.rd ep.val (PROXY_DATA c.val i)).toNat)) : List Byte).length = false)) ∧
   (let s : State := duoH (fun h => let h := (hbRunning h).set 7 EP_STAT_FIELD 2; { h with proxyTag := 4, proxyTenant := [(7, 5)], proxies := [(31, some ⟨1, 9, 0⟩)] })
    let d : HostDie := s.f.h
    let ep : Fin 8 := 7
    let c : Fin 4 := 3
    let b : ProxyBusy := ⟨1, 9, 0⟩
    (d.halfRun (halfOf ep.val) = true) ∧ (d.epExists ep.val = true) ∧ (sget (fun _ => none) d.proxies (4 * ep.val + c.val) = some b)) ∧
   (let s : State := duoH (fun h => let h := (hbRunning h).set 7 EP_STAT_FIELD 2; { h with proxyTag := 4, proxyTenant := [(7, 5)], proxies := [] }) |> (fun s => { s with f := { s.f with a := inTruss [(0x14, hostsSec)] s.f.a } })
    let d : HostDie := s.f.h
    let ep : Fin 8 := 7
    let c : Fin 4 := 3
    (d.halfRun (halfOf ep.val) = true) ∧ (d.epExists ep.val = true) ∧ (sget (fun _ => none) d.proxies (4 * ep.val + c.val) = none) ∧
      (d.waiting = []) ∧ (d.get ep.val EP_STAT_FIELD ≠ 3) ∧
        (halfCredit d s.f.lead ep.val 11 ((leBytes 1 1 ++ leBytes 1 (d.get ep.val (PROXY_ADDR_ADDR c.val) % 64) ++ leBytes 2 0) : List Byte).length = true)) ∧
   (let s : State := duoH (fun h => let h := (hbRunning h).set 7 EP_STAT_FIELD 2; { h with proxyTag := 4, proxyTenant := [(7, 5)], proxies := [], used := [(16 * 7 + 11, 10 ^ 9), (16 * 7 + 11 + 256, 10 ^ 9)] }) |> (fun s => { s with f := { s.f with a := inTruss [(0x14, hostsSec)] s.f.a } })
    let d : HostDie := s.f.h
    let ep : Fin 8 := 7
    let c : Fin 4 := 3
    (d.halfRun (halfOf ep.val) = true) ∧ (d.epExists ep.val = true) ∧ (sget (fun _ => none) d.proxies (4 * ep.val + c.val) = none) ∧
      (d.waiting = []) ∧ (d.get ep.val EP_STAT_FIELD ≠ 3) ∧
        (halfCredit d s.f.lead ep.val 11 ((leBytes 1 1 ++ leBytes 1 (d.get ep.val (PROXY_ADDR_ADDR c.val) % 64) ++ leBytes 2 0) : List Byte).length = false)) := by and_intros <;> decide

theorem test_met_RidgeBridge_3 :
   (let s : State := duoH (fun h => let h := (hbRunning h).set 7 EP_STAT_FIELD 2; { h with proxyTag := 4, proxyTenant := [(7, 5)], proxies := [(31, some ⟨1, 9, 0⟩)] })
    let d : HostDie := s.f.h
    let ep : Fin 8 := 7
    let c : Fin 4 := 3
    let b : ProxyBusy := ⟨1, 9, 0⟩
    (d.halfRun (halfOf ep.val) = true) ∧ (d.epExists ep.val = true) ∧ (sget (fun _ => none) d.proxies (4 * ep.val + c.val) = some b)) ∧
   (let s : State := duoH (fun h => let h := (hbRunning h).set 7 EP_STAT_FIELD 2; { h with proxyTag := 4, proxyTenant := [(7, 5)], proxies := [] }) |> (fun s => { s with f := { s.f with a := inTruss [(0x14, hostsSec)] s.f.a } })
    let d : HostDie := s.f.h
    let ep : Fin 8 := 7
    let c : Fin 4 := 3
    (d.halfRun (halfOf ep.val) = true) ∧ (d.epExists ep.val = true) ∧ (sget (fun _ => none) d.proxies (4 * ep.val + c.val) = none) ∧
      (d.waiting = []) ∧ (d.get ep.val EP_STAT_FIELD ≠ 3) ∧
        (halfCredit d s.f.lead ep.val 11 ((leBytes 1 2 ++ leBytes 1 (d.get ep.val (PROXY_ADDR_ADDR c.val) % 64) ++ leBytes 2 0) : List Byte).length = true)) ∧
   (let s : State := duoH (fun h => let h := (hbRunning h).set 7 EP_STAT_FIELD 2; { h with proxyTag := 4, proxyTenant := [(7, 5)], proxies := [], used := [(16 * 7 + 11, 10 ^ 9), (16 * 7 + 11 + 256, 10 ^ 9)] }) |> (fun s => { s with f := { s.f with a := inTruss [(0x14, hostsSec)] s.f.a } })
    let d : HostDie := s.f.h
    let ep : Fin 8 := 7
    let c : Fin 4 := 3
    (d.halfRun (halfOf ep.val) = true) ∧ (d.epExists ep.val = true) ∧ (sget (fun _ => none) d.proxies (4 * ep.val + c.val) = none) ∧
      (d.waiting = []) ∧ (d.get ep.val EP_STAT_FIELD ≠ 3) ∧
        (halfCredit d s.f.lead ep.val 11 ((leBytes 1 2 ++ leBytes 1 (d.get ep.val (PROXY_ADDR_ADDR c.val) % 64) ++ leBytes 2 0) : List Byte).length = false)) ∧
   (let s : State := duoH (fun h => let h := (hbRunning h).set 7 EP_STAT_FIELD 2; { h with proxyTag := 4, proxyTenant := [(7, 5)], proxies := [(31, some ⟨1, 9, 0⟩)] })
    let d : HostDie := s.f.h
    let ep : Fin 8 := 7
    let c : Fin 4 := 3
    let b : ProxyBusy := ⟨1, 9, 0⟩
    (d.halfRun (halfOf ep.val) = true) ∧ (d.epExists ep.val = true) ∧ (sget (fun _ => none) d.proxies (4 * ep.val + c.val) = some b)) := by and_intros <;> decide

theorem test_met_MergerEmission :
   (let s : State := duo (fun f => { f with e := { (dueE (ccFrame 5) f.e) with counter := 0 } })
    let dt : Nat := 999
    let e := s.f.e.at dt
    dueShingle e = none) ∧
   (let s : State := duo (fun f => { f with e := { (dueE (ccFrame 5) f.e) with counter := 0 } })
    let dt : Nat := 1000
    let e := s.f.e.at dt
    let sh : Shingle := numbered State.reset.f.e.merger (ccFrame 5)
    dueShingle e = some sh ∧ sh.isUnit = true ∧ e.seqr.p1At = none ∧ ((∀ p, (s.f.plane p).st.fill = false ∧ (s.f.plane p).st.auths = [] ∧
      (s.f.plane p).fwd.metBad = false ∧ ((s.f.plane p).st.takes = true → (s.f.plane p).st.inbox = [])))) := by
  and_intros <;> first
    | (refine (fun x => ?_); cases x <;> decide)
    | decide

theorem test_met_EavesAccesses :
   (let s : State := duo (fun f => { f with e := { f.e with sel := { f.e.sel with next := [(256, 7)] } }, a := { f.a with st := { f.a.st with accs := [⟨7, ⟨7, 5, false⟩, FLUE_SEL, some 2047, 0, none⟩], sent := [⟨7, ⟨7, 5, false⟩, FLUE_SEL, some 2047, 0, none⟩] } } })
    let p : PlaneId := .A
    let a : EavesAcc := ⟨7, ⟨7, 5, false⟩, FLUE_SEL, some 2047, 0, none⟩
    s.f.e.leader = some p ∧ (s.f.plane p).st.accs = [a] ∧ s.f.e.sel.nextOf 256 = a.oseq ∧ a.oseq < 2 ^ 32 ∧ a.time = none ∧
      s.f.e.merger.stopped = false ∧ ((accessStale s.f.e a = true ∨ a.val = none ∨ a.addr = FLUE_SEL))) ∧
   (let s : State := headA (Shingle.mk0 .ctrl 0 256 0 (ctrlRegRead 0 8 FLUE_SEL 0x12345678 7)) (fun q => let q := inTruss [(0x14, hostsSec)] q; { q with host := { q.host with epUp := [(7, true)] }, st := { q.st with sent := [⟨7, ⟨8, 5, false⟩, FLUE_SEL, some 5, 0, none⟩], jobs := [] } })
    let p : PlaneId := .A
    let sh : Shingle := Shingle.mk0 .ctrl 0 256 0 (ctrlRegRead 0 8 FLUE_SEL 0x12345678 7)
    let a : EavesAcc := ⟨7, ⟨8, 5, false⟩, FLUE_SEL, some 5, 0, none⟩
    let q := s.f.plane p
    q.ready = true ∧ q.st.inbox = [sh] ∧ (s.f.plane p.other).st.inbox = [] ∧ ((∀ b, (s.f.plane b).st.auths = [] ∧
      (s.f.plane b).fwd.metBad = false)) ∧ sh.utype = .ctrl ∧ sh.ctrlCode = 4 ∧
        (q.st.sent.find? (fun a => a.oseq = bytesAt sh.body 12 4) = some a) ∧ a.val.isSome = true ∧ a.who.init = 8 ∧ q.st.jobs = []) ∧
   (let s : State := headA (Shingle.mk0 .ctrl 0 256 0 (ctrlRegRead 0 7 DEVICE_MODE 0x12345678 7)) (fun q => let q := inTruss [(0x14, hostsSec)] q; { q with host := { q.host with epUp := [(7, true)] }, st := { q.st with sent := [⟨7, ⟨7, 5, false⟩, DEVICE_MODE, none, 0, none⟩], jobs := [⟨⟨7, 5, false⟩, 7, 9, false, DEVICE_MODE, DEVICE_MODE, 1, [], [], true⟩] } })
    let p : PlaneId := .A
    let sh : Shingle := Shingle.mk0 .ctrl 0 256 0 (ctrlRegRead 0 7 DEVICE_MODE 0x12345678 7)
    let a : EavesAcc := ⟨7, ⟨7, 5, false⟩, DEVICE_MODE, none, 0, none⟩
    let q := s.f.plane p
    let j : MgmtJob := ⟨⟨7, 5, false⟩, 7, 9, false, DEVICE_MODE, DEVICE_MODE, 1, [], [], true⟩
    q.ready = true ∧ q.st.inbox = [sh] ∧ (s.f.plane p.other).st.inbox = [] ∧ ((∀ b, (s.f.plane b).st.auths = [] ∧
      (s.f.plane b).fwd.metBad = false)) ∧ sh.utype = .ctrl ∧ sh.ctrlCode = 4 ∧
        (q.st.sent.find? (fun a => a.oseq = bytesAt sh.body 12 4) = some a) ∧ a.who.init = j.ep ∧ a.val = none ∧ a.addr = j.next ∧ j.ep < 8 ∧
        q.st.jobs = [j] ∧ j.waiting = true ∧ j.left = 1 ∧ j.isWrite = false ∧ bytesAt sh.body 2 1 = 0 ∧ q.epUp j.ep = true ∧ q.partner j.ep = none ∧
        q.st.sends = true) ∧
   (let s : State := duo (fun f => { f with e := { f.e with posted := [(0x20000, some (PWR_ALARM_LO, 0xFFFFFFFF))] } })
    let k : Fin 7 := 1
    let a : Nat := PWR_ALARM_LO
    let v : Word := 0xFFFFFFFF
    let r : RegRow := rowE (PWR_ALARM_LO)
    k.val ≠ 2 ∧ (sget (fun _ => none) s.f.e.posted (postedBlock k.val) = some (a, v)) ∧ s.f.e.rowOf a = some r) ∧
   (let s : State := duo (fun f => { f with e := { f.e with seqr := { f.e.seqr with calNew := some (5, 6, 7, 8) } } })
    let k : Fin 7 := 2
    let cal : Nat := 5
    let trim : Nat := 6
    let setAt : Nat := 7
    let err : Nat := 8
    k.val = 2 ∧ s.f.e.seqr.calNew = some (cal, trim, setAt, err)) ∧
   (let s : State := solo id
    s.f.e.shadow = none) ∧
   (let s : State := duo id
    let p : PlaneId := .A
    s.f.e.leader = some p ∧ timeStale s.f.e (s.f.plane p) = 0) ∧
   (let s : State := solo id
    let upset : Fin 256 := 255
    let p : PlaneId := .A
    upset ≠ 0 ∧ (s.f.plane p).st.takes = true ∧ (s.f.plane p.other).st.takes = false ∧ (s.f.plane p).st.tick % 10 = 0) ∧
   (let s : State := duo (fun f => { f with e := { f.e with sel := { f.e.sel with next := [(256, 7)] }, gens := [(128, 1)] }, a := { f.a with st := { f.a.st with accs := [⟨7, ⟨7, 5, false⟩, 0x200004, some 5, 0, none⟩], sent := [⟨7, ⟨7, 5, false⟩, 0x200004, some 5, 0, none⟩] } } })
    let a : EavesAcc := ⟨7, ⟨7, 5, false⟩, 0x200004, some 5, 0, none⟩
    (accessStale s.f.e a = true)) := by
  and_intros <;> first
    | (intro x; cases x <;> decide)
    | decide

theorem test_met_HostRequests :
   (let s : State := duoP (fun q => let q := reqIn 7 2 5 (mgmtB 1 FLUE_SEL []) (inTruss [(0x14, hostsSec)] q); { q with st := { q.st with jobs := [⟨⟨7, 5, false⟩, 7, 9, false, DEVICE_MODE, DEVICE_MODE, 1, [], [], true⟩] } })
    let ep : Fin 8 := 7
    let tenant : Fin 4096 := 5
    let tag : Nat := 9
    let p : PlaneId := .A
    let q := s.f.plane p
    let at_ := fun (a : Nat) (wr : Option (List Word)) => s.f.actors ep.val tenant.val clsMgmtReq tag (saysMgmt a 1 wr)
    let a : Nat := FLUE_SEL
    a < addrSpan ∧ p ∈ at_ a none ∧ s.f.e.leader = some p ∧ (nextJob q ep.val).isSome = true) ∧
   (let s : State := duoP (fun q => reqIn 7 2 5 (mgmtB 1 (SW_Q_SEL) ([])) (inTruss [(0x14, hostsSec)] q))
    let ep : Fin 8 := 7
    let tenant : Fin 4096 := 5
    let tag : Nat := 9
    let p : PlaneId := .A
    let q := s.f.plane p
    let at_ := fun (a : Nat) (wr : Option (List Word)) => s.f.actors ep.val tenant.val clsMgmtReq tag (saysMgmt a 1 wr)
    let a : Nat := SW_Q_SEL
    let r : RegRow := rowE SW_Q_SEL
    s.f.e.leader = some p ∧ q.epUp ep.val = true ∧ q.st.sends = true ∧ q.partner ep.val = none ∧ nextJob q ep.val = none ∧ a < addrSpan ∧
      a % 4 = 0 ∧ inEaves a = false ∧ q.rowOf a = some r ∧ r.guard = false ∧ r.snap = 0 ∧ p ∈ at_ a none) ∧
   (let s : State := duoP (fun q => reqIn 7 2 5 (mgmtB 1 (DEVICE_MODE) ([])) (inTruss [(0x14, hostsSec)] q))
    let ep : Fin 8 := 7
    let tenant : Fin 4096 := 5
    let tag : Nat := 9
    let p : PlaneId := .A
    let q := s.f.plane p
    let at_ := fun (a : Nat) (wr : Option (List Word)) => s.f.actors ep.val tenant.val clsMgmtReq tag (saysMgmt a 1 wr)
    let a : Nat := DEVICE_MODE
    s.f.e.leader = some p ∧ q.epUp ep.val = true ∧ q.st.sends = true ∧ q.partner ep.val = none ∧ nextJob q ep.val = none ∧ a < addrSpan ∧
      a % 4 = 0 ∧ inEaves a = true ∧ p ∈ at_ a none) ∧
   (let s : State := duoP (fun q => reqIn 7 2 5 (mgmtB 2 (FLUE_SEL) (leBytes 4 5)) (inTruss [(0x14, hostsSec)] q))
    let ep : Fin 8 := 7
    let tenant : Fin 4096 := 5
    let tag : Nat := 9
    let p : PlaneId := .A
    let q := s.f.plane p
    let at_ := fun (a : Nat) (wr : Option (List Word)) => s.f.actors ep.val tenant.val clsMgmtReq tag (saysMgmt a 1 wr)
    let a : Nat := FLUE_SEL
    let v : Word := 5
    s.f.e.leader = some p ∧ q.epUp ep.val = true ∧ q.st.sends = true ∧ q.partner ep.val = none ∧ nextJob q ep.val = none ∧ a < addrSpan ∧
      a % 4 = 0 ∧ inEaves a = true ∧ p ∈ at_ a (some [v])) ∧
   (let s : State := duoP (fun q => reqIn 7 2 5 (mgmtB 2 (SW_Q_SEL) (leBytes 4 0xFFFFFFFF)) (inTruss [(0x14, hostsSec)] q))
    let ep : Fin 8 := 7
    let tenant : Fin 4096 := 5
    let tag : Nat := 9
    let p : PlaneId := .A
    let q := s.f.plane p
    let at_ := fun (a : Nat) (wr : Option (List Word)) => s.f.actors ep.val tenant.val clsMgmtReq tag (saysMgmt a 1 wr)
    let v : Word := 0xFFFFFFFF
    s.f.e.leader = some p ∧ q.epUp ep.val = true ∧ q.st.sends = true ∧ q.partner ep.val = none ∧ nextJob q ep.val = none ∧ p ∈ at_ SW_Q_SEL (some [v])) ∧
   (let s : State := duoP (fun q => reqIn 7 2 5 (mgmtB 1 (SW_Q_SEL + 2) ([])) (inTruss [(0x14, hostsSec)] q))
    let ep : Fin 8 := 7
    let tenant : Fin 4096 := 5
    let tag : Nat := 9
    let p : PlaneId := .A
    let q := s.f.plane p
    let at_ := fun (a : Nat) (wr : Option (List Word)) => s.f.actors ep.val tenant.val clsMgmtReq tag (saysMgmt a 1 wr)
    let a : Nat := SW_Q_SEL + 2
    s.f.e.leader = some p ∧ q.epUp ep.val = true ∧ q.st.sends = true ∧ q.partner ep.val = none ∧ nextJob q ep.val = none ∧ a < addrSpan ∧
      inEaves a = false ∧ (a % 4 ≠ 0 ∨ q.rowOf a = none) ∧ p ∈ at_ a none) ∧
   (let s : State := duoP (fun q => reqIn 7 2 5 (mgmtB 2 (SW_Q_SEL + 2) (leBytes 4 3)) (inTruss [(0x14, hostsSec)] q))
    let ep : Fin 8 := 7
    let tenant : Fin 4096 := 5
    let tag : Nat := 9
    let p : PlaneId := .A
    let q := s.f.plane p
    let at_ := fun (a : Nat) (wr : Option (List Word)) => s.f.actors ep.val tenant.val clsMgmtReq tag (saysMgmt a 1 wr)
    let a : Nat := SW_Q_SEL + 2
    let v : Word := 3
    s.f.e.leader = some p ∧ q.epUp ep.val = true ∧ q.st.sends = true ∧ q.partner ep.val = none ∧ nextJob q ep.val = none ∧ a < addrSpan ∧
      inEaves a = false ∧ (a % 4 ≠ 0 ∨ q.rowOf a = none) ∧ p ∈ at_ a (some [v])) := by and_intros <;> decide

theorem test_met_SingleAccesses_1 :
   (let s : State := duo id
    let a : Fin 536870912 := Fin.ofNat _ (2 ^ 28)
    addrSpan ≤ a.val) ∧
   (let s : State := duo id
    let init : Fin 11 := 10
    let a : Fin 536870912 := Fin.ofNat _ (FLUE_SEL + 3)
    a.val < addrSpan ∧ shutOut s init = true) ∧
   (let s : State := duoP (fun q => reqIn 7 2 5 (mgmtB 2 (FLUE_SEL) (leBytes 4 5)) (inTruss [(0x14, hostsSec)] q))
    let init : Fin 11 := 7
    let tenant : Fin 4096 := 5
    let a : Fin 536870912 := Fin.ofNat _ FLUE_SEL
    let v : Word := 5
    let ep : Fin 8 := 7
    let tag : Nat := 9
    a.val < addrSpan ∧ init.val = ep.val ∧ wordTag s.f ep.val tenant.val (saysMgmt a.val 1 (some [v])) = some tag) ∧
   (let s : State := duo id
    let init : Fin 11 := 9
    8 ≤ init.val ∧ shutOut s init = false) ∧
   (let s : State := duo id
    let init : Fin 11 := 9
    let tenant : Fin 4096 := 4095
    let secure : Bool := false
    let w := initiator init tenant secure
    let a : Fin 536870912 := Fin.ofNat _ FLUE_FORCE
    let r : RegRow := rowE FLUE_FORCE
    8 ≤ init.val ∧ shutOut s init = false ∧ inEaves a.val = true ∧ a.val % 4 = 0 ∧ s.f.e.rowOf a.val = some r ∧ r.guard = true ∧
      authorised s.f w = false) ∧
   (let s : State := duo id
    let init : Fin 11 := 9
    let a : Fin 536870912 := Fin.ofNat _ (FLUE_SEL + 3)
    8 ≤ init.val ∧ shutOut s init = false ∧ inEaves a.val = true ∧ a.val % 4 ≠ 0) ∧
   (let s : State := duo id
    let init : Fin 11 := 9
    let a : Fin 268435456 := Fin.ofNat _ DEVICE_STREAM_LO
    let r : RegRow := rowE DEVICE_STREAM_LO
    8 ≤ init.val ∧ shutOut s init = false ∧ inEaves a.val = true ∧ a.val % 4 = 0 ∧ s.f.e.rowOf a.val = some r ∧ r.guard = false ∧
      windowBusy s.f.e init.val a.val = false ∧ r.snap = 1) ∧
   (let s : State := duo id
    let init : Fin 11 := 9
    let a : Fin 268435456 := Fin.ofNat _ DEVICE_STREAM_HI
    let r : RegRow := rowE DEVICE_STREAM_HI
    8 ≤ init.val ∧ shutOut s init = false ∧ inEaves a.val = true ∧ a.val % 4 = 0 ∧ s.f.e.rowOf a.val = some r ∧ r.guard = false ∧
      windowBusy s.f.e init.val a.val = false ∧ r.snap = 2 ∧ tagged s.f.e.snaps init.val a.val = none) := by and_intros <;> decide

theorem test_met_SingleAccesses_2 :
   (let s : State := duo id
    let init : Fin 11 := 9
    let a : Fin 268435456 := Fin.ofNat _ (PWR_ALARM_LO)
    let r : RegRow := rowE (PWR_ALARM_LO)
    8 ≤ init.val ∧ shutOut s init = false ∧ inEaves a.val = true ∧ a.val % 4 = 0 ∧ s.f.e.rowOf a.val = some r ∧ r.pw = true ∧ r.guard = false ∧
      s.f.e.postBusy (postBase a.val) = false) ∧
   (let s : State := duo (fun f => { f with e := { f.e with posted := [(0x20000, some (PWR_ALARM_LO, 1))] } })
    let init : Fin 11 := 9
    let a : Fin 268435456 := Fin.ofNat _ (PWR_ALARM_LO)
    let r : RegRow := rowE (PWR_ALARM_LO)
    8 ≤ init.val ∧ shutOut s init = false ∧ inEaves a.val = true ∧ a.val % 4 = 0 ∧ s.f.e.rowOf a.val = some r ∧ r.pw = true ∧ r.guard = false ∧
      s.f.e.postBusy (postBase a.val) = true) ∧
   (let s : State := duo id
    let init : Fin 11 := 9
    let tenant : Fin 4096 := 4095
    let secure : Bool := true
    let w := initiator init tenant secure
    let acting := fun (a : Nat) (v : Word) => if init.val < 8 then match wordTag s.f init.val tenant.val (saysMgmt a 1 (some [v])) with | some tag => s.f.actors init.val tenant.val clsMgmtReq tag (saysMgmt a 1 (some [v])) | none => [] else if shutOut s init then [] else runners s.f
    let p : PlaneId := .A
    let v : Word := 7
    s.f.e.leader = some p ∧ (s.f.plane p).hasSession w.guardAs = true ∧ nextJob (s.f.plane p) init.val = none ∧ p ∈ acting TRUSS_CUT_AT_LO v) ∧
   (let s : State := duo id
    let init : Fin 11 := 9
    let tenant : Fin 4096 := 4095
    let secure : Bool := true
    let w := initiator init tenant secure
    let acting := fun (a : Nat) (v : Word) => if init.val < 8 then match wordTag s.f init.val tenant.val (saysMgmt a 1 (some [v])) with | some tag => s.f.actors init.val tenant.val clsMgmtReq tag (saysMgmt a 1 (some [v])) | none => [] else if shutOut s init then [] else runners s.f
    let p : PlaneId := .A
    let v : Word := 7
    s.f.e.leader = some p ∧ (s.f.plane p).hasSession w.guardAs = true ∧ nextJob (s.f.plane p) init.val = none ∧ p ∈ acting (TRUSS_CUT_AT_LO + 4) v) := by and_intros <;> decide

theorem test_met_StateDump :
   (let s : State := duo (fun f => { f with e := f.e.onRegs (·.set 0 DEVICE_DUMP_CTL_SCOPE 511) })
    s.f.dump = none) ∧
   (let s : State := duo (fun f => { f with dump := some ⟨7, 5, 9, 511, 0, 0, 0, 0, 0, false⟩ })
    s.f.dump.isSome = true) ∧
   (let s : State := duo id
    s.f.dump = none) ∧
   (let s : State := duo (fun f => { f with a := { f.a with host := { f.a.host with out := [msgOf 7 3 5 []] } }, dump := some ⟨7, 5, 9, 511, 0, 0, 0, 0, 0, false⟩ })
    let d : Dump := ⟨7, 5, 9, 511, 0, 0, 0, 0, 0, false⟩
    s.f.dump = some d ∧ dumpWaits s.f d = true) ∧
   (let s : State := duo (fun f => { f with a := reqIn 7 0 0 [] (inTruss [(0x14, hostsSec)] f.a), dump := some ⟨7, 5, 9, 511, 0, 0, 0, 0, 0, false⟩ })
    let d : Dump := ⟨7, 5, 9, 511, 0, 0, 0, 0, 0, false⟩
    let p : PlaneId := .A
    let q := s.f.plane p
    let x := ((dumpSec 511 dumpRuns 0).getD ⟨0, false, 0, 0, 0, .regs⟩)
    s.f.dump = some d ∧ dumpWaits s.f d = false ∧ s.f.e.leader = some p ∧ q.st.takes = true ∧ q.st.sends = true ∧ q.epUp d.ep = true ∧
      q.partner d.ep = none ∧ d.aborting = false ∧ dumpSec d.scope dumpRuns d.sect = some x) ∧
   (let s : State := duo (fun f => { f with a := reqIn 7 0 0 [] (inTruss [(0x14, hostsSec)] f.a), dump := some ⟨7, 5, 9, 511, 0, 0, 7, 64, 0, true⟩ })
    let d : Dump := ⟨7, 5, 9, 511, 0, 0, 7, 64, 0, true⟩
    let p : PlaneId := .A
    let q := s.f.plane p
    s.f.dump = some d ∧ dumpWaits s.f d = false ∧ s.f.e.leader = some p ∧ q.st.takes = true ∧ q.st.sends = true ∧ q.epUp d.ep = true ∧
      q.partner d.ep = none ∧ (d.aborting = true ∨ dumpSec d.scope dumpRuns d.sect = none)) := by and_intros <;> decide

theorem test_met_Staging :
   (let s : State := duo id
    let tenant : Fin 4096 := 4095
    let f := s.f
    let c : Instr := .turnStart tenant true
    let cold : Bool := true
    f.lead.hasSession tenant.val = false ∧ noTruss f = false ∧
      ((c = .trussOpen tenant ∨ c = .trussVerify tenant ∨ c = .trussDiscard tenant ∨ c = .floorCommit tenant ∨ c = .turnStart tenant cold ∨ c = .turnAbort tenant))) ∧
   (let s : State := duo (fun f => withSess 4095 3 (withRec 1 0 f))
    let tenant : Fin 4096 := 4095
    let f := s.f
    (f.lead.hasSession tenant.val = true ∨ noTruss f = true) ∧ stagingOk f = true) ∧
   (let s : State := solo (fun f => withSess 4095 3 (withRec 1 0 f))
    let tenant : Fin 4096 := 4095
    let f := s.f
    let c : Instr := .trussVerify tenant
    (f.lead.hasSession tenant.val = true ∨ noTruss f = true) ∧ stagingOk f = false ∧ ((c = .trussOpen tenant ∨ c = .trussVerify tenant))) ∧
   (let s : State := duo (fun f => withSess 4095 3 (withRec 4 0 f))
    let tenant : Fin 4096 := 4095
    let f := s.f
    (f.lead.hasSession tenant.val = true ∨ noTruss f = true) ∧ f.phase = 0) ∧
   (let s : State := duo (fun f => withSess 4095 3 (withRec 4 0 f))
    let tenant : Fin 4096 := 4095
    let f := s.f
    (f.lead.hasSession tenant.val = true ∨ noTruss f = true)) ∧
   (let s : State := duo (fun f => withRec 1 0 { f with b := reqIn 7 7 4095 (leBytes 8 33554304 ++ List.replicate 128 3) f.b })
    let tenant : Fin 4096 := 4095
    let f := s.f
    let ep : Fin 8 := 7
    let tag : Nat := 9
    let offset : Nat := 33554304
    let data : List Byte := List.replicate 128 3
    let p : PlaneId := .B
    ((noTruss f = true ∨ p ∈ f.actors ep.val tenant.val clsTruss tag (fun b => bytesAt b 0 4 = offset && decide (b.drop 8 = data)))) ∧
      offset % 64 = 0 ∧ offset + data.length ≤ 33554432 ∧ (f.plane p).nv.slotRec.otherState = 1) ∧
   (let s : State := duo (fun f => withRec 1 0 { f with b := reqIn 7 7 4095 (leBytes 8 33554368 ++ List.replicate 65 3) f.b })
    let tenant : Fin 4096 := 4095
    let f := s.f
    let ep : Fin 8 := 7
    let tag : Nat := 9
    let offset : Nat := 33554368
    let data : List Byte := List.replicate 65 3
    let p : PlaneId := .B
    ((noTruss f = true ∨ p ∈ f.actors ep.val tenant.val clsTruss tag (fun b => bytesAt b 0 4 = offset && decide (b.drop 8 = data)))) ∧
      offset < 2 ^ 32 ∧ (offset % 64 ≠ 0 ∨ 33554432 < offset + data.length ∨ (f.plane p).nv.slotRec.otherState ≠ 1)) ∧
   (let s : State := duo (withRec 2 0)
    let f := s.f
    f.lead.nv.slotRec.otherState = 2) := by and_intros <;> decide

theorem test_met_Turns :
   (let s : State := duo (fun f => withSess 4095 3 (withRec 1 0 f))
    let f := s.f
    let tenant : Fin 4096 := 4095
    let cold : Bool := true
    let d := 3
    f.lead.hasSession tenant.val = true ∧ turnRefusal f cold = some d) ∧
   (let s : State := duo (fun f => withSess 4095 3 (withRec 4 0 f))
    let p : PlaneId := .B
    let f := s.f
    let tenant : Fin 4096 := 4095
    let cold : Bool := true
    f.lead.hasSession tenant.val = true ∧ turnRefusal f cold = none ∧ f.e.role p = .shadow ∧ f.e.role p.other = .leading) ∧
   (let s : State := duo (fun f => withSess 4095 3 (turning 4 4 .shadow f))
    let p : PlaneId := .B
    let f := s.f
    let tenant : Fin 4096 := 4095
    f.lead.hasSession tenant.val = true ∧ f.turn.newPlane = some p ∧ f.e.role p.other = .leading ∧ f.e.role p ≠ .leading ∧ 1 ≤ f.phase ∧ f.phase ≤ 4) ∧
   (let s : State := duo (fun f => withSess 4095 3 (turning 5 4 .shadow f))
    let f := s.f
    let tenant : Fin 4096 := 4095
    f.lead.hasSession tenant.val = true ∧ 4 < f.phase) ∧
   (let s : State := duo (turning 1 1 .rejoining)
    let p : PlaneId := .B
    let f := s.f
    f.turn.newPlane = some p ∧ f.e.role p.other = .leading ∧ f.e.role p ≠ .leading ∧ f.phase = 1) ∧
   (let s : State := duo (turning 4 1 .rejoining)
    let p : PlaneId := .B
    let f := s.f
    f.turn.newPlane = some p ∧ f.e.role p.other = .leading ∧ f.e.role p ≠ .leading ∧ 1 ≤ f.phase ∧ f.phase ≤ 4) ∧
   (let s : State := duo (turning 2 3 .rejoining)
    let p : PlaneId := .B
    let f := s.f
    f.turn.newPlane = some p ∧ f.e.role p.other = .leading ∧ f.e.role p ≠ .leading ∧ f.phase = 2) ∧
   (let s : State := duo (turning 2 3 .rejoining)
    let p : PlaneId := .B
    let f := s.f
    let dt := 0
    f.turn.newPlane = some p ∧ f.e.role p.other = .leading ∧ f.e.role p ≠ .leading ∧ f.phase = 2 ∧
      f.turn.qualStart + (f.plane p).truss.qual * 1000000 ≤ (f.e.at dt).counter) ∧
   (let s : State := duo (fun f => let f := turning 3 5 .rejoining f; { f with h := hbRunning f.h })
    let p : PlaneId := .B
    let f := s.f
    f.turn.newPlane = some p ∧ f.e.role p.other = .leading ∧ f.e.role p ≠ .leading ∧ f.phase = 3 ∧ f.e.stageOf p = 5 ∧ (f.plane p).st.inbox = [] ∧
      f.h.pairUp .HA p = true ∧ f.h.pairUp .HB p = true) := by and_intros <;> decide

theorem test_met_DrainsAndReleases :
   (let s : State := duo (fun f => let f := turning 5 0 .shadow f; { f with e := { f.e with sel := { f.e.sel with hold := [{ candOf 127 0 (ccFrame 5) with src := .B }] } }, turn := { f.turn with drained := [] }, a := { f.a with st := { f.a.st with past := true }, fwd := { f.a.fwd with queues := [] } } })
    let p : PlaneId := .A
    let f := s.f
    let q := f.plane p
    let new := f.plane p.other
    let port : Fin 176 := 127
    f.e.leader = some p ∧ f.phase = 5 ∧ q.st.past = true ∧ new.st.me = p.other ∧ f.turn.drained.contains port.val = false ∧
      undrained q port.val = 0 ∧ ((∃ x < 176, x ≠ port.val ∧ f.turn.drained.contains x = false))) ∧
   (let s : State := duo (fun f => let f := turning 5 0 .shadow f; { f with e := { f.e with sel := { f.e.sel with hold := [] } }, turn := { f.turn with drained := (List.range 176).erase 127 }, a := { f.a with st := { f.a.st with past := true }, fwd := { f.a.fwd with queues := [] } } })
    let p : PlaneId := .A
    let f := s.f
    let q := f.plane p
    let new := f.plane p.other
    let port : Fin 176 := 127
    f.e.leader = some p ∧ f.phase = 5 ∧ q.st.past = true ∧ new.st.me = p.other ∧ f.turn.drained.contains port.val = false ∧
      undrained q port.val = 0 ∧ ((∀ x < 176, x ≠ port.val → f.turn.drained.contains x = true))) ∧
   (let s : State := duo (fun f => let f := turning 5 0 .shadow f; { f with e := { f.e with sel := { f.e.sel with hold := [] } }, turn := { f.turn with drained := [] }, a := { f.a with st := { f.a.st with past := true }, fwd := { f.a.fwd with queues := [(8 * 127, [⟨0, ccFrame 5, 1, 1, 1, 0⟩])] } } })
    let p : PlaneId := .A
    let f := s.f
    let q := f.plane p
    let new := f.plane p.other
    let port : Fin 176 := 127
    let dt := 0
    f.e.leader = some p ∧ f.phase = 5 ∧ q.st.past = true ∧ new.st.me = p.other ∧ f.turn.drained.contains port.val = false ∧
      0 < undrained q port.val ∧ f.turn.cutAt + new.truss.drain * 1000000 ≤ (f.e.at dt).steady (f.e.at dt).counter ∧ ((∃ x < 176, x ≠ port.val ∧
        f.turn.drained.contains x = false))) ∧
   (let s : State := duo (fun f => { f with a := f.a.onFwd (fun x => { x with queues := [(8 * 127, [⟨0, ccFrame 5, 1, 1, 1, 0⟩])] }) })
    let p : PlaneId := .A
    let f := s.f
    let q := f.plane p
    let n : Fin 128 := 127
    let u : QUnit := ⟨0, ccFrame 5, 1, 1, 1, 0⟩
    q.ready = true ∧ q.st.past = false ∧ q.st.sends = true ∧ q.queue (qkey n.val 0) = [u] ∧ (q.busOf n.val).ends = []) ∧
   (let s : State := duo (fun f => { f with a := f.a.onBus 127 (fun b => { b with ends := List.replicate 28 5 }) })
    let p : PlaneId := .A
    let f := s.f
    let q := f.plane p
    let n : Fin 128 := 127
    q.ready = true ∧ ((∀ x ∈ (q.busOf n.val).ends, q.std q.st.ts < x)) ∧ ((q.pers n.val ≠ 4 → 28 ≤ (q.busOf n.val).ends.length)) ∧ q.pers n.val ≠ 4) ∧
   (let s : State := duo (fun f => { f with a := f.a.onFwd (fun x => { x with links := [(151, 3)], queues := [(8 * 151 + 7, [⟨0, Shingle.mk0 .eth 0 151 0 (ethFrame 60 0x0800), 1, 1, 1, 0⟩])] }) })
    let p : PlaneId := .A
    let f := s.f
    let q := f.plane p
    let port : Fin 40 := 23
    let k : Nat := 7
    let u : QUnit := ⟨0, Shingle.mk0 .eth 0 151 0 (ethFrame 60 0x0800), 1, 1, 1, 0⟩
    let n := 128 + port.val
    let b := frameBytes u.sh.body.length
    k < 8 ∧ q.ready = true ∧ q.st.past = false ∧ q.st.sends = true ∧ (q.linkOf n).isSome = true ∧ q.msOn n = none ∧
      ((∀ j < 8, q.queue (qkey n j) = if j = k then [u] else [])) ∧ ((q.model n).runTo (q.modelCfg n) q.st.ts).bytes k < classLimit n ∧
        (q.modelCfg n).everFits k b = true) := by and_intros <;> decide

theorem test_met_KeyLifeCycle_1 :
   (let s : State := withOtp (otpLc 1) (duo (withSess 4095 2))
    let p : PlaneId := .A
    let tenant : Fin 4096 := 4095
    let f := s.f
    let q := f.plane p
    f.e.leader = some p ∧ q.st.takes = true ∧ q.hasRight tenant.val 0 = false) ∧
   (let s : State := withOtp { otpLc 1 with rootO := some [], digests := [(2, [])], retention := some 365 } (duo (withSess 4095 3))
    let p : PlaneId := .A
    let tenant : Fin 4096 := 4095
    let f := s.f
    let q := f.plane p
    let tgt : Fin 16 := 2
    let confirm : Fin 65536 := 0xC0DE
    f.e.leader = some p ∧ q.st.takes = true ∧ q.hasRight tenant.val 0 = true ∧ confirm.val = 0xC0DE ∧ lcAllowed s.otpA tgt.val = true) ∧
   (let s : State := withOtp (otpLc 1) (duo (withSess 4095 3))
    let p : PlaneId := .A
    let tenant : Fin 4096 := 4095
    let f := s.f
    let q := f.plane p
    let tgt : Fin 16 := 2
    let confirm : Fin 65536 := 0xC0DE
    f.e.leader = some p ∧ q.st.takes = true ∧ q.hasRight tenant.val 0 = true ∧ (confirm.val ≠ 0xC0DE ∨ lcAllowed s.otpA tgt.val = false)) ∧
   (let s : State := withOtp (otpLc 1) (duo (withSess 4095 3))
    let p : PlaneId := .A
    let tenant : Fin 4096 := 4095
    let f := s.f
    let q := f.plane p
    f.e.leader = some p ∧ q.st.takes = true ∧ q.hasRight tenant.val 0 = true) ∧
   (let s : State := withOtp { otpLc 3 with digests := [(2, []), (3, [])] } (duo (withSess 4095 3))
    let p : PlaneId := .A
    let tenant : Fin 4096 := 4095
    let f := s.f
    let q := f.plane p
    let k : Fin 4 := 3
    f.e.leader = some p ∧ q.st.takes = true ∧ q.hasRight tenant.val 0 = true ∧ slotsLeft s.otpA k.val ≠ [] ∧ s.otpA.revoked.contains k.val = false) ∧
   (let s : State := withOtp (otpLc 3) (duo (withSess 4095 3))
    let p : PlaneId := .A
    let tenant : Fin 4096 := 4095
    let f := s.f
    let q := f.plane p
    let k : Fin 4 := 3
    f.e.leader = some p ∧ q.st.takes = true ∧ q.hasRight tenant.val 0 = true ∧ slotsLeft s.otpA k.val = []) ∧
   (let s : State := provS 1 0 id
    let p : PlaneId := .A
    let f := s.f
    let q := f.plane p
    f.e.leader = some p ∧ q.st.takes = true ∧ provPending f 1 = true ∧ (s.otpA.lc ≠ 1 ∨ s.otpA.rootO.isSome = true)) ∧
   (let s : State := provS 1 1 id
    let p : PlaneId := .A
    let f := s.f
    let q := f.plane p
    f.e.leader = some p ∧ q.st.takes = true ∧ provPending f 1 = true ∧ s.otpA.lc = 1 ∧ s.otpA.rootO = none) := by and_intros <;> decide

theorem test_met_KeyLifeCycle_2 :
   (let s : State := provS 2 1 id
    let p : PlaneId := .A
    let f := s.f
    let q := f.plane p
    f.e.leader = some p ∧ q.st.takes = true ∧ provPending f 2 = true ∧ s.otpA.digests.any (·.1 = 2) = false ∧ s.otpA.lc = 1) ∧
   (let s : State := provS 2 2 id
    let p : PlaneId := .A
    let f := s.f
    let q := f.plane p
    f.e.leader = some p ∧ q.st.takes = true ∧ provPending f 2 = true ∧ s.otpA.digests.any (·.1 = 2) = false ∧ s.otpA.lc ≠ 1) ∧
   (let s : State := provS 3 2 id
    let p : PlaneId := .A
    let f := s.f
    let q := f.plane p
    f.e.leader = some p ∧ q.st.takes = true ∧ provPending f 3 = true ∧ s.otpA.digests.any (·.1 = 3) = false ∧ (s.otpA.lc = 1 ∨ s.otpA.lc = 2)) ∧
   (let s : State := provS 3 3 id
    let p : PlaneId := .A
    let f := s.f
    let q := f.plane p
    f.e.leader = some p ∧ q.st.takes = true ∧ provPending f 3 = true ∧ s.otpA.digests.any (·.1 = 3) = false ∧ s.otpA.lc ≠ 1 ∧ s.otpA.lc ≠ 2) ∧
   (let s : State := provS 4 1 (·.onRegs (·.wr (KILN_PROV_DATA 0) 1095))
    let p : PlaneId := .A
    let f := s.f
    let q := f.plane p
    let days := (q.regs.rd (KILN_PROV_DATA 0)).toNat
    f.e.leader = some p ∧ q.st.takes = true ∧ provPending f 4 = true ∧ s.otpA.lc = 1 ∧ s.otpA.retention = none ∧ 365 ≤ days ∧ days ≤ 1095) ∧
   (let s : State := provS 4 1 (·.onRegs (·.wr (KILN_PROV_DATA 0) 1096))
    let p : PlaneId := .A
    let f := s.f
    let q := f.plane p
    let days := (q.regs.rd (KILN_PROV_DATA 0)).toNat
    f.e.leader = some p ∧ q.st.takes = true ∧ provPending f 4 = true ∧ s.otpA.lc = 1 ∧ s.otpA.retention = none ∧ (days < 365 ∨ 1095 < days)) ∧
   (let s : State := provS 5 1 id
    let p : PlaneId := .A
    let f := s.f
    let q := f.plane p
    f.e.leader = some p ∧ q.st.takes = true ∧ provPending f 5 = true ∧ s.otpA.lc ≠ 2) ∧
   (let s : State := provS 5 2 id
    let p : PlaneId := .A
    let f := s.f
    let q := f.plane p
    f.e.leader = some p ∧ q.st.takes = true ∧ provPending f 5 = true ∧ s.otpA.lc = 2 ∧ q.kiln.randSeen = false) := by and_intros <;> decide

theorem test_met_KeyLifeCycle_3 :
   (let s : State := provS 5 2 (fun q => { q with kiln := { q.kiln with randSeen := true }, st := { q.st with pool := List.replicate 11 3 } })
    let p : PlaneId := .A
    let f := s.f
    let q := f.plane p
    f.e.leader = some p ∧ q.st.takes = true ∧ provPending f 5 = true ∧ s.otpA.lc = 2 ∧ q.kiln.randSeen = true ∧ q.mayDraw 1 12 = false) ∧
   (let s : State := provS 5 2 (fun q => { q with kiln := { q.kiln with randSeen := true }, st := { q.st with pool := List.replicate 12 3 } })
    let p : PlaneId := .A
    let f := s.f
    let q := f.plane p
    f.e.leader = some p ∧ q.st.takes = true ∧ provPending f 5 = true ∧ s.otpA.lc = 2 ∧ q.mayDraw 1 12 = true) ∧
   (let s : State := duo (withSess 4095 0)
    let p : PlaneId := .A
    let tenant : Fin 4096 := 4095
    let f := s.f
    let q := f.plane p
    f.e.leader = some p ∧ q.st.takes = true ∧ q.hasSession tenant.val = true) ∧
   (let s : State := duo id
    let p : PlaneId := .A
    let tenant : Fin 4096 := 4095
    let f := s.f
    let q := f.plane p
    f.e.leader = some p ∧ q.st.takes = true ∧ q.hasSession tenant.val = false) ∧
   (let s : State := duoP (fun q => { q with kiln := { q.kiln with destroyQ := [(1023, 4), (5, 9)] }, st := { q.st with tick := 9 } })
    let p : PlaneId := .A
    let f := s.f
    let q := f.plane p
    f.e.leader = some p ∧ q.st.takes = true) := by and_intros <;> decide

theorem test_met_WorkshopSessions_1 :
   (let s : State := duoP (fun q => { q with kiln := { q.kiln with ask := some ⟨1, 5, 7, 0⟩, lockUntil := 10 }, st := { q.st with tick := 9 } })
    let p : PlaneId := .A
    let f := s.f
    let q := f.plane p
    let l : Later := ⟨1, 5, 7, 0⟩
    f.e.leader = some p ∧ q.st.takes = true ∧ q.kiln.ask = some l ∧ l.since < q.st.tick ∧ l.what = 1 ∧ q.st.tick < q.kiln.lockUntil) ∧
   (let s : State := duoP (fun q => { q with kiln := { q.kiln with ask := some ⟨1, 5, 7, 0⟩, lockUntil := 9 }, st := { q.st with tick := 9 } })
    let p : PlaneId := .A
    let f := s.f
    let q := f.plane p
    let l : Later := ⟨1, 5, 7, 0⟩
    f.e.leader = some p ∧ q.st.takes = true ∧ q.kiln.ask = some l ∧ l.since < q.st.tick ∧ l.what = 1 ∧ q.kiln.lockUntil ≤ q.st.tick ∧
      q.kiln.randSeen = false) ∧
   (let s : State := duoP (fun q => { q with kiln := { q.kiln with ask := some ⟨1, 5, 7, 0⟩, randSeen := true }, st := { q.st with tick := 9, pool := List.replicate 31 3 } })
    let p : PlaneId := .A
    let f := s.f
    let q := f.plane p
    let l : Later := ⟨1, 5, 7, 0⟩
    f.e.leader = some p ∧ q.st.takes = true ∧ q.kiln.ask = some l ∧ l.since < q.st.tick ∧ l.what = 1 ∧ q.kiln.lockUntil ≤ q.st.tick ∧
      q.kiln.randSeen = true ∧ q.mayDraw 0 32 = false) ∧
   (let s : State := duoP (fun q => { q with kiln := { q.kiln with ask := some ⟨1, 5, 7, 0⟩, randSeen := true }, st := { q.st with tick := 9, pool := List.replicate 40 3 } })
    let p : PlaneId := .A
    let f := s.f
    let q := f.plane p
    let l : Later := ⟨1, 5, 7, 0⟩
    f.e.leader = some p ∧ q.st.takes = true ∧ q.kiln.ask = some l ∧ l.since < q.st.tick ∧ l.what = 1 ∧ q.kiln.lockUntil ≤ q.st.tick ∧
      q.mayDraw 0 32 = true) ∧
   (let s : State := duoP (fun q => { q with kiln := { q.kiln with ask := some ⟨2, 5, 7, 0⟩ }, st := { q.st with tick := 9 } })
    let p : PlaneId := .A
    let f := s.f
    let q := f.plane p
    let l : Later := ⟨2, 5, 7, 0⟩
    f.e.leader = some p ∧ q.st.takes = true ∧ q.kiln.ask = some l ∧ l.since < q.st.tick ∧ l.what = 2) ∧
   (let s : State := duo (fun f => withSess 4095 3 { f with e := { f.e with mode := .workshop } })
    let p : PlaneId := .A
    let f := s.f
    let q := f.plane p
    f.e.leader = some p ∧ q.st.takes = true) ∧
   (let s : State := duoP (fun q => { q with kiln := { q.kiln with chal := some ⟨5, [], 9⟩ }, st := { q.st with tick := 9 } })
    let p : PlaneId := .A
    let f := s.f
    let q := f.plane p
    let c := (⟨5, [], 9⟩ : Challenge)
    f.e.leader = some p ∧ q.st.takes = true ∧ q.kiln.chal = some c) ∧
   (let s : State := duoP (fun q => { q with kiln := { q.kiln with sess := [⟨5, 7, 3, 0, 10, 9⟩, ⟨6, 7, 3, 0, 10, 10⟩] }, st := { q.st with tick := 9 } })
    let p : PlaneId := .A
    let f := s.f
    let q := f.plane p
    f.e.leader = some p ∧ q.st.takes = true) := by and_intros <;> decide

theorem test_met_WorkshopSessions_2 :
   (let s : State := duoP (fun q => ({ q with kiln := { q.kiln with lockUntil := 9 }, st := { q.st with tick := 9 } } : Plane).onRegs (·.set 0 CPH_SESS_STAT_STATUS 10))
    let p : PlaneId := .A
    let f := s.f
    let q := f.plane p
    f.e.leader = some p ∧ q.st.takes = true ∧ q.kiln.lockUntil ≤ q.st.tick ∧ q.regs.get 0 CPH_SESS_STAT_STATUS = 10) ∧
   (let s : State := duoP (fun q => let q := inTruss [(3, List.replicate 2048 2), (0x12, keysSec [])] q; { q with kiln := { q.kiln with randSeen := true, slots := [(0, ⟨1, [1, 2], 1, 0, 0, 0⟩)], ms := [(0, ⟨none, [], true, 0, [1, 2]⟩)] }, st := { q.st with pool := List.replicate 16 3 } })
    let p : PlaneId := .A
    let f := s.f
    let q := f.plane p
    let port : Fin 24 := 0
    let r : Rec := (0 : Rec)
    let n := 128 + port.val
    let m := q.msPort n
    let cak := (q.keySlot (r.u 2 2)).key
    f.e.leader = some p ∧ q.st.takes = true ∧ q.msOn n = some r ∧ cak ≠ [] ∧ m.cak = cak) ∧
   (let s : State := duoP (fun q => let q := inTruss [(3, List.replicate 2048 2), (0x12, keysSec [])] q; { q with kiln := { q.kiln with randSeen := true, slots := [(0, ⟨1, [1, 2], 1, 0, 0, 0⟩)], ms := [(0, ⟨none, [], true, 0, [1, 2]⟩)] }, st := { q.st with pool := List.replicate 16 3 } })
    let p : PlaneId := .A
    let f := s.f
    let q := f.plane p
    let port : Fin 24 := 0
    let r : Rec := (0 : Rec)
    let n := 128 + port.val
    let m := q.msPort n
    let len := algBytes (r.u 1 1)
    let cak := (q.keySlot (r.u 2 2)).key
    f.e.leader = some p ∧ q.st.takes = true ∧ q.msOn n = some r ∧ cak ≠ [] ∧ m.cak = cak ∧ m.wantSak = true ∧ q.mayDraw (16 + port.val) len = true) ∧
   (let s : State := duoP (fun q => let q := inTruss [(3, List.replicate 2048 2), (0x12, keysSec [])] q; { q with kiln := { q.kiln with randSeen := true, slots := [(0, ⟨1, [1, 2], 1, 0, 0, 0⟩)], ms := [(0, ⟨none, [], true, 0, [9]⟩)] }, st := { q.st with pool := List.replicate 16 3 } })
    let p : PlaneId := .A
    let f := s.f
    let q := f.plane p
    let port : Fin 24 := 0
    let r : Rec := (0 : Rec)
    let n := 128 + port.val
    let m := q.msPort n
    let cak := (q.keySlot (r.u 2 2)).key
    f.e.leader = some p ∧ q.st.takes = true ∧ q.msOn n = some r ∧ ((cak = [] ∨ m.cak ≠ cak)) ∧ q.keyOk (r.u 2 2) 4 = false) := by and_intros <;> decide

theorem test_met_CipherJobs_1 :
   (let s : State := jobS 6 1 [(2, [0xFF]), (4, leBytes 2 5), (8, leBytes 4 3)] id
    let p : PlaneId := .A
    let n : Fin 4 := 3
    let q := s.f.plane p
    let k := n.val
    let l : Later := ⟨6, 5, 7, 0⟩
    q.st.takes = true ∧ jobOf q k 6 = some l ∧ jobRange q k = false ∧ q.kiln.randSeen = false) ∧
   (let s : State := jobS 6 1 [(2, [0xFF]), (4, leBytes 2 5), (8, leBytes 4 3)] (fun q => ({ q with kiln := { q.kiln with randSeen := true }, st := { q.st with pool := List.replicate 255 3 } } : Plane).onRegs (·.set 0 (CPH_JOB_LEN_TEXT_LEN 3) 256))
    let p : PlaneId := .A
    let n : Fin 4 := 3
    let q := s.f.plane p
    let k := n.val
    let l : Later := ⟨6, 5, 7, 0⟩
    q.st.takes = true ∧ jobOf q k 6 = some l ∧ jobRange q k = false ∧ q.kiln.randSeen = true ∧
      q.mayDraw (2 + k) (q.regs.get 0 (CPH_JOB_LEN_TEXT_LEN k)) = false) ∧
   (let s : State := jobS 6 1 [(2, [0xFF]), (4, leBytes 2 5), (8, leBytes 4 3)] (fun q => ({ q with kiln := { q.kiln with randSeen := true }, st := { q.st with pool := List.replicate 256 3 } } : Plane).onRegs (·.set 0 (CPH_JOB_LEN_TEXT_LEN 3) 256))
    let p : PlaneId := .A
    let n : Fin 4 := 3
    let q := s.f.plane p
    let k := n.val
    let l : Later := ⟨6, 5, 7, 0⟩
    q.st.takes = true ∧ jobOf q k 6 = some l ∧ jobRange q k = false ∧ q.mayDraw (2 + k) (q.regs.get 0 (CPH_JOB_LEN_TEXT_LEN k)) = true) ∧
   (let s : State := jobS 7 1 [(2, [0xFF]), (4, leBytes 2 5), (8, leBytes 4 3)] (·.onRegs (·.set 0 (CPH_JOB_LEN_TEXT_LEN 3) 257))
    let p : PlaneId := .A
    let n : Fin 4 := 3
    let q := s.f.plane p
    let k := n.val
    let l : Later := ⟨7, 5, 7, 0⟩
    q.st.takes = true ∧ jobOf q k 7 = some l ∧ jobRange q k = true) ∧
   (let s : State := jobS 7 1 [(2, [0xFF]), (4, leBytes 2 5), (8, leBytes 4 3)] id
    let p : PlaneId := .A
    let n : Fin 4 := 3
    let q := s.f.plane p
    let k := n.val
    let h := q.regs.get 0 (CPH_JOB_KEY_HANDLE k)
    let l : Later := ⟨7, 5, 7, 0⟩
    let r := q.keyRec h
    q.st.takes = true ∧ jobOf q k 7 = some l ∧ jobRange q k = false ∧ (r.u 0 1 ≠ 2 ∨ (r.u 4 2 ≠ l.tenant ∧ q.hasSession l.tenant = false))) ∧
   (let s : State := jobS 7 2 [(0, [2]), (2, [0xFF]), (4, leBytes 2 5), (8, leBytes 4 3)] id
    let p : PlaneId := .A
    let n : Fin 4 := 3
    let q := s.f.plane p
    let k := n.val
    let h := q.regs.get 0 (CPH_JOB_KEY_HANDLE k)
    let l : Later := ⟨7, 5, 7, 0⟩
    let r := q.keyRec h
    q.st.takes = true ∧ jobOf q k 7 = some l ∧ jobRange q k = false ∧ r.u 0 1 = 2 ∧ ((r.u 4 2 = l.tenant ∨ q.hasSession l.tenant = true)) ∧
      (q.keySlot (r.u 6 2)).state = 2) ∧
   (let s : State := jobS 7 1 [(0, [2]), (2, [0xFF]), (4, leBytes 2 5), (8, leBytes 4 3)] id
    let p : PlaneId := .A
    let n : Fin 4 := 3
    let q := s.f.plane p
    let k := n.val
    let h := q.regs.get 0 (CPH_JOB_KEY_HANDLE k)
    let l : Later := ⟨7, 5, 7, 0⟩
    let r := q.keyRec h
    let ver := (q.regs.rd (CPH_JOB_IV k 0)).toNat
    q.st.takes = true ∧ jobOf q k 7 = some l ∧ jobRange q k = false ∧ r.u 0 1 = 2 ∧ ((r.u 4 2 = l.tenant ∨ q.hasSession l.tenant = true)) ∧
      q.keyOk (r.u 6 2) 5 = true ∧ (ver ≤ sget (fun _ => 0) q.nv.kiln.vers h)) ∧
   (let s : State := jobS 7 1 [(0, [2]), (2, [0xFF]), (4, leBytes 2 5), (8, leBytes 4 3)] (·.onRegs (·.wr (CPH_JOB_IV 3 0) 1))
    let p : PlaneId := .A
    let n : Fin 4 := 3
    let q := s.f.plane p
    let k := n.val
    let h := q.regs.get 0 (CPH_JOB_KEY_HANDLE k)
    let l : Later := ⟨7, 5, 7, 0⟩
    let r := q.keyRec h
    let ver := (q.regs.rd (CPH_JOB_IV k 0)).toNat
    q.st.takes = true ∧ jobOf q k 7 = some l ∧ jobRange q k = false ∧ r.u 0 1 = 2 ∧ ((r.u 4 2 = l.tenant ∨ q.hasSession l.tenant = true)) ∧
      q.keyOk (r.u 6 2) 5 = true ∧ (sget (fun _ => 0) q.nv.kiln.vers h < ver)) := by and_intros <;> decide

theorem test_met_CipherJobs_2 :
   (let n : Fin 4 := 3
    let s : State := jobS 1 1 [(2, [0xFF]), (4, leBytes 2 5), (8, leBytes 4 3)] (·.onRegs (·.set 0 (CPH_JOB_LEN_TEXT_LEN 3) 256))
    (jobOf s.f.a 3 1 = some ⟨1, 5, 7, 0⟩ ∧ jobRange s.f.a 3 = false ∧ jobKey s.f.a (s.f.a.regs.get 0 (CPH_JOB_KEY_HANDLE 3)) 5 (bit · 0) = none ∧
      s.f.a.regs.get 0 (CPH_JOB_KEY_RAND_IV 3) = 0)) ∧
   (let n : Fin 4 := 3
    let s : State := jobS 1 1 [(2, [0xFF]), (4, leBytes 2 5), (8, leBytes 4 3)] (·.onRegs (·.set 0 (CPH_JOB_LEN_TEXT_LEN 3) 257))
    (jobOf s.f.a 3 1 = some ⟨1, 5, 7, 0⟩ ∧ jobRange s.f.a 3 = true)) ∧
   (let n : Fin 4 := 3
    let s : State := jobS 1 2 [(2, [0xFF]), (4, leBytes 2 5), (8, leBytes 4 3)] (·.onRegs (·.set 0 (CPH_JOB_LEN_TEXT_LEN 3) 256))
    (jobOf s.f.a 3 1 = some ⟨1, 5, 7, 0⟩ ∧ jobRange s.f.a 3 = false ∧ jobKey s.f.a (s.f.a.regs.get 0 (CPH_JOB_KEY_HANDLE 3)) 5 (bit · 0) = some 9)) ∧
   (let n : Fin 4 := 3
    let s : State := jobS 2 1 [(2, [0xFF]), (4, leBytes 2 5), (8, leBytes 4 3)] (·.onRegs (·.set 0 (CPH_JOB_LEN_TEXT_LEN 3) 256))
    (jobOf s.f.a 3 2 = some ⟨2, 5, 7, 0⟩ ∧ jobRange s.f.a 3 = false ∧ jobKey s.f.a (s.f.a.regs.get 0 (CPH_JOB_KEY_HANDLE 3)) 5 (bit · 1) = none ∧
      s.f.a.regs.get 0 (CPH_JOB_KEY_RAND_IV 3) = 0)) ∧
   (let n : Fin 4 := 3
    let s : State := jobS 2 1 [(2, [0xFF]), (4, leBytes 2 5), (8, leBytes 4 3)] (·.onRegs (·.set 0 (CPH_JOB_LEN_TEXT_LEN 3) 257))
    (jobOf s.f.a 3 2 = some ⟨2, 5, 7, 0⟩ ∧ jobRange s.f.a 3 = true)) ∧
   (let n : Fin 4 := 3
    let s : State := jobS 2 2 [(2, [0xFF]), (4, leBytes 2 5), (8, leBytes 4 3)] (·.onRegs (·.set 0 (CPH_JOB_LEN_TEXT_LEN 3) 256))
    (jobOf s.f.a 3 2 = some ⟨2, 5, 7, 0⟩ ∧ jobRange s.f.a 3 = false ∧ jobKey s.f.a (s.f.a.regs.get 0 (CPH_JOB_KEY_HANDLE 3)) 5 (bit · 1) = some 9)) ∧
   (let n : Fin 4 := 3
    let s : State := jobS 3 1 [(2, [0xFF]), (4, leBytes 2 5), (8, leBytes 4 3)] (·.onRegs (·.set 0 (CPH_JOB_LEN_TEXT_LEN 3) 256))
    (jobOf s.f.a 3 3 = some ⟨3, 5, 7, 0⟩ ∧ jobRange s.f.a 3 = false ∧
      jobKey s.f.a (s.f.a.regs.get 0 (CPH_JOB_KEY_HANDLE 3)) 5 (fun u => bit u 0 || bit u 1) = none ∧ s.f.a.regs.get 0 (CPH_JOB_KEY_RAND_IV 3) = 0)) ∧
   (let n : Fin 4 := 3
    let s : State := jobS 3 1 [(2, [0xFF]), (4, leBytes 2 5), (8, leBytes 4 3)] (·.onRegs (·.set 0 (CPH_JOB_LEN_TEXT_LEN 3) 257))
    (jobOf s.f.a 3 3 = some ⟨3, 5, 7, 0⟩ ∧ jobRange s.f.a 3 = true)) := by and_intros <;> decide

theorem test_met_CipherJobs_3 :
   (let n : Fin 4 := 3
    let s : State := jobS 3 2 [(2, [0xFF]), (4, leBytes 2 5), (8, leBytes 4 3)] (·.onRegs (·.set 0 (CPH_JOB_LEN_TEXT_LEN 3) 256))
    (jobOf s.f.a 3 3 = some ⟨3, 5, 7, 0⟩ ∧ jobRange s.f.a 3 = false ∧
      jobKey s.f.a (s.f.a.regs.get 0 (CPH_JOB_KEY_HANDLE 3)) 5 (fun u => bit u 0 || bit u 1) = some 9)) ∧
   (let n : Fin 4 := 3
    let s : State := jobS 4 1 [(2, [0xFF]), (4, leBytes 2 5), (8, leBytes 4 3)] (·.onRegs (·.set 0 (CPH_JOB_LEN_TEXT_LEN 3) 256))
    (jobOf s.f.a 3 4 = some ⟨4, 5, 7, 0⟩ ∧ jobRange s.f.a 3 = false ∧ jobKey s.f.a (s.f.a.regs.get 0 (CPH_JOB_KEY_HANDLE 3)) 5 (bit · 2) = none ∧
      s.f.a.regs.get 0 (CPH_JOB_KEY_RAND_IV 3) = 0)) ∧
   (let n : Fin 4 := 3
    let s : State := jobS 4 1 [(2, [0xFF]), (4, leBytes 2 5), (8, leBytes 4 3)] (·.onRegs (·.set 0 (CPH_JOB_LEN_TEXT_LEN 3) 257))
    (jobOf s.f.a 3 4 = some ⟨4, 5, 7, 0⟩ ∧ jobRange s.f.a 3 = true)) ∧
   (let n : Fin 4 := 3
    let s : State := jobS 4 2 [(2, [0xFF]), (4, leBytes 2 5), (8, leBytes 4 3)] (·.onRegs (·.set 0 (CPH_JOB_LEN_TEXT_LEN 3) 256))
    (jobOf s.f.a 3 4 = some ⟨4, 5, 7, 0⟩ ∧ jobRange s.f.a 3 = false ∧ jobKey s.f.a (s.f.a.regs.get 0 (CPH_JOB_KEY_HANDLE 3)) 5 (bit · 2) = some 9)) ∧
   (let n : Fin 4 := 3
    let s : State := jobS 5 1 [(2, [0xFF]), (4, leBytes 2 5), (8, leBytes 4 3)] (·.onRegs (·.set 0 (CPH_JOB_LEN_TEXT_LEN 3) 256))
    (jobOf s.f.a 3 5 = some ⟨5, 5, 7, 0⟩ ∧ jobRange s.f.a 3 = false ∧ jobKey s.f.a (s.f.a.regs.get 0 (CPH_JOB_KEY_HANDLE 3)) 5 (bit · 3) = none ∧
      s.f.a.regs.get 0 (CPH_JOB_KEY_RAND_IV 3) = 0)) ∧
   (let n : Fin 4 := 3
    let s : State := jobS 5 1 [(2, [0xFF]), (4, leBytes 2 5), (8, leBytes 4 3)] (·.onRegs (·.set 0 (CPH_JOB_LEN_TEXT_LEN 3) 257))
    (jobOf s.f.a 3 5 = some ⟨5, 5, 7, 0⟩ ∧ jobRange s.f.a 3 = true)) ∧
   (let n : Fin 4 := 3
    let s : State := jobS 5 2 [(2, [0xFF]), (4, leBytes 2 5), (8, leBytes 4 3)] (·.onRegs (·.set 0 (CPH_JOB_LEN_TEXT_LEN 3) 256))
    (jobOf s.f.a 3 5 = some ⟨5, 5, 7, 0⟩ ∧ jobRange s.f.a 3 = false ∧ jobKey s.f.a (s.f.a.regs.get 0 (CPH_JOB_KEY_HANDLE 3)) 5 (bit · 3) = some 9)) := by and_intros <;> decide

theorem test_met_TamperAndEntropy :
   (let s : State := duo (fun f => withSess 5 3 { f with e := { f.e with seqr := { f.e.seqr with tamperEn := 31 } } })
    let f := s.f
    let e := f.e
    let src : Fin 5 := 4
    let high : Bool := true
    let active := bit e.seqr.tamperEn src.val && (if src.val = 4 then high else high == bit e.seqr.tamperPol src.val)
    e.pstate = .p0 ∧ active = true ∧ e.mode = .service ∧ e.seqr.kind = .idle ∧ e.seqr.off = false ∧ (e.src 13).live = false) ∧
   (let s : State := duo (fun f => withSess 5 3 { f with e := { f.e with seqr := { f.e.seqr with tamperEn := 31 } } })
    let f := s.f
    let e := f.e
    let src : Fin 5 := 4
    let high : Bool := false
    let active := bit e.seqr.tamperEn src.val && (if src.val = 4 then high else high == bit e.seqr.tamperPol src.val)
    e.pstate = .p0 ∧ active = false) ∧
   (let s : State := duo (fun f => withSess 4095 3 (f.onE (·.onRegs (·.set 0 BBR_TAMPER_LATCHED 1))))
    let f := s.f
    let tenant : Fin 4096 := 4095
    f.lead.hasSession tenant.val = true) ∧
   (let s : State := duo id
    let f := s.f
    let tenant : Fin 4096 := 4095
    f.lead.hasSession tenant.val = false) ∧
   (let s : State := duo id
    let f := s.f
    let e := f.e
    e.mode = .service ∧ e.seqr.kind = .idle ∧ e.seqr.off = false ∧ e.entropyReady = false ∧ (e.src 10).live = false) ∧
   (let s : State := duo (·.onE (fun e => { e with entropyReady := true }))
    let f := s.f
    let e := f.e
    e.mode = .service ∧ e.seqr.kind = .idle ∧ e.seqr.off = false ∧ e.entropyReady = true) ∧
   (let s : State := duo id
    let f := s.f
    let e := f.e
    e.mode = .service ∧ e.seqr.kind = .idle ∧ e.seqr.off = false ∧ (e.src 12).live = false) ∧
   (let s : State := duo id
    let f := s.f
    let e := f.e
    (e.src 11).live = false) ∧
   (let s : State := duo (fun f => withSess 5 3 { f with a := let q := inTruss [(0x14, hostsSec)] f.a; { q with host := { q.host with admitted := [msgOf 7 11 5 [4, 63, 0, 0]], epUp := [(7, true)], sema := [(63, some ⟨3, false, 1⟩)] } } })
    let p : PlaneId := .A
    let f := s.f
    let ep : Fin 8 := 7
    let tenant : Fin 4096 := 5
    let tag : Nat := 9
    let i : Fin 64 := 63
    let q := f.plane p
    p ∈ f.actors ep.val tenant.val clsSema tag (saysSema 4 i.val) ∧ q.epUp ep.val = true ∧ q.st.sends = true ∧ q.st.past = false ∧
      q.partner ep.val = none) := by and_intros <;> decide

theorem test_met_Drives_1 :
   (let s : State := driveS 3 Drive.absent
    let p : PlaneId := .A
    let d : Fin 4 := 3
    let f := s.f
    let q := f.plane p
    let x := q.drive d.val
    x.state = 0) ∧
   (let s : State := driveS 3 ⟨1, 2, .none, 4096, none, 0, 0, 0, 0, 0⟩
    let p : PlaneId := .A
    let d : Fin 4 := 3
    let f := s.f
    let q := f.plane p
    let x := q.drive d.val
    x.state = 1) ∧
   (let s : State := driveS 3 ⟨4, 2, .none, 4096, none, 0, 0, 0, 0, 0⟩
    let p : PlaneId := .A
    let d : Fin 4 := 3
    let f := s.f
    let q := f.plane p
    let x := q.drive d.val
    let gen : Nat := 3
    gen ≠ x.gen) ∧
   (let s : State := driveS 3 ⟨4, 2, .none, 4096, none, 0, 0, 0, 0, 0⟩
    let p : PlaneId := .A
    let d : Fin 4 := 3
    let f := s.f
    let q := f.plane p
    let x := q.drive d.val
    let gen : Nat := 2
    gen = x.gen ∧ ((x.state = 3 ∨ x.state = 4))) ∧
   (let s : State := driveS 3 ⟨4, 2, .none, 4096, none, 0, 0, 0, 0, 0⟩
    let p : PlaneId := .A
    let d : Fin 4 := 3
    let f := s.f
    let q := f.plane p
    let x := q.drive d.val
    x.timeoutAt = none) ∧
   (let s : State := driveS 3 ⟨4, 2, .none, 4096, some 0, 0, 0, 0, 0, 0⟩
    let p : PlaneId := .A
    let d : Fin 4 := 3
    let f := s.f
    let q := f.plane p
    let x := q.drive d.val
    let t := 0
    x.timeoutAt = some t ∧ f.e.counter ≤ t + 3600 * 10 ^ 9 ∧ ((x.state = 3 ∨ x.state = 4))) ∧
   (let s : State := driveS 3 ⟨4, 2, .none, 4096, none, 0, 0, 0, 0, 0⟩
    let p : PlaneId := .A
    let d : Fin 4 := 3
    let f := s.f
    let q := f.plane p
    let x := q.drive d.val
    ((x.state = 3 ∨ x.state = 4))) ∧
   (let s : State := driveS 3 ⟨4, 2, .none, 4096, none, 0, 0, 0, 0, 0⟩
    let p : PlaneId := .A
    let d : Fin 4 := 3
    let f := s.f
    let q := f.plane p
    let x := q.drive d.val
    let warn : Fin 256 := 2
    ((x.state = 3 ∨ x.state = 4)) ∧ 2 ≤ warn.val) := by and_intros <;> decide

theorem test_met_Drives_2 :
   (let s : State := driveS 3 ⟨4, 2, .none, 4096, none, 0, 0, 0, 0, 0⟩
    let p : PlaneId := .A
    let d : Fin 4 := 3
    let f := s.f
    let q := f.plane p
    let x := q.drive d.val
    let warn : Fin 256 := 1
    ((x.state = 3 ∨ x.state = 4)) ∧ warn.val < 2) ∧
   (let s : State := driveS 3 ⟨5, 2, .none, 4096, none, 0, 0, 0, 0, 0⟩
    let p : PlaneId := .A
    let d : Fin 4 := 3
    let f := s.f
    let q := f.plane p
    let x := q.drive d.val
    ((x.state = 5 ∨ x.state = 6))) ∧
   (let s : State := driveS 3 ⟨3, 2, .none, 4096, none, 0, 0, 0, 0, 0⟩
    let p : PlaneId := .A
    let d : Fin 4 := 3
    let f := s.f
    let q := f.plane p
    let x := q.drive d.val
    x.state = 3 ∧ (f.e.role p.other).running = true) ∧
   (let s : State := let s := driveS 0 ⟨5, 2, .none, 4096, none, 0, 0, 0, 0, 0⟩; { s with f := (fun f => { f with a := reqIn 7 8 4095 (jB 8 0 0 0 0 0) f.a }) (withSess 4095 3 s.f) }
    let p : PlaneId := .A
    let d : Fin 4 := 0
    let f := s.f
    let q := f.plane p
    let x := q.drive d.val
    let ep : Fin 8 := 7
    let tenant : Fin 4096 := 4095
    let tag : Nat := 9
    let m : Geom := ⟨1, 1, 1, 4096, 1, 365, 0⟩
    let at_ := fun (op : Nat) => p ∈ f.actors ep.val tenant.val clsJournal tag (saysJournal [(0, 1, op), (3, 1, 16 * p.num + d.val)])
    f.lead.rick.geom = some m ∧ q.rick.geom = some m ∧ d.val < m.drives ∧ q.st.me = p ∧ f.lead.hasSession tenant.val = true ∧ at_ 8 ∧
      ((x.state = 2 ∨ x.state = 5)) ∧ m.usedExt ≤ x.extents) ∧
   (let s : State := let s := driveS 0 ⟨4, 2, .none, 4096, none, 0, 0, 0, 0, 0⟩; { s with f := (fun f => { f with a := reqIn 7 8 4095 (jB 9 0 0 0 0 0) f.a }) (withSess 4095 3 s.f) }
    let p : PlaneId := .A
    let d : Fin 4 := 0
    let f := s.f
    let q := f.plane p
    let x := q.drive d.val
    let ep : Fin 8 := 7
    let tenant : Fin 4096 := 4095
    let tag : Nat := 9
    let m : Geom := ⟨1, 1, 1, 4096, 1, 365, 0⟩
    let at_ := fun (op : Nat) => p ∈ f.actors ep.val tenant.val clsJournal tag (saysJournal [(0, 1, op), (3, 1, 16 * p.num + d.val)])
    f.lead.rick.geom = some m ∧ q.rick.geom = some m ∧ d.val < m.drives ∧ q.st.me = p ∧ f.lead.hasSession tenant.val = true ∧ at_ 9 ∧ x.state = 4) ∧
   (let s : State := let s := driveS 0 ⟨4, 2, .none, 4096, none, 0, 0, 0, 0, 0⟩; { s with f := { s.f with a := reqIn 7 8 4095 (jB 9 0 0 0 0 0) (inTruss [(0x14, hostsSec)] s.f.a) } }
    let p : PlaneId := .A
    let d : Fin 4 := 0
    let f := s.f
    let q := f.plane p
    let ep : Fin 8 := 7
    let tenant : Fin 4096 := 4095
    let tag : Nat := 9
    let m : Geom := ⟨1, 1, 1, 4096, 1, 365, 0⟩
    let c : Instr := .retire ep tenant tag p d
    let op : Nat := 9
    f.lead.rick.geom = some m ∧ q.rick.geom = some m ∧ d.val < m.drives ∧ q.st.me = p ∧ f.lead.hasSession tenant.val = false ∧
      ((c = .adopt ep tenant tag p d ∧ op = 8) ∨ (c = .retire ep tenant tag p d ∧ op = 9))) := by and_intros <;> decide

theorem test_met_JournalKeeping_1 :
   (let s : State := duoP (fun q => rickP (fun q => (({ q with rick := { q.rick with firstUnsealed := 2 } } : Plane).onRegs (·.wr64 RICK_RSEQ_LO 7))) (inTruss [(0x10, patch (List.replicate 64 0) [(2, leBytes 2 5)])] q))
    let p : PlaneId := .A
    let f := s.f
    let q := f.plane p
    q.st.takes = true ∧ q.runsJournal = true ∧ 0 < q.rk 2 2 ∧ q.rk 2 2 ≤ q.unsealed) ∧
   (let s : State := duoP (fun q => rickP (fun q => (({ q with rick := { q.rick with snapBuf := [(1, 2)] }, st := { q.st with tick := 100000 } } : Plane))) (inTruss [(0x10, patch (List.replicate 64 0) [])] q))
    let p : PlaneId := .A
    let f := s.f
    let q := f.plane p
    q.st.takes = true ∧ q.runsJournal = true ∧ q.st.tick % 100000 = 0) ∧
   (let s : State := duoP (fun q => rickP (fun q => (({ q with rick := { q.rick with chunkOpen := some ⟨0, 0, 0, [1], 0, false⟩ }, st := { q.st with tick := 50000 } } : Plane))) (inTruss [(0x10, patch (List.replicate 64 0) [])] q))
    let p : PlaneId := .A
    let f := s.f
    let q := f.plane p
    let c := (⟨0, 0, 0, [1], 0, false⟩ : Chunk)
    q.st.takes = true ∧ q.runsJournal = true ∧ q.rick.chunkOpen = some c ∧ c.firstTick + 50000 ≤ q.st.tick ∧ 0 < q.rick.geom.elim 0 Geom.nchunk) ∧
   (let s : State := duoP (fun q => rickP (fun q => (({ q with rick := { q.rick with drives := [(0, ⟨4, 2, .none, 4096, none, 0, 0, 0, 0, 0⟩)], chunks := [⟨5, 0, 0, [1], 0, false⟩] } } : Plane))) (inTruss [(0x10, patch (List.replicate 64 0) [])] q))
    let p : PlaneId := .A
    let f := s.f
    let q := f.plane p
    let cseq := (5 : Nat)
    q.st.takes = true ∧ q.runsJournal = true ∧ q.rick.chunks.any (·.cseq = cseq) = true ∧ canWrite q ⟨3, cseq, false⟩ = true) ∧
   (let s : State := duoP (fun q => rickP (fun q => (({ q with rick := { q.rick with chunks := [⟨5, 0, 0, [1], 0, false⟩] } } : Plane))) (inTruss [(0x10, patch (List.replicate 64 0) [])] q))
    let p : PlaneId := .A
    let f := s.f
    let q := f.plane p
    let cseq := (5 : Nat)
    q.st.takes = true ∧ q.runsJournal = true ∧ q.rick.chunks.any (·.cseq = cseq) = true ∧ canWrite q ⟨3, cseq, false⟩ = false) ∧
   (let s : State := duoP (fun q => rickP (fun q => (({ q with rick := { q.rick with chunks := [⟨5, 0, 0, [1], 0, false⟩] } } : Plane))) (inTruss [(0x10, patch (List.replicate 64 0) [])] q))
    let p : PlaneId := .A
    let f := s.f
    let q := f.plane p
    let cseq := (5 : Nat)
    q.st.takes = true ∧ q.runsJournal = true ∧ q.rick.chunks.any (·.cseq = cseq) = true) ∧
   (let s : State := duoP (fun q => rickP (fun q => (({ q with rick := { q.rick with incOpen := none } } : Plane))) (inTruss [(0x10, patch (List.replicate 64 0) [(6, [3]), (7, [4]), (10, leBytes 2 4)])] q))
    let p : PlaneId := .A
    let f := s.f
    let q := f.plane p
    let what : Fin 4 := 3
    q.st.takes = true ∧ q.runsJournal = true ∧ q.rick.incOpen = none ∧ ((what = 0 ∨ bit (q.rk 10 2) (what.val - 1) = true))) ∧
   (let s : State := duoP (fun q => rickP (fun q => (({ q with rick := { q.rick with incOpen := some ⟨1, 0, 0, 9, 0, 0, 0, 0, 0, false, []⟩, chunks := [⟨5, 0, 9, [1], 0, false⟩] } } : Plane))) (inTruss [(0x10, patch (List.replicate 64 0) [])] q))
    let p : PlaneId := .A
    let f := s.f
    let q := f.plane p
    let i := (⟨1, 0, 0, 9, 0, 0, 0, 0, 0, false, []⟩ : Incident)
    q.st.takes = true ∧ q.runsJournal = true ∧ q.rick.incOpen = some i ∧ ((∃ c ∈ q.rick.chunks, i.toTs ≤ c.lastTs))) := by and_intros <;> decide

theorem test_met_JournalKeeping_2 :
   (let s : State := duoP (fun q => rickP (fun q => (({ q with rick := { q.rick with incs := [⟨1, 0, 0, 9, 0, 0, 0, 0, 0, false, []⟩] } } : Plane))) (inTruss [(0x10, patch (List.replicate 64 0) [])] q))
    let p : PlaneId := .A
    let f := s.f
    let q := f.plane p
    q.st.takes = true ∧ q.runsJournal = true) ∧
   (let s : State := duoP (fun q => rickP (fun q => (({ q with rick := { q.rick with recs := [⟨0, 0, 1, 0, 0, [1]⟩, ⟨0x100000, 1, 1, 10 ^ 18, 0, [1]⟩], firstUnsealed := 1 }, servo := { q.servo with tq := 0, base := 10 ^ 9 } } : Plane).onRegs (·.wr64 RICK_LEGAL_END_LO 0x100000))) (inTruss [(0x10, patch (List.replicate 64 0) [])] q))
    let p : PlaneId := .A
    let f := s.f
    let q := f.plane p
    let till := q.regs.rd64 RICK_LEGAL_FREED_LO + 0x100000
    q.st.takes = true ∧ q.runsJournal = true ∧ q.servo.tq = 0 ∧ till ≤ q.regs.rd64 RICK_LEGAL_END_LO ∧
      ((∀ x ∈ q.rick.recs, x.off < till → x.rseq < q.rick.firstUnsealed ∧
        x.utc + q.rick.geom.elim 0 (·.retention) * 86400 * 10 ^ 9 < q.utcOf q.st.ts))) ∧
   (let s : State := duoP (fun q => rickP (fun q => (({ q with rick := { q.rick with recs := [⟨0, 3, 1, 0, 0, List.replicate 140 1⟩], committedRseq := 3 }, st := { q.st with tick := 100 } } : Plane).onRegs (·.wr64 RICK_RSEQ_LO 4))) (inTruss [(0x10, patch (List.replicate 64 0) [])] q))
    let p : PlaneId := .A
    let f := s.f
    let q := f.plane p
    let n := q.regs.rd64 RICK_RSEQ_LO
    let x := (⟨0, 3, 1, 0, 0, List.replicate 140 1⟩ : LegalRec)
    q.st.takes = true ∧ q.runsJournal = true ∧ q.rick.uncommitted = [x] ∧ q.rick.committedRseq < n ∧ x.bytes.length ≤ 140 ∧ q.rick.granules = [] ∧
      q.rick.warnTick = none ∧ q.st.tick % 100 = 0 ∧ q.rick.lastCommit ≠ q.st.tick) ∧
   (let s : State := let s := duoP (fun q => rickP (fun q => (({ q with rick := { q.rick with drives := [(0, ⟨4, 2, .none, 4096, none, 0, 0, 0, 0, 0⟩)], holes := [⟨1, 5, false⟩] } } : Plane))) (inTruss [(0x10, patch (List.replicate 64 0) [])] q)); { s with f := { s.f with b := { s.f.b with rick := { s.f.b.rick with holes := [] } } } }
    let p : PlaneId := .A
    let f := s.f
    let q := f.plane p
    let h := (⟨1, 5, false⟩ : Hole)
    let has := (f.plane p.other).rick.holes.any (fun x => x.tier = h.tier ∧ x.pos = h.pos)
    q.st.takes = true ∧ q.runsJournal = true ∧ q.rick.holes = [h] ∧ h.final = false ∧ (f.e.role p.other).running = true ∧ has = false ∧
      canWrite q h = true) ∧
   (let s : State := let s := duoP (fun q => rickP (fun q => (({ q with rick := { q.rick with holes := [⟨1, 5, false⟩] } } : Plane))) (inTruss [(0x10, patch (List.replicate 64 0) [])] q)); { s with f := { s.f with b := { s.f.b with rick := { s.f.b.rick with holes := [] } } } }
    let p : PlaneId := .A
    let f := s.f
    let q := f.plane p
    let h := (⟨1, 5, false⟩ : Hole)
    let has := (f.plane p.other).rick.holes.any (fun x => x.tier = h.tier ∧ x.pos = h.pos)
    q.st.takes = true ∧ q.runsJournal = true ∧ q.rick.holes = [h] ∧ h.final = false ∧ (f.e.role p.other).running = true ∧ has = false ∧
      canWrite q h = false) ∧
   (let s : State := duoP (fun q => rickP (fun q => (({ q with rick := { q.rick with holes := [⟨1, 5, false⟩] } } : Plane))) (inTruss [(0x10, patch (List.replicate 64 0) [])] q))
    let p : PlaneId := .A
    let f := s.f
    let q := f.plane p
    let h := (⟨1, 5, false⟩ : Hole)
    let has := (f.plane p.other).rick.holes.any (fun x => x.tier = h.tier ∧ x.pos = h.pos)
    q.st.takes = true ∧ q.runsJournal = true ∧ q.rick.holes = [h] ∧ h.final = false ∧ (f.e.role p.other).running = true ∧ has = true ∧
      (f.e.src (planeSrc p 41)).live = false) ∧
   (let s : State := duoP (fun q => rickP (fun q => q) (inTruss [(0x10, patch (List.replicate 64 0) [])] q))
    let p : PlaneId := .A
    let f := s.f
    let q := f.plane p
    q.st.takes = true ∧ q.runsJournal = true) := by and_intros <;> decide

theorem test_met_JournalRequests_1 :
   (let s : State := duoP (fun q => rickP (fun q => { q with host := { q.host with admitted := [msgOf 7 8 4095 (jB 1 0 0 0 0 0)], epUp := [(7, true)] }, rick := { q.rick with exports := [], incs := [⟨1, 0, 0, 9, 0, 0, 0, 0, 0, false, []⟩] } }) (inTruss [(0x14, hostsSec)] q))
    let p : PlaneId := .A
    let ep : Fin 8 := 7
    let tenant : Fin 4096 := 4095
    let tag : Nat := 9
    let q := s.f.plane p
    let at_ := fun (what : List (Nat × Nat × Nat)) => p ∈ s.f.actors ep.val tenant.val clsJournal tag (saysJournal what)
    q.st.sends = true ∧ q.st.past = false ∧ q.epUp ep.val = true ∧ q.partner ep.val = none ∧ at_ [(0, 1, 1)]) ∧
   (let s : State := duoP (fun q => rickP (fun q => { q with host := { q.host with admitted := [msgOf 7 8 4095 (jB 2 2 0 2 1 0)], epUp := [(7, true)] }, rick := { q.rick with exports := [], incs := [⟨1, 0, 0, 9, 0, 0, 0, 0, 0, false, []⟩] } }) (inTruss [(0x14, hostsSec)] q))
    let p : PlaneId := .A
    let ep : Fin 8 := 7
    let tenant : Fin 4096 := 4095
    let tag : Nat := 9
    let q := s.f.plane p
    let at_ := fun (what : List (Nat × Nat × Nat)) => p ∈ s.f.actors ep.val tenant.val clsJournal tag (saysJournal what)
    let tier : Fin 256 := 2
    let key : Fin 256 := 2
    let v : Nat := 1
    q.st.sends = true ∧ q.st.past = false ∧ q.epUp ep.val = true ∧ q.partner ep.val = none ∧
      at_ [(0, 1, 2), (1, 1, tier.val), (3, 1, key.val), (8, 8, v)]) ∧
   (let s : State := duoP (fun q => (fun (g : Plane → Plane) (q : Plane) => g q) (fun q => { q with host := { q.host with admitted := [msgOf 7 8 4095 (jB 3 1 0 0 0 0)], epUp := [(7, true)] }, rick := { q.rick with exports := [], incs := [⟨1, 0, 0, 9, 0, 0, 0, 0, 0, false, []⟩] } }) (inTruss [(0x14, hostsSec)] q))
    let p : PlaneId := .A
    let ep : Fin 8 := 7
    let tenant : Fin 4096 := 4095
    let tag : Nat := 9
    let q := s.f.plane p
    let at_ := fun (what : List (Nat × Nat × Nat)) => p ∈ s.f.actors ep.val tenant.val clsJournal tag (saysJournal what)
    let tier : Fin 256 := 1
    let start : Nat := 0
    let stop : Nat := 0
    q.st.sends = true ∧ q.st.past = false ∧ q.epUp ep.val = true ∧ q.partner ep.val = none ∧
      at_ [(0, 1, 3), (1, 1, tier.val), (8, 8, start), (16, 8, stop)] ∧ q.runsJournal = false) ∧
   (let s : State := duoP (fun q => rickP (fun q => { q with host := { q.host with admitted := [msgOf 7 8 4095 (jB 3 4 0 0 5 0)], epUp := [(7, true)] }, rick := { q.rick with exports := [], incs := [⟨1, 0, 0, 9, 0, 0, 0, 0, 0, false, []⟩] } }) (inTruss [(0x14, hostsSec)] q))
    let p : PlaneId := .A
    let ep : Fin 8 := 7
    let tenant : Fin 4096 := 4095
    let tag : Nat := 9
    let q := s.f.plane p
    let at_ := fun (what : List (Nat × Nat × Nat)) => p ∈ s.f.actors ep.val tenant.val clsJournal tag (saysJournal what)
    let tier : Fin 256 := 4
    let start : Nat := 5
    let stop : Nat := 0
    q.st.sends = true ∧ q.st.past = false ∧ q.epUp ep.val = true ∧ q.partner ep.val = none ∧
      at_ [(0, 1, 3), (1, 1, tier.val), (8, 8, start), (16, 8, stop)] ∧ q.runsJournal = true ∧ ((tier.val = 0 ∨ 3 < tier.val ∨ (stop ≠ 0 ∧
        stop < start)))) ∧
   (let s : State := duoP (fun q => rickP (fun q => { q with host := { q.host with admitted := [msgOf 7 8 4095 (jB 3 3 0 0 5 5)], epUp := [(7, true)] }, rick := { q.rick with exports := [(0, some ⟨7, 4095, 9, 1, 0, 0, 0, false, 0⟩)], incs := [⟨1, 0, 0, 9, 0, 0, 0, 0, 0, false, []⟩] } }) (inTruss [(0x14, hostsSec)] q))
    let p : PlaneId := .A
    let ep : Fin 8 := 7
    let tenant : Fin 4096 := 4095
    let tag : Nat := 9
    let q := s.f.plane p
    let at_ := fun (what : List (Nat × Nat × Nat)) => p ∈ s.f.actors ep.val tenant.val clsJournal tag (saysJournal what)
    let tier : Fin 256 := 3
    let start : Nat := 5
    let stop : Nat := 5
    let e := (1 : Nat)
    q.st.sends = true ∧ q.st.past = false ∧ q.epUp ep.val = true ∧ q.partner ep.val = none ∧
      at_ [(0, 1, 3), (1, 1, tier.val), (8, 8, start), (16, 8, stop)] ∧ q.runsJournal = true ∧ 1 ≤ tier.val ∧ tier.val ≤ 3 ∧
        ((stop = 0 ∨ start ≤ stop)) ∧ (findIdx (fun e => (exportAt q e).isNone) 4 = some e)) ∧
   (let s : State := duoP (fun q => rickP (fun q => { q with host := { q.host with admitted := [msgOf 7 8 4095 (jB 3 1 0 0 0 0)], epUp := [(7, true)] }, rick := { q.rick with exports := [(0, some ⟨7, 4095, 9, 1, 0, 0, 0, false, 0⟩), (1, some ⟨7, 4095, 9, 1, 0, 0, 0, false, 0⟩), (2, some ⟨7, 4095, 9, 1, 0, 0, 0, false, 0⟩), (3, some ⟨7, 4095, 9, 1, 0, 0, 0, false, 0⟩)], incs := [⟨1, 0, 0, 9, 0, 0, 0, 0, 0, false, []⟩] } }) (inTruss [(0x14, hostsSec)] q))
    let p : PlaneId := .A
    let ep : Fin 8 := 7
    let tenant : Fin 4096 := 4095
    let tag : Nat := 9
    let q := s.f.plane p
    let at_ := fun (what : List (Nat × Nat × Nat)) => p ∈ s.f.actors ep.val tenant.val clsJournal tag (saysJournal what)
    let tier : Fin 256 := 1
    let start : Nat := 0
    let stop : Nat := 0
    q.st.sends = true ∧ q.st.past = false ∧ q.epUp ep.val = true ∧ q.partner ep.val = none ∧
      at_ [(0, 1, 3), (1, 1, tier.val), (8, 8, start), (16, 8, stop)] ∧ q.runsJournal = true ∧ 1 ≤ tier.val ∧ tier.val ≤ 3 ∧
        ((stop = 0 ∨ start ≤ stop)) ∧ ((∀ e < 4, (exportAt q e).isSome = true))) ∧
   (let s : State := duoP (fun q => rickP (fun q => { q with host := { q.host with admitted := [msgOf 7 8 4095 (jB 4 0 3 0 0 0)], epUp := [(7, true)] }, rick := { q.rick with exports := [(3, some ⟨7, 4095, 9, 1, 0, 0, 0, false, 0⟩)], incs := [⟨1, 0, 0, 9, 0, 0, 0, 0, 0, false, []⟩] } }) (inTruss [(0x14, hostsSec)] q))
    let p : PlaneId := .A
    let ep : Fin 8 := 7
    let tenant : Fin 4096 := 4095
    let tag : Nat := 9
    let q := s.f.plane p
    let at_ := fun (what : List (Nat × Nat × Nat)) => p ∈ s.f.actors ep.val tenant.val clsJournal tag (saysJournal what)
    let e : Fin 4 := 3
    let x := (⟨7, 4095, 9, 1, 0, 0, 0, false, 0⟩ : Export)
    q.st.sends = true ∧ q.st.past = false ∧ q.epUp ep.val = true ∧ q.partner ep.val = none ∧ at_ [(0, 1, 4), (2, 1, e.val)] ∧
      exportAt q e.val = some x ∧ x.tenant = tenant.val) ∧
   (let s : State := duoP (fun q => rickP (fun q => { q with host := { q.host with admitted := [msgOf 7 8 4095 (jB 5 0 0 0 0 0)], epUp := [(7, true)] }, rick := { q.rick with exports := [], incs := [⟨1, 0, 0, 9, 0, 0, 0, 0, 0, false, []⟩] } }) (inTruss [(0x14, hostsSec)] q))
    let p : PlaneId := .A
    let ep : Fin 8 := 7
    let tenant : Fin 4096 := 4095
    let tag : Nat := 9
    let q := s.f.plane p
    let at_ := fun (what : List (Nat × Nat × Nat)) => p ∈ s.f.actors ep.val tenant.val clsJournal tag (saysJournal what)
    q.st.sends = true ∧ q.st.past = false ∧ q.epUp ep.val = true ∧ q.partner ep.val = none ∧ at_ [(0, 1, 5)] ∧ q.runsJournal = true ∧
      q.rick.incOpen = none) := by and_intros <;> decide

theorem test_met_JournalRequests_2 :
   (let s : State := duoP (fun q => (fun (g : Plane → Plane) (q : Plane) => g q) (fun q => { q with host := { q.host with admitted := [msgOf 7 8 4095 (jB 5 0 0 0 0 0)], epUp := [(7, true)] }, rick := { q.rick with exports := [], incs := [⟨1, 0, 0, 9, 0, 0, 0, 0, 0, false, []⟩] } }) (inTruss [(0x14, hostsSec)] q))
    let p : PlaneId := .A
    let ep : Fin 8 := 7
    let tenant : Fin 4096 := 4095
    let tag : Nat := 9
    let q := s.f.plane p
    let at_ := fun (what : List (Nat × Nat × Nat)) => p ∈ s.f.actors ep.val tenant.val clsJournal tag (saysJournal what)
    q.st.sends = true ∧ q.st.past = false ∧ q.epUp ep.val = true ∧ q.partner ep.val = none ∧ at_ [(0, 1, 5)] ∧ q.runsJournal = false) ∧
   (let s : State := duoP (fun q => rickP (fun q => { q with host := { q.host with admitted := [msgOf 7 8 4095 (jB 6 0 0 0 1 0)], epUp := [(7, true)] }, rick := { q.rick with exports := [], incs := [⟨1, 0, 0, 9, 0, 0, 0, 0, 0, false, []⟩] } }) (inTruss [(0x14, hostsSec)] q))
    let p : PlaneId := .A
    let ep : Fin 8 := 7
    let tenant : Fin 4096 := 4095
    let tag : Nat := 9
    let q := s.f.plane p
    let at_ := fun (what : List (Nat × Nat × Nat)) => p ∈ s.f.actors ep.val tenant.val clsJournal tag (saysJournal what)
    let id : Nat := 1
    q.st.sends = true ∧ q.st.past = false ∧ q.epUp ep.val = true ∧ q.partner ep.val = none ∧ at_ [(0, 1, 6), (8, 8, id)] ∧
      q.hasSession tenant.val = false) ∧
   (let s : State := let s := duoP (fun q => rickP (fun q => { q with host := { q.host with admitted := [msgOf 7 8 4095 (jB 6 0 0 0 1 0)], epUp := [(7, true)] }, rick := { q.rick with exports := [], incs := [⟨1, 0, 0, 9, 0, 0, 0, 0, 0, false, []⟩] } }) (inTruss [(0x14, hostsSec)] q)); { s with f := withSess 4095 3 s.f }
    let p : PlaneId := .A
    let ep : Fin 8 := 7
    let tenant : Fin 4096 := 4095
    let tag : Nat := 9
    let q := s.f.plane p
    let at_ := fun (what : List (Nat × Nat × Nat)) => p ∈ s.f.actors ep.val tenant.val clsJournal tag (saysJournal what)
    let id : Nat := 1
    q.st.sends = true ∧ q.st.past = false ∧ q.epUp ep.val = true ∧ q.partner ep.val = none ∧ at_ [(0, 1, 6), (8, 8, id)] ∧
      q.hasSession tenant.val = true ∧ q.rick.incs.any (·.id = id) = true ∧ ((q.rick.incs.filter (fun i => i.locked ∧ i.id ≠ id)).length < 256)) ∧
   (let s : State := let s := duoP (fun q => rickP (fun q => { q with host := { q.host with admitted := [msgOf 7 8 4095 (jB 6 0 0 0 1 0)], epUp := [(7, true)] }, rick := { q.rick with exports := [], incs := List.replicate 256 ⟨2, 2, 0, 9, 0, 0, 0, 0, 0, false, []⟩ ++ [⟨1, 0, 0, 9, 0, 0, 0, 0, 0, false, []⟩] } }) (inTruss [(0x14, hostsSec)] q)); { s with f := withSess 4095 3 s.f }
    let p : PlaneId := .A
    let ep : Fin 8 := 7
    let tenant : Fin 4096 := 4095
    let tag : Nat := 9
    let q := s.f.plane p
    let at_ := fun (what : List (Nat × Nat × Nat)) => p ∈ s.f.actors ep.val tenant.val clsJournal tag (saysJournal what)
    let id : Nat := 1
    q.st.sends = true ∧ q.st.past = false ∧ q.epUp ep.val = true ∧ q.partner ep.val = none ∧ at_ [(0, 1, 6), (8, 8, id)] ∧
      q.hasSession tenant.val = true ∧ q.rick.incs.any (·.id = id) = true ∧ (256 ≤ (q.rick.incs.filter (fun i => i.locked ∧ i.id ≠ id)).length)) ∧
   (let s : State := duoP (fun q => rickP (fun q => { q with host := { q.host with admitted := [msgOf 7 8 4095 (jB 7 0 0 0 1 0)], epUp := [(7, true)] }, rick := { q.rick with exports := [], incs := [⟨1, 0, 0, 9, 0, 0, 0, 0, 0, false, []⟩] } }) (inTruss [(0x14, hostsSec)] q))
    let p : PlaneId := .A
    let ep : Fin 8 := 7
    let tenant : Fin 4096 := 4095
    let tag : Nat := 9
    let q := s.f.plane p
    let at_ := fun (what : List (Nat × Nat × Nat)) => p ∈ s.f.actors ep.val tenant.val clsJournal tag (saysJournal what)
    let id : Nat := 1
    q.st.sends = true ∧ q.st.past = false ∧ q.epUp ep.val = true ∧ q.partner ep.val = none ∧ at_ [(0, 1, 7), (8, 8, id)] ∧
      q.hasSession tenant.val = false) ∧
   (let s : State := let s := duoP (fun q => rickP (fun q => { q with host := { q.host with admitted := [msgOf 7 8 4095 (jB 7 0 0 0 1 0)], epUp := [(7, true)] }, rick := { q.rick with exports := [], incs := [⟨1, 0, 0, 9, 0, 0, 0, 0, 0, false, []⟩] } }) (inTruss [(0x14, hostsSec)] q)); { s with f := withSess 4095 3 s.f }
    let p : PlaneId := .A
    let ep : Fin 8 := 7
    let tenant : Fin 4096 := 4095
    let tag : Nat := 9
    let q := s.f.plane p
    let at_ := fun (what : List (Nat × Nat × Nat)) => p ∈ s.f.actors ep.val tenant.val clsJournal tag (saysJournal what)
    let id : Nat := 1
    q.st.sends = true ∧ q.st.past = false ∧ q.epUp ep.val = true ∧ q.partner ep.val = none ∧ at_ [(0, 1, 7), (8, 8, id)] ∧
      q.hasSession tenant.val = true ∧ q.rick.incs.any (·.id = id) = true) ∧
   (let s : State := duoP (fun q => rickP (fun q => { q with host := { q.host with admitted := [msgOf 7 8 4095 []], epUp := [(7, true)] }, rick := { q.rick with exports := [(3, some ⟨7, 4095, 9, 1, 0, 0, 0, false, 7⟩)], legalNext := 300, incs := [⟨1, 0, 0, 9, 0, 0, 0, 0, 0, false, []⟩] } }) (inTruss [(0x14, hostsSec), (0x10, patch (List.replicate 64 0) [(24, leBytes 2 500)])] q))
    let p : PlaneId := .A
    let ep : Fin 8 := 7
    let tenant : Fin 4096 := 4095
    let tag : Nat := 9
    let q := s.f.plane p
    let e : Fin 4 := 3
    let x : Export := ⟨7, 4095, 9, 1, 0, 0, 0, false, 7⟩
    let budget := if x.prio then q.rk 26 2 else q.rk 24 2
    let n := min (min budget 9568) (min ((tierSpan q x.tier).2 - x.next) (0x1000000 - x.unacked))
    q.st.sends = true ∧ q.st.past = false ∧ q.epUp ep.val = true ∧ q.partner ep.val = none ∧ q.st.takes = true ∧
      ((∀ j < 4, exportAt q j = if j = e.val then some x else none)) ∧ x.ep = ep.val ∧ x.tenant = tenant.val ∧ x.tag = tag ∧
        x.lastTick ≠ q.st.tick ∧ x.stop = 0 ∧ (tierSpan q x.tier).1 ≤ x.next ∧ q.rick.noTap = false ∧ 0 < n) ∧
   (let s : State := duoP (fun q => rickP (fun q => { q with host := { q.host with admitted := [ackMsg 3 20], epUp := [(7, true)] }, rick := { q.rick with exports := [(3, some ⟨7, 4095, 9, 1, 50, 0, 40, false, 0⟩)], incs := [⟨1, 0, 0, 9, 0, 0, 0, 0, 0, false, []⟩] } }) (inTruss [(0x14, hostsSec)] q))
    let p : PlaneId := .A
    let ep : Fin 8 := 7
    let tenant : Fin 4096 := 4095
    let q := s.f.plane p
    let e : Fin 4 := 3
    let acked : Nat := 20
    let x := (⟨7, 4095, 9, 1, 50, 0, 40, false, 0⟩ : Export)
    q.st.sends = true ∧ q.st.past = false ∧ q.epUp ep.val = true ∧ q.partner ep.val = none ∧
      (p ∈ s.f.actors ep.val tenant.val clsJournal 0 (fun b => decide (b.length = 16) && saysFields [(0, 1, e.val), (8, 8, acked)] b)) ∧
        exportAt q e.val = some x ∧ x.tenant = tenant.val) := by and_intros <;> decide

theorem test_met_JournalRequests_3 :
    let s : State := duoP (fun q => rickP (fun q => { q with host := { q.host with admitted := [msgOf 7 8 4095 (jB 4 0 3 0 0 0)], epUp := [(7, true)] }, rick := { q.rick with exports := [], incs := [⟨1, 0, 0, 9, 0, 0, 0, 0, 0, false, []⟩] } }) (inTruss [(0x14, hostsSec)] q))
    let p : PlaneId := .A
    let ep : Fin 8 := 7
    let tenant : Fin 4096 := 4095
    let tag : Nat := 9
    let q := s.f.plane p
    let at_ := fun (what : List (Nat × Nat × Nat)) => p ∈ s.f.actors ep.val tenant.val clsJournal tag (saysJournal what)
    let e : Fin 4 := 3
    q.st.sends = true ∧ q.st.past = false ∧ q.epUp ep.val = true ∧ q.partner ep.val = none ∧ at_ [(0, 1, 4), (2, 1, e.val)] ∧
      ((∀ x, exportAt q e.val = some x → x.tenant ≠ tenant.val)) := ⟨by decide, by decide, by decide, by decide, by decide, by intro x h; exact absurd h (by intro h; cases h)⟩

theorem test_met_JournalRequests_4 :
    let s : State := duoP (fun q => rickP (fun q => { q with host := { q.host with admitted := [ackMsg 3 20], epUp := [(7, true)] }, rick := { q.rick with exports := [], incs := [⟨1, 0, 0, 9, 0, 0, 0, 0, 0, false, []⟩] } }) (inTruss [(0x14, hostsSec)] q))
    let p : PlaneId := .A
    let ep : Fin 8 := 7
    let tenant : Fin 4096 := 4095
    let q := s.f.plane p
    let e : Fin 4 := 3
    let acked : Nat := 20
    q.st.sends = true ∧ q.st.past = false ∧ q.epUp ep.val = true ∧ q.partner ep.val = none ∧
      (p ∈ s.f.actors ep.val tenant.val clsJournal 0 (fun b => decide (b.length = 16) && saysFields [(0, 1, e.val), (8, 8, acked)] b)) ∧
        ((∀ x, exportAt q e.val = some x → x.tenant ≠ tenant.val)) := ⟨by decide, by decide, by decide, by decide, by decide, by intro x h; exact absurd h (by intro h; cases h)⟩

theorem test_met_TimeKeeping :
   (let s : State := duoP (fun q => { q with servo := { q.servo with due := true } })
    let p : PlaneId := .A
    let f := s.f
    let q := f.plane p
    q.st.takes = true ∧ q.servo.due = true) ∧
   (let s : State := duoP (fun q => { q with servo := { q.servo with due := false } })
    let p : PlaneId := .A
    let f := s.f
    let q := f.plane p
    q.st.takes = true ∧ q.servo.due = false) ∧
   (let s : State := duoP (fun q => { q with st := { q.st with tick := 200001 }, servo := { q.servo with pps := [5] } })
    let p : PlaneId := .A
    let f := s.f
    let q := f.plane p
    let x := 5
    q.st.takes = true ∧ q.servo.pps.getLast? = some x ∧ x + 2 * 10 ^ 9 ≤ 10000 * q.st.tick) ∧
   (let s : State := duoP (fun q => { q with st := { q.st with tick := 200000 }, servo := { q.servo with pps := [5, 10 ^ 9] } })
    let p : PlaneId := .A
    let f := s.f
    let q := f.plane p
    let x := 10 ^ 9
    q.st.takes = true ∧ q.servo.pps.getLast? = some x ∧ 10000 * q.st.tick < x + 2 * 10 ^ 9) ∧
   (let s : State := duo (·.onE (fun e => ({ e with counter := 10 ^ 9, seqr := { e.seqr with ppsStep := true } } : Eaves).onRegs (·.set 0 TIME_PPS_STATUS_OUT_EN 1)))
    let dt : Nat := 0
    let f := s.f
    let e := f.e.at dt
    e.regs.get 0 TIME_PPS_STATUS_OUT_EN = 1 ∧ e.counter % 1000000000 = 0 ∧ e.seqr.ppsLast = none ∧ awake e = true) ∧
   (let s : State := duoP (fun q => let q := inTruss [(0x0F, [8])] q; { q with servo := { q.servo with tq := 0, base := 60, calMin := 0 } })
    let p : PlaneId := .A
    let f := s.f
    let q := f.plane p
    let ptp := q.servo.base * 10 ^ 9 + q.st.ts
    let sec := ptp / 10 ^ 9
    q.st.takes = true ∧ q.servo.tq = 0 ∧ bit (q.tm 0 1 0) 3 = true ∧ sec % 60 = 0 ∧ q.servo.calMin ≠ sec / 60) ∧
   (let s : State := duo id
    let dt : Nat := 0
    let f := s.f
    let e := f.e.at dt
    awake f.e = true) := by and_intros <;> decide

theorem test_met_TimeMessages :
   (let s : State := duoP (fun q => let q := inTruss [(0x14, hostsSec), (0x0F, patch (List.replicate 32 0) [(18, leBytes 2 4095), (24, [23]), (28, leBytes 4 (2 ^ 23))])] q; { q with servo := { q.servo with reports := [], src := 0 }, host := { q.host with admitted := [msgOf 7 9 4095 (leBytes 32 1)], epUp := [(7, true)] } })
    let p : PlaneId := .A
    let q := s.f.plane p
    let ep : Fin 8 := 7
    let tenant : Fin 4096 := 4095
    let tag : Nat := 9
    let at_ := fun (what : List (Nat × Nat × Nat)) => p ∈ s.f.actors ep.val tenant.val clsTime tag (saysFields what)
    q.epUp ep.val = true ∧ q.st.sends = true ∧ q.st.past = false ∧ q.partner ep.val = none ∧ at_ [(0, 1, 1)]) ∧
   (let s : State := duoP (fun q => let q := inTruss [(0x14, hostsSec), (0x0F, patch (List.replicate 32 0) [(18, leBytes 2 4095), (24, [23]), (28, leBytes 4 (2 ^ 23))])] q; { q with servo := { q.servo with reports := [], src := 0 }, host := { q.host with admitted := [msgOf 7 9 4095 (leBytes 4 2 ++ leBytes 4 0 ++ leBytes 8 5 ++ leBytes 8 0)], epUp := [(7, true)] } })
    let p : PlaneId := .A
    let q := s.f.plane p
    let ep : Fin 8 := 7
    let tenant : Fin 4096 := 4095
    let tag : Nat := 9
    let at_ := fun (what : List (Nat × Nat × Nat)) => p ∈ s.f.actors ep.val tenant.val clsTime tag (saysFields what)
    let ref : Nat := 5
    let ptp : Nat := 0
    let err : Nat := 0
    q.epUp ep.val = true ∧ q.st.sends = true ∧ q.st.past = false ∧ q.partner ep.val = none ∧
      at_ [(0, 1, 2), (4, 4, err), (8, 8, ref), (16, 8, ptp)] ∧ (tenant.val ≠ timeTenant q ∨ q.servo.reports.find? (fun r => r.1 = ref) = none)) ∧
   (let s : State := duoP (fun q => let q := inTruss [(0x14, hostsSec), (0x0F, patch (List.replicate 32 0) [(18, leBytes 2 4095), (24, [23]), (28, leBytes 4 (2 ^ 23))])] q; { q with servo := { q.servo with reports := [(5, 6)], src := 0 }, host := { q.host with admitted := [msgOf 7 9 4095 (leBytes 4 2 ++ leBytes 4 8 ++ leBytes 8 5 ++ leBytes 8 7)], epUp := [(7, true)] } })
    let p : PlaneId := .A
    let q := s.f.plane p
    let ep : Fin 8 := 7
    let tenant : Fin 4096 := 4095
    let tag : Nat := 9
    let at_ := fun (what : List (Nat × Nat × Nat)) => p ∈ s.f.actors ep.val tenant.val clsTime tag (saysFields what)
    let ref : Nat := 5
    let ptp : Nat := 7
    let err : Nat := 8
    let r := ((5, 6) : Nat × Int)
    q.epUp ep.val = true ∧ q.st.sends = true ∧ q.st.past = false ∧ q.partner ep.val = none ∧
      at_ [(0, 1, 2), (4, 4, err), (8, 8, ref), (16, 8, ptp)] ∧ tenant.val = timeTenant q ∧ (q.servo.reports.find? (fun r => r.1 = ref) = some r)) ∧
   (let s : State := duoP (fun q => let q := inTruss [(0x14, hostsSec), (0x0F, patch (List.replicate 32 0) [(18, leBytes 2 4094), (24, [23]), (28, leBytes 4 (2 ^ 23))])] q; { q with servo := { q.servo with reports := [], src := 0 }, host := { q.host with admitted := [msgOf 7 9 4095 (leBytes 2 3 ++ leBytes 2 37)], epUp := [(7, true)] } })
    let p : PlaneId := .A
    let q := s.f.plane p
    let ep : Fin 8 := 7
    let tenant : Fin 4096 := 4095
    let tag : Nat := 9
    let at_ := fun (what : List (Nat × Nat × Nat)) => p ∈ s.f.actors ep.val tenant.val clsTime tag (saysFields what)
    let utc : Nat := 37
    q.epUp ep.val = true ∧ q.st.sends = true ∧ q.st.past = false ∧ q.partner ep.val = none ∧ at_ [(0, 1, 3), (2, 2, utc)] ∧ tenant.val ≠ timeTenant q) ∧
   (let s : State := duoP (fun q => let q := inTruss [(0x14, hostsSec), (0x0F, patch (List.replicate 32 0) [(18, leBytes 2 4095), (24, [23]), (28, leBytes 4 (2 ^ 23))])] q; { q with servo := { q.servo with reports := [], src := 0 }, host := { q.host with admitted := [msgOf 7 9 4095 (leBytes 2 3 ++ leBytes 2 255)], epUp := [(7, true)] } })
    let p : PlaneId := .A
    let q := s.f.plane p
    let ep : Fin 8 := 7
    let tenant : Fin 4096 := 4095
    let tag : Nat := 9
    let at_ := fun (what : List (Nat × Nat × Nat)) => p ∈ s.f.actors ep.val tenant.val clsTime tag (saysFields what)
    let utc : Nat := 255
    q.epUp ep.val = true ∧ q.st.sends = true ∧ q.st.past = false ∧ q.partner ep.val = none ∧ at_ [(0, 1, 3), (2, 2, utc)] ∧
      tenant.val = timeTenant q ∧ q.servo.src ≠ 1 ∧ utc < 65536) ∧
   (let s : State := duoP (fun q => let q := inTruss [(3, patch (List.replicate 2368 0) [(64 + 23 * 96, [4])]), (0x14, hostsSec), (0x0F, patch (List.replicate 32 0) [(18, leBytes 2 4095), (24, [23]), (28, leBytes 4 (2 ^ 23))])] q; { q with servo := { q.servo with reports := [], src := 0 }, host := { q.host with admitted := [msgOf 7 9 4095 []], epUp := [(7, true)] } })
    let p : PlaneId := .A
    let q := s.f.plane p
    let n : Fin 24 := 23
    q.st.takes = true ∧ (ethRec q.truss n.val).f 0 2 2 = 1 ∧ q.tm 28 4 0 = 2 ^ n.val) ∧
   (let s : State := duoP (fun q => let q := inTruss [(0x14, hostsSec), (0x0F, patch (List.replicate 32 0) [(18, leBytes 2 4094), (24, [23]), (28, [0])])] q; { q with servo := { q.servo with reports := [], src := 0 }, host := { q.host with admitted := [msgOf 7 9 4095 []], epUp := [(7, true)] } })
    let p : PlaneId := .A
    let q := s.f.plane p
    q.st.takes = true ∧ q.tm 28 4 0 = 0) ∧
   (let s : State := duoP (fun q => let q := inTruss [(0x14, hostsSec), (0x0F, patch (List.replicate 32 0) [(18, leBytes 2 4095), (24, [23]), (28, leBytes 4 (2 ^ 23))])] q; { q with servo := { q.servo with reports := [], src := 0 }, host := { q.host with admitted := [msgOf 7 9 4095 []], epUp := [(7, true)] } })
    let p : PlaneId := .A
    let q := s.f.plane p
    let n : Fin 24 := 23
    q.st.takes = true ∧ q.tm 24 1 0xFF = n.val) ∧
   (let s : State := duoP (fun q => let q := inTruss [(0x14, hostsSec), (0x0F, patch (List.replicate 32 0) [(18, leBytes 2 4095), (24, [23]), (28, leBytes 4 (2 ^ 23))])] q; { q with servo := { q.servo with reports := [], src := 0 }, host := { q.host with admitted := [msgOf 7 9 4095 []], epUp := [(7, true)] } })
    let p : PlaneId := .A
    let q := s.f.plane p
    q.st.takes = true) := by and_intros <;> decide

theorem test_met_PlaneFaults_1 :
   (let s : State := duo id
    let p : PlaneId := .A
    let f := s.f
    let o : Fin 64 := 21
    fluePlaneClass o.val = some 1 ∧ (f.e.src (planeSrc p o.val)).live = false ∧ f.phase = 0 ∧ f.e.role p = .leading ∧ f.e.role p.other = .shadow) ∧
   (let s : State := duo id
    let p : PlaneId := .B
    let f := s.f
    let o : Fin 64 := 21
    fluePlaneClass o.val = some 1 ∧ (f.e.src (planeSrc p o.val)).live = false ∧ f.phase = 0 ∧ f.e.role p = .shadow ∧ f.e.role p.other = .leading) ∧
   (let s : State := solo id
    let p : PlaneId := .A
    let f := s.f
    let o : Fin 64 := 21
    fluePlaneClass o.val = some 1 ∧ (f.e.src (planeSrc p o.val)).live = false ∧ f.phase = 0 ∧ f.e.role p = .leading ∧ f.e.role p.other ≠ .shadow ∧
      f.e.mode = .service ∧ f.e.seqr.kind = .idle ∧ f.e.seqr.off = false) ∧
   (let s : State := solo id
    let p : PlaneId := .B
    let dt : Nat := 100000
    let f := s.f
    let e := f.e.at dt
    let r := e.rj p
    f.e.role p = .offline ∧ f.e.role p.other = .leading ∧ rejoinMode e = true ∧ e.stageOf p ≠ 6 ∧ r.noTry = false ∧
      r.offAt + (if r.fails.head? = some r.offAt then 10 ^ 9 else 100000) ≤ e.counter) ∧
   (let s : State := solo (fun f => { f with e := ({ f.e with roleB := .rejoining } : Eaves).onRegs (·.set 0 ⟨planeStat .B, 31, 28⟩ 1) })
    let p : PlaneId := .B
    let f := s.f
    f.e.role p = .rejoining ∧ f.turn.newPlane = none ∧ f.e.stageOf p = 1) ∧
   (let s : State := solo (fun f => { f with e := ({ f.e with roleB := .rejoining } : Eaves).onRegs (·.set 0 ⟨planeStat .B, 31, 28⟩ 2) })
    let p : PlaneId := .B
    let f := s.f
    f.e.role p = .rejoining ∧ f.turn.newPlane = none ∧ f.e.stageOf p = 2) ∧
   (let s : State := solo (fun f => { f with e := ({ f.e with roleB := .rejoining } : Eaves).onRegs (·.set 0 ⟨planeStat .B, 31, 28⟩ 3) })
    let p : PlaneId := .B
    let f := s.f
    f.e.role p = .rejoining ∧ f.turn.newPlane = none ∧ f.e.stageOf p = 3) ∧
   (let s : State := solo (fun f => { f with e := ({ f.e with roleB := .rejoining, rjB := { f.e.rjB with fails := [0, 0] } } : Eaves).onRegs (·.set 0 ⟨planeStat .B, 31, 28⟩ 3) })
    let p : PlaneId := .B
    let f := s.f
    f.e.role p = .rejoining ∧ f.turn.newPlane = none ∧ ((f.e.stageOf p = 1 ∨ f.e.stageOf p = 2 ∨ f.e.stageOf p = 3))) := by and_intros <;> decide

theorem test_met_PlaneFaults_2 :
   (let s : State := solo (fun f => { f with e := ({ f.e with roleB := .rejoining } : Eaves).onRegs (·.set 0 ⟨planeStat .B, 31, 28⟩ 5) })
    let p : PlaneId := .B
    let dt : Nat := 10 ^ 12
    let f := s.f
    f.e.role p = .rejoining ∧ f.turn.newPlane = none ∧ 1 ≤ f.e.stageOf p ∧ f.e.stageOf p ≤ 5 ∧
      (f.e.rj p).stageAt + stageMax (f.e.stageOf p) < (f.e.at dt).counter) ∧
   (let s : State := solo (fun f => { f with e := ({ f.e with roleB := .rejoining } : Eaves).onRegs (·.set 0 ⟨planeStat .B, 31, 28⟩ 4), b := f.b.onRegs (·.set 0 (PURLIN_STAT_UP f.b.st.me.num) 1) })
    let p : PlaneId := .B
    let f := s.f
    let q := f.plane p
    f.e.role p = .rejoining ∧ f.turn.newPlane = none ∧ f.e.stageOf p = 4 ∧ f.e.leader = some p.other ∧ purlinUp q = true ∧
      f.e.merger.lastTick ≤ (f.plane p.other).st.tick) ∧
   (let s : State := solo (fun f => { f with e := ({ f.e with roleB := .rejoining } : Eaves).onRegs (·.set 0 ⟨planeStat .B, 31, 28⟩ 4), b := f.b.onRegs (·.set 0 (PURLIN_STAT_UP f.b.st.me.num) 0) })
    let p : PlaneId := .B
    let f := s.f
    let q := f.plane p
    f.e.role p = .rejoining ∧ f.turn.newPlane = none ∧ f.e.stageOf p = 4 ∧ f.e.leader = some p.other ∧ purlinUp q = false) ∧
   (let s : State := solo (fun f => { f with e := ({ f.e with roleB := .rejoining } : Eaves).onRegs (·.set 0 ⟨planeStat .B, 31, 28⟩ 5) })
    let p : PlaneId := .B
    let f := s.f
    let q := f.plane p
    f.e.role p = .rejoining ∧ f.turn.newPlane = none ∧ f.e.stageOf p = 5 ∧ q.st.inbox = [] ∧ (f.e.rj p).level = false) ∧
   (let s : State := solo (fun f => { f with e := ({ f.e with roleB := .rejoining } : Eaves).onRegs (·.set 0 ⟨planeStat .B, 31, 28⟩ 4), copy := some ⟨.B, 0, some f.a⟩ })
    let p : PlaneId := .B
    let f := s.f
    let q := f.plane p
    let j : Nat := 0
    let snap : Plane := s.f.a
    f.copy = some ⟨p, j, some snap⟩ ∧ f.e.role p = .rejoining ∧ f.e.leader = some p.other ∧ q.st.inbox = [] ∧ (f.plane p.other).st.inbox = [] ∧
      (f.plane p.other).st.auths = [] ∧ q.fwd.metBad = false ∧ (f.plane p.other).fwd.metBad = false ∧ q.st.newT = false) ∧
   (let s : State := solo (fun f => { f with e := ({ f.e with roleB := .rejoining } : Eaves).onRegs (·.set 0 ⟨planeStat .B, 31, 28⟩ 4), b := { f.b with st := { f.b.st with newT := true } }, copy := some ⟨.B, 0, some (f.a.onRegs (·.set 0 TRUSS_TURN_CTL_COLD_CARRY 1))⟩ })
    let p : PlaneId := .B
    let f := s.f
    let q := f.plane p
    let j : Nat := 0
    let snap : Plane := s.f.a.onRegs (·.set 0 TRUSS_TURN_CTL_COLD_CARRY 1)
    f.copy = some ⟨p, j, some snap⟩ ∧ f.e.role p = .rejoining ∧ f.e.leader = some p.other ∧ q.st.inbox = [] ∧ (f.plane p.other).st.inbox = [] ∧
      (f.plane p.other).st.auths = [] ∧ q.fwd.metBad = false ∧ (f.plane p.other).fwd.metBad = false ∧ q.st.newT = true ∧
        snap.regs.get 0 TRUSS_TURN_CTL_COLD_CARRY = 1) ∧
   (let s : State := solo (fun f => withSess 4095 3 (f.onE (·.onRegs (·.set 0 ⟨planeStat .B, 31, 28⟩ 6))))
    let p : PlaneId := .B
    let f := s.f
    let tenant : Fin 4096 := 4095
    f.lead.hasSession tenant.val = true ∧ f.e.stageOf p = 6 ∧ (f.e.rj p).noTry = false) ∧
   (let s : State := solo id
    let f := s.f
    let tenant : Fin 4096 := 4095
    f.lead.hasSession tenant.val = false) := by and_intros <;> decide

theorem test_met_FaultSources_1 :
   (let s : State := duo id
    let i : Fin 2048 := 2047
    flueClass i.val = none) ∧
   (let s : State := duo id
    let i : Fin 2048 := 2047
    flueClass i.val = none) ∧
   (let s : State := duo (·.onE (fun e => e.onSrc 387 (fun x => { x with live := true })))
    let f := s.f
    let e := f.e
    let i : Fin 2048 := 387
    flueClass i.val ≠ none ∧ (e.src i.val).live = true) ∧
   (let s : State := duo (·.onE (fun e => e.onSrc 387 (fun x => { x with live := true })))
    let f := s.f
    let e := f.e
    let i : Fin 2048 := 387
    flueClass i.val ≠ none ∧ (e.src i.val).live = true) ∧
   (let s : State := duo id
    let f := s.f
    let e := f.e
    let i : Fin 2048 := 387
    (e.src i.val).live = false ∧ (flueClass i.val = some 0 ∨ flueClass i.val = some 3)) ∧
   (let s : State := duo id
    let f := s.f
    let e := f.e
    let i : Fin 2048 := 160
    (e.src i.val).live = false ∧ (flueClass i.val = some 0 ∨ flueClass i.val = some 3)) ∧
   (let s : State := duo (withSess 4095 3)
    let f := s.f
    let e := f.e
    let i : Fin 2048 := 105
    let tenant : Fin 4096 := 4095
    (e.src i.val).live = false ∧ (flueClass i.val = some 0 ∨ flueClass i.val = some 3) ∧ f.lead.hasSession tenant.val = true) ∧
   (let s : State := duo id
    let f := s.f
    let e := f.e
    let Calm := e.mode = .service ∧ e.seqr.kind = .idle ∧ e.seqr.off = false
    let i : Fin 2048 := 13
    (e.src i.val).live = false ∧ flueClass i.val = some 2 ∧ Calm) := by and_intros <;> decide

theorem test_met_FaultSources_2 :
   (let s : State := duo id
    let f := s.f
    let i : Fin 2048 := 2047
    let tenant : Fin 4096 := 4095
    let c : Instr := .flueForceRail tenant i
    f.lead.hasSession tenant.val = false ∧ ((c = .flueForcePulse tenant i ∨ c = .flueForceRail tenant i))) ∧
   (let s : State := duo (withSess 4095 3)
    let f := s.f
    let i : Fin 2048 := 2047
    let tenant : Fin 4096 := 4095
    let c : Instr := .flueForceRail tenant i
    f.lead.hasSession tenant.val = true ∧ flueClass i.val = none ∧ ((c = .flueForcePulse tenant i ∨ c = .flueForceRail tenant i))) ∧
   (let s : State := duo id
    let f := s.f
    let e := f.e
    let i : Fin 2048 := 0
    ((i.val = 13 → ∀ k < 5, tamperActive e k = false))) ∧
   (let s : State := duo (·.onE (fun e => { e with seqr := { e.seqr with tamperEn := 31, tamperHigh := 31, tamperPol := 31 } }))
    let f := s.f
    let e := f.e
    let i : Fin 2048 := 13
    i.val = 13 ∧ ((∃ k < 5, tamperActive e k = true))) ∧
   (let s : State := duo id
    let f := s.f
    let e := f.e
    let Calm := e.mode = .service ∧ e.seqr.kind = .idle ∧ e.seqr.off = false
    (e.src 0).live = false ∧ Calm) ∧
   (let s : State := duo id
    let f := s.f
    let e := f.e
    let k : Fin 3 := 2
    (e.src (1 + 2 * k.val)).live = false) ∧
   (let s : State := duo id
    let f := s.f
    let e := f.e
    let Calm := e.mode = .service ∧ e.seqr.kind = .idle ∧ e.seqr.off = false
    let k : Fin 3 := 2
    (e.src (2 + 2 * k.val)).live = false ∧ Calm) ∧
   (let s : State := duo id
    let f := s.f
    let e := f.e
    let n : Fin 2 := 1
    (e.src (7 + n.val)).live = false) := by and_intros <;> decide

theorem test_met_FaultSources_3 :
   (let s : State := duo id
    let f := s.f
    let e := f.e
    let p : PlaneId := .B
    let other := match p with | .A => e.seqr.refB | .B => e.seqr.refA
    other = true ∧ (e.src (planeSrc p 16)).live = false ∧ e.role p = .shadow ∧ e.role p.other = .leading ∧ f.phase = 0) ∧
   (let s : State := duo (·.onE (fun e => { e with seqr := { e.seqr with refB := false } }))
    let f := s.f
    let e := f.e
    let Calm := e.mode = .service ∧ e.seqr.kind = .idle ∧ e.seqr.off = false
    let p : PlaneId := .A
    let other := match p with | .A => e.seqr.refB | .B => e.seqr.refA
    other = false ∧ (e.src 9).live = false ∧ Calm) ∧
   (let s : State := solo id
    let f := s.f
    let e := f.e
    e.shadow = none) ∧
   (let s : State := duo id
    let f := s.f
    let e := f.e
    let p := (.B : PlaneId)
    e.role p = .shadow ∧ e.role p.other = .leading ∧ (e.src (planeSrc p 14)).live = false ∧ f.phase = 0) ∧
   (let s : State := duo id
    let f := s.f
    let dLead : Nat := 0
    let dShadow : Nat := 0
    ((f.compares = false ∨ dLead = dShadow))) ∧
   (let s : State := duo (fun f => { f with a := { f.a with truss := { f.a.truss with flags := 1 } } })
    let f := s.f
    let e := f.e
    let dLead : Nat := 1
    let dShadow : Nat := 0
    f.compares = true ∧ dLead ≠ dShadow ∧ e.sel.window = none) ∧
   (let s : State := duo (·.onE (fun e => { e with sel := { e.sel with window := some (511, 7, 1, 2) } }))
    let f := s.f
    let e := f.e
    let dt : Nat := 5000
    let port : Nat := 511
    let oseq : Nat := 7
    let a : Nat := 1
    let b : Nat := 2
    let p : PlaneId := .B
    e.sel.window = some (port, oseq, a, b) ∧ e.sel.windowAt + 5000 ≤ (e.at dt).counter ∧ port < 512 ∧ e.role p = .shadow ∧
      e.role p.other = .leading ∧ f.phase = 0 ∧ (e.src (planeSrc p 9)).live = false) := by and_intros <;> decide

theorem test_met_AliveAndSafe_1 :
   (let s : State := duo (fun f => { f with e := { f.e with counter := 10 ^ 6, merger := { f.e.merger with lastTickAt := 10 ^ 6, lastTick := 100 } }, a := { f.a with st := { f.a.st with tick := 100 } } })
    let dt : Nat := 5
    let f := s.f
    let fd := f.onE (·.at dt)
    aliveRuns fd = true ∧ fd.e.seqr.aliveAt + 500000 ≤ fd.e.counter) ∧
   (let s : State := duo (fun f => { f with e := { f.e with seqr := { f.e.seqr with aliveAt := 10 ^ 6 }, counter := 10 ^ 6, merger := { f.e.merger with lastTickAt := 10 ^ 6, lastTick := 100 } }, a := { f.a with st := { f.a.st with tick := 100 } } })
    let dt : Nat := 5
    let f := s.f
    let fd := f.onE (·.at dt)
    aliveRuns fd = true ∧ fd.e.counter < fd.e.seqr.aliveAt + 500000) ∧
   (let s : State := duo (·.onE (fun e => ({ e with roleA := .shadow } : Eaves)))
    let dt : Nat := 5
    let f := s.f
    let fd := f.onE (·.at dt)
    aliveRuns fd = false) ∧
   (let s : State := duo (·.onE id)
    let dt : Nat := 0
    let f := s.f
    let fd := f.onE (·.at dt)
    let latest := fun (p : PlaneId) => if (f.h.hbOf .HB p).since ≤ (f.h.hbOf .HA p).since then f.h.hbOf .HA p else f.h.hbOf .HB p
    let fresh := fun (p : PlaneId) => (latest p).state = 1 ∧ fd.e.counter ≤ (latest p).since + 300000
    ((∀ p, ¬ fresh p))) ∧
   (let s : State := duo (·.onE (fun e => ({ e with mode := .safe } : Eaves)))
    let f := s.f
    f.e.mode = .safe ∧ f.e.seqr.safeDone = false ∧ f.a.st.inbox = [] ∧ f.b.st.inbox = []) := by
  and_intros <;> first
    | (refine (fun x => ?_); cases x <;> decide)
    | decide

theorem test_met_AliveAndSafe_2 :
    let s : State := duoH (fun h => { hbRunning h with hb := (List.range 4).map (fun k => (k, ⟨false, 1, 1 + k % 2, 0, 0, 0, 400000⟩)) })
    let dt : Nat := 500000
    let f := s.f
    let fd := f.onE (·.at dt)
    let latest := fun (p : PlaneId) => if (f.h.hbOf .HB p).since ≤ (f.h.hbOf .HA p).since then f.h.hbOf .HA p else f.h.hbOf .HB p
    let fresh := fun (p : PlaneId) => (latest p).state = 1 ∧ fd.e.counter ≤ (latest p).since + 300000
    ((∃ p, fresh p)) ∧ f.h.aliveHAt + 500000 ≤ fd.e.counter := ⟨⟨.A, by decide⟩, by decide⟩

theorem test_met_AliveAndSafe_3 :
    let s : State := duoH hbRunning
    let dt : Nat := 5
    let f := s.f
    let fd := f.onE (·.at dt)
    let latest := fun (p : PlaneId) => if (f.h.hbOf .HB p).since ≤ (f.h.hbOf .HA p).since then f.h.hbOf .HA p else f.h.hbOf .HB p
    let fresh := fun (p : PlaneId) => (latest p).state = 1 ∧ fd.e.counter ≤ (latest p).since + 300000
    ((∃ p, fresh p)) ∧ fd.e.counter < f.h.aliveHAt + 500000 := ⟨⟨.A, by decide⟩, by decide⟩

theorem test_met_ModeRequests_1 :
   (let s : State := duo (fun f => (·.onE (fun e => ({ e with seqr := { e.seqr with kind := .banked } } : Eaves))) ({ f with a := mq ([1]) f.a, b := mq ([1]) f.b } : Field))
    let p : PlaneId := .A
    let ep : Fin 8 := 7
    let tenant : Fin 4096 := 4095
    let tag : Nat := 9
    let f := s.f
    let e := f.e
    let q := f.plane p
    let at_ := fun (what : List Byte → Bool) => p ∈ f.actors ep.val tenant.val clsMode tag what
    e.leader = some p ∧ e.mode ≠ .safe ∧ q.epUp ep.val = true ∧ q.st.sends = true ∧ q.partner ep.val = none ∧ at_ (saysFields [(0, 1, 1)])) ∧
   (let s : State := duo (fun f => (withPhase 1) ({ f with a := mq ([2, 1, 0]) f.a, b := mq ([2, 1, 0]) f.b } : Field))
    let p : PlaneId := .A
    let ep : Fin 8 := 7
    let tenant : Fin 4096 := 4095
    let tag : Nat := 9
    let f := s.f
    let e := f.e
    let q := f.plane p
    let at_ := fun (what : List Byte → Bool) => p ∈ f.actors ep.val tenant.val clsMode tag what
    e.leader = some p ∧ e.mode ≠ .safe ∧ q.epUp ep.val = true ∧ q.st.sends = true ∧ q.partner ep.val = none ∧ at_ (saysEnter 1 false) ∧ f.phase ≠ 0) ∧
   (let s : State := duo (fun f => (id) ({ f with a := mq ([2, 1, 0]) f.a, b := mq ([2, 1, 0]) f.b } : Field))
    let p : PlaneId := .A
    let ep : Fin 8 := 7
    let tenant : Fin 4096 := 4095
    let tag : Nat := 9
    let f := s.f
    let e := f.e
    let q := f.plane p
    let at_ := fun (what : List Byte → Bool) => p ∈ f.actors ep.val tenant.val clsMode tag what
    e.leader = some p ∧ e.mode ≠ .safe ∧ q.epUp ep.val = true ∧ q.st.sends = true ∧ q.partner ep.val = none ∧ at_ (saysEnter 1 false) ∧
      f.phase = 0 ∧ e.mode = .service ∧ e.seqr.kind = .idle) ∧
   (let s : State := duo (fun f => (·.onE (fun e => ({ e with mode := .banked, pstate := .p2, counter := 5 } : Eaves))) ({ f with a := mq ([2, 1, 0]) f.a, b := mq ([2, 1, 0]) f.b } : Field))
    let p : PlaneId := .A
    let ep : Fin 8 := 7
    let tenant : Fin 4096 := 4095
    let tag : Nat := 9
    let f := s.f
    let e := f.e
    let q := f.plane p
    let at_ := fun (what : List Byte → Bool) => p ∈ f.actors ep.val tenant.val clsMode tag what
    e.leader = some p ∧ e.mode ≠ .safe ∧ q.epUp ep.val = true ∧ q.st.sends = true ∧ q.partner ep.val = none ∧ at_ (saysEnter 1 false) ∧
      f.phase = 0 ∧ q.nv.slotRec.otherState ≠ 1 ∧ q.nv.slotRec.otherState ≠ 2 ∧ e.seqr.latched = none ∧ e.mode = .banked ∧ e.seqr.kind = .idle ∧
        e.seqr.off = false ∧ q.kiln.sess = []) ∧
   (let s : State := duo (fun f => (·.onE (fun e => ({ e with seqr := { e.seqr with kind := .banked } } : Eaves))) ({ f with a := mq ([2, 1, 0]) f.a, b := mq ([2, 1, 0]) f.b } : Field))
    let p : PlaneId := .A
    let ep : Fin 8 := 7
    let tenant : Fin 4096 := 4095
    let tag : Nat := 9
    let f := s.f
    let e := f.e
    let q := f.plane p
    let at_ := fun (what : List Byte → Bool) => p ∈ f.actors ep.val tenant.val clsMode tag what
    e.leader = some p ∧ e.mode ≠ .safe ∧ q.epUp ep.val = true ∧ q.st.sends = true ∧ q.partner ep.val = none ∧ at_ (saysEnter 1 false) ∧
      f.phase = 0 ∧ q.nv.slotRec.otherState ≠ 1 ∧ q.nv.slotRec.otherState ≠ 2 ∧ e.seqr.latched = none ∧ e.seqr.kind = .banked) ∧
   (let s : State := duo (fun f => (withPhase 1) ({ f with a := mq ([2, 4, 1]) f.a, b := mq ([2, 4, 1]) f.b } : Field))
    let p : PlaneId := .A
    let ep : Fin 8 := 7
    let tenant : Fin 4096 := 4095
    let tag : Nat := 9
    let f := s.f
    let e := f.e
    let q := f.plane p
    let at_ := fun (what : List Byte → Bool) => p ∈ f.actors ep.val tenant.val clsMode tag what
    let force : Bool := true
    let c : Instr := .enterEmber ep tenant tag force
    let target : Nat := 4
    e.leader = some p ∧ e.mode ≠ .safe ∧ q.epUp ep.val = true ∧ q.st.sends = true ∧ q.partner ep.val = none ∧
      (((c, target) = (.enterBanked ep tenant tag force, 3) ∨ (c, target) = (.enterEmber ep tenant tag force, 4) ∨ (c, target) = (.enterOff ep tenant tag force, 6))) ∧ at_ (saysEnter target force) ∧ f.phase ≠ 0) ∧
   (let s : State := duo (fun f => (·.onE (fun e => ({ e with mode := .banked, pstate := .p2, counter := 5 } : Eaves))) ({ f with a := mq ([2, 3, 1]) f.a, b := mq ([2, 3, 1]) f.b } : Field))
    let p : PlaneId := .A
    let ep : Fin 8 := 7
    let tenant : Fin 4096 := 4095
    let tag : Nat := 9
    let f := s.f
    let e := f.e
    let q := f.plane p
    let at_ := fun (what : List Byte → Bool) => p ∈ f.actors ep.val tenant.val clsMode tag what
    let force : Bool := true
    let c : Instr := .enterBanked ep tenant tag force
    let target : Nat := 3
    e.leader = some p ∧ e.mode ≠ .safe ∧ q.epUp ep.val = true ∧ q.st.sends = true ∧ q.partner ep.val = none ∧
      (((c, target) = (.enterBanked ep tenant tag force, 3) ∨ (c, target) = (.enterEmber ep tenant tag force, 4) ∨ (c, target) = (.enterOff ep tenant tag force, 6))) ∧ at_ (saysEnter target force) ∧ f.phase = 0 ∧ e.mode = .banked ∧ e.seqr.kind = .idle ∧ target = 3) ∧
   (let s : State := duo (fun f => (·.onE (fun e => ({ e with seqr := { e.seqr with kind := .banked } } : Eaves))) ({ f with a := mq ([2, 6, 1]) f.a, b := mq ([2, 6, 1]) f.b } : Field))
    let p : PlaneId := .A
    let ep : Fin 8 := 7
    let tenant : Fin 4096 := 4095
    let tag : Nat := 9
    let f := s.f
    let e := f.e
    let q := f.plane p
    let at_ := fun (what : List Byte → Bool) => p ∈ f.actors ep.val tenant.val clsMode tag what
    let force : Bool := true
    let c : Instr := .enterOff ep tenant tag force
    let target : Nat := 6
    e.leader = some p ∧ e.mode ≠ .safe ∧ q.epUp ep.val = true ∧ q.st.sends = true ∧ q.partner ep.val = none ∧
      (((c, target) = (.enterBanked ep tenant tag force, 3) ∨ (c, target) = (.enterEmber ep tenant tag force, 4) ∨ (c, target) = (.enterOff ep tenant tag force, 6))) ∧ at_ (saysEnter target force) ∧ f.phase = 0 ∧ e.seqr.kind ≠ .idle) := by and_intros <;> decide

theorem test_met_ModeRequests_2 :
   (let s : State := duo (fun f => (id) ({ f with a := mq ([2, 3, 1]) f.a, b := mq ([2, 3, 1]) f.b } : Field))
    let p : PlaneId := .A
    let ep : Fin 8 := 7
    let tenant : Fin 4096 := 4095
    let tag : Nat := 9
    let f := s.f
    let e := f.e
    let q := f.plane p
    let at_ := fun (what : List Byte → Bool) => p ∈ f.actors ep.val tenant.val clsMode tag what
    let force : Bool := true
    let c : Instr := .enterBanked ep tenant tag force
    let target : Nat := 3
    e.leader = some p ∧ e.mode ≠ .safe ∧ q.epUp ep.val = true ∧ q.st.sends = true ∧ q.partner ep.val = none ∧
      (((c, target) = (.enterBanked ep tenant tag force, 3) ∨ (c, target) = (.enterEmber ep tenant tag force, 4) ∨ (c, target) = (.enterOff ep tenant tag force, 6))) ∧ at_ (saysEnter target force) ∧ f.phase = 0 ∧ q.nv.slotRec.otherState ≠ 1 ∧ q.nv.slotRec.otherState ≠ 2 ∧ e.seqr.kind = .idle ∧ e.mode = .service ∧ e.regs.get 0 PWR_OVERRIDE_NO_SLEEP = 0 ∧ q.kiln.sess = [] ∧ ((notReady q = 0 ∨ (force = true ∧ bit (modesSec q.truss 0 1) 0 = true)))) ∧
   (let s : State := duo (fun f => (·.onE (fun e => ({ e with mode := .banked, pstate := .p2, counter := 5 } : Eaves))) ({ f with a := mq ([2, 6, 1]) f.a, b := mq ([2, 6, 1]) f.b } : Field))
    let p : PlaneId := .A
    let ep : Fin 8 := 7
    let tenant : Fin 4096 := 4095
    let tag : Nat := 9
    let f := s.f
    let e := f.e
    let q := f.plane p
    let at_ := fun (what : List Byte → Bool) => p ∈ f.actors ep.val tenant.val clsMode tag what
    let force : Bool := true
    let c : Instr := .enterOff ep tenant tag force
    let target : Nat := 6
    e.leader = some p ∧ e.mode ≠ .safe ∧ q.epUp ep.val = true ∧ q.st.sends = true ∧ q.partner ep.val = none ∧
      (((c, target) = (.enterBanked ep tenant tag force, 3) ∨ (c, target) = (.enterEmber ep tenant tag force, 4) ∨ (c, target) = (.enterOff ep tenant tag force, 6))) ∧ at_ (saysEnter target force) ∧ f.phase = 0 ∧ q.nv.slotRec.otherState ≠ 1 ∧ q.nv.slotRec.otherState ≠ 2 ∧ e.seqr.kind = .idle ∧ e.mode = .banked ∧ target ≠ 3 ∧ e.regs.get 0 PWR_OVERRIDE_NO_SLEEP = 0 ∧ q.kiln.sess = [] ∧ notReady q = 0) ∧
   (let s : State := duo (fun f => (·.onE (fun e => e.onRegs (·.set 0 PWR_OVERRIDE_NO_SLEEP 1))) ({ f with a := mq ([2, 4, 1]) f.a, b := mq ([2, 4, 1]) f.b } : Field))
    let p : PlaneId := .A
    let ep : Fin 8 := 7
    let tenant : Fin 4096 := 4095
    let tag : Nat := 9
    let f := s.f
    let e := f.e
    let q := f.plane p
    let at_ := fun (what : List Byte → Bool) => p ∈ f.actors ep.val tenant.val clsMode tag what
    let force : Bool := true
    let c : Instr := .enterEmber ep tenant tag force
    let target : Nat := 4
    e.leader = some p ∧ e.mode ≠ .safe ∧ q.epUp ep.val = true ∧ q.st.sends = true ∧ q.partner ep.val = none ∧
      (((c, target) = (.enterBanked ep tenant tag force, 3) ∨ (c, target) = (.enterEmber ep tenant tag force, 4) ∨ (c, target) = (.enterOff ep tenant tag force, 6))) ∧ at_ (saysEnter target force) ∧ f.phase = 0 ∧ q.nv.slotRec.otherState ≠ 1 ∧ q.nv.slotRec.otherState ≠ 2 ∧ e.seqr.kind = .idle ∧ e.mode = .service ∧ e.regs.get 0 PWR_OVERRIDE_NO_SLEEP = 1) ∧
   (let s : State := duo (fun f => (fun f => (withSess 4095 3 f).onE (fun e => ({ e with mode := .workshop } : Eaves))) ({ f with a := mq ([2, 4, 1]) f.a, b := mq ([2, 4, 1]) f.b } : Field))
    let p : PlaneId := .A
    let ep : Fin 8 := 7
    let tenant : Fin 4096 := 4095
    let tag : Nat := 9
    let f := s.f
    let e := f.e
    let q := f.plane p
    let at_ := fun (what : List Byte → Bool) => p ∈ f.actors ep.val tenant.val clsMode tag what
    let force : Bool := true
    let c : Instr := .enterEmber ep tenant tag force
    let target : Nat := 4
    e.leader = some p ∧ e.mode ≠ .safe ∧ q.epUp ep.val = true ∧ q.st.sends = true ∧ q.partner ep.val = none ∧
      (((c, target) = (.enterBanked ep tenant tag force, 3) ∨ (c, target) = (.enterEmber ep tenant tag force, 4) ∨ (c, target) = (.enterOff ep tenant tag force, 6))) ∧ at_ (saysEnter target force) ∧ f.phase = 0 ∧ q.nv.slotRec.otherState ≠ 1 ∧ q.nv.slotRec.otherState ≠ 2 ∧ e.seqr.kind = .idle ∧ e.mode = .workshop ∧ e.regs.get 0 PWR_OVERRIDE_NO_SLEEP = 0 ∧ q.kiln.sess ≠ []) ∧
   (let s : State := duo (fun f => ({ f with a := (inTruss [(5, patch (List.replicate 512 0) [(0, [1])])] (mq [2, 3, 0] f.a)), b := (inTruss [(5, patch (List.replicate 512 0) [(0, [1])])] (mq [2, 3, 0] f.b)) } : Field).onE (fun e => ({ e with counter := 5 } : Eaves)))
    let p : PlaneId := .A
    let ep : Fin 8 := 7
    let tenant : Fin 4096 := 4095
    let tag : Nat := 9
    let f := s.f
    let e := f.e
    let q := f.plane p
    let at_ := fun (what : List Byte → Bool) => p ∈ f.actors ep.val tenant.val clsMode tag what
    let force : Bool := false
    let c : Instr := .enterBanked ep tenant tag force
    let target : Nat := 3
    e.leader = some p ∧ e.mode ≠ .safe ∧ q.epUp ep.val = true ∧ q.st.sends = true ∧ q.partner ep.val = none ∧
      (((c, target) = (.enterBanked ep tenant tag force, 3) ∨ (c, target) = (.enterEmber ep tenant tag force, 4) ∨ (c, target) = (.enterOff ep tenant tag force, 6))) ∧ at_ (saysEnter target force) ∧ f.phase = 0 ∧ q.nv.slotRec.otherState ≠ 1 ∧ q.nv.slotRec.otherState ≠ 2 ∧ e.seqr.kind = .idle ∧ e.mode = .service ∧ e.regs.get 0 PWR_OVERRIDE_NO_SLEEP = 0 ∧ q.kiln.sess = [] ∧ 0 < notReady q ∧ ((force = false ∨ bit (modesSec q.truss 0 1) 0 = false))) ∧
   (let s : State := duo (fun f => (withPhase 1) ({ f with a := mq (leBytes 4 4 ++ leBytes 4 9) f.a, b := mq (leBytes 4 4 ++ leBytes 4 9) f.b } : Field))
    let p : PlaneId := .A
    let ep : Fin 8 := 7
    let tenant : Fin 4096 := 4095
    let tag : Nat := 9
    let f := s.f
    let e := f.e
    let q := f.plane p
    let at_ := fun (what : List Byte → Bool) => p ∈ f.actors ep.val tenant.val clsMode tag what
    let c : Instr := .modeHold ep tenant tag 9
    let ms : Nat := 9
    e.leader = some p ∧ e.mode ≠ .safe ∧ q.epUp ep.val = true ∧ q.st.sends = true ∧ q.partner ep.val = none ∧ (((c = .modeReset ep tenant tag ∧
      at_ (saysFields [(0, 1, 3)])) ∨ (c = .modeHold ep tenant tag ms ∧ at_ (saysFields [(0, 1, 4), (4, 4, ms)])))) ∧
        (f.phase ≠ 0 ∨ e.seqr.kind ≠ .idle)) ∧
   (let s : State := duo (fun f => (id) ({ f with a := mq ([3]) f.a, b := mq ([3]) f.b } : Field))
    let p : PlaneId := .A
    let ep : Fin 8 := 7
    let tenant : Fin 4096 := 4095
    let tag : Nat := 9
    let f := s.f
    let e := f.e
    let q := f.plane p
    let at_ := fun (what : List Byte → Bool) => p ∈ f.actors ep.val tenant.val clsMode tag what
    let c : Instr := .modeReset ep tenant tag
    let ms : Nat := 9
    e.leader = some p ∧ e.mode ≠ .safe ∧ q.epUp ep.val = true ∧ q.st.sends = true ∧ q.partner ep.val = none ∧ (((c = .modeReset ep tenant tag ∧
      at_ (saysFields [(0, 1, 3)])) ∨ (c = .modeHold ep tenant tag ms ∧ at_ (saysFields [(0, 1, 4), (4, 4, ms)])))) ∧ f.phase = 0 ∧
        e.seqr.kind = .idle ∧ q.hasSession tenant.val = false) ∧
   (let s : State := duo (fun f => (withSess 4095 3) ({ f with a := mq (leBytes 4 4 ++ leBytes 4 600001) f.a, b := mq (leBytes 4 4 ++ leBytes 4 600001) f.b } : Field))
    let p : PlaneId := .A
    let ep : Fin 8 := 7
    let tenant : Fin 4096 := 4095
    let tag : Nat := 9
    let f := s.f
    let e := f.e
    let q := f.plane p
    let at_ := fun (what : List Byte → Bool) => p ∈ f.actors ep.val tenant.val clsMode tag what
    let c : Instr := .modeHold ep tenant tag 600001
    let ms : Nat := 600001
    e.leader = some p ∧ e.mode ≠ .safe ∧ q.epUp ep.val = true ∧ q.st.sends = true ∧ q.partner ep.val = none ∧ (((c = .modeReset ep tenant tag ∧
      at_ (saysFields [(0, 1, 3)])) ∨ (c = .modeHold ep tenant tag ms ∧ at_ (saysFields [(0, 1, 4), (4, 4, ms)])))) ∧ f.phase = 0 ∧
        e.seqr.kind = .idle ∧ q.hasSession tenant.val = true ∧ c = .modeHold ep tenant tag ms ∧ (ms < 10 ∨ 600000 < ms)) ∧
   (let s : State := duo (fun f => (withSess 4095 3) ({ f with a := mq (leBytes 4 4 ++ leBytes 4 600000) f.a, b := mq (leBytes 4 4 ++ leBytes 4 600000) f.b } : Field))
    let p : PlaneId := .A
    let ep : Fin 8 := 7
    let tenant : Fin 4096 := 4095
    let tag : Nat := 9
    let f := s.f
    let e := f.e
    let q := f.plane p
    let at_ := fun (what : List Byte → Bool) => p ∈ f.actors ep.val tenant.val clsMode tag what
    let c : Instr := .modeHold ep tenant tag 600000
    let ms : Nat := 600000
    e.leader = some p ∧ e.mode ≠ .safe ∧ q.epUp ep.val = true ∧ q.st.sends = true ∧ q.partner ep.val = none ∧ (((c = .modeReset ep tenant tag ∧
      at_ (saysFields [(0, 1, 3)])) ∨ (c = .modeHold ep tenant tag ms ∧ at_ (saysFields [(0, 1, 4), (4, 4, ms)])))) ∧ f.phase = 0 ∧
        e.seqr.kind = .idle ∧ q.hasSession tenant.val = true ∧ ((c = .modeHold ep tenant tag ms → 10 ≤ ms ∧ ms ≤ 600000))) := by and_intros <;> decide

theorem test_met_SleepAndWake_1 :
   (let s : State := duo (·.onE (fun e => ({ e with seqr := { e.seqr with kind := .banked, step := 4 } } : Eaves)))
    let f := s.f
    let e := f.e
    e.seqr.kind = .banked ∧ e.seqr.step = 4 ∧ ((∀ x ∈ e.eths, x.2.buf = [] ∧ x.2.sending = none)) ∧ ((∀ x ∈ e.t1s, x.2.txq = []))) ∧
   (let s : State := duo (·.onE (fun e => ({ e with seqr := { e.seqr with kind := .banked, step := 5, goal := 3 } } : Eaves)))
    let p : PlaneId := .A
    let slept : Nat := 7
    let f := s.f
    let e := f.e
    e.seqr.kind = .banked ∧ e.seqr.step = 5 ∧ e.seqr.latched = none ∧ (f.plane p).st.takes = true ∧ Machine.slept f = true ∧ e.seqr.goal = 3) ∧
   (let s : State := duo (·.onE (fun e => ({ e with seqr := { e.seqr with kind := .banked, step := 5, goal := 4 } } : Eaves)))
    let p : PlaneId := .A
    let slept : Nat := 7
    let f := s.f
    let e := f.e
    e.seqr.kind = .banked ∧ e.seqr.step = 5 ∧ e.seqr.latched = none ∧ (f.plane p).st.takes = true ∧ Machine.slept f = true ∧ e.seqr.goal = 4) ∧
   (let s : State := duo (·.onE (fun e => ({ e with seqr := { e.seqr with kind := .banked, step := 5, goal := 6 } } : Eaves)))
    let p : PlaneId := .A
    let slept : Nat := 7
    let f := s.f
    let e := f.e
    e.seqr.kind = .banked ∧ e.seqr.step = 5 ∧ e.seqr.latched = none ∧ (f.plane p).st.takes = true ∧ Machine.slept f = true ∧ e.seqr.goal = 6) ∧
   (let s : State := duo (·.onE (fun e => ({ e with mode := .banked, pstate := .p2, seqr := { e.seqr with kind := .ember, step := 6 } } : Eaves)))
    let f := s.f
    let e := f.e
    e.seqr.step = 6 ∧ e.seqr.latched = none ∧ e.seqr.kind = .ember) ∧
   (let s : State := duo (·.onE (fun e => ({ e with mode := .banked, pstate := .p2, seqr := { e.seqr with kind := .off, step := 6 } } : Eaves)))
    let f := s.f
    let e := f.e
    e.seqr.step = 6 ∧ e.seqr.latched = none ∧ e.seqr.kind = .off) ∧
   (let s : State := duo (·.onE (fun e => ({ e with mode := .banked, pstate := .p2, seqr := { e.seqr with wakeEn := 0x7FFF } } : Eaves).onRegs (·.wr NS_WAKE_PINS 0x80000000)))
    let f := s.f
    let e := f.e
    let Banked := e.mode = .banked ∧ e.pstate = .p2 ∧ e.seqr.kind = .idle ∧ e.seqr.off = false ∧ e.seqr.latched = none ∧ f.lead.kiln.sess = []
    let held := (10 ^ 6 : Nat)
    Banked ∧ e.seqr.wakeNFilt * 1000 ≤ held ∧ pinHigh e 31 = true) ∧
   (let s : State := duo (·.onE (fun e => ({ e with mode := .banked, pstate := .p2, seqr := { e.seqr with wakeEn := 0x7FFF } } : Eaves)))
    let f := s.f
    let e := f.e
    let Banked := e.mode = .banked ∧ e.pstate = .p2 ∧ e.seqr.kind = .idle ∧ e.seqr.off = false ∧ e.seqr.latched = none ∧ f.lead.kiln.sess = []
    let held : Nat := 0
    Banked ∧ held < e.seqr.wakeNFilt * 1000) := by and_intros <;> decide

theorem test_met_SleepAndWake_2 :
   (let s : State := duo (·.onE (fun e => ({ e with mode := .banked, pstate := .p2, seqr := { e.seqr with wakeEn := 0x7FFF } } : Eaves).onRegs (·.wr NS_WAKE_PINS 0x80000000)))
    let f := s.f
    let e := f.e
    let Banked := e.mode = .banked ∧ e.pstate = .p2 ∧ e.seqr.kind = .idle ∧ e.seqr.off = false ∧ e.seqr.latched = none ∧ f.lead.kiln.sess = []
    let n : Fin 16 := 14
    let held : Nat := (10 ^ 6 : Nat)
    Banked ∧ e.seqr.wakeCFilt * 1000 ≤ held ∧ pinHigh e n.val = false ∧ bit e.seqr.wakeEn n.val = true) ∧
   (let s : State := duo (·.onE (fun e => ({ e with mode := .banked, pstate := .p2, seqr := { e.seqr with wakeEn := 0x7FFF } } : Eaves).onRegs (·.wr NS_WAKE_PINS 0x80000000)))
    let f := s.f
    let e := f.e
    let Banked := e.mode = .banked ∧ e.pstate = .p2 ∧ e.seqr.kind = .idle ∧ e.seqr.off = false ∧ e.seqr.latched = none ∧ f.lead.kiln.sess = []
    let n : Fin 16 := 15
    let held : Nat := (10 ^ 6 : Nat)
    Banked ∧ e.seqr.wakeCFilt * 1000 ≤ held ∧ pinHigh e n.val = false ∧ bit e.seqr.wakeEn n.val = false) ∧
   (let s : State := duo (·.onE (fun e => ({ e with mode := .banked, pstate := .p2, seqr := { e.seqr with cal := 10 ^ 9 } } : Eaves).onRegs (fun m => m.wr64 PWR_ALARM_LO 1)))
    let f := s.f
    let e := f.e
    let Banked := e.mode = .banked ∧ e.pstate = .p2 ∧ e.seqr.kind = .idle ∧ e.seqr.off = false ∧ e.seqr.latched = none ∧ f.lead.kiln.sess = []
    Banked ∧ e.regs.rd64 PWR_ALARM_LO ≠ 0 ∧ e.regs.rd64 PWR_ALARM_LO ≤ e.calSec) ∧
   (let s : State := duo (·.onE (fun e => ({ e with seqr := { e.seqr with kind := .banked, latched := some (2, 5), others := 0 } } : Eaves).onRegs (·.wr NS_WAKE_PINS 0x80000000)))
    let f := s.f
    let e := f.e
    let x := ((2, 5) : Nat × Nat)
    let held := (10 ^ 6 : Nat)
    e.seqr.kind = .banked ∧ e.pstate = .p0 ∧ e.seqr.latched = some x ∧ bit e.seqr.others 3 = false ∧ e.seqr.wakeNFilt * 1000 ≤ held ∧
      pinHigh e 31 = true) ∧
   (let s : State := duo (·.onE (fun e => ({ e with mode := .ember, pstate := .p3, seqr := { e.seqr with cal := 50, sleepCal := 50 } } : Eaves).onRegs (fun m => (m.wr NS_WAKE_PINS 0x80000000).wr64 BBR_SLEEP_CNT_LO 1000)))
    let f := s.f
    let e := f.e
    let held := (10 ^ 6 : Nat)
    e.mode = .ember ∧ e.pstate = .p3 ∧ e.seqr.kind = .idle ∧ e.seqr.off = false ∧ e.seqr.latched = none ∧ e.seqr.wakeNFilt * 1000 ≤ held ∧
      pinHigh e 31 = true) ∧
   (let s : State := duo (·.onE (fun e => ({ e with mode := .safe, seqr := { e.seqr with safeDone := true } } : Eaves)))
    let f := s.f
    let e := f.e
    e.pstate = .p0 ∧ e.mode = .safe ∧ e.seqr.safeDone = true) ∧
   (let s : State := duo (·.onE (fun e => ({ e with live := trussOf [(1, patch (List.replicate 16 0) [(0, [1]), (10, leBytes 2 100)])] } : Eaves)))
    let dt : Nat := 100000
    let f := s.f
    let e := f.e
    e.pstate = .p0 ∧ e.mode = .service ∧ bit (devSec e.live 0 1) 0 = true ∧ e.regs.get 0 PWR_OVERRIDE_NO_IDLE = 0 ∧
      e.seqr.idleSince + devSec e.live 10 2 * 1000 ≤ (e.at dt).counter) ∧
   (let s : State := duo (·.onE (fun e => ({ e with mode := .safe, seqr := { e.seqr with safeDone := true } } : Eaves)))
    let dt : Nat := 20000000
    let f := s.f
    let e := f.e
    e.mode = .safe ∧ e.seqr.safeDone = true ∧ e.seqr.holds = 0 ∧ e.seqr.safeAt + 20000000 ≤ (e.at dt).counter ∧
      e.seqr.holdClearAt + 20000000 ≤ (e.at dt).counter) := by and_intros <;> decide

theorem test_met_PowerPoints_1 :
   (let s : State := duo (·.onE (fun e => ({ e with merger := { e.merger with lastTick := 1 } } : Eaves).onRegs (fun m => m.set 0 PWR_DVFS_CUR 2 |>.set 0 PWR_DVFS_REQ 3 |>.set 0 PWR_AVS_VMIN 650 |>.set 0 PWR_AVS_VMAX 800 |>.set 0 PWR_VOLT_VOLT_B 770)))
    let e := s.f.e
    let cur := e.regs.get 0 PWR_DVFS_CUR
    e.serving = true ∧ e.seqr.dvfsAt < e.merger.lastTick ∧ cur < dvfsTarget e ∧ pointLow (cur + 1) ≤ e.regs.get 0 PWR_AVS_VMAX) ∧
   (let s : State := duo (·.onE (fun e => ({ e with merger := { e.merger with lastTick := 1 } } : Eaves).onRegs (fun m => m.set 0 PWR_DVFS_CUR 2 |>.set 0 PWR_DVFS_REQ 3 |>.set 0 PWR_AVS_VMIN 650 |>.set 0 PWR_AVS_VMAX 799 |>.set 0 PWR_VOLT_VOLT_B 770)))
    let e := s.f.e
    let cur := e.regs.get 0 PWR_DVFS_CUR
    e.serving = true ∧ e.seqr.dvfsAt < e.merger.lastTick ∧ cur < dvfsTarget e ∧ e.regs.get 0 PWR_AVS_VMAX < pointLow (cur + 1)) ∧
   (let s : State := duo (·.onE (fun e => ({ e with merger := { e.merger with lastTick := 1 } } : Eaves).onRegs (fun m => m.set 0 PWR_DVFS_CUR 2 |>.set 0 PWR_DVFS_REQ 0 |>.set 0 PWR_AVS_VMIN 650 |>.set 0 PWR_AVS_VMAX 799 |>.set 0 PWR_VOLT_VOLT_B 770)))
    let e := s.f.e
    let cur := e.regs.get 0 PWR_DVFS_CUR
    e.serving = true ∧ e.seqr.dvfsAt < e.merger.lastTick ∧ dvfsTarget e < cur) ∧
   (let s : State := duo (·.onE (fun e => ({ e with merger := { e.merger with lastTick := 1 } } : Eaves).onRegs (fun m => m.set 0 PWR_DVFS_CUR 2 |>.set 0 PWR_DVFS_REQ 2 |>.set 0 PWR_AVS_VMIN 650 |>.set 0 PWR_AVS_VMAX 799 |>.set 0 PWR_VOLT_VOLT_B 770)))
    let e := s.f.e
    let cur := e.regs.get 0 PWR_DVFS_CUR
    e.serving = true ∧ e.seqr.dvfsAt < e.merger.lastTick ∧ cur = dvfsTarget e) ∧
   (let s : State := duo (·.onE (fun e => ({ e with merger := { e.merger with lastTick := 1 } } : Eaves).onRegs (fun m => m.set 0 PWR_DVFS_CUR 2 |>.set 0 PWR_DVFS_REQ 3 |>.set 0 PWR_AVS_VMIN 650 |>.set 0 PWR_AVS_VMAX 850 |>.set 0 PWR_VOLT_VOLT_B 845)))
    let e := s.f.e
    let p : PlaneId := .B
    let v := e.regs.get 0 (voltOf p)
    let hi := e.regs.get 0 PWR_AVS_VMAX
    e.serving = true ∧ v + 5 ≤ hi ∧ hi ≤ 850) ∧
   (let s : State := duo (·.onE (fun e => ({ e with merger := { e.merger with lastTick := 1 } } : Eaves).onRegs (fun m => m.set 0 PWR_DVFS_CUR 2 |>.set 0 PWR_DVFS_REQ 3 |>.set 0 PWR_AVS_VMIN 650 |>.set 0 PWR_AVS_VMAX 849 |>.set 0 PWR_VOLT_VOLT_B 845)))
    let e := s.f.e
    let p : PlaneId := .B
    let v := e.regs.get 0 (voltOf p)
    let hi := e.regs.get 0 PWR_AVS_VMAX
    e.serving = true ∧ hi < v + 5) ∧
   (let s : State := duo (·.onE (fun e => ({ e with merger := { e.merger with lastTick := 1 } } : Eaves).onRegs (fun m => m.set 0 PWR_DVFS_CUR 2 |>.set 0 PWR_DVFS_REQ 3 |>.set 0 PWR_AVS_VMIN 650 |>.set 0 PWR_AVS_VMAX 849 |>.set 0 PWR_VOLT_VOLT_B 845)))
    let e := s.f.e
    let p : PlaneId := .B
    let v := e.regs.get 0 (voltOf p)
    let hi := e.regs.get 0 PWR_AVS_VMAX
    e.serving = true ∧ hi < v + 5 ∧ v + 5 ≤ 850 ∧ (e.src (planeSrc p 19)).live = false) ∧
   (let s : State := duo (·.onE (fun e => ({ e with merger := { e.merger with lastTick := 1 } } : Eaves).onRegs (fun m => m.set 0 PWR_DVFS_CUR 2 |>.set 0 PWR_DVFS_REQ 3 |>.set 0 PWR_AVS_VMIN 650 |>.set 0 PWR_AVS_VMAX 849 |>.set 0 PWR_VOLT_VOLT_B 750)))
    let e := s.f.e
    let cur := e.regs.get 0 PWR_DVFS_CUR
    let p : PlaneId := .B
    let v := e.regs.get 0 (voltOf p)
    let lo := e.regs.get 0 PWR_AVS_VMIN
    e.serving = true ∧ pointLow cur + 5 ≤ v ∧ lo + 5 ≤ v) := by and_intros <;> decide

theorem test_met_PowerPoints_2 :
   (let s : State := duo (·.onE (fun e => ({ e with merger := { e.merger with lastTick := 1 } } : Eaves).onRegs (fun m => m.set 0 PWR_DVFS_CUR 2 |>.set 0 PWR_DVFS_REQ 3 |>.set 0 PWR_AVS_VMIN 650 |>.set 0 PWR_AVS_VMAX 849 |>.set 0 PWR_VOLT_VOLT_B 749)))
    let e := s.f.e
    let cur := e.regs.get 0 PWR_DVFS_CUR
    let p : PlaneId := .B
    let v := e.regs.get 0 (voltOf p)
    e.serving = true ∧ v - 5 < pointLow cur) ∧
   (let s : State := duo (·.onE (fun e => ({ e with merger := { e.merger with lastTick := 1 } } : Eaves).onRegs (fun m => m.set 0 PWR_DVFS_CUR 2 |>.set 0 PWR_DVFS_REQ 3 |>.set 0 PWR_AVS_VMIN 650 |>.set 0 PWR_AVS_VMAX 849 |>.set 0 PWR_VOLT_VOLT_B 749)))
    let e := s.f.e
    let cur := e.regs.get 0 PWR_DVFS_CUR
    let temp : Fin 256 := 179
    e.serving = true ∧ 179 ≤ temp.val ∧ e.pstate = .p0 ∧ e.regs.get 0 PWR_DVFS_MIN < cur) ∧
   (let s : State := duo (·.onE (fun e => ({ e with merger := { e.merger with lastTick := 1 } } : Eaves).onRegs (fun m => m.set 0 PWR_DVFS_CUR 2 |>.set 0 PWR_DVFS_REQ 3 |>.set 0 PWR_AVS_VMIN 650 |>.set 0 PWR_AVS_VMAX 849 |>.set 0 PWR_VOLT_VOLT_B 749)))
    let e := s.f.e
    let temp : Fin 256 := 178
    e.serving = true ∧ temp.val < 179) ∧
   (let s : State := duo (·.onE (fun e => ({ e with merger := { e.merger with lastTick := 1 }, seqr := { e.seqr with thermal := 1 } } : Eaves).onRegs (fun m => m.set 0 PWR_DVFS_CUR 2 |>.set 0 PWR_DVFS_REQ 3 |>.set 0 PWR_AVS_VMIN 650 |>.set 0 PWR_AVS_VMAX 849 |>.set 0 PWR_VOLT_VOLT_B 749)))
    let e := s.f.e
    let p : PlaneId := .B
    let temp : Fin 256 := 168
    e.serving = true ∧ temp.val < 169 ∧ e.regs.get 0 (match p with | .A => PWR_TEMP_PLANE_B | .B => PWR_TEMP_PLANE_A) < 169 ∧ e.seqr.thermal < 3) ∧
   (let s : State := duo (·.onE (fun e => ({ e with merger := { e.merger with lastTick := 1 }, seqr := { e.seqr with thermal := 1 } } : Eaves).onRegs (fun m => m.set 0 PWR_DVFS_CUR 2 |>.set 0 PWR_DVFS_REQ 3 |>.set 0 PWR_AVS_VMIN 650 |>.set 0 PWR_AVS_VMAX 849 |>.set 0 PWR_VOLT_VOLT_B 749)))
    let e := s.f.e
    let temp : Fin 256 := 169
    e.serving = true ∧ 169 ≤ temp.val) := by and_intros <;> decide

theorem test_met_SupplyAndReset_1 :
   (let s : State := duo id
    let dt : Nat := 0
    let f := s.f
    let e := f.e.at dt
    let src : Fin 4 := 3
    bit src.val 0 = true ∧ awake f.e = true ∧ f.e.regs.get 0 PWR_STAT_WARN = 0 ∧ f.e.merger.stopped = false) ∧
   (let s : State := duo (·.onE (fun e => ({ e with seqr := { e.seqr with warnAt := 5 } } : Eaves).onRegs (fun m => m.set 0 PWR_STAT_WARN 1 |>.set 0 PWR_STAT_BROWN_N 0)))
    let dt : Nat := 3000
    let f := s.f
    let e := f.e.at dt
    f.e.regs.get 0 PWR_STAT_WARN = 1 ∧ f.e.seqr.kind = .idle ∧ f.e.mode = .service) ∧
   (let s : State := duo (·.onE (fun e => ({ e with  } : Eaves).onRegs (fun m => m.set 0 PWR_STAT_WARN 1)))
    let dt : Nat := 50000000
    let f := s.f
    let e := f.e.at dt
    f.e.regs.get 0 PWR_STAT_WARN = 1 ∧ f.e.regs.get 0 PWR_STAT_WARN_LONG = 0 ∧ f.e.seqr.warnAt + 50000000 ≤ e.counter) ∧
   (let s : State := duoP (fun q => { q with st := { q.st with tick := 5005 }, rick := { q.rick with warnLong := false, warnTick := some 5 } })
    let p : PlaneId := .A
    let f := s.f
    let w := 5
    (f.plane p).st.takes = true ∧ (f.plane p).rick.warnLong = false ∧ (f.plane p).rick.warnTick = some w ∧ w + 5000 ≤ (f.plane p).st.tick) ∧
   (let s : State := duoP (fun q => { q with st := { q.st with tick := 5004 }, rick := { q.rick with warnLong := false, warnTick := some 5 } })
    let p : PlaneId := .A
    let f := s.f
    let w := 5
    (f.plane p).st.takes = true ∧ (f.plane p).rick.warnLong = false ∧ (f.plane p).rick.warnTick = some w ∧ (f.plane p).st.tick < w + 5000) ∧
   (let s : State := duo (·.onE (fun e => ({ e with live := trussOf [(1, patch (List.replicate 16 0) [(8, leBytes 2 1)])] } : Eaves).onRegs (fun m => m.set 0 PWR_STAT_WARN 1)))
    let dt : Nat := 1000000000
    let f := s.f
    let e := f.e.at dt
    f.e.regs.get 0 PWR_STAT_WARN = 1 ∧ devSec f.e.live 8 2 ≠ 0 ∧ f.e.seqr.warnAt + devSec f.e.live 8 2 * 10 ^ 9 ≤ e.counter ∧ f.e.mode = .service ∧
      f.e.seqr.kind = .idle) ∧
   (let s : State := duo id
    let dt : Nat := 0
    let f := s.f
    let e := f.e.at dt
    f.e.seqr.off = false) ∧
   (let s : State := duo (·.onE (fun e => ({ e with  } : Eaves).onRegs (fun m => m.set 0 PWR_STAT_PWR_EN 15 |>.set 0 PWR_STAT_PGOOD 15)))
    let dt : Nat := 0
    let f := s.f
    let e := f.e.at dt
    let k : Fin 4 := 0
    bit (f.e.regs.get 0 PWR_STAT_PWR_EN) k.val = true ∧ bit (f.e.regs.get 0 PWR_STAT_PGOOD) k.val = true ∧ k = 0) := by and_intros <;> decide

theorem test_met_SupplyAndReset_2 :
   (let s : State := duo (·.onE (fun e => ({ e with  } : Eaves).onRegs (fun m => m.set 0 PWR_STAT_PWR_EN 15 |>.set 0 PWR_STAT_PGOOD 15)))
    let dt : Nat := 0
    let f := s.f
    let e := f.e.at dt
    let k : Fin 4 := 3
    bit (f.e.regs.get 0 PWR_STAT_PWR_EN) k.val = true ∧ bit (f.e.regs.get 0 PWR_STAT_PGOOD) k.val = true ∧ k = 3) ∧
   (let s : State := duo (·.onE (fun e => ({ e with roleA := .shadow, roleB := .leading } : Eaves).onRegs (fun m => m.set 0 PWR_STAT_PWR_EN 15 |>.set 0 PWR_STAT_PGOOD 15)))
    let dt : Nat := 0
    let f := s.f
    let e := f.e.at dt
    let k : Fin 4 := 1
    bit (f.e.regs.get 0 PWR_STAT_PWR_EN) k.val = true ∧ bit (f.e.regs.get 0 PWR_STAT_PGOOD) k.val = true ∧ k = 1 ∧ f.e.roleA = .shadow ∧
      f.e.roleB = .leading ∧ f.phase = 0 ∧ (f.e.src 81).live = false) ∧
   (let s : State := duo (·.onE (fun e => ({ e with  } : Eaves).onRegs (fun m => m.set 0 PWR_STAT_PWR_EN 15 |>.set 0 PWR_STAT_PGOOD 15)))
    let dt : Nat := 0
    let f := s.f
    let e := f.e.at dt
    let k : Fin 4 := 2
    bit (f.e.regs.get 0 PWR_STAT_PWR_EN) k.val = true ∧ bit (f.e.regs.get 0 PWR_STAT_PGOOD) k.val = true ∧ k = 2 ∧ f.e.roleB = .shadow ∧
      f.e.roleA = .leading ∧ f.phase = 0 ∧ (f.e.src 145).live = false) ∧
   (let s : State := duo id
    let dt : Nat := 0
    let f := s.f
    let e := f.e.at dt
    f.e.mode = .service ∧ f.e.pstate = .p0 ∧ f.e.seqr.off = false ∧ f.e.seqr.resetDeaf = false) ∧
   (let s : State := duo (·.onE (fun e => ({ e with mode := .kindling, roleA := .offline, roleB := .offline, seqr := { e.seqr with resetLow := some 0 } } : Eaves)))
    let dt : Nat := 0
    let f := s.f
    let e := f.e.at dt
    f.e.seqr.resetDeaf = false ∧ f.e.seqr.resetLow.isSome = true ∧ f.e.mode = .kindling ∧ f.e.seqr.kin = 0 ∧ f.e.seqr.holdEnd = none) ∧
   (let s : State := duo (·.onE (fun e => ({ e with mode := .kindling, roleA := .offline, roleB := .offline, seqr := { e.seqr with resetLow := some 0 } } : Eaves)))
    let dt : Nat := 8000000001
    let f := s.f
    let e := f.e.at dt
    let t := 0
    f.e.seqr.resetLow = some t ∧ t + 8 * 10 ^ 9 < e.counter ∧ f.e.mode = .kindling ∧ f.e.seqr.kin = 0 ∧ f.e.seqr.holdEnd = none) ∧
   (let s : State := duo (·.onE (fun e => ({ e with mode := .kindling, roleA := .offline, roleB := .offline, seqr := { e.seqr with holdEnd := some 5 } } : Eaves)))
    let dt : Nat := 5
    let f := s.f
    let e := f.e.at dt
    let t := 5
    f.e.seqr.holdEnd = some t ∧ t ≤ e.counter ∧ f.e.mode = .kindling ∧ f.e.seqr.kin = 0 ∧ f.e.seqr.resetLow = none) ∧
   (let s : State := duo id
    let dt : Nat := 0
    let f := s.f
    let e := f.e.at dt
    f.e.seqr.off = false ∧ f.e.mode ≠ .ember ∧ ((s.otpA.lc = 2 ∨ s.otpA.lc = 3 ∨ f.e.mode = .service ∨ f.e.mode = .banked))) := by and_intros <;> decide

theorem test_met_SupplyAndReset_3 :
   (let s : State := duo (·.onE (fun e => { e with mode := .workshop }))
    let dt : Nat := 0
    let f := s.f
    let e := f.e.at dt
    f.e.seqr.off = false ∧ f.e.mode ≠ .ember ∧ s.otpA.lc ≤ 1 ∧ ((f.e.mode = .workshop ∨ f.e.mode = .safe))) ∧
   (let s : State := duo (·.onE (fun e => { e with mode := .safe }))
    let dt : Nat := 0
    let f := s.f
    let e := f.e.at dt
    f.e.mode = .safe ∧ f.e.seqr.off = false) ∧
   (let s : State := duo (·.onE (fun e => { e with mode := .safe }))
    let dt : Nat := 0
    let f := s.f
    let e := f.e.at dt
    let n : Fin 128 := 127
    f.e.mode = .safe ∧ f.e.seqr.off = false ∧ f.e.courseHeld n.val = false) := by and_intros <;> decide

theorem test_met_KindlingStart :
   (let s : State := duo (·.onE (fun e => ({ e with mode := .kindling, roleA := .offline, roleB := .offline, seqr := { e.seqr with off := true } } : Eaves)))
    let f := s.f
    let e := f.e
    e.seqr.off = true) ∧
   (let s : State := duo (·.onE (fun e => ({ e with mode := .kindling, roleA := .offline, roleB := .offline, seqr := { e.seqr with kin := 1, holdEnd := some 5 } } : Eaves).onRegs (fun m => m.set 0 PWR_STAT_PWR_EN 15)))
    let f := s.f
    let e := f.e
    e.mode = .kindling ∧ e.seqr.kin = 1 ∧ ((e.seqr.holdEnd.isSome = true ∨ (e.seqr.resetLow.isSome = true ∧ e.seqr.resetDeaf = false)))) ∧
   (let s : State := duo (·.onE (fun e => ({ e with mode := .kindling, roleA := .offline, roleB := .offline, seqr := { e.seqr with kin := 1 } } : Eaves).onRegs (fun m => m.set 0 PWR_STAT_PWR_EN 15)))
    let f := s.f
    let e := f.e
    let good := e.regs.get 0 PWR_STAT_PGOOD ||| ((14 ^^^ (e.seqr.pgLow &&& 14)) &&& e.regs.get 0 PWR_STAT_PWR_EN)
    let all := bit good 1 = true ∧ bit good 2 = true ∧ bit good 3 = true
    e.mode = .kindling ∧ e.seqr.kin = 1 ∧ e.seqr.holdEnd = none ∧ e.seqr.resetLow = none ∧ all) ∧
   (let s : State := duo (·.onE (fun e => ({ e with mode := .kindling, roleA := .offline, roleB := .offline, seqr := { e.seqr with kin := 1, pgLow := 8 } } : Eaves).onRegs (fun m => m.set 0 PWR_STAT_PWR_EN 15)))
    let f := s.f
    let e := f.e
    let good := e.regs.get 0 PWR_STAT_PGOOD ||| ((14 ^^^ (e.seqr.pgLow &&& 14)) &&& e.regs.get 0 PWR_STAT_PWR_EN)
    let all := bit good 1 = true ∧ bit good 2 = true ∧ bit good 3 = true
    e.mode = .kindling ∧ e.seqr.kin = 1 ∧ e.seqr.holdEnd = none ∧ e.seqr.resetLow = none ∧ ¬ all ∧ e.counter < e.seqr.pwrAt + 20000000) ∧
   (let s : State := duo (·.onE (fun e => ({ e with mode := .kindling, roleA := .offline, roleB := .offline, counter := 20000000, seqr := { e.seqr with kin := 1, pgLow := 4 } } : Eaves).onRegs (fun m => m.set 0 PWR_STAT_PWR_EN 15)))
    let p : PlaneId := .B
    let f := s.f
    let e := f.e
    let good := e.regs.get 0 PWR_STAT_PGOOD ||| ((14 ^^^ (e.seqr.pgLow &&& 14)) &&& e.regs.get 0 PWR_STAT_PWR_EN)
    let all := bit good 1 = true ∧ bit good 2 = true ∧ bit good 3 = true
    e.mode = .kindling ∧ e.seqr.kin = 1 ∧ e.seqr.holdEnd = none ∧ e.seqr.resetLow = none ∧ ¬ all ∧ e.seqr.pwrAt + 20000000 ≤ e.counter ∧
      e.role p = .offline ∧ (e.src (planeSrc p 17)).live = false) ∧
   (let s : State := duo (·.onE (fun e => ({ e with mode := .kindling, roleA := .offline, roleB := .offline, seqr := { e.seqr with kin := 1 } } : Eaves).onRegs (fun m => m.set 0 PWR_STAT_PWR_EN 15)))
    let f := s.f
    let e := f.e
    let k : Fin 4 := 3
    bit (e.regs.get 0 PWR_STAT_PWR_EN) k.val = true ∧ bit (e.regs.get 0 PWR_STAT_PGOOD) k.val = false) ∧
   (let s : State := duo (·.onE (fun e => ({ e with mode := .kindling, roleA := .offline, roleB := .offline, seqr := { e.seqr with kin := 3, doneB := 5 } } : Eaves)))
    let p : PlaneId := .B
    let f := s.f
    let e := f.e
    e.doneStep p < 6 ∧ e.kindles p (e.doneStep p) = true) ∧
   (let s : State := duo (·.onE (fun e => ({ e with mode := .kindling, roleA := .offline, roleB := .offline, seqr := { e.seqr with kin := 3 } } : Eaves)))
    let dt : Nat := 400000001
    let f := s.f
    let e := f.e
    e.mode = .kindling ∧ ((e.seqr.kin = 1 ∧ e.seqr.cold = true) ∨ e.seqr.kin = 3) ∧ e.seqr.kinAt + 400000000 < (e.at dt).counter ∧
      e.seqr.kind = .idle ∧ e.seqr.off = false ∧ f.phase = 0) ∧
   (let s : State := duo (·.onE (fun e => ({ e with mode := .kindling, roleA := .offline, roleB := .offline, seqr := { e.seqr with kin := 3 } } : Eaves)))
    let dt : Nat := 400000000
    let f := s.f
    let e := f.e
    e.mode = .kindling ∧ ((e.seqr.kin = 1 ∧ e.seqr.cold = true) ∨ e.seqr.kin = 3) ∧ (e.at dt).counter ≤ e.seqr.kinAt + 400000000) := by and_intros <;> decide

theorem test_met_KindlingTruss_1 :
   (let s : State := duo (fun f => ({ f with a := f.a, b := f.b } : Field).onE (fun e => ({ e with mode := .kindling, roleA := .offline, roleB := .offline, seqr := { e.seqr with kin := 3, doneA := 6, doneB := 6 } } : Eaves)))
    let p : PlaneId := .B
    let f := s.f
    let e := f.e
    let q := f.plane p
    e.kindles p 6 = true ∧ q.nv.kiln.armed = none ∧ f.phase = 0) ∧
   (let s : State := duo (fun f => ({ f with a := f.a, b := f.b } : Field).onE (fun e => ({ e with mode := .kindling, roleA := .offline, roleB := .offline, seqr := { e.seqr with kin := 3, doneA := 6, doneB := 6 } } : Eaves)))
    let p : PlaneId := .B
    let f := s.f
    let e := f.e
    let q := f.plane p
    let o := s.otp p
    e.kindles p 6 = true ∧ q.nv.kiln.armed = none ∧ f.phase = 0 ∧ f.checkActive p o ≠ 0 ∧ f.checkActive p.other o ≠ 0 ∧
      q.nv.slotRec.otherState ≠ 3 ∧ q.nv.slotRec.otherState ≠ 4 ∧ e.seqr.kind = .idle ∧ e.seqr.off = false ∧ e.failed p.other = false) ∧
   (let s : State := duo (fun f => ({ f with a := f.a, b := f.b } : Field).onE (fun e => ({ e with mode := .kindling, roleA := .offline, roleB := .offline, seqr := { e.seqr with kin := 3, doneA := 6, doneB := 6, failA := true } } : Eaves)))
    let p : PlaneId := .B
    let f := s.f
    let e := f.e
    let q := f.plane p
    let o := s.otp p
    e.kindles p 6 = true ∧ q.nv.kiln.armed = none ∧ f.phase = 0 ∧ f.checkActive p o ≠ 0 ∧ f.checkActive p.other o ≠ 0 ∧
      q.nv.slotRec.otherState ≠ 3 ∧ q.nv.slotRec.otherState ≠ 4 ∧ e.seqr.kind = .idle ∧ e.seqr.off = false ∧ e.failed p.other = true ∧
        e.mode = .kindling) := by and_intros <;> decide

theorem test_met_KindlingTruss_2 :
    let s : State := withOtp (otpLc 2) (duo (fun f => ({ f with a := { f.a with nv := { f.a.nv with slotRec := { f.a.nv.slotRec with otherState := 3 }, kiln := { f.a.nv.kiln with armed := some 5 } } }, b := { f.b with nv := { f.b.nv with slotRec := { f.b.nv.slotRec with otherState := 3 }, kiln := { f.b.nv.kiln with armed := some 5 } } } } : Field).onE (fun e => ({ e with mode := .kindling, roleA := .offline, roleB := .offline, seqr := { e.seqr with kin := 3, doneA := 6, doneB := 6 } } : Eaves))))
    let p : PlaneId := .B
    let f := s.f
    let e := f.e
    let q := f.plane p
    let o := s.otp p
    let t := 5
    e.kindles p 6 = true ∧ q.nv.kiln.armed = some t ∧ f.phase = 0 ∧ lcAllowed o t = true ∧
      (((t = 2 ∨ t = 3 ∨ t = 4) → ∀ a, (f.plane a).nv.slotRec.otherState = 3 ∧
        verifySlot (f.plane a).nv.otherFlash (f.verEnv a (s.otp a) t none) = 0)) := ⟨by decide, by decide, by decide, by decide, fun h => absurd h (by decide)⟩

theorem test_met_KindlingTruss_3 :
    let s : State := withOtp (otpLc 2) (duo (fun f => ({ f with a := { f.a with nv := { f.a.nv with slotRec := { f.a.nv.slotRec with otherState := 3 }, kiln := { f.a.nv.kiln with armed := some 2 } } }, b := { f.b with nv := { f.b.nv with slotRec := { f.b.nv.slotRec with otherState := 3 }, kiln := { f.b.nv.kiln with armed := some 2 } } } } : Field).onE (fun e => ({ e with mode := .kindling, roleA := .offline, roleB := .offline, seqr := { e.seqr with kin := 3, doneA := 6, doneB := 6 } } : Eaves))))
    let p : PlaneId := .B
    let f := s.f
    let e := f.e
    let q := f.plane p
    let o := s.otp p
    let t := 2
    e.kindles p 6 = true ∧ q.nv.kiln.armed = some t ∧ f.phase = 0 ∧ (lcAllowed o t = false ∨ ((t = 2 ∨ t = 3 ∨ t = 4) ∧
      ∃ a, (f.plane a).nv.slotRec.otherState ≠ 3)) := ⟨by decide, by decide, by decide, Or.inl (by decide)⟩

theorem test_met_KindlingEnd :
   (let s : State := duo (fun f => ({ f with b := { f.b with nv := { f.b.nv with flash0 := keysFlash (keysSec [(0, [3])]) } } } : Field).onE (fun e => ({ e with mode := .kindling, roleA := .offline, roleB := .offline, seqr := { e.seqr with kin := 3, tamperHigh := 31, doneA := 8, doneB := 8 } } : Eaves)))
    let p : PlaneId := .B
    let f := s.f
    let e := f.e
    let t := parseTruss (f.plane p).nv.activeFlash.image
    e.kindles p 8 = true ∧ needsRand t = true ∧ (f.plane p).kiln.randSeen = false) ∧
   (let s : State := duo (fun f => ({ f with b := { f.b with nv := { f.b.nv with flash0 := keysFlash (patch (List.replicate 128 0) [(0, leBytes 8 1), (8, [31, 31])]) } } } : Field).onE (fun e => ({ e with mode := .kindling, roleA := .offline, roleB := .offline, seqr := { e.seqr with kin := 3, tamperHigh := 31, doneA := 8, doneB := 8 } } : Eaves)))
    let p : PlaneId := .B
    let f := s.f
    let e := f.e
    let t := parseTruss (f.plane p).nv.activeFlash.image
    e.kindles p 8 = true ∧ (needsRand t = false ∨ (f.plane p).kiln.randSeen = true) ∧ e.mode = .kindling ∧ e.doneStep p.other < 9 ∧
      ((∃ k < 5, tamperActive (e.loadVbat t) k = true)) ∧ e.seqr.kind = .idle ∧ e.seqr.off = false ∧ f.phase = 0 ∧ (e.src 13).live = false) ∧
   (let s : State := duo (fun f => ({ f with a := f.a, b := f.b } : Field).onE (fun e => ({ e with mode := .kindling, roleA := .offline, roleB := .offline, seqr := { e.seqr with kin := 3, doneA := 8, doneB := 8 } } : Eaves)))
    let p : PlaneId := .B
    let f := s.f
    let e := f.e
    let t := parseTruss (f.plane p).nv.activeFlash.image
    e.kindles p 8 = true ∧ (needsRand t = false ∨ (f.plane p).kiln.randSeen = true) ∧
      ((e.mode = .kindling → e.doneStep p.other < 9 → ∀ k < 5, tamperActive (e.loadVbat t) k = false))) ∧
   (let s : State := duo (fun f => ({ f with a := f.a, b := f.b } : Field).onE (fun e => ({ e with mode := .kindling, roleA := .offline, roleB := .offline, seqr := { e.seqr with kin := 3, doneA := 9, doneB := 9 } } : Eaves)))
    let p : PlaneId := .B
    let f := s.f
    let e := f.e
    e.mode = .kindling ∧ e.kindles p 9 = true ∧ e.leader = none ∧ e.merger.stopped = false ∧ (f.plane p).kiln.sess = []) := by and_intros <;> decide +kernel

theorem test_met_BattenSweeps_1 :
   (let s : State := duo (·.onE (fun e => (({ e with counter := 10 ^ 9 } : Eaves).onRegs (·.set (battenBase 3) BT_CTL_ENABLE 1)).onChain 3 (fun c => { c with again := false })))
    let n : Fin 4 := 3
    let dt : Nat := 0
    let e := s.f.e.at dt
    let c := e.chain n.val
    e.chainRuns n.val = true ∧ c.refreshAt + e.bt n.val BT_CFG_FS_UNITS * 4000000 ≤ e.counter) ∧
   (let s : State := duo (·.onE (fun e => (({ e with counter := 1000 } : Eaves).onRegs (·.set (battenBase 3) BT_CTL_ENABLE 1 |>.set (battenBase 3) BT_CFG_FS_UNITS 127)).onChain 3 (fun c => { c with again := false })))
    let n : Fin 4 := 3
    let dt : Nat := 5
    let e := s.f.e.at dt
    let c := e.chain n.val
    e.chainRuns n.val = true ∧ e.counter < c.refreshAt + e.bt n.val BT_CFG_FS_UNITS * 4000000) ∧
   (let s : State := duo (·.onE (fun e => (({ e with counter := 10 ^ 9 } : Eaves).onRegs (·.set (battenBase 3) BT_CTL_ENABLE 1 |>.set (battenBase 3) BT_CFG_LEN 16)).onChain 3 (fun c => { c with again := true })))
    let n : Fin 4 := 3
    let dt : Nat := 0
    let e := s.f.e.at dt
    let c := e.chain n.val
    let len := e.bt n.val BT_CFG_LEN
    let due := c.again = true ∨ c.sweepTs + e.bt n.val BT_SWEEP_MS * 1000000 ≤ e.counter
    e.chainRuns n.val = true ∧ c.sweeping = false ∧ due ∧ 0 < len) ∧
   (let s : State := duo (·.onE (fun e => (({ e with counter := 10 ^ 9 } : Eaves).onRegs (·.set (battenBase 3) BT_CTL_ENABLE 1)).onChain 3 (fun c => { c with again := true })))
    let n : Fin 4 := 3
    let dt : Nat := 0
    let e := s.f.e.at dt
    let c := e.chain n.val
    let len := e.bt n.val BT_CFG_LEN
    let due := c.again = true ∨ c.sweepTs + e.bt n.val BT_SWEEP_MS * 1000000 ≤ e.counter
    e.chainRuns n.val = true ∧ c.sweeping = false ∧ due ∧ len = 0) ∧
   (let s : State := duo (·.onE (fun e => (({ e with counter := 10 ^ 9 } : Eaves).onRegs (·.set (battenBase 3) BT_CTL_ENABLE 1 |>.set (battenBase 3) BT_SWEEP_MS 100)).onChain 3 (fun c => { c with sweepTs := 10 ^ 9 })))
    let n : Fin 4 := 3
    let dt : Nat := 0
    let e := s.f.e.at dt
    let c := e.chain n.val
    let due := c.again = true ∨ c.sweepTs + e.bt n.val BT_SWEEP_MS * 1000000 ≤ e.counter
    e.chainRuns n.val = true ∧ ¬ due) ∧
   (let s : State := duo (·.onE (fun e => (({ e with counter := 10 ^ 9 } : Eaves).onRegs (·.set (battenBase 3) BT_CTL_ENABLE 1 |>.set (battenBase 3) BT_CFG_LEN 16)).onChain 3 (fun c => { c with sweeping := true, pkg := 15, word := 8 })))
    let n : Fin 4 := 3
    let dt : Nat := 0
    let e := s.f.e.at dt
    let c := e.chain n.val
    let len := e.bt n.val BT_CFG_LEN
    dt = 0 ∧ e.chainRuns n.val = true ∧ c.sweeping = true ∧ len ≤ 16 ∧ c.pkg < len ∧ c.word ≤ 8 ∧ c.retried = false) ∧
   (let s : State := duo (·.onE (fun e => (({ e with counter := 10 ^ 9 } : Eaves).onRegs (·.set (battenBase 3) BT_CTL_ENABLE 1 |>.set (battenBase 3) BT_CFG_LEN 16)).onChain 3 (fun c => { c with sweeping := true, pkg := 15, word := 8, retried := true })))
    let n : Fin 4 := 3
    let dt : Nat := 0
    let e := s.f.e.at dt
    let c := e.chain n.val
    let len := e.bt n.val BT_CFG_LEN
    dt = 0 ∧ e.chainRuns n.val = true ∧ c.sweeping = true ∧ len ≤ 16 ∧ c.pkg < len ∧ c.word ≤ 8 ∧ c.retried = true) ∧
   (let s : State := duo (·.onE (fun e => (({ e with counter := 10 ^ 9 } : Eaves).onRegs (·.set (battenBase 3) BT_CTL_ENABLE 1 |>.set (battenBase 3) BT_CFG_LEN 16)).onChain 3 (fun c => { c with sweeping := true, pkg := 15, word := 8 })))
    let n : Fin 4 := 3
    let dt : Nat := 0
    let e := s.f.e.at dt
    let c := e.chain n.val
    let len := e.bt n.val BT_CFG_LEN
    let status : Fin 256 := 1
    let pos : Fin 256 := 15
    dt = 0 ∧ e.chainRuns n.val = true ∧ c.sweeping = true ∧ len ≤ 16 ∧ c.pkg < len ∧ c.word ≤ 8 ∧ status.val ≠ 255 ∧ pos.val ≠ len) := by and_intros <;> decide

theorem test_met_BattenSweeps_2 :
   (let s : State := duo (·.onE (fun e => (({ e with counter := 10 ^ 9 } : Eaves).onRegs (·.set (battenBase 3) BT_CTL_ENABLE 1 |>.set (battenBase 3) BT_CFG_LEN 16)).onChain 3 (fun c => { c with sweeping := true, pkg := 15, word := 8 })))
    let n : Fin 4 := 3
    let dt : Nat := 0
    let e := s.f.e.at dt
    let c := e.chain n.val
    let len := e.bt n.val BT_CFG_LEN
    let status : Fin 256 := 1
    let pos : Fin 256 := 16
    dt = 0 ∧ e.chainRuns n.val = true ∧ c.sweeping = true ∧ len ≤ 16 ∧ c.pkg < len ∧ c.word ≤ 8 ∧ status.val ≠ 255 ∧ pos.val = len ∧ c.retried = false) ∧
   (let s : State := duo (·.onE (fun e => (({ e with counter := 10 ^ 9 } : Eaves).onRegs (·.set (battenBase 3) BT_CTL_ENABLE 1 |>.set (battenBase 3) BT_CFG_LEN 16)).onChain 3 (fun c => { c with sweeping := true, pkg := 15, word := 7 })))
    let n : Fin 4 := 3
    let dt : Nat := 0
    let e := s.f.e.at dt
    let c := e.chain n.val
    let len := e.bt n.val BT_CFG_LEN
    let status : Fin 256 := 1
    let pos : Fin 256 := 16
    dt = 0 ∧ e.chainRuns n.val = true ∧ c.sweeping = true ∧ len ≤ 16 ∧ c.pkg < len ∧ c.word ≤ 8 ∧ status.val ≠ 255 ∧ pos.val = len ∧
      status.val % 4 = 1 ∧ c.word < 8) ∧
   (let s : State := duo (·.onE (fun e => (({ e with counter := 10 ^ 9 } : Eaves).onRegs (·.set (battenBase 3) BT_CTL_ENABLE 1 |>.set (battenBase 3) BT_CFG_LEN 16)).onChain 3 (fun c => { c with sweeping := true, pkg := 14, word := 8 })))
    let n : Fin 4 := 3
    let dt : Nat := 0
    let e := s.f.e.at dt
    let c := e.chain n.val
    let len := e.bt n.val BT_CFG_LEN
    let status : Fin 256 := 1
    let pos : Fin 256 := 16
    dt = 0 ∧ e.chainRuns n.val = true ∧ c.sweeping = true ∧ len ≤ 16 ∧ c.pkg < len ∧ c.word ≤ 8 ∧ status.val ≠ 255 ∧ pos.val = len ∧
      status.val % 4 = 1 ∧ c.word = 8 ∧ c.pkg + 1 < len) ∧
   (let s : State := duo (·.onE (fun e => (({ e with counter := 10 ^ 9 } : Eaves).onRegs (·.set (battenBase 3) BT_CTL_ENABLE 1 |>.set (battenBase 3) BT_CFG_LEN 16)).onChain 3 (fun c => { c with sweeping := true, pkg := 15, word := 8 })))
    let n : Fin 4 := 3
    let dt : Nat := 0
    let e := s.f.e.at dt
    let c := e.chain n.val
    let len := e.bt n.val BT_CFG_LEN
    let status : Fin 256 := 1
    let pos : Fin 256 := 16
    dt = 0 ∧ e.chainRuns n.val = true ∧ c.sweeping = true ∧ len ≤ 16 ∧ c.pkg < len ∧ c.word ≤ 8 ∧ status.val ≠ 255 ∧ pos.val = len ∧
      status.val % 4 = 1 ∧ c.word = 8 ∧ c.pkg + 1 = len ∧ (sget (fun _ => (0 : Word)) c.res 1000 = 0) ∧ e.merger.stopped = false) := by and_intros <;> decide

theorem test_met_BattenControl :
   (let s : State := duo (·.onE (fun e => (({ e with counter := 10 ^ 9 } : Eaves).onRegs (·.set (battenBase 3) BT_CTL_ENABLE 1 |>.set (battenBase 3) BT_CFG_LEN 16)).onChain 3 (fun c => { c with again := false })))
    let n : Fin 4 := 3
    let e := s.f.e
    let c := e.chain n.val
    let upTo := min (e.bt n.val BT_CFG_LEN) (if e.bt n.val BT_STAT_STATE = 3 then e.bt n.val BT_STAT_BREAK_POS else 16)
    let settled := fun j => ∀ m, e.channelMode n.val j = some m → c.modeOf j = some m
    let i := 0
    let m := 0
    i < 8 * upTo ∧ ((∀ j < i, settled j)) ∧ e.channelMode n.val i = some m ∧ c.modeOf i ≠ some m ∧ e.bt n.val BT_CTL_ENABLE = 1 ∧ awake e = true) ∧
   (let s : State := duo (·.onE (fun e => (({ e with counter := 10 ^ 9 } : Eaves).onRegs (·.set (battenBase 3) BT_CTL_ENABLE 1)).onChain 3 (fun c => { c with again := false })))
    let n : Fin 4 := 3
    let e := s.f.e
    let c := e.chain n.val
    let upTo := min (e.bt n.val BT_CFG_LEN) (if e.bt n.val BT_STAT_STATE = 3 then e.bt n.val BT_STAT_BREAK_POS else 16)
    let settled := fun j => ∀ m, e.channelMode n.val j = some m → c.modeOf j = some m
    ((∀ j < 8 * upTo, settled j))) ∧
   (let s : State := duo (·.onE (fun e => (({ e with counter := 10 ^ 9 } : Eaves).onRegs (·.set (battenBase 3) BT_CTL_ENABLE 1)).onChain 3 (fun c => { c with again := false })))
    let n : Fin 4 := 3
    let e := s.f.e
    e.seqr.off = false ∧ asleep e = false ∧ e.pstate ≠ .p3 ∧ e.pstate ≠ .p4 ∧ e.bt n.val BT_CTL_ENABLE = 1) ∧
   (let s : State := duo id
    let n : Fin 4 := 3
    let e := s.f.e
    e.seqr.off = false ∧ asleep e = false ∧ e.pstate ≠ .p3 ∧ e.pstate ≠ .p4 ∧ e.bt n.val BT_CTL_ENABLE = 0) ∧
   (let s : State := duo (·.onE (fun e => (({ e with counter := 10 ^ 9 } : Eaves).onRegs (·.set (battenBase 3) BT_CTL_ENABLE 1)).onChain 3 (fun c => { c with again := false })))
    let e := s.f.e
    e.seqr.off = false ∧ asleep e = false ∧ e.pstate ≠ .p3 ∧ e.pstate ≠ .p4) ∧
   (let s : State := duo (·.onE (fun e => (({ e with counter := 10 ^ 9, mode := .banked, pstate := .p2 } : Eaves).onRegs (·.set (battenBase 3) BT_CTL_ENABLE 1)).onChain 3 (fun c => { c with again := false })))
    let e := s.f.e
    e.mode = .banked ∧ e.pstate = .p2 ∧ e.seqr.kind = .idle ∧ e.seqr.off = false ∧ e.seqr.latched = none ∧ s.f.lead.kiln.sess = []) := by and_intros <;> decide

theorem test_met_ResetState :
   (let s := State.reset
    let n : Nat := 0
    n < 128) ∧
   (let s := State.reset
    let n : Nat := 0
    n < 24) ∧
   (let s := State.reset
    let n : Nat := 0
    n < 4) := by and_intros <;> decide

end Sys2Proof.Tests
end

section
/-!
SUPPORT. Laws for the management accesses: counters, bytes of a message, what an output message leaves of a plane, the planes that act.
-/

namespace Sys2Proof.Management

open Machine

/-! Counters and fields. -/

theorem satAdd_lt (w v n : Nat) : satAdd w v n < 2 ^ w := by
  have := Nat.two_pow_pos w
  unfold satAdd
  split <;> omega

/-- A counter counts one. -/
theorem counted_inc (m : Regs) (a : Nat) : Counted m (m.inc a) a 1 := by
  unfold Counted Regs.inc
  rw [Regs.rd_addCnt, if_pos rfl]

/-- A field of another register set afterwards leaves the count. -/
theorem counted_set {m m' : Regs} {a k : Nat} (b : Nat) (f : Fld) (v : Nat) (h : Counted m m' a k) (ne : a ≠ b + f.reg) :
    Counted m (m'.set b f v) a k := by
  unfold Counted at h ⊢
  rw [Regs.rd_set, if_neg ne, h]

/-- A counter that counts leaves every other register. -/
theorem rd_inc_other (m : Regs) {a b : Nat} (h : b ≠ a) : (m.inc a).rd b = m.rd b := by
  rw [Regs.inc, Regs.rd_addCnt, if_neg h]

/-- A counter field counts one and saturates. -/
theorem get_incF_same (m : Regs) (b : Nat) (f : Fld) (h : f.hi < 32) :
    (m.incF b f).get b f = satAdd (f.hi + 1 - f.lo) (m.get b f) 1 := by
  rw [Regs.incF, Regs.get_set_same _ _ _ _ h, Nat.mod_eq_of_lt (satAdd_lt _ _ _)]

/-- A field of a block after another field of it was set. -/
theorem get_set_apart (m : Regs) (b : Nat) {f g : Fld} (v : Nat) (hg : g.hi < 32) (h : g.reg ≠ f.reg ∨ g.hi < f.lo ∨ f.hi < g.lo) :
    (m.set b f v).get b g = m.get b g := by
  by_cases e : g.reg = f.reg
  · exact Regs.get_set_beside m b b f g v (by rw [e]) hg (h.resolve_left (· e))
  · exact Regs.get_set_other m v (by omega)

/-- A bus error is counted. -/
theorem countBusErr_counted (f : Field) (c a : Nat) : Counted f.e.regs (countBusErr f c a).e.regs DEVICE_BUSERR_CNT 1 :=
  counted_set _ _ _ (counted_set _ _ _ (counted_inc _ _) (by decide)) (by decide)

/-- A bus error shows its address. -/
theorem countBusErr_addr (f : Field) (c : Nat) {a : Nat} (h : a < addrSpan) :
    (countBusErr f c a).e.regs.get 0 DEVICE_BUSERR_ADDR_ADDR = a := by
  have e : (countBusErr f c a).e.regs.get 0 DEVICE_BUSERR_ADDR_ADDR = a % 2 ^ 28 := Regs.get_set_same _ _ _ _ (by decide)
  rw [e]
  exact Nat.mod_eq_of_lt h

/-- A bus error shows its cause. -/
theorem countBusErr_cause (f : Field) {c : Nat} (a : Nat) (h : c < 16) :
    (countBusErr f c a).e.regs.get 0 DEVICE_BUSERR_ADDR_CAUSE = c := by
  have e : (countBusErr f c a).e.regs.get 0 DEVICE_BUSERR_ADDR_CAUSE = c % 2 ^ 4 :=
    (get_set_apart _ _ _ (by decide) (by decide)).trans (Regs.get_set_same _ _ _ _ (by decide))
  rw [e]
  exact Nat.mod_eq_of_lt h

@[simp] theorem countBusErr_plane (f : Field) (c a : Nat) (p : PlaneId) : (countBusErr f c a).plane p = f.plane p := by
  simp [countBusErr]

/-- An access that fails the guard is counted. -/
theorem guardMiss_counted (f : Field) : Counted f.e.regs (guardMiss f).e.regs DEVICE_GUARD_CNT 1 := counted_inc _ _

/-! Bytes. -/

@[simp] theorem length_leBytes (n v : Nat) : (leBytes n v).length = n := by
  induction n generalizing v with
  | zero => rfl
  | succ n ih => simp [leBytes, ih]

theorem leNat_leBytes (n v : Nat) : leNat (leBytes n v) = v % 256 ^ n := by
  induction n generalizing v with
  | zero => simp [leBytes, leNat, Nat.mod_one]
  | succ n ih =>
    have e : 256 ^ (n + 1) = 256 * 256 ^ n := Nat.pow_succ'
    rw [leBytes, leNat, ih, BitVec.toNat_ofNat, e]
    exact Nat.mod_mul.symm

/-- A number written into a message is read back, cut to its bytes. -/
theorem bytesAt_leBytes (pre post : List Byte) (n v : Nat) {off : Nat} (h : pre.length = off) :
    bytesAt (pre ++ (leBytes n v ++ post)) off n = v % 256 ^ n := by
  subst h
  have e : (leBytes n v ++ post).take n = leBytes n v := List.take_left' (length_leBytes n v)
  rw [bytesAt, List.drop_left, e, leNat_leBytes]

/-! Output messages. -/

/-- An output message changes the plane's host side alone. -/
theorem sendFor_eq (q : Plane) (cause ep cls tenant tag : Nat) (error last urgent : Bool) (body : List Byte) :
    ∃ h, q.sendFor cause ep cls tenant tag error last urgent body = { q with host := h } := by
  unfold Plane.sendFor
  split
  · exact ⟨q.host, rfl⟩
  · exact ⟨_, rfl⟩

theorem send_eq (q : Plane) (ep cls tenant tag : Nat) (error last urgent : Bool) (body : List Byte) :
    ∃ h, q.send ep cls tenant tag error last urgent body = { q with host := h } := sendFor_eq _ _ _ _ _ _ _ _ _ _

@[simp] theorem send_st (q : Plane) (ep cls tenant tag : Nat) (error last urgent : Bool) (body : List Byte) :
    (q.send ep cls tenant tag error last urgent body).st = q.st := by
  obtain ⟨h, e⟩ := send_eq q ep cls tenant tag error last urgent body; rw [e]
@[simp] theorem send_regs (q : Plane) (ep cls tenant tag : Nat) (error last urgent : Bool) (body : List Byte) :
    (q.send ep cls tenant tag error last urgent body).regs = q.regs := by
  obtain ⟨h, e⟩ := send_eq q ep cls tenant tag error last urgent body; rw [e]
@[simp] theorem send_nv (q : Plane) (ep cls tenant tag : Nat) (error last urgent : Bool) (body : List Byte) :
    (q.send ep cls tenant tag error last urgent body).nv = q.nv := by
  obtain ⟨h, e⟩ := send_eq q ep cls tenant tag error last urgent body; rw [e]

@[simp] theorem respond_st (q : Plane) (ep cls tenant tag : Nat) (body : List Byte) :
    (q.respond ep cls tenant tag body).st = q.st := send_st _ _ _ _ _ _ _ _ _
@[simp] theorem respond_regs (q : Plane) (ep cls tenant tag : Nat) (body : List Byte) :
    (q.respond ep cls tenant tag body).regs = q.regs := send_regs _ _ _ _ _ _ _ _ _

/-- A message of the output queue stays there when another is sent. -/
theorem mem_out_send {q : Plane} {m : RMsg} (h : m ∈ q.host.out) (ep cls tenant tag : Nat) (error last urgent : Bool) (body : List Byte) :
    m ∈ (q.send ep cls tenant tag error last urgent body).host.out := by
  unfold Plane.send Plane.sendFor
  split
  · exact h
  · dsimp only
    split
    · exact List.mem_append_left _ h
    · exact h

/-- What has gone to an endpoint of a plane: an MGMT_RSP message of its output queue. -/
def Replied (q : Plane) (ep tenant tag : Nat) (last : Bool) (body : List Byte) : Prop :=
  ∃ m ∈ q.host.out, m.ep = ep ∧ m.cls = clsMgmtRsp ∧ m.tenant = tenant ∧ m.tag = tag ∧ m.last = last ∧ m.body = body

/-- A plane that sends puts an MGMT_RSP message, which is of the control stream, into its output queue for an endpoint that is UP and in no
group; the CUT holds none of them back (R88). -/
theorem replied_send (q : Plane) (ep tenant tag : Nat) (last : Bool) (body : List Byte) (up : q.epUp ep = true) (sends : q.st.sends = true)
    (alone : q.partner ep = none) : Replied (q.send ep clsMgmtRsp tenant tag false last false body) ep tenant tag last body := by
  refine ⟨⟨ep, clsMgmtRsp, tenant, false, false, last, false, sget (fun _ => 0) q.host.outSeq (2 * q.primary ep + streamOf clsMgmtRsp), tag,
    body, q.st.stream⟩, ?_, rfl, rfl, rfl, rfl, rfl, rfl⟩
  have control : streamOf clsMgmtRsp = 0 := rfl
  simp [Plane.send, Plane.sendFor, control, sends, Plane.members, alone, up]

@[simp] theorem plane_withDump (f : Field) (d : Option Dump) (p : PlaneId) : ({ f with dump := d } : Field).plane p = f.plane p := by
  cases p <;> rfl

/-- The plane whose registers are read, where one leads. -/
theorem lead_eq {f : Field} {p : PlaneId} (h : f.e.leader = some p) : f.lead = f.plane p := by
  rw [Field.lead, h]; rfl

end Sys2Proof.Management
end

section
/-!
PROOF. STATE_DUMP (R65, R66).
-/

namespace Sys2Proof.Management

open Machine

/-! Messages of a dump. -/

/-- A message of the output queue stays there while the dump sends. -/
theorem mem_out_sendDump {m : RMsg} (d : Dump) (final : Bool) (fuel : Nat) : ∀ (q : Plane) (off : Nat) (bs : List Byte),
    m ∈ q.host.out → m ∈ (sendDump q d final off bs fuel).host.out := by
  induction fuel with
  | zero => intro q off bs h; exact h
  | succ n ih =>
    intro q off bs h
    unfold sendDump
    dsimp only
    split
    · exact mem_out_send h _ _ _ _ _ _ _ _
    · exact ih _ _ _ (mem_out_send h _ _ _ _ _ _ _ _)

/-- A message of a dump in a plane's output queue: bytes of the dump at their offset in it (R65). -/
def DumpSent (q : Plane) (d : Dump) (off : Nat) (last : Bool) (bs : List Byte) : Prop :=
  ∃ m ∈ q.host.out, m.ep = d.ep ∧ m.cls = clsMgmtRsp ∧ m.tenant = d.tenant ∧ m.tag = d.tag ∧ m.last = last ∧
    bytesAt m.body 4 4 = off % 2 ^ 32 ∧ m.body.drop 16 = bs

/-- The first message of dump bytes: at most 1,024 words, at their offset; it has FLAGS.LAST only where nothing follows (R65). -/
theorem sendDump_first (q : Plane) (d : Dump) (final : Bool) (off : Nat) (bs : List Byte) (fuel : Nat) (up : q.epUp d.ep = true)
    (sends : q.st.sends = true) (alone : q.partner d.ep = none) :
    DumpSent (sendDump q d final off bs (fuel + 1)) d off (final && (bs.drop 4096).isEmpty) (bs.take 4096) := by
  obtain ⟨m, hm, hep, hcls, hten, htag, hlast, hbody⟩ := replied_send q d.ep d.tenant d.tag (final && (bs.drop 4096).isEmpty)
    (leBytes 1 0 ++ leBytes 1 1 ++ leBytes 2 ((bs.take 4096).length / 4) ++ leBytes 4 off ++ leBytes 8 0 ++ bs.take 4096) up sends alone
  refine ⟨m, ?_, hep, hcls, hten, htag, hlast, ?_, ?_⟩
  · unfold sendDump
    dsimp only
    split
    · exact hm
    · exact mem_out_sendDump d final fuel _ _ _ hm
  · rw [hbody, List.append_assoc, List.append_assoc]
    exact bytesAt_leBytes _ _ 4 off (by simp)
  · rw [hbody]
    exact List.drop_left' (by simp)

/-- A plane after dump bytes were sent. -/
theorem plane_dumpOut (f : Field) (d : Dump) (final : Bool) (bs : List Byte) (p : PlaneId) (h : (f.plane p).st.takes = true) :
    (dumpOut f d final bs).plane p = sendDump (f.plane p) d final d.sentBytes bs (bs.length / 4096 + 1) := by
  rw [dumpOut, Field.plane_onTaking, if_pos h]

@[simp] theorem dumpOut_e (f : Field) (d : Dump) (final : Bool) (bs : List Byte) : (dumpOut f d final bs).e = f.e := Field.onTaking_e _ _

theorem length_dumpHeader (f : Field) (d : Dump) : (dumpHeader f d).length = 64 := by simp [dumpHeader]

theorem length_secHeader (kind source block addr count stream : Nat) : (secHeader kind source block addr count stream).length = 24 := by
  simp [secHeader]

/-- DEVICE_DUMP_STAT after the END section, as `dumpEnd` sets it. -/
theorem get_dumpStat_end (m : Regs) (f : Fld) (hf : f = DEVICE_DUMP_STAT_ABORTED ∨ f = DEVICE_DUMP_STAT_DONE) :
    let m' := ((m.set 0 DEVICE_DUMP_STAT_RUNNING 0).set 0 f 1).incF 0 DEVICE_DUMP_STAT_SECTIONS
    m'.get 0 DEVICE_DUMP_STAT_RUNNING = 0 ∧ m'.get 0 f = 1 := by
  rcases hf with rfl | rfl <;>
    exact ⟨by simp (disch := decide) only [Regs.incF, get_set_apart, Regs.get_set_same]; rfl,
      by simp (disch := decide) only [Regs.incF, get_set_apart, Regs.get_set_same]; rfl⟩

/-! The commands. -/

/-- START begins a dump at the leading plane's position (R65). -/
theorem dumpStart_begins (s : State) (ep : Fin 8) (tenant : Fin 4096) (tag : Nat) (idle : s.f.dump = none) :
    Answers (.dumpStart ep tenant tag) s (fun g =>
      (∃ d, g.dump = some d ∧ d.ep = ep.val ∧ d.tenant = tenant.val ∧ d.tag = tag ∧ d.ts = s.f.e.counter ∧ d.stream = s.f.lead.st.stream ∧
        d.aborting = false ∧ d.sect = 0 ∧ d.sentBytes = 0 ∧ d.scope = s.f.e.regs.get 0 DEVICE_DUMP_CTL_SCOPE % 512) ∧
      g.e.regs.get 0 DEVICE_DUMP_STAT_RUNNING = 1 ∧ g.e.regs.get 0 DEVICE_DUMP_STAT_SECTIONS = 0 ∧ g.a = s.f.a ∧ g.b = s.f.b) := by
  refine ⟨(startDump s.f ⟨ep.val, tenant.val, false⟩ tag (s.f.e.regs.get 0 DEVICE_DUMP_CTL_SCOPE)).1, rfl, ?_⟩
  have host : ¬ 8 ≤ ep.val := by omega
  simp only [startDump, idle, Option.isSome_none, Bool.false_eq_true, if_false, host]
  refine ⟨⟨_, rfl, rfl, rfl, rfl, rfl, rfl, rfl, rfl, rfl, rfl⟩, ?_, ?_, rfl, rfl⟩
  · simp (disch := decide) only [Field.onE_e, Eaves.onRegs_regs, get_set_apart, Regs.get_set_same]; rfl
  · simp (disch := decide) only [Field.onE_e, Eaves.onRegs_regs, Regs.get_set_same]; rfl

/-- A START while a dump runs is BUSY and does nothing (R65). -/
theorem dumpStart_busy (s : State) (ep : Fin 8) (tenant : Fin 4096) (tag : Nat) (runs : s.f.dump.isSome = true) :
    Answers (.dumpStart ep tenant tag) s (fun g => g = s.f) := by
  refine ⟨_, rfl, ?_⟩
  simp only [startDump, runs, if_true]

/-- Without a dump there is no section. -/
theorem dumpSection_idle {s : State} (idle : s.f.dump = none) : Answers .dumpSection s (fun g => g = s.f) :=
  ⟨s.f, by show execDumpSection s = _; simp only [execDumpSection, idle]; rfl, rfl⟩

/-- Nothing of the dump follows while one of its messages waits for its credits (R65). -/
theorem dumpSection_waits {s : State} {d : Dump} (runs : s.f.dump = some d) (waits : dumpWaits s.f d = true) :
    Answers .dumpSection s (fun g => g = s.f) :=
  ⟨s.f, by show execDumpSection s = _; simp only [execDumpSection, runs, waits, if_true]; rfl, rfl⟩

/-- A section goes to the requester behind what has been sent, the first after the dump header (R65, R66). -/
theorem dumpSection_next {s : State} {d : Dump} {p : PlaneId} {x : DumpSec} (runs : s.f.dump = some d) (free : dumpWaits s.f d = false)
    (takes : (s.f.plane p).st.takes = true) (sends : (s.f.plane p).st.sends = true)
    (up : (s.f.plane p).epUp d.ep = true) (alone : (s.f.plane p).partner d.ep = none) (goes : d.aborting = false)
    (sect : dumpSec d.scope dumpRuns d.sect = some x) :
    let bs := (if d.sentBytes = 0 then dumpHeader s.f d else []) ++ secBytes s.f d x
    Answers .dumpSection s (fun g =>
      g.dump = some { d with sect := d.sect + 1, sentBytes := d.sentBytes + bs.length, crc := crcOn d.crc bs } ∧
      DumpSent (g.plane p) d d.sentBytes false (bs.take 4096) ∧
      g.e.regs.get 0 DEVICE_DUMP_STAT_SECTIONS = satAdd 24 (s.f.e.regs.get 0 DEVICE_DUMP_STAT_SECTIONS) 1) := by
  intro bs
  have next : (if d.aborting then none else dumpSec d.scope dumpRuns d.sect) = some x := by rw [goes]; exact sect
  refine ⟨_, by show execDumpSection s = _; simp only [execDumpSection, runs, free, next]; rfl, rfl, ?_, ?_⟩
  · rw [Field.plane_onE, plane_withDump, plane_dumpOut _ _ _ _ _ takes]
    exact sendDump_first _ d false _ bs _ up sends alone
  · rw [Field.onE_e, Eaves.onRegs_regs, get_incF_same _ _ _ (by decide)]
    simp only [dumpOut_e]
    rfl

/-- The END section follows the last section or an ABORT, in the one message with FLAGS.LAST (R65, R66). -/
theorem dumpSection_end {s : State} {d : Dump} {p : PlaneId} (runs : s.f.dump = some d) (free : dumpWaits s.f d = false)
    (lead : s.f.e.leader = some p) (takes : (s.f.plane p).st.takes = true) (sends : (s.f.plane p).st.sends = true)
    (up : (s.f.plane p).epUp d.ep = true) (alone : (s.f.plane p).partner d.ep = none)
    (ends : d.aborting = true ∨ dumpSec d.scope dumpRuns d.sect = none) :
    let head := if d.sentBytes = 0 then dumpHeader s.f d else []
    let h := secHeader 4 0 0 0 1 (s.f.plane p).st.stream
    Answers .dumpSection s (fun g => g.dump = none ∧
      DumpSent (g.plane p) d d.sentBytes true (head ++ h ++ leBytes 4 (crcOn (crcOn d.crc head) h ^^^ 0xFFFFFFFF)) ∧
      g.e.regs.get 0 DEVICE_DUMP_STAT_RUNNING = 0 ∧
      g.e.regs.get 0 (if d.aborting = true then DEVICE_DUMP_STAT_ABORTED else DEVICE_DUMP_STAT_DONE) = 1) := by
  intro head h
  let bs := head ++ h ++ leBytes 4 (crcOn (crcOn d.crc head) h ^^^ 0xFFFFFFFF)
  have none_left : (if d.aborting then none else dumpSec d.scope dumpRuns d.sect) = none := by
    rcases ends with a | n
    · simp [a]
    · simp [n]
  have short : bs.length ≤ 92 := by
    have : head.length ≤ 64 := by
      show (if d.sentBytes = 0 then dumpHeader s.f d else []).length ≤ 64
      split <;> simp [length_dumpHeader]
    simp only [bs, h, List.length_append, length_secHeader, length_leBytes]
    omega
  refine ⟨dumpEnd s.f d head, by show execDumpSection s = _; simp only [execDumpSection, runs, free, none_left]; rfl, rfl, ?_, ?_, ?_⟩
  · rw [dumpEnd, Field.plane_onE, plane_withDump, lead_eq lead, plane_dumpOut _ _ _ _ _ takes]
    have sent := sendDump_first (s.f.plane p) d true d.sentBytes bs (bs.length / 4096) up sends alone
    rwa [List.drop_of_length_le (by omega), List.take_of_length_le (by omega)] at sent
  · exact (get_dumpStat_end _ _ (by split <;> simp)).1
  · exact (get_dumpStat_end _ _ (by split <;> simp)).2

/-- Settles O29: the commands of a dump one by one; the first message of a section carries its first 1,024 words. -/
theorem stateDump : Obligations.StateDump := by
  intro s
  refine ⟨fun ep tenant tag => ⟨dumpStart_begins s ep tenant tag, dumpStart_busy s ep tenant tag⟩, ⟨_, rfl, rfl⟩, dumpSection_idle,
    fun d runs => ⟨dumpSection_waits runs, ?_⟩⟩
  intro p free lead q head Sent takes sends up alone
  exact ⟨fun x goes sect => dumpSection_next runs free takes sends up alone goes sect,
    fun ends => dumpSection_end runs free lead takes sends up alone ends⟩

end Sys2Proof.Management
end

section
/-!
PROOF. Staging of a truss (R58, R59, R69, R73-R76, R93).
-/

namespace Sys2Proof.Management

open Machine

/-! What an EVENT or a LEGAL record leaves of a plane. -/

/-- An EVENT changes the plane's host side alone. -/
theorem eventTs_eq (q : Plane) (code tenant port ts : Nat) (data : List Byte) :
    ∃ h, q.eventTs code tenant port ts data = { q with host := h } := by
  unfold Plane.eventTs
  split
  · exact ⟨_, rfl⟩
  · next outside =>
    clear outside
    induction List.range 8 generalizing q with
    | nil => exact ⟨q.host, rfl⟩
    | cons ep eps ih =>
      rw [List.foldl_cons]
      split
      · obtain ⟨h, e⟩ := send_eq q ep clsEvent ((q.epRec ep).u 4 2) 0 false false false (eventBody code tenant port ts data)
        rw [e]
        exact ih _
      · exact ih q

@[simp] theorem event_nv (q : Plane) (code tenant port : Nat) (data : List Byte) : (q.event code tenant port data).nv = q.nv := by
  obtain ⟨h, e⟩ := eventTs_eq q code tenant port q.st.ts data
  rw [Plane.event, e]

/-- A LEGAL record changes the journal and its registers. -/
@[simp] theorem legalEvent_nv (q : Plane) (code : Nat) (data : List Byte) : (q.legalEvent code data).nv = q.nv := by
  simp only [Plane.legalEvent, Plane.legal, Plane.legalWith]
  split <;> rfl

/-! The other slot (R68, R75). -/

@[simp] theorem showTruss_nv (q : Plane) : q.showTruss.nv = q.nv := rfl

/-- A change of the slot record changes that alone in the MRAM and the flash. -/
@[simp] theorem setSlots_nv (q : Plane) (r : SlotRec) : (q.setSlots r).nv = { q.nv with slotRec := r } := by
  simp only [Plane.setSlots]
  split <;> simp

@[simp] theorem setOther_nv (q : Plane) (st err ver : Nat) :
    (q.setOther st err ver).nv = { q.nv with slotRec := { q.nv.slotRec with otherState := st, otherErr := err, otherVer := ver } } :=
  setSlots_nv _ _

@[simp] theorem setFlash_slotRec (n : PNonVol) (i : Nat) (s : FlashSlot) : (n.setFlash i s).slotRec = n.slotRec := by
  unfold PNonVol.setFlash
  split <;> rfl

@[simp] theorem flash_setFlash (n : PNonVol) (i : Nat) (s : FlashSlot) : (n.setFlash i s).flash i = s := by
  unfold PNonVol.setFlash PNonVol.flash
  split <;> rfl

/-- The flash of the other slot after it was written. -/
@[simp] theorem otherFlash_setFlash (n : PNonVol) (s : FlashSlot) : (n.setFlash (1 - n.slotRec.active) s).otherFlash = s := by
  rw [PNonVol.otherFlash, setFlash_slotRec, flash_setFlash]

/-- The other slot's flash does not follow its state. -/
@[simp] theorem setOther_otherFlash (q : Plane) (st err ver : Nat) : (q.setOther st err ver).nv.otherFlash = q.nv.otherFlash := by
  rw [setOther_nv]
  rfl

/-- TRUSS_STAGE_STAT shows the ERROR of the slot record (R93). -/
theorem showTruss_error (q : Plane) : q.showTruss.regs.get 0 TRUSS_STAGE_STAT_ERROR = q.nv.slotRec.otherErr % 16 := by
  unfold Plane.showTruss
  rw [Plane.onRegs]
  dsimp only
  rw [Regs.get_wr_other _ _ (by decide)]
  simp (disch := decide) only [get_set_apart, Regs.get_set_same]
  rfl

/-- A refused staging operation leaves ERROR 10 and changes nothing else of the slots (R76). -/
theorem stageRefused_leaves (q : Plane) : q.stageRefused.nv.slotRec = { q.nv.slotRec with otherErr := 10 } ∧
    q.stageRefused.nv.otherFlash = q.nv.otherFlash ∧ q.stageRefused.regs.get 0 TRUSS_STAGE_STAT_ERROR = 10 :=
  ⟨rfl, rfl, showTruss_error _⟩

@[simp] theorem onRegs_nv (q : Plane) (g : Regs → Regs) : (q.onRegs g).nv = q.nv := rfl

/-- A posted error changes registers and the host side. -/
@[simp] theorem postedError_nv (q : Plane) (m : RMsg) (cause : Nat) : (q.postedError m cause).nv = q.nv := by
  rw [Plane.postedError, send_nv, onRegs_nv]

/-- A plane after a change to both. -/
@[simp] theorem plane_onBoth (f : Field) (g : Plane → Plane) (p : PlaneId) : (f.onBoth g).plane p = g (f.plane p) := by
  cases p <;> rfl

/-! The guard of TRUSS_STAGE_CTL and TRUSS_TURN_CTL (R58, R59). -/

/-- With a session, or where no truss passes, an action acts. -/
theorem guarded_open {f : Field} {tenant : Nat} (h : f.lead.hasSession tenant = true ∨ noTruss f = true) (g : Field → Field) :
    guarded f tenant g = g f := by
  unfold guarded
  rw [if_pos (by simpa using h)]

/-- Without a session an action is counted and has no other effect. -/
theorem guarded_shut {f : Field} {tenant : Nat} (h : f.lead.hasSession tenant = false) (n : noTruss f = false) (g : Field → Field) :
    guarded f tenant g = guardMiss f := by
  simp [guarded, h, n]

/-- What an action of the TRUSS block leaves without a session. -/
theorem guardMiss_leaves (f : Field) : (guardMiss f).a = f.a ∧ (guardMiss f).b = f.b ∧ (guardMiss f).turn = f.turn ∧
    Counted f.e.regs (guardMiss f).e.regs DEVICE_GUARD_CNT 1 := ⟨rfl, rfl, rfl, guardMiss_counted f⟩

/-- Each action of TRUSS_STAGE_CTL and TRUSS_TURN_CTL is counted alone without a session (R59). -/
theorem trussAction_shut {s : State} {tenant : Fin 4096} (h : s.f.lead.hasSession tenant.val = false) (n : noTruss s.f = false) {c : Instr}
    {cold : Bool} (hc : c = .trussOpen tenant ∨ c = .trussVerify tenant ∨ c = .trussDiscard tenant ∨ c = .floorCommit tenant ∨
      c = .turnStart tenant cold ∨ c = .turnAbort tenant) : exec c s = s.ok (guardMiss s.f) := by
  have shut := guarded_shut h n
  rcases hc with rfl | rfl | rfl | rfl | rfl | rfl
  · exact congrArg s.ok (shut _)
  · exact congrArg s.ok (shut _)
  · exact congrArg s.ok (shut _)
  · exact congrArg s.ok (shut _)
  · exact congrArg s.ok (shut _)
  · exact congrArg s.ok (shut _)

/-! The actions under the guard. -/

/-- OPEN erases the other slot of both planes and receives (R75). -/
theorem trussOpen_receives {f : Field} {tenant : Nat} (h : f.lead.hasSession tenant = true ∨ noTruss f = true) (ok : stagingOk f = true)
    (p : PlaneId) : ((trussOpen f tenant).plane p).nv.slotRec.otherState = 1 ∧
      ((trussOpen f tenant).plane p).nv.otherFlash = FlashSlot.erased := by
  rw [trussOpen, guarded_open h, if_pos ok, plane_onBoth, setOther_otherFlash]
  exact ⟨by simp, otherFlash_setFlash _ _⟩

/-- VERIFY starts a verification in both planes (R75). -/
theorem trussVerify_verifies {f : Field} {tenant : Nat} (h : f.lead.hasSession tenant = true ∨ noTruss f = true) (ok : stagingOk f = true)
    (p : PlaneId) : ((trussVerify f tenant).plane p).nv.slotRec.otherState = 2 := by
  rw [trussVerify, guarded_open h, if_pos ok, plane_onBoth]
  simp

/-- An OPEN or a VERIFY that is not allowed is refused in both planes (R76). -/
theorem staging_refused {s : State} {tenant : Fin 4096} (h : s.f.lead.hasSession tenant.val = true ∨ noTruss s.f = true)
    (no : stagingOk s.f = false) {c : Instr} (hc : c = .trussOpen tenant ∨ c = .trussVerify tenant) :
    exec c s = s.ok (s.f.onBoth (·.stageRefused)) := by
  have ne : ¬ stagingOk s.f = true := by simp [no]
  rcases hc with rfl | rfl
  · exact congrArg s.ok ((guarded_open h _).trans (if_neg ne))
  · exact congrArg s.ok ((guarded_open h _).trans (if_neg ne))

/-- DISCARD empties the other slot's record in both planes (R93). -/
theorem trussDiscard_empties {f : Field} {tenant : Nat} (h : f.lead.hasSession tenant = true ∨ noTruss f = true) (idle : f.phase = 0)
    (p : PlaneId) : ((trussDiscard f tenant).plane p).nv.slotRec.otherState = 0 := by
  rw [trussDiscard, guarded_open h, if_pos idle, plane_onBoth]
  simp

/-- A plane after FLOOR_COMMIT of a version: its floor, and a PREVIOUS slot below it (R74). -/
theorem floorCommit_plane {f : Field} {tenant : Nat} (h : f.lead.hasSession tenant = true ∨ noTruss f = true) (p : PlaneId) :
    ((floorCommit f tenant).plane p).nv.floor = f.lead.nv.slotRec.activeVer ∧
    ((f.plane p).nv.slotRec.otherState = 4 → (f.plane p).nv.slotRec.otherVer < f.lead.nv.slotRec.activeVer →
      ((floorCommit f tenant).plane p).nv.slotRec.otherState = 5 ∧ ((floorCommit f tenant).plane p).nv.slotRec.otherErr = 7) := by
  rw [floorCommit, guarded_open h, Field.plane_onE, plane_onBoth]
  dsimp only
  split <;> simp_all

/-- FLOOR_COMMIT mirrors the floor with its complement (R74, R469). -/
theorem floorCommit_mirror {f : Field} {tenant : Nat} (h : f.lead.hasSession tenant = true ∨ noTruss f = true) :
    (floorCommit f tenant).e.regs.rd BBR_FLOOR = BitVec.ofNat 32 f.lead.nv.slotRec.activeVer ∧
    (floorCommit f tenant).e.regs.rd BBR_FLOOR_INV = ~~~ ((floorCommit f tenant).e.regs.rd BBR_FLOOR) := by
  rw [floorCommit, guarded_open h]
  simp only [Field.onE_e, Eaves.mirrorFloor, Eaves.onRegs_regs, Regs.rd_set, Regs.rd_wr]
  exact ⟨rfl, rfl⟩

/-! Chunks (R75, R301). -/

/-- A chunk as its message carries it: OFFSET, four reserved bytes, the data. -/
def chunkMsg (ep tenant tag offset : Nat) (data : List Byte) : RMsg :=
  ⟨ep, clsTruss, tenant, true, false, true, false, 0, tag, leBytes 4 offset ++ leBytes 4 0 ++ data, 0⟩

theorem chunkMsg_offset (ep tenant tag : Nat) {offset : Nat} (data : List Byte) (h : offset < 2 ^ 32) :
    bytesAt (chunkMsg ep tenant tag offset data).body 0 4 = offset := by
  have e := bytesAt_leBytes [] (leBytes 4 0 ++ data) 4 offset (off := 0) rfl
  rw [Nat.mod_eq_of_lt (show offset < 256 ^ 4 from h)] at e
  rwa [chunkMsg, List.append_assoc]

theorem chunkMsg_data (ep tenant tag offset : Nat) (data : List Byte) : (chunkMsg ep tenant tag offset data).body.drop 8 = data :=
  List.drop_left' (by simp)

/-- A chunk in order is programmed (R75). -/
theorem planeChunk_programs {q : Plane} (ep tenant tag : Nat) {offset : Nat} {data : List Byte} (aligned : offset % 64 = 0)
    (fits : offset + data.length ≤ 33554432) (receiving : q.nv.slotRec.otherState = 1) :
    (planeChunk q (chunkMsg ep tenant tag offset data)).nv.otherFlash = q.nv.otherFlash.program offset data ∧
    (planeChunk q (chunkMsg ep tenant tag offset data)).nv.slotRec = q.nv.slotRec := by
  simp only [planeChunk, chunkMsg_offset ep tenant tag data (show offset < 2 ^ 32 by omega), chunkMsg_data]
  rw [if_neg (by simp [receiving]), if_neg (by omega), if_neg (by omega), showTruss_nv]
  exact ⟨otherFlash_setFlash _ _, setFlash_slotRec _ _ _⟩

/-- A chunk that is not in order, or that no staging waits for, leaves the MRAM and the flash (R75, R301). -/
theorem planeChunk_fails {q : Plane} (ep tenant tag : Nat) {offset : Nat} {data : List Byte} (small : offset < 2 ^ 32)
    (h : offset % 64 ≠ 0 ∨ 33554432 < offset + data.length ∨ q.nv.slotRec.otherState ≠ 1) :
    (planeChunk q (chunkMsg ep tenant tag offset data)).nv = q.nv := by
  simp only [planeChunk, chunkMsg_offset ep tenant tag data small, chunkMsg_data]
  split
  · exact postedError_nv _ _ _
  · split
    · exact postedError_nv _ _ _
    · next receiving fits =>
      rw [if_pos (by omega)]
      exact postedError_nv _ _ _

/-- A chunk reaches the planes that stand at it; where no truss passes it reaches both (R69). -/
theorem trussChunk_reaches (s : State) (ep : Fin 8) (tenant : Fin 4096) (tag offset : Nat) (data : List Byte) (p : PlaneId)
    (h : noTruss s.f = true ∨
      p ∈ s.f.actors ep.val tenant.val clsTruss tag (fun b => bytesAt b 0 4 = offset && decide (b.drop 8 = data))) :
    Answers (.trussChunk ep tenant tag offset data) s (fun g => ∃ q, q.nv = (s.f.plane p).nv ∧
      g.plane p = planeChunk q (chunkMsg ep.val tenant.val tag offset data)) := by
  by_cases n : noTruss s.f = true
  · exact ⟨_, if_pos n, s.f.plane p, rfl, plane_onBoth _ _ _⟩
  · exact ⟨_, if_neg n, (s.f.plane p).takeAdmitted, rfl, (Field.plane_onAdmitted _ _ _ _ _ _ _ _).trans (if_pos (h.resolve_left n))⟩

/-! The end of a verification (R73). -/

/-- A plane's result of steps 1-7, or 9 where the flash failed. -/
def ownError (s : State) (flashFail : Bool) (p : PlaneId) : Nat :=
  if flashFail then 9 else verifyOther s.f p (match p with | .A => s.otpA | .B => s.otpB)

/-- The ERROR with which plane `p`'s verification ends: its own, else 8 where the other plane fails or holds another image. -/
def endError (s : State) (flashFail : Bool) (p : PlaneId) : Nat :=
  if ownError s flashFail p ≠ 0 then ownError s flashFail p
  else if ownError s flashFail p.other = 0 ∧ decide (Config.sha384 (s.f.plane .A).nv.otherFlash.image =
    Config.sha384 (s.f.plane .B).nv.otherFlash.image) = true then 0 else 8

/-- A plane's verification ended with an ERROR, or with 0 in STAGED. -/
def endVerify (q : Plane) (err : Nat) : Plane :=
  q.setOther (if err = 0 then 3 else 5) err (if err = 1 ∨ err = 2 then 0 else bytesAt q.nv.otherFlash.image 8 4)

/-- The dies after a verification: both planes have ended theirs, and where both pass hold NO_TRUSS ends (R69, R73). -/
def verified (s : State) (flashFail : Bool) : Field :=
  let f : Field := { s.f with
    a := endVerify s.f.a (endError s flashFail .A), b := endVerify s.f.b (endError s flashFail .B) }
  if endError s flashFail .A = 0 ∧ endError s flashFail .B = 0 ∧ f.e.mode = .safe then f.onE (·.clearHold 3) else f

theorem exec_trussVerifyDone {s : State} (flashFail : Bool) (h : s.f.lead.nv.slotRec.otherState = 2) :
    exec (.trussVerifyDone flashFail) s = s.ok (verified s flashFail) := if_neg (by simp [h])

theorem plane_verified (s : State) (flashFail : Bool) (p : PlaneId) :
    (verified s flashFail).plane p = endVerify (s.f.plane p) (endError s flashFail p) := by
  unfold verified
  dsimp only
  split <;> cases p <;> rfl

/-- A plane's slot record after its verification. -/
theorem verified_slotRec (s : State) (flashFail : Bool) (p : PlaneId) :
    ((verified s flashFail).plane p).nv.slotRec.otherErr = endError s flashFail p ∧
    ((verified s flashFail).plane p).nv.slotRec.otherState = if endError s flashFail p = 0 then 3 else 5 := by
  rw [plane_verified, endVerify, setOther_nv]
  exact ⟨rfl, rfl⟩

/-- An ERROR rejects the slot. -/
theorem verified_rejected {s : State} {flashFail : Bool} {p : PlaneId} {n : Nat} (h : endError s flashFail p = n) (ne : n ≠ 0) :
    ((verified s flashFail).plane p).nv.slotRec.otherState = 5 ∧ ((verified s flashFail).plane p).nv.slotRec.otherErr = n := by
  obtain ⟨err, st⟩ := verified_slotRec s flashFail p
  rw [st, err, h, if_neg ne]
  exact ⟨rfl, rfl⟩

/-- Without an ERROR the slot is STAGED. -/
theorem verified_staged {s : State} {flashFail : Bool} {p : PlaneId} (h : endError s flashFail p = 0) :
    ((verified s flashFail).plane p).nv.slotRec.otherState = 3 ∧ ((verified s flashFail).plane p).nv.slotRec.otherErr = 0 := by
  obtain ⟨err, st⟩ := verified_slotRec s flashFail p
  rw [st, err, h]
  exact ⟨rfl, rfl⟩

/-- A hold that is cleared does not stand (R439). -/
theorem clearHold_holds (e : Eaves) (k : Nat) : bit (e.clearHold (k + 1)).seqr.holds k = false := by
  unfold Eaves.clearHold
  split
  · next h => simpa [bit, Nat.testBit_xor] using h
  · next h => simpa using h

/-- A staging that both planes accept ends hold NO_TRUSS (R69). -/
theorem verified_hold {s : State} {flashFail : Bool} (a : endError s flashFail .A = 0) (b : endError s flashFail .B = 0)
    (safe : s.f.e.mode = .safe) : bit (verified s flashFail).e.seqr.holds 2 = false := by
  rw [verified, if_pos ⟨a, b, safe⟩]
  exact clearHold_holds _ 2

/-- A failed program or erase operation is ERROR 9 in both planes. -/
theorem endError_flash (s : State) (p : PlaneId) : endError s true p = 9 := rfl

/-- A plane's own ERROR is the one that it ends with. -/
theorem endError_own {s : State} {p : PlaneId} {n : Nat} (h : ownError s false p = n) (ne : n ≠ 0) : endError s false p = n := by
  rw [endError, h, if_pos ne]

/-- Both planes pass, with one image. -/
theorem endError_pass {s : State} (a : ownError s false .A = 0) (b : ownError s false .B = 0)
    (same : Config.sha384 s.f.a.nv.otherFlash.image = Config.sha384 s.f.b.nv.otherFlash.image) (p : PlaneId) :
    endError s false p = 0 := by
  have own : ∀ x, ownError s false x = 0 := by rintro (_ | _) <;> assumption
  rw [endError, own, if_neg (by simp), own, if_pos ⟨rfl, decide_eq_true same⟩]

/-- Plane A passes steps 1-7, and step 8 finds that plane B fails or holds another image. -/
theorem endError_compare {s : State} (a : ownError s false .A = 0)
    (h : ownError s false .B ≠ 0 ∨ ¬ Config.sha384 s.f.a.nv.otherFlash.image = Config.sha384 s.f.b.nv.otherFlash.image) :
    endError s false .A = 8 := by
  rw [endError, a, if_neg (by simp)]
  refine if_neg ?_
  rintro ⟨b, same⟩
  exact h.elim (· b) (· (of_decide_eq_true same))

/-- Settles O30: each action under its guard, a chunk in a plane that it reaches, and the end of the verification. -/
theorem staging : Obligations.Staging := by
  intro s tenant f
  refine ⟨fun shut n c cold hc => ⟨_, trussAction_shut shut n hc, guardMiss_leaves f⟩, fun auth => ⟨fun ok => ⟨⟨_, rfl, trussOpen_receives auth ok⟩,
    ⟨_, rfl, trussVerify_verifies auth ok⟩⟩, ?_, fun idle => ⟨_, rfl, trussDiscard_empties auth idle⟩, ?_⟩, ?_, ?_⟩
  · intro no c hc
    refine ⟨_, staging_refused auth no hc, fun p => ?_⟩
    rw [plane_onBoth]
    exact stageRefused_leaves _
  · obtain ⟨floor, inv⟩ := floorCommit_mirror auth
    exact ⟨_, rfl, fun p => (floorCommit_plane auth p).1, floor, inv, fun p => (floorCommit_plane auth p).2⟩
  · intro ep tag offset data p reaches
    obtain ⟨g, hg, q, hq, hp⟩ := trussChunk_reaches s ep tenant tag offset data p reaches
    refine ⟨fun aligned fits receiving => ⟨g, hg, ?_⟩, fun small bad => ⟨g, hg, ?_⟩⟩
    · beta_reduce
      rw [hp, ← hq]
      exact planeChunk_programs _ _ _ aligned fits (by rw [hq]; exact receiving)
    · beta_reduce
      rw [hp, ← hq]
      exact planeChunk_fails _ _ _ small (by rw [hq]; exact bad)
  · intro verifying
    refine ⟨⟨_, exec_trussVerifyDone true verifying, fun p => verified_rejected (endError_flash s p) (by decide)⟩,
      ⟨_, exec_trussVerifyDone false verifying, ?_⟩⟩
    beta_reduce
    intro eA eB same
    refine ⟨fun a b eq => ⟨fun p => verified_staged (endError_pass a b eq p), verified_hold (endError_pass a b eq .A) (endError_pass a b eq .B)⟩,
      fun a => verified_rejected (p := .A) (endError_own rfl a) a, fun b => verified_rejected (p := .B) (endError_own rfl b) b,
      fun a h => verified_rejected (p := .A) (endError_compare a h) (by decide)⟩

end Sys2Proof.Management
end

section
/-!
SUPPORT. The planes that act on a management access: which of them speaks, what a change of them leaves, and the access of one word (R44-R47).
-/

namespace Sys2Proof.Management

open Machine

/-! The planes that act. -/

/-- The planes that act, with plane `p` among them: it alone, or both. -/
def ActsWith (acting : List PlaneId) (p : PlaneId) : Prop := acting = [p] ∨ acting = [PlaneId.A, PlaneId.B]

/-- Planes chosen from both. -/
theorem actsWith_filter (k : PlaneId → Bool) {p : PlaneId} (h : p ∈ [PlaneId.A, PlaneId.B].filter k) :
    ActsWith ([PlaneId.A, PlaneId.B].filter k) p := by
  have hp := (List.mem_filter.mp h).2
  cases p <;> cases ha : k .A <;> cases hb : k .B <;> simp_all [ActsWith, List.filter]

/-- The planes that stand at a host's message. -/
theorem actsWith_actors {f : Field} {ep tenant cls tag : Nat} {what : List Byte → Bool} {p : PlaneId}
    (h : p ∈ f.actors ep tenant cls tag what) : ActsWith (f.actors ep tenant cls tag what) p := by
  rcases f.actors_cases ep tenant cls tag what with e | e
  · rw [e] at h; cases h
  · rw [e] at h ⊢
    exact actsWith_filter _ h

/-- The planes in a running role. -/
theorem actsWith_runners {f : Field} {p : PlaneId} (h : p ∈ runners f) : ActsWith (runners f) p := actsWith_filter _ h

theorem ActsWith.mem {acting : List PlaneId} {p : PlaneId} (h : ActsWith acting p) : p ∈ acting := by
  rcases h with rfl | rfl
  · exact List.mem_singleton_self p
  · cases p <;> decide

theorem ActsWith.ne_nil {acting : List PlaneId} {p : PlaneId} (h : ActsWith acting p) : acting ≠ [] := List.ne_nil_of_mem h.mem

theorem ActsWith.nodup {acting : List PlaneId} {p : PlaneId} (h : ActsWith acting p) : acting.Nodup := by
  rcases h with rfl | rfl
  · exact List.nodup_singleton p
  · decide

/-- The leading plane has the role LEADING; where it is plane B, plane A has another one. -/
theorem leader_role {e : Eaves} {p : PlaneId} (lead : e.leader = some p) :
    e.role p = .leading ∧ (p = .B → e.role .A ≠ .leading) := by
  unfold Eaves.leader at lead
  split at lead
  · next a => cases lead; exact ⟨a, nofun⟩
  · next a =>
    split at lead
    · next b => cases lead; exact ⟨b, fun _ => a⟩
    · cases lead

/-- The first of the acting planes that leads is the leading plane. -/
theorem find_leading {f : Field} {acting : List PlaneId} {p : PlaneId} (h : ActsWith acting p) (lead : f.e.leader = some p) :
    acting.find? (fun x => f.e.role x = .leading) = some p := by
  obtain ⟨leads, first⟩ := leader_role lead
  rcases h with rfl | rfl
  · simp [leads]
  · cases p
    · simp [leads]
    · simp [leads, first rfl]

/-- The plane whose answer an access gives is the leading one. -/
theorem speaker_eq {f : Field} {acting : List PlaneId} {p : PlaneId} (h : ActsWith acting p) (lead : f.e.leader = some p) :
    speaker f acting = f.plane p := by
  unfold speaker
  rw [find_leading h lead]

/-- What the device counts, it counts once: with the leading plane. -/
theorem leads_eq {f : Field} {acting : List PlaneId} {p : PlaneId} (h : ActsWith acting p) (lead : f.e.leader = some p) :
    leads f acting = true := by
  unfold leads
  exact List.any_eq_true.mpr ⟨p, h.mem, by simp [(leader_role lead).1]⟩

/-- The acting planes changed. -/
def onActing (acting : List PlaneId) (g : Plane → Plane) (f : Field) : Field := acting.foldl (fun f p => f.onPlane p g) f

@[simp] theorem onActing_e (acting : List PlaneId) (g : Plane → Plane) (f : Field) : (onActing acting g f).e = f.e := by
  obtain ⟨a, b, e⟩ := Field.foldl_onPlane_eq g acting f
  rw [onActing, e]

theorem plane_onActing {acting : List PlaneId} {p : PlaneId} (h : ActsWith acting p) (g : Plane → Plane) (f : Field) (x : PlaneId) :
    (onActing acting g f).plane x = if x ∈ acting then g (f.plane x) else f.plane x := Field.plane_foldl_onPlane g x acting f h.nodup

theorem plane_onActing_mem {acting : List PlaneId} {p x : PlaneId} (h : ActsWith acting p) (hx : x ∈ acting) (g : Plane → Plane) (f : Field) :
    (onActing acting g f).plane x = g (f.plane x) := by
  rw [plane_onActing h, if_pos hx]

/-- A change that keeps the registers keeps those of every plane. -/
theorem onActing_regs {acting : List PlaneId} {p : PlaneId} (h : ActsWith acting p) {g : Plane → Plane} (hg : ∀ q, (g q).regs = q.regs)
    (f : Field) (x : PlaneId) : ((onActing acting g f).plane x).regs = (f.plane x).regs := by
  rw [plane_onActing h]
  split
  · exact hg _
  · rfl

/-! A plane's answer to a request. -/

theorem endJob_eq (f : Field) (acting : List PlaneId) (j : MgmtJob) (st : Nat) :
    endJob f acting j st = onActing acting (fun q => q.respond j.ep clsMgmtRsp j.who.tenant j.tag (jobRsp j st)) f := rfl

@[simp] theorem endJob_e (f : Field) (acting : List PlaneId) (j : MgmtJob) (st : Nat) : (endJob f acting j st).e = f.e := onActing_e _ _ _

theorem endJob_regs {acting : List PlaneId} {p : PlaneId} (h : ActsWith acting p) (f : Field) (j : MgmtJob) (st : Nat) (x : PlaneId) :
    ((endJob f acting j st).plane x).regs = (f.plane x).regs := onActing_regs h (fun q => respond_regs q _ _ _ _ _) f x

/-- The leading plane answers the request's endpoint. -/
theorem replied_endJob {f : Field} {acting : List PlaneId} {p : PlaneId} (h : ActsWith acting p) (j : MgmtJob) (st : Nat)
    (up : (f.plane p).epUp j.ep = true) (sends : (f.plane p).st.sends = true) (alone : (f.plane p).partner j.ep = none) :
    Replied ((endJob f acting j st).plane p) j.ep j.who.tenant j.tag true (jobRsp j st) := by
  rw [endJob_eq, plane_onActing_mem h h.mem]
  exact replied_send _ _ _ _ _ _ up sends alone

/-- No other request of the endpoint is next after one has ended, where none waited behind it. -/
theorem nextJob_endJob {f : Field} {acting : List PlaneId} {p : PlaneId} (h : ActsWith acting p) (lead : f.e.leader = some p) (j : MgmtJob)
    (st : Nat) {ep : Nat} (quiet : nextJob (f.plane p) ep = none) : nextJob (speaker (endJob f acting j st) acting) ep = none := by
  rw [speaker_eq h (by rw [endJob_e]; exact lead), endJob_eq, plane_onActing_mem h h.mem]
  simpa [nextJob] using quiet

/-! A request of one word (R44, R288). -/

/-- The request for one word, to be written with `wr` where there is one. -/
def oneWord (ep tenant tag a : Nat) (wr : Option Word) : MgmtJob :=
  ⟨⟨ep, tenant, false⟩, ep, tag, wr.isSome, a, a, 1, wr.toList, [], false⟩

/-- The dies once the acting planes have taken their oldest admitted message. -/
def taken (f : Field) (acting : List PlaneId) : Field := onActing acting (·.takeAdmitted) f

@[simp] theorem taken_e (f : Field) (acting : List PlaneId) : (taken f acting).e = f.e := onActing_e _ _ _

theorem taken_plane {acting : List PlaneId} {p : PlaneId} (h : ActsWith acting p) (f : Field) :
    (taken f acting).plane p = (f.plane p).takeAdmitted := plane_onActing_mem h h.mem _ f

theorem cutWords_one (a : Nat) : cutWords a 1 = 1 := by
  unfold cutWords
  omega

/-- The job that a request for one word makes. -/
theorem oneWord_eq {ep tenant tag a : Nat} {wr : Option Word} (fits : a < addrSpan) :
    oneWord ep tenant tag a wr = ⟨⟨ep, tenant, false⟩, ep, tag, (wr.map ([·])).isSome, a % addrSpan, a % addrSpan,
      cutWords (a % addrSpan) 1, (wr.map ([·])).getD [], [], false⟩ := by
  rw [Nat.mod_eq_of_lt fits, cutWords_one]
  cases wr <;> rfl

theorem speaker_taken {f : Field} {acting : List PlaneId} {p : PlaneId} (h : ActsWith acting p) (lead : f.e.leader = some p) :
    speaker (taken f acting) acting = (f.plane p).takeAdmitted := by
  rw [speaker_eq h (by rw [taken_e]; exact lead), taken_plane h]

/-- A READ of one word joins those of its endpoint where the last one is not done (R47). -/
theorem mgmtReq_queues {s : State} {ep tenant tag a : Nat} {p : PlaneId} (fits : a < addrSpan)
    (h : p ∈ s.f.actors ep tenant clsMgmtReq tag (saysMgmt a 1 none)) (lead : s.f.e.leader = some p)
    (busy : (nextJob (s.f.plane p) ep).isSome = true) :
    let acting := s.f.actors ep tenant clsMgmtReq tag (saysMgmt a 1 none)
    mgmtReq s ep tenant tag a 1 none = { s with
      f := onActing acting (fun q => { q with st := { q.st with jobs := q.st.jobs ++ [oneWord ep tenant tag a none] } }) (taken s.f acting) } := by
  intro acting
  have acts : ActsWith acting p := actsWith_actors h
  have busy' : (nextJob (speaker (taken s.f acting) acting) ep).isSome = true := by
    rw [speaker_taken acts lead]
    exact busy
  rw [mgmtReq, if_neg acts.ne_nil, oneWord_eq (wr := none) fits]
  exact if_pos busy'

/-- A request for one word runs where no other of its endpoint waits. -/
theorem mgmtReq_runs {s : State} {ep tenant tag a : Nat} {wr : Option Word} {p : PlaneId} (fits : a < addrSpan)
    (h : p ∈ s.f.actors ep tenant clsMgmtReq tag (saysMgmt a 1 (wr.map ([·])))) (lead : s.f.e.leader = some p)
    (quiet : nextJob (s.f.plane p) ep = none) :
    let acting := s.f.actors ep tenant clsMgmtReq tag (saysMgmt a 1 (wr.map ([·])))
    mgmtReq s ep tenant tag a 1 (wr.map ([·])) = runJob { s with f := taken s.f acting } acting 2 (oneWord ep tenant tag a wr) := by
  intro acting
  have acts : ActsWith acting p := actsWith_actors h
  have speaks := speaker_taken acts lead
  have quiet' : ¬ (nextJob (speaker (taken s.f acting) acting) ep).isSome = true := by
    rw [speaks]
    simpa [nextJob] using quiet
  have fuel : ((speaker (taken s.f acting) acting).st.jobs.filter (fun k => k.ep = ep)) = [] := by
    rw [speaks]
    simpa [nextJob, List.filter_eq_nil_iff] using quiet
  rw [mgmtReq, if_neg acts.ne_nil]
  refine (if_neg quiet').trans ?_
  rw [← oneWord_eq fits, startJob]
  exact congrArg (fun l => runJob _ _ (l.foldl (fun n (k : MgmtJob) => n + k.left + 1) 2) _) fuel

/-! The word of a request. -/

/-- What a plane does with a word of Eaves: it goes up the Rafter, and the request waits for its completion (R44). -/
def goesUp (j : MgmtJob) (q : Plane) : Plane :=
  let val := if j.isWrite then some (j.toWrite.headD 0) else none
  let q := (val.elim q (q.linIssued j.next)).access j.who j.next val
  { q with st := { q.st with jobs := { j with waiting := true } :: q.st.jobs } }

theorem runJob_eaves {s : State} {acting : List PlaneId} {j : MgmtJob} (fuel : Nat) (left : j.left ≠ 0) (up : inEaves j.next = true) :
    runJob s acting (fuel + 1) j = { s with f := onActing acting (goesUp j) s.f } := by
  unfold runJob
  simp only [left, up, if_false, if_true]
  rfl

/-- A request without words left ends. -/
theorem runJob_done {s : State} {acting : List PlaneId} {p : PlaneId} {j : MgmtJob} (fuel : Nat) (h : ActsWith acting p)
    (lead : s.f.e.leader = some p) (quiet : nextJob (s.f.plane p) j.ep = none) (left : j.left = 0) :
    runJob s acting (fuel + 1) j = { s with f := endJob s.f acting j stOk } := by
  unfold runJob
  simp only [left, if_true, nextJob_endJob h lead j stOk quiet]

/-- The request after its word: moved on where the word was done. -/
def afterWord (j : MgmtJob) (st : Nat) (x : Word) : MgmtJob := if st = stOk then jobStep j x else j

/-- A READ of one word of a plane, which ends with it. -/
theorem runJob_read {s : State} {f : Field} {st : Nat} {x : Word} {acting : List PlaneId} {p : PlaneId} {j : MgmtJob} (h : ActsWith acting p)
    (left : j.left = 1) (down : inEaves j.next = false) (read : j.isWrite = false) (done : planeRead s.f acting j.who j.next = (f, st, x))
    (lead : f.e.leader = some p) (quiet : nextJob (f.plane p) j.ep = none) :
    runJob s acting 2 j = { s with f := endJob f acting (afterWord j st x) st } := by
  unfold runJob afterWord
  simp only [left, down, read, done, Nat.one_ne_zero, Bool.false_eq_true, if_false]
  split
  · next ok =>
    rw [ok]
    exact runJob_done (s := { s with f := f }) 0 h lead quiet (by simp [jobStep, left])
  · simp only [nextJob_endJob h lead j st quiet]

/-- A WRITE of one word of a plane, which ends with it. -/
theorem runJob_write {s t : State} {st : Nat} {acting : List PlaneId} {p : PlaneId} {j : MgmtJob} (h : ActsWith acting p)
    (left : j.left = 1) (down : inEaves j.next = false) (write : j.isWrite = true)
    (done : planeWrite s acting j.who j.next (j.toWrite.headD 0) = (t, st))
    (lead : t.f.e.leader = some p) (quiet : nextJob (t.f.plane p) j.ep = none) :
    runJob s acting 2 j = { t with f := endJob t.f acting (afterWord j st 0) st } := by
  unfold runJob afterWord
  simp only [left, down, write, done, Nat.one_ne_zero, Bool.false_eq_true, if_false, if_true]
  split
  · next ok =>
    rw [ok]
    exact runJob_done 0 h lead quiet (by simp [jobStep, left])
  · simp only [nextJob_endJob h lead j st quiet]

/-! A word of a plane (R45, R48-R50, R58-R62). -/

/-- A word that is unaligned or not listed is a bus error (R48, R49). -/
theorem accessFault_some {row : Option RegRow} {a : Nat} (h : a % 4 ≠ 0 ∨ row = none) :
    accessFault row a = some (if a % 4 ≠ 0 then 2 else 1) := by
  unfold accessFault
  split
  · rfl
  · next aligned => rw [h.resolve_left aligned]; rfl

theorem accessFault_none {r : RegRow} {a : Nat} (h : a % 4 = 0) : accessFault (some r) a = none := by
  simp [accessFault, h]

/-- The tenant as which an initiator reads a plane's registers. -/
def readerOf (w : Who) : Nat := if w.init < 8 then w.tenant else 65537

/-- A register that is neither guarded nor of a SNAP pair is read as the leading plane shows it. -/
theorem planeRead_word {f : Field} {acting : List PlaneId} {p : PlaneId} {a : Nat} {r : RegRow} (w : Who) (h : ActsWith acting p)
    (lead : f.e.leader = some p) (row : (f.plane p).rowOf a = some r) (aligned : a % 4 = 0) (unguarded : r.guard = false) (plain : r.snap = 0) :
    planeRead f acting w a = (f, stOk, r.read ((f.plane p).word f.e (readerOf w) a)) := by
  unfold planeRead
  simp only [speaker_eq h lead, row, accessFault_none aligned, unguarded, Eaves.snapRead, plain]
  simp [readerOf]

/-- A read of a word that cannot be one is counted with its address. -/
theorem planeRead_fault {f : Field} {acting : List PlaneId} {p : PlaneId} {a : Nat} (w : Who) (h : ActsWith acting p)
    (lead : f.e.leader = some p) (bad : a % 4 ≠ 0 ∨ (f.plane p).rowOf a = none) :
    planeRead f acting w a = (countBusErr f (if a % 4 ≠ 0 then 2 else 1) a, stBusErr, 0) := by
  unfold planeRead
  simp only [speaker_eq h lead, accessFault_some bad, leads_eq h lead, if_true]

/-- A write of a word that cannot be one is counted with its address. -/
theorem planeWrite_fault {s : State} {acting : List PlaneId} {p : PlaneId} {a : Nat} (w : Who) (v : Word) (h : ActsWith acting p)
    (lead : s.f.e.leader = some p) (bad : a % 4 ≠ 0 ∨ (s.f.plane p).rowOf a = none) :
    planeWrite s acting w a v = ({ s with f := countBusErr s.f (if a % 4 ≠ 0 then 2 else 1) a }, stBusErr) := by
  unfold planeWrite
  simp only [speaker_eq h lead, accessFault_some bad, leads_eq h lead, if_true]

/-- Registers whose write reaches beyond the planes that act (R75, R83, R327, R328, R337, R341). -/
def beyondRegs : List Nat := [TRUSS_STAGE_CTL, TRUSS_TURN_CTL, KILN_LC_CMD, KILN_REVOKE, KILN_TAMPER, CPH_SESS_CTL]

theorem writeBeyond_self {a : Nat} (h : a ∉ beyondRegs) (s : State) (w : Who) (v : Word) : writeBeyond s w a v = s := by
  simp only [beyondRegs, List.mem_cons, List.not_mem_nil, or_false, not_or] at h
  obtain ⟨stage, turn, lc, revoke, tamper, sess⟩ := h
  simp only [writeBeyond, stage, turn, lc, revoke, tamper, sess, if_false]

theorem tooManyActions_false {a : Nat} (h : a ∉ beyondRegs) (v : Word) : tooManyActions a v = false := by
  simp only [beyondRegs, List.mem_cons, List.not_mem_nil, or_false, not_or] at h
  obtain ⟨stage, turn, lc, -, -, -⟩ := h
  simp [tooManyActions, stage, turn, lc]

/-- The held low word of a 64-bit pair after a write of register `a` of row `r` (R62): the low word's write holds it, the high word's uses it. -/
def pairWritten (r : RegRow) (init a : Nat) (v : Word) (e : Eaves) : Eaves :=
  if r.rw ≠ 0 then (if r.snap = 1 then e.holdLow init a v else if r.snap = 2 then e.dropHeld init else e) else e

theorem onE_pairWritten (r : RegRow) (init a : Nat) (v : Word) (f : Field) : f.onE (pairWritten r init a v) =
    if r.rw ≠ 0 then (if r.snap = 1 then f.onE (·.holdLow init a v) else if r.snap = 2 then f.onE (·.dropHeld init) else f) else f := by
  unfold Field.onE pairWritten
  split
  · split
    · rfl
    · split <;> rfl
  · rfl

/-- A register of no pair holds nothing. -/
theorem onE_pairWritten_plain {r : RegRow} (plain : r.snap = 0) (init a : Nat) (v : Word) (f : Field) :
    f.onE (pairWritten r init a v) = f := by
  rw [onE_pairWritten, plain]
  simp

/-- A write that passes its checks, of a register that reaches nothing beyond the planes: each acting plane takes it. -/
theorem planeWrite_takes {s : State} {acting : List PlaneId} {p : PlaneId} {a : Nat} {r : RegRow} (w : Who) (v : Word) (h : ActsWith acting p)
    (lead : s.f.e.leader = some p) (row : (s.f.plane p).rowOf a = some r) (aligned : a % 4 = 0)
    (may : r.guard = true → (s.f.plane p).hasSession w.guardAs = true) (within : a ∉ beyondRegs) :
    let act := fun (q : Plane) => q.applyWrite (decide (s.f.e.mode = .banked)) w r (s.f.e.heldLow w.init a) a v
    planeWrite s acting w a v =
      ({ s with f := (onActing acting (fun q => (act q).1) s.f).onE (pairWritten r w.init a v) }, (act (s.f.plane p)).2) := by
  intro act
  have right : decide (a ≠ KILN_LC_CMD ∧ a ≠ KILN_REVOKE) = true := by
    simp only [beyondRegs, List.mem_cons, List.not_mem_nil, or_false, not_or] at within
    obtain ⟨-, -, lc, revoke, -, -⟩ := within
    simp [lc, revoke]
  have pass : ¬ (r.guard = true ∧ ((s.f.plane p).hasSession w.guardAs && true) = false) := by
    rintro ⟨g, no⟩
    simp [may g] at no
  unfold planeWrite
  simp only [speaker_eq h lead, row, accessFault_none aligned, right, Bool.true_or, pass, tooManyActions_false within,
    leads_eq h lead, writeBeyond_self within, if_false, Bool.false_eq_true, ite_self]
  rw [onE_pairWritten]
  simp only [true_and]
  rfl

end Sys2Proof.Management
end

section
/-!
PROOF. Management requests of a host (R44, R46-R49, R288).
-/

namespace Sys2Proof.Management

open Machine

/-! A word of Eaves. -/

@[simp] theorem linIssued_st (q : Plane) (a : Nat) (v : Word) : (q.linIssued a v).st = q.st := by
  unfold Plane.linIssued Plane.keepAlive
  dsimp only
  split
  · rfl
  · split
    · split <;> rfl
    · rfl

/-- A plane that sends puts the access on its Rafter, and knows what it sent (R33). -/
theorem access_sent {q : Plane} (who : Who) (a : Nat) (val : Option Word) (sends : q.st.sends = true) :
    ∃ x ∈ (q.access who a val).st.accs, x.who = who ∧ x.addr = a ∧ x.val = val ∧ x ∈ (q.access who a val).st.sent := by
  refine ⟨⟨q.st.accSeq, who, a, val, (genKey a).elim 0 (sget (fun _ => 0) q.st.gens), none⟩, ?_, rfl, rfl, rfl, ?_⟩
  · simp [Plane.access, Plane.accessWith, sends]
  · simp [Plane.access, Plane.accessWith]

/-- The word of the request, as it goes up. -/
def wordOf (j : MgmtJob) : Option Word := if j.isWrite then some (j.toWrite.headD 0) else none

/-- A plane that sends sends the request's word up, and the request waits. -/
theorem goesUp_sent {q : Plane} (j : MgmtJob) (sends : q.st.sends = true) :
    (∃ x ∈ (goesUp j q).st.accs, x.who = j.who ∧ x.addr = j.next ∧ x.val = wordOf j ∧ x ∈ (goesUp j q).st.sent) ∧
    { j with waiting := true } ∈ (goesUp j q).st.jobs := by
  refine ⟨?_, List.mem_cons_self⟩
  refine access_sent (q := (wordOf j).elim q (q.linIssued j.next)) j.who j.next (wordOf j) ?_
  cases wordOf j <;> simp [sends]

/-- The dies after a request for one word of Eaves: the word goes up, and the request waits. -/
theorem mgmtReq_eaves {s : State} {ep tenant tag a : Nat} {wr : Option Word} {p : PlaneId} (fits : a < addrSpan) (up : inEaves a = true)
    (h : p ∈ s.f.actors ep tenant clsMgmtReq tag (saysMgmt a 1 (wr.map ([·])))) (lead : s.f.e.leader = some p)
    (quiet : nextJob (s.f.plane p) ep = none) (sends : (s.f.plane p).st.sends = true) :
    ∃ g : Field, mgmtReq s ep tenant tag a 1 (wr.map ([·])) = { s with f := g } ∧
      (∃ x ∈ (g.plane p).st.accs, x.who = ⟨ep, tenant, false⟩ ∧ x.addr = a ∧ x.val = wr ∧ x ∈ (g.plane p).st.sent) ∧
      { oneWord ep tenant tag a wr with waiting := true } ∈ (g.plane p).st.jobs := by
  have acts := actsWith_actors h
  refine ⟨_, (mgmtReq_runs fits h lead quiet).trans (runJob_eaves 1 Nat.one_ne_zero up), ?_⟩
  rw [plane_onActing_mem acts acts.mem, taken_plane acts]
  have val : wordOf (oneWord ep tenant tag a wr) = wr := by cases wr <;> rfl
  have sent := goesUp_sent (q := (s.f.plane p).takeAdmitted) (oneWord ep tenant tag a wr) sends
  rwa [val] at sent

/-! A word of a plane. -/

/-- What a host's request meets: the leading plane stands at it, sends, its endpoint is UP and in no group, and none of its requests waits. -/
structure Meets (s : State) (ep : Nat) (p : PlaneId) : Prop where
  lead : s.f.e.leader = some p
  up : (s.f.plane p).epUp ep = true
  sends : (s.f.plane p).st.sends = true
  alone : (s.f.plane p).partner ep = none
  quiet : nextJob (s.f.plane p) ep = none

/-- The answer to a READ or a WRITE of a word in the leading plane's output queue. -/
abbrev Answered (g : Field) (p : PlaneId) (ep tenant tag : Nat) (body : List Byte) : Prop :=
  ∃ m ∈ (g.plane p).host.out, m.ep = ep ∧ m.cls = clsMgmtRsp ∧ m.tenant = tenant ∧ m.tag = tag ∧ m.body = body

theorem Replied.answered {g : Field} {p : PlaneId} {ep tenant tag : Nat} {last : Bool} {body : List Byte}
    (h : Replied (g.plane p) ep tenant tag last body) : Answered g p ep tenant tag body := by
  obtain ⟨m, hm, hep, hcls, hten, htag, -, hbody⟩ := h
  exact ⟨m, hm, hep, hcls, hten, htag, hbody⟩

/-- Whether a plane stands to its endpoints as another does. -/
structure Alike (q q' : Plane) : Prop where
  st : q.st = q'.st
  epUp : q.host.epUp = q'.host.epUp
  truss : q.truss = q'.truss

theorem Alike.quiet {q q' : Plane} (h : Alike q q') {ep : Nat} (quiet : nextJob q' ep = none) : nextJob q ep = none := by
  rw [nextJob, h.st]; exact quiet

theorem Alike.partner {q q' : Plane} (h : Alike q q') (ep : Nat) : q.partner ep = q'.partner ep := by
  unfold Plane.partner Plane.epRec Plane.hosts
  rw [h.truss]

theorem Alike.up {q q' : Plane} (h : Alike q q') (ep : Nat) : q.epUp ep = q'.epUp ep := by
  simp only [Plane.epUp, h.epUp]

theorem alike_takeAdmitted (q : Plane) : Alike q.takeAdmitted q := ⟨rfl, rfl, rfl⟩

theorem alike_baseWrite (q : Plane) (r : RegRow) (a : Nat) (v : Word) : Alike (q.baseWrite r a v) q := ⟨rfl, rfl, rfl⟩

theorem Alike.trans {q q' q'' : Plane} (h : Alike q q') (h' : Alike q' q'') : Alike q q'' :=
  ⟨h.st.trans h'.st, h.epUp.trans h'.epUp, h.truss.trans h'.truss⟩

/-- The end of a request for one word, with the answer that the leading plane gives. -/
theorem answered_endJob {s : State} {ep tenant tag a : Nat} {wr : Option Word} {p : PlaneId} (m : Meets s ep p) {acting : List PlaneId}
    (acts : ActsWith acting p) {f : Field} (alike : Alike (f.plane p) (s.f.plane p)) (st : Nat) (x : Word) :
    Answered (endJob f acting (afterWord (oneWord ep tenant tag a wr) st x) st) p ep tenant tag
      (jobRsp (afterWord (oneWord ep tenant tag a wr) st x) st) := by
  have ids : (afterWord (oneWord ep tenant tag a wr) st x).ep = ep ∧ (afterWord (oneWord ep tenant tag a wr) st x).who.tenant = tenant ∧
      (afterWord (oneWord ep tenant tag a wr) st x).tag = tag := by
    unfold afterWord
    split <;> exact ⟨rfl, rfl, rfl⟩
  obtain ⟨hep, hten, htag⟩ := ids
  have sent := replied_endJob (f := f) acts (afterWord (oneWord ep tenant tag a wr) st x) st (by rw [hep, alike.up]; exact m.up)
    (by rw [alike.st]; exact m.sends) (by rw [hep, alike.partner]; exact m.alone)
  rw [hep, hten, htag] at sent
  exact sent.answered

/-- A READ of one word of the planes ends with what the read gives. -/
theorem mgmtReq_read {s : State} {ep tenant tag a : Nat} {p : PlaneId} (fits : a < addrSpan) (down : inEaves a = false)
    (h : p ∈ s.f.actors ep tenant clsMgmtReq tag (saysMgmt a 1 none)) (m : Meets s ep p) {f : Field} {st : Nat} {x : Word}
    (done : planeRead (taken s.f (s.f.actors ep tenant clsMgmtReq tag (saysMgmt a 1 none)))
      (s.f.actors ep tenant clsMgmtReq tag (saysMgmt a 1 none)) ⟨ep, tenant, false⟩ a = (f, st, x))
    (lead : f.e.leader = some p) (alike : Alike (f.plane p) (s.f.plane p)) :
    ∃ g : Field, mgmtReq s ep tenant tag a 1 none = { s with f := g } ∧ g.e = f.e ∧
      Answered g p ep tenant tag (jobRsp (afterWord (oneWord ep tenant tag a none) st x) st) :=
  ⟨_, (mgmtReq_runs (wr := none) fits h m.lead m.quiet).trans
    (runJob_read (actsWith_actors h) rfl down rfl done lead (alike.quiet m.quiet)), endJob_e _ _ _ _,
    answered_endJob m (actsWith_actors h) alike st x⟩

/-- A WRITE of one word of the planes ends with what the write gives; the answer leaves the registers. -/
theorem mgmtReq_write {s : State} {ep tenant tag a : Nat} {v : Word} {p : PlaneId} (fits : a < addrSpan) (down : inEaves a = false)
    (h : p ∈ s.f.actors ep tenant clsMgmtReq tag (saysMgmt a 1 (some [v]))) (lead : s.f.e.leader = some p)
    (quiet : nextJob (s.f.plane p) ep = none) {f : Field} {st : Nat}
    (done : planeWrite { s with f := taken s.f (s.f.actors ep tenant clsMgmtReq tag (saysMgmt a 1 (some [v]))) }
      (s.f.actors ep tenant clsMgmtReq tag (saysMgmt a 1 (some [v]))) ⟨ep, tenant, false⟩ a v = ({ s with f := f }, st))
    (lead' : f.e.leader = some p) (alike : Alike (f.plane p) (s.f.plane p)) :
    mgmtReq s ep tenant tag a 1 (some [v]) = { s with
      f := endJob f (s.f.actors ep tenant clsMgmtReq tag (saysMgmt a 1 (some [v]))) (afterWord (oneWord ep tenant tag a (some v)) st 0) st } :=
  (mgmtReq_runs (wr := some v) fits h lead quiet).trans
    (runJob_write (t := { s with f := f }) (actsWith_actors h) rfl down rfl done lead' (alike.quiet quiet))

/-- The answer to a word that was done (R288). -/
theorem jobRsp_done (ep tenant tag a : Nat) (wr : Option Word) (x : Word) :
    jobRsp (afterWord (oneWord ep tenant tag a wr) stOk x) stOk = mgmtRspBody 0 0 1 a (if wr.isSome then [] else [x]) := by
  have one : (a + 4 - a) / 4 = 1 := by omega
  simp only [jobRsp, afterWord, if_true, jobStep, oneWord, wordsDone, one]
  rfl

/-- The answer to a word that is a bus error (R288). -/
theorem jobRsp_busErr (ep tenant tag a : Nat) (wr : Option Word) (x : Word) :
    jobRsp (afterWord (oneWord ep tenant tag a wr) stBusErr x) stBusErr = mgmtRspBody 2 0 0 a [] := by
  have other : ¬ stBusErr = stOk := by decide
  simp only [jobRsp, afterWord, if_neg other, oneWord, wordsDone, Nat.sub_self, Nat.zero_div, ite_self]
  rfl

/-! Written fields (R50). -/

/-- A write of a register without W1C bits sets its RW bits and keeps the others. -/
theorem write_of_no_w1c {r : RegRow} (old v : Word) (w1c : r.w1c = 0) (ctr : r.ctr = 0) :
    r.write old v = (old &&& ~~~ BitVec.ofNat 32 r.rw) ||| (v &&& BitVec.ofNat 32 r.rw) := by
  simp only [RegRow.write, w1c, ctr, ne_eq, not_true, false_and, if_false]
  rw [BitVec.and_zero]
  exact BitVec.and_allOnes

/-- A write gives a field the value written where every bit of the field is RW, and none of the register's is W1C. -/
theorem get_write {r : RegRow} {f : Fld} (old v : Word) (w1c : r.w1c = 0) (ctr : r.ctr = 0)
    (cover : maskOf f.hi f.lo &&& BitVec.ofNat 32 r.rw = maskOf f.hi f.lo) (fits : f.hi < 32) :
    f.get (r.write old v) = f.get v := by
  apply Nat.eq_of_testBit_eq
  intro i
  rw [Fld.testBit_get, Fld.testBit_get]
  by_cases hi : i < f.hi + 1 - f.lo
  · have bit : (BitVec.ofNat 32 r.rw).getLsbD (f.lo + i) = true := by
      have mask : (maskOf f.hi f.lo).getLsbD (f.lo + i) = true := by
        rw [maskOf_getLsbD _ _ _ (by omega)]
        simp [hi]
      have both := congrArg (fun x => x.getLsbD (f.lo + i)) cover
      simpa [mask] using both
    rw [write_of_no_w1c _ _ w1c ctr, BitVec.getLsbD_or, BitVec.getLsbD_and, BitVec.getLsbD_and, BitVec.getLsbD_not, bit]
    simp
  · simp [hi]

/-! Registers of a plane that stand behind no selector. -/

/-- Whether a register has one copy in a plane, whatever the selectors name (R196, R224, R496). -/
def unselected (a : Nat) : Bool :=
  decide (¬ (SW_Q_CFG ≤ a ∧ a < 0x300050) ∧ ¬ (TBL_PORT_LEARNED ≤ a ∧ a ≤ TBL_PORT_MOVE) ∧ ¬ (NS_NET_CFG ≤ a ∧ a < NS_HOLD 8) ∧
    a ∉ [SW_LAG_MEMBERS, TBL_PORT_LEARN_FAIL, TBL_PORT_MOVE, CPH_KPASS, CPH_KFAIL, CPH_KREPLAY, CPH_KTXFAIL])

theorem rowOf_unselected {a : Nat} (h : unselected a = true) (q : Plane) : q.rowOf a = rowAt false a := by
  obtain ⟨queue, table, net, -⟩ := of_decide_eq_true h
  simp only [SW_Q_CFG] at queue
  have there : q.noSuch a = false := by
    simp only [Plane.noSuch, SW_Q_CFG, SW_Q_AGED, SW_PORT_STAT, SW_PORT_NOLAG, table, net, if_false]
    rw [if_neg (by omega), if_neg (by omega)]
  simp [Plane.rowOf, there]

theorem keyOf_unselected {a : Nat} (h : unselected a = true) (q : Plane) : q.keyOf a = a := by
  obtain ⟨queue, -, -, rest⟩ := of_decide_eq_true h
  simp only [SW_Q_CFG, List.mem_cons, List.not_mem_nil, or_false, not_or] at queue rest
  obtain ⟨lag, learn, move, pass, fail, replay, txFail⟩ := rest
  simp only [Plane.keyOf, lag, learn, move, pass, fail, replay, txFail, or_self, if_false]
  rw [if_neg (by omega), if_neg (by omega)]

/-- Such a register after a write of it. -/
theorem rd_baseWrite {a : Nat} (h : unselected a = true) (q : Plane) (r : RegRow) (v : Word) (b : Nat) :
    (q.baseWrite r a v).regs.rd b = if b = a then r.write (q.regs.rd a) v else q.regs.rd b := by
  rw [Plane.baseWrite, keyOf_unselected h]
  exact Regs.rd_wr _ _ _ _

/-! SW_Q_SEL. -/

/-- The row of SW_Q_SEL. -/
def rowQSel : RegRow := ⟨0x300010, 1, 0x0, 1, 0x0, 0x1FF07, 0x0, 0x0, 0x0, false, false, 0, .plane, 0x0⟩

theorem rowOf_qSel (q : Plane) : q.rowOf SW_Q_SEL = some rowQSel := (rowOf_unselected (by decide) q).trans (by decide)

/-- A write of SW_Q_SEL does nothing else than set its fields. -/
theorem applyWrite_qSel (q : Plane) (banked : Bool) (w : Who) (low : Option Word) (v : Word) :
    q.applyWrite banked w rowQSel low SW_Q_SEL v = (q.baseWrite rowQSel SW_Q_SEL v, stOk) := by
  have live : q.deadQueue SW_Q_SEL = false := rfl
  unfold Plane.applyWrite
  rw [live]
  rfl

theorem baseWrite_qSel (q : Plane) (v : Word) : (q.baseWrite rowQSel SW_Q_SEL v).regs.get 0 SW_Q_SEL_PORT = SW_Q_SEL_PORT.get v ∧
    (q.baseWrite rowQSel SW_Q_SEL v).regs.get 0 SW_Q_SEL_CLASS = SW_Q_SEL_CLASS.get v := by
  have rd : (q.baseWrite rowQSel SW_Q_SEL v).regs.rd SW_Q_SEL = rowQSel.write (q.regs.rd SW_Q_SEL) v :=
    (rd_baseWrite (by decide) _ _ _ _).trans (if_pos rfl)
  exact ⟨(congrArg SW_Q_SEL_PORT.get rd).trans (get_write _ _ rfl rfl (by decide) (by decide)),
    (congrArg SW_Q_SEL_CLASS.get rd).trans (get_write _ _ rfl rfl (by decide) (by decide))⟩

/-! The commands. -/

/-- A word of a plane read (R44, R46). -/
theorem mgmtRead_word {s : State} {ep : Fin 8} {tenant : Fin 4096} {tag a : Nat} {p : PlaneId} {r : RegRow} (m : Meets s ep.val p)
    (fits : a < addrSpan) (aligned : a % 4 = 0) (down : inEaves a = false) (row : (s.f.plane p).rowOf a = some r) (unguarded : r.guard = false)
    (plain : r.snap = 0) (h : p ∈ s.f.actors ep.val tenant.val clsMgmtReq tag (saysMgmt a 1 none)) :
    Answers (.mgmtRead ep tenant tag a 1) s (fun g => Answered g p ep.val tenant.val tag
      (mgmtRspBody 0 0 1 a [r.read ((s.f.plane p).takeAdmitted.word s.f.e tenant.val a)]) ∧ g.e = s.f.e) := by
  have acts := actsWith_actors h
  have host : readerOf ⟨ep.val, tenant.val, false⟩ = tenant.val := if_pos ep.isLt
  have done := planeRead_word (f := taken s.f (s.f.actors ep.val tenant.val clsMgmtReq tag (saysMgmt a 1 none)))
    ⟨ep.val, tenant.val, false⟩ acts (by rw [taken_e]; exact m.lead) (by rw [taken_plane acts]; exact row) aligned unguarded plain
  rw [host, taken_plane acts, taken_e] at done
  obtain ⟨g, run, e, sent⟩ := mgmtReq_read fits down h m done (by rw [taken_e]; exact m.lead)
    (by rw [taken_plane acts]; exact alike_takeAdmitted _)
  rw [jobRsp_done] at sent
  exact ⟨g, congrArg Host.Outcome.next run, sent, by rw [e, taken_e]⟩

/-- What a host's request for a word that does not exist leaves (R48, R49). -/
def Fails (s : State) (p : PlaneId) (ep tenant tag a : Nat) (g : Field) : Prop :=
  Answered g p ep tenant tag (mgmtRspBody 2 0 0 a []) ∧ Counted s.f.e.regs g.e.regs DEVICE_BUSERR_CNT 1 ∧
    g.e.regs.get 0 DEVICE_BUSERR_ADDR_ADDR = a ∧ g.e.regs.get 0 DEVICE_BUSERR_ADDR_CAUSE = if a % 4 ≠ 0 then 2 else 1

/-- The dies after a bus error at a plane's word, counted with its address. -/
theorem countBusErr_shows (f : Field) {a : Nat} (fits : a < addrSpan) :
    let f' := countBusErr f (if a % 4 ≠ 0 then 2 else 1) a
    Counted f.e.regs f'.e.regs DEVICE_BUSERR_CNT 1 ∧ f'.e.regs.get 0 DEVICE_BUSERR_ADDR_ADDR = a ∧
      f'.e.regs.get 0 DEVICE_BUSERR_ADDR_CAUSE = if a % 4 ≠ 0 then 2 else 1 :=
  ⟨countBusErr_counted _ _ _, countBusErr_addr _ _ fits, countBusErr_cause _ _ (by split <;> decide)⟩

theorem mgmtRead_fails {s : State} {ep : Fin 8} {tenant : Fin 4096} {tag a : Nat} {p : PlaneId} (m : Meets s ep.val p)
    (fits : a < addrSpan) (down : inEaves a = false) (bad : a % 4 ≠ 0 ∨ (s.f.plane p).rowOf a = none)
    (h : p ∈ s.f.actors ep.val tenant.val clsMgmtReq tag (saysMgmt a 1 none)) :
    Answers (.mgmtRead ep tenant tag a 1) s (Fails s p ep.val tenant.val tag a) := by
  have acts := actsWith_actors h
  have done := planeRead_fault (f := taken s.f (s.f.actors ep.val tenant.val clsMgmtReq tag (saysMgmt a 1 none)))
    ⟨ep.val, tenant.val, false⟩ acts (by rw [taken_e]; exact m.lead) (by rw [taken_plane acts]; exact bad)
  obtain ⟨g, run, e, sent⟩ := mgmtReq_read fits down h m done (by simpa [countBusErr, Eaves.leader] using m.lead)
    (by rw [countBusErr_plane, taken_plane acts]; exact alike_takeAdmitted _)
  rw [jobRsp_busErr] at sent
  have shows := countBusErr_shows (taken s.f (s.f.actors ep.val tenant.val clsMgmtReq tag (saysMgmt a 1 none))) fits
  rw [taken_e] at shows
  exact ⟨g, congrArg Host.Outcome.next run, sent, by rw [e]; exact shows⟩

theorem mgmtWrite_fails {s : State} {ep : Fin 8} {tenant : Fin 4096} {tag a : Nat} {p : PlaneId} (v : Word) (m : Meets s ep.val p)
    (fits : a < addrSpan) (down : inEaves a = false) (bad : a % 4 ≠ 0 ∨ (s.f.plane p).rowOf a = none)
    (h : p ∈ s.f.actors ep.val tenant.val clsMgmtReq tag (saysMgmt a 1 (some [v]))) :
    Answers (.mgmtWrite ep tenant tag a [v]) s (Fails s p ep.val tenant.val tag a) := by
  have acts := actsWith_actors h
  let f := taken s.f (s.f.actors ep.val tenant.val clsMgmtReq tag (saysMgmt a 1 (some [v])))
  have done := planeWrite_fault (s := { s with f := f }) ⟨ep.val, tenant.val, false⟩ v acts (by rw [taken_e]; exact m.lead)
    (by rw [taken_plane acts]; exact bad)
  have alike : Alike ((countBusErr f (if a % 4 ≠ 0 then 2 else 1) a).plane p) (s.f.plane p) := by
    rw [countBusErr_plane, taken_plane acts]; exact alike_takeAdmitted _
  have run := mgmtReq_write fits down h m.lead m.quiet done (by simpa [countBusErr, Eaves.leader, f] using m.lead) alike
  have sent := answered_endJob (tenant := tenant.val) (tag := tag) (a := a) (wr := some v) m acts alike stBusErr 0
  rw [jobRsp_busErr] at sent
  have shows := countBusErr_shows f fits
  rw [taken_e] at shows
  exact ⟨_, congrArg Host.Outcome.next run, sent, by rw [endJob_e]; exact shows⟩

/-- SW_Q_SEL written in every plane that stands at the request (R44, R46). -/
theorem mgmtWrite_qSel {s : State} {ep : Fin 8} {tenant : Fin 4096} {tag : Nat} {p : PlaneId} (v : Word) (m : Meets s ep.val p)
    (h : p ∈ s.f.actors ep.val tenant.val clsMgmtReq tag (saysMgmt SW_Q_SEL 1 (some [v]))) :
    Answers (.mgmtWrite ep tenant tag SW_Q_SEL [v]) s (fun g =>
      Answered g p ep.val tenant.val tag (mgmtRspBody 0 0 1 SW_Q_SEL []) ∧
      ∀ x ∈ s.f.actors ep.val tenant.val clsMgmtReq tag (saysMgmt SW_Q_SEL 1 (some [v])),
        (g.plane x).regs.get 0 SW_Q_SEL_PORT = SW_Q_SEL_PORT.get v ∧ (g.plane x).regs.get 0 SW_Q_SEL_CLASS = SW_Q_SEL_CLASS.get v) := by
  have acts := actsWith_actors h
  let f := taken s.f (s.f.actors ep.val tenant.val clsMgmtReq tag (saysMgmt SW_Q_SEL 1 (some [v])))
  have done := planeWrite_takes (s := { s with f := f }) ⟨ep.val, tenant.val, false⟩ v acts (by rw [taken_e]; exact m.lead)
    (rowOf_qSel _) (by decide) nofun (by decide)
  simp only [applyWrite_qSel, onE_pairWritten_plain (r := rowQSel) rfl] at done
  have alike : Alike ((onActing (s.f.actors ep.val tenant.val clsMgmtReq tag (saysMgmt SW_Q_SEL 1 (some [v])))
      (fun q => q.baseWrite rowQSel SW_Q_SEL v) f).plane p) (s.f.plane p) := by
    rw [plane_onActing_mem acts acts.mem, taken_plane acts]
    exact (alike_baseWrite _ _ _ _).trans (alike_takeAdmitted _)
  have run := mgmtReq_write (by decide) (by decide) h m.lead m.quiet done (by rw [onActing_e, taken_e]; exact m.lead) alike
  have sent := answered_endJob (tenant := tenant.val) (tag := tag) (a := SW_Q_SEL) (wr := some v) m acts alike stOk 0
  rw [jobRsp_done] at sent
  refine ⟨_, congrArg Host.Outcome.next run, sent, fun x hx => ?_⟩
  rw [endJob_regs acts, plane_onActing_mem acts hx]
  exact baseWrite_qSel _ v

/-- A request waits behind the endpoint's last one (R47). -/
theorem mgmtRead_waits {s : State} {ep : Fin 8} {tenant : Fin 4096} {tag a : Nat} {p : PlaneId} (fits : a < addrSpan)
    (h : p ∈ s.f.actors ep.val tenant.val clsMgmtReq tag (saysMgmt a 1 none)) (lead : s.f.e.leader = some p)
    (busy : (nextJob (s.f.plane p) ep.val).isSome = true) :
    Answers (.mgmtRead ep tenant tag a 1) s (fun g => g.e = s.f.e ∧
      (g.plane p).host.admitted = (s.f.plane p).host.admitted.drop 1 ∧
      ∃ j, (g.plane p).st.jobs = (s.f.plane p).st.jobs ++ [j] ∧ j.ep = ep.val ∧ j.tag = tag ∧ j.base = a ∧ j.waiting = false) := by
  have acts := actsWith_actors h
  refine ⟨_, congrArg Host.Outcome.next (mgmtReq_queues fits h lead busy), by rw [onActing_e, taken_e], ?_⟩
  rw [plane_onActing_mem acts acts.mem, taken_plane acts]
  exact ⟨rfl, oneWord ep.val tenant.val tag a none, rfl, rfl, rfl, rfl, rfl⟩

/-- Settles O27: each kind of word by the lemma of its command. -/
theorem hostRequests : Obligations.HostRequests := by
  intro s ep tenant tag p q at_
  refine ⟨fun a fits h lead busy => mgmtRead_waits fits h lead busy, fun lead up sends alone quiet => ?_⟩
  have m : Meets s ep.val p := ⟨lead, up, sends, alone, quiet⟩
  refine ⟨fun a r fits aligned down row unguarded plain h => mgmtRead_word m fits aligned down row unguarded plain h, ?_,
    fun v h => mgmtWrite_qSel v m h, fun a fits down bad => ⟨mgmtRead_fails m fits down bad, fun v => mgmtWrite_fails v m fits down bad⟩⟩
  intro a fits _ inE
  refine ⟨fun h => ?_, fun v h => ?_⟩
  · obtain ⟨g, run, ⟨x, hx, who, addr, val, sent⟩, job⟩ := mgmtReq_eaves (wr := none) fits inE h lead quiet sends
    exact ⟨g, congrArg Host.Outcome.next run, x, hx, who, addr, val, sent, _, job, rfl, rfl, rfl, rfl⟩
  · obtain ⟨g, run, ⟨x, hx, who, addr, val, -⟩, job⟩ := mgmtReq_eaves (wr := some v) fits inE h lead quiet sends
    exact ⟨g, congrArg Host.Outcome.next run, x, hx, who, addr, val, _, job, rfl, rfl, rfl⟩

end Sys2Proof.Management
end

section
/-!
PROOF. Single accesses (R47, R50, R56, R59, R61, R62, R307, R509).
-/

namespace Sys2Proof.Management

open Machine

/-! Where the guarded registers of Eaves stand (R58). -/

theorem rowAt_slot (slow : Bool) {a : Nat} (h : 0x100000 ≤ a ∧ a < 0x180000) :
    rowAt slow a = rowIn (if slow then rowsSLOW else rowsSLOT) (a % 0x1000) := by
  unfold rowAt
  rw [if_neg (by omega), if_neg (by omega), if_neg (by omega), if_neg (by omega), if_neg (by omega), if_neg (by omega), if_pos h.2]

theorem rowAt_eth (slow : Bool) {a : Nat} (h : 0x200000 ≤ a ∧ a < 0x218000) : rowAt slow a = rowIn rowsETH (a % 0x1000) := by
  unfold rowAt
  rw [if_neg (by omega), if_neg (by omega), if_neg (by omega), if_neg (by omega), if_neg (by omega), if_neg (by omega), if_neg (by omega),
    if_neg (by omega), if_neg (by omega), if_neg (by omega), if_neg (by omega), if_pos h.2]

theorem rowAt_t1s (slow : Bool) {a : Nat} (h : 0x280000 ≤ a ∧ a < 0x290000) : rowAt slow a = rowIn rowsT1S (a % 0x1000) := by
  unfold rowAt
  rw [if_neg (by omega), if_neg (by omega), if_neg (by omega), if_neg (by omega), if_neg (by omega), if_neg (by omega), if_neg (by omega),
    if_neg (by omega), if_neg (by omega), if_neg (by omega), if_neg (by omega), if_neg (by omega), if_neg (by omega), if_pos h.2]

/-- A row of Eaves is the map's, for one personality or the other. -/
theorem rowOf_some {e : Eaves} {a : Nat} {r : RegRow} (h : e.rowOf a = some r) : ∃ slow, rowAt slow a = some r := by
  unfold Eaves.rowOf at h
  split at h
  · dsimp only at h
    split at h
    · exact ⟨true, h⟩
    · split at h
      · exact ⟨false, h⟩
      · cases h
  · split at h
    · cases h
    · exact ⟨false, h⟩

/-- A row of a list without guarded rows is not guarded. -/
theorem guard_rowIn {rows : List RegRow} (h : ∀ r ∈ rows, r.guard = false) {o : Nat} {r : RegRow} (row : rowIn rows o = some r) :
    r.guard = false := h r (List.mem_of_find?_eq_some row)

/-- No register of a slot, an Ethernet or a T1S port is guarded. -/
theorem guarded_outside {e : Eaves} {a : Nat} {r : RegRow} (row : e.rowOf a = some r) (guard : r.guard = true) :
    ¬ (0x100000 ≤ a ∧ a < 0x180000) ∧ portAt a = none := by
  obtain ⟨slow, at_⟩ := rowOf_some row
  have free : r.guard ≠ false := by simp [guard]
  refine ⟨fun h => free ?_, ?_⟩
  · rw [rowAt_slot slow h] at at_
    cases slow
    · exact guard_rowIn (rows := rowsSLOT) (by decide) at_
    · exact guard_rowIn (rows := rowsSLOW) (by decide) at_
  · unfold portAt
    rw [if_neg fun h => free (guard_rowIn (by decide) (rowAt_eth slow h ▸ at_)),
      if_neg fun h => free (guard_rowIn (by decide) (rowAt_t1s slow h ▸ at_))]

/-! What the planes learn of a write in Eaves. -/

/-- A write outside the blocks of slots and ports tells the planes nothing. -/
theorem learned_nothing {a : Nat} (slot : ¬ (0x100000 ≤ a ∧ a < 0x180000)) (port : portAt a = none) (q : Plane) (v : Word) :
    (q.linIssued a v).timingKnown a v = q := by
  have lin : q.linIssued a v = q := if_pos (Or.inl fun h => slot ⟨h.1, h.2.1⟩)
  rw [lin]
  unfold Plane.timingKnown
  dsimp only
  rw [if_neg fun h => slot ⟨h.1, h.2.1⟩, port]

/-- A change that changes nothing. -/
theorem onRunning_self (f : Field) {g : Plane → Plane} (h : ∀ q, g q = q) : f.onRunning g = f := by
  have e : g = id := funext h
  subst e
  unfold Field.onRunning
  dsimp only
  split <;> split <;> rfl

/-! A write in Eaves. -/

/-- A management address of Eaves. -/
theorem inEaves_fits {a : Nat} (h : inEaves a = true) : a < addrSpan := by
  unfold inEaves eavesAddr NS_WAKE_PINS at h
  rw [Bool.or_eq_true, decide_eq_true_eq, decide_eq_true_eq] at h
  unfold addrSpan
  omega

/-- A core's write as it takes effect. -/
theorem wordWrite_core {s : State} {init : Fin 11} (core : 8 ≤ init.val) (may : shutOut s init = false) (tenant : Fin 4096) (secure : Bool)
    (a : Nat) (v : Word) : wordWrite s init tenant secure a v = (writeNow s (initiator init tenant secure) a v).1 := by
  have host : ¬ init.val < 8 := by omega
  simp [wordWrite, may, host]

/-- The dies after a core's write in Eaves. -/
theorem wordWrite_eaves {s : State} {init : Fin 11} (core : 8 ≤ init.val) (may : shutOut s init = false) (tenant : Fin 4096) (secure : Bool)
    {a : Nat} (v : Word) (inE : inEaves a = true) {f : Field} {st : Nat}
    (done : eavesWrite s.f (initiator init tenant secure) a v = (f, st)) :
    wordWrite s init tenant secure a v =
      { s with f := if st = stOk then f.onRunning (fun q => (q.linIssued a v).timingKnown a v) else f } := by
  rw [wordWrite_core core may]
  simp only [writeNow, inE, done, if_true]

/-- A write below 2^28 is one of a management word. -/
theorem exec_registerWrite {s : State} {init : Fin 11} {tenant : Fin 4096} {secure : Bool} {a : Fin 536870912} (v : Word)
    (fits : a.val < addrSpan) : exec (.registerWrite init tenant secure a v) s = .next (wordWrite s init tenant secure a.val v) := if_pos fits

/-- The row of FLUE_SEL. -/
def rowFlueSel : RegRow := ⟨0x10010, 1, 0x0, 1, 0x0, 0x7FF, 0x0, 0x0, 0x0, false, false, 0, .device, 0x0⟩

theorem rowOf_flueSel (e : Eaves) : e.rowOf FLUE_SEL = some rowFlueSel := by
  unfold Eaves.rowOf
  rw [if_neg (by decide), if_neg (fun h => absurd h.1 (by decide))]
  decide

/-- FLUE_SEL takes the written fields. -/
theorem eavesWrite_flueSel (f : Field) (w : Who) (v : Word) :
    eavesWrite f w FLUE_SEL v = (f.onE (baseWrite · rowFlueSel FLUE_SEL v), stOk) := by
  unfold eavesWrite
  rw [rowOf_flueSel]
  rfl

/-- A write of FLUE_SEL by a core (R50). -/
theorem registerWrite_flueSel {s : State} {init : Fin 11} (core : 8 ≤ init.val) (may : shutOut s init = false) (tenant : Fin 4096)
    (secure : Bool) (v : Word) : Answers (.registerWrite init tenant secure (Fin.ofNat _ FLUE_SEL) v) s (fun g =>
      g.e.regs.get 0 FLUE_SEL_INDEX = FLUE_SEL_INDEX.get v ∧ g.a = s.f.a ∧ g.b = s.f.b ∧ g.h = s.f.h) := by
  have run := wordWrite_eaves core may tenant secure v (a := FLUE_SEL) (by decide) (eavesWrite_flueSel s.f _ v)
  rw [if_pos rfl, onRunning_self _ (fun q => learned_nothing (by decide) (by decide) q v)] at run
  refine ⟨_, (exec_registerWrite v (by decide)).trans (congrArg Host.Outcome.next run), ?_, rfl, rfl, rfl⟩
  have rd : (baseWrite s.f.e rowFlueSel FLUE_SEL v).regs.rd FLUE_SEL = rowFlueSel.write (s.f.e.regs.rd FLUE_SEL) v := Regs.rd_wr_same _ _ _
  exact (congrArg FLUE_SEL_INDEX.get rd).trans (get_write _ _ rfl rfl (by decide) (by decide))

/-- A guarded register of Eaves written without a session: counted, and nothing else (R59). -/
theorem registerWrite_guarded {s : State} {init : Fin 11} (core : 8 ≤ init.val) (may : shutOut s init = false) {tenant : Fin 4096}
    {secure : Bool} {a : Fin 536870912} (v : Word) {r : RegRow} (inE : inEaves a.val = true) (aligned : a.val % 4 = 0)
    (row : s.f.e.rowOf a.val = some r) (guard : r.guard = true) (shut : authorised s.f (initiator init tenant secure) = false) :
    Answers (.registerWrite init tenant secure a v) s (fun g =>
      g = s.f.onE (fun e => { e with regs := g.e.regs }) ∧ Counted s.f.e.regs g.e.regs DEVICE_GUARD_CNT 1 ∧
      ∀ x, x ≠ DEVICE_GUARD_CNT → g.e.regs.rd x = s.f.e.regs.rd x) := by
  have done : eavesWrite s.f (initiator init tenant secure) a.val v = (guardMiss s.f, stOk) := by
    unfold eavesWrite
    simp only [row, accessFault_none aligned, guard, shut, and_self, if_true]
  have run := wordWrite_eaves core may tenant secure v inE done
  obtain ⟨slot, port⟩ := guarded_outside row guard
  rw [if_pos rfl, onRunning_self _ (fun q => learned_nothing slot port q v)] at run
  exact ⟨_, (exec_registerWrite v (inEaves_fits inE)).trans (congrArg Host.Outcome.next run), rfl, guardMiss_counted _,
    fun x ne => rd_inc_other _ ne⟩

/-- An unaligned write is a bus error (R48). -/
theorem registerWrite_unaligned {s : State} {init : Fin 11} (core : 8 ≤ init.val) (may : shutOut s init = false) (tenant : Fin 4096)
    (secure : Bool) {a : Fin 536870912} (v : Word) (inE : inEaves a.val = true) (bad : a.val % 4 ≠ 0) :
    Answers (.registerWrite init tenant secure a v) s (fun g => Counted s.f.e.regs g.e.regs DEVICE_BUSERR_CNT 1 ∧
      g.e.regs.get 0 DEVICE_BUSERR_ADDR_ADDR = a.val ∧ g.e.regs.get 0 DEVICE_BUSERR_ADDR_CAUSE = 2) := by
  have done : eavesWrite s.f (initiator init tenant secure) a.val v = (countBusErr s.f 2 a.val, stBusErr) := by
    unfold eavesWrite
    simp only [accessFault_some (Or.inl bad), if_pos bad]
  have run := wordWrite_eaves core may tenant secure v inE done
  rw [if_neg (by decide)] at run
  exact ⟨_, (exec_registerWrite v (inEaves_fits inE)).trans (congrArg Host.Outcome.next run), countBusErr_counted _ _ _,
    countBusErr_addr _ _ (inEaves_fits inE), countBusErr_cause _ _ (by decide)⟩

/-! SNAP pairs of Eaves (R61). -/

/-- A field of an Ethernet port leaves the registers below the ports. -/
theorem rd_etSet_low (e : Eaves) (n : Nat) (f : Fld) (v : Nat) {b : Nat} (hb : b < ethBase 0) : (e.etSet n f v).regs.rd b = e.regs.rd b := by
  have ne : b ≠ ethBase n + f.reg := by
    unfold ethBase at *
    omega
  rw [Eaves.etSet, Eaves.onRegs_regs, Regs.rd_set, if_neg ne]

/-- Taking and releasing the lock of a mailbox window changes the slot alone (R111). -/
theorem mboxLock_leaves (e : Eaves) (n who : Nat) : (e.mboxLock n who).snaps = e.snaps ∧ (e.mboxLock n who).regs = e.regs := by
  unfold Eaves.mboxLock
  split <;> exact ⟨rfl, rfl⟩

theorem mboxLast_leaves (e : Eaves) (n who : Nat) : (e.mboxLast n who).snaps = e.snaps ∧ (e.mboxLast n who).regs = e.regs := by
  unfold Eaves.mboxLast
  split
  · split <;> exact ⟨rfl, rfl⟩
  · exact ⟨rfl, rfl⟩

/-- What a read changes beside its snapshot: no snapshot, and of the registers only those of an Ethernet port. -/
theorem readEffect_leaves (e : Eaves) (init a : Nat) : (readEffect e init a).snaps = e.snaps ∧
    ∀ b < ethBase 0, (readEffect e init a).regs.rd b = e.regs.rd b := by
  unfold readEffect
  dsimp only
  split
  · split
    · exact ⟨rfl, fun _ _ => rfl⟩
    · split
      · obtain ⟨snaps, regs⟩ := mboxLock_leaves e ((a - 0x100000) / 0x1000) init
        exact ⟨snaps, fun b _ => by rw [regs]⟩
      · split
        · obtain ⟨snaps, regs⟩ := mboxLast_leaves e ((a - 0x100000) / 0x1000) init
          exact ⟨snaps, fun b _ => by rw [regs]⟩
        · exact ⟨rfl, fun _ _ => rfl⟩
  · split
    · exact ⟨Eaves.onRegs_snaps _ _, fun b hb => rd_etSet_low e _ _ _ hb⟩
    · exact ⟨rfl, fun _ _ => rfl⟩

/-- A read in Eaves that passes its checks. -/
theorem eavesRead_open {f : Field} {w : Who} {a : Nat} {r : RegRow} (aligned : a % 4 = 0) (row : f.e.rowOf a = some r)
    (unguarded : r.guard = false) (free : windowBusy f.e w.init a = false) :
    let read := f.e.snapRead w.init r a (r.read (liveWord f w.init a)) (f.eavesWord w.init (a + 4))
    eavesRead f w a = ({ f with e := readEffect read.1 w.init a }, stOk, read.2) := by
  unfold eavesRead
  simp only [row, accessFault_none aligned, unguarded, free, Bool.false_eq_true, false_and, if_false]

/-- The dies after a core's read in Eaves. -/
theorem wordRead_eaves {s : State} {init : Fin 11} (core : 8 ≤ init.val) (may : shutOut s init = false) (tenant : Fin 4096) (secure : Bool)
    {a : Nat} {r : RegRow} (inE : inEaves a = true) (aligned : a % 4 = 0) (row : s.f.e.rowOf a = some r) (unguarded : r.guard = false)
    (free : windowBusy s.f.e init.val a = false) :
    let read := s.f.e.snapRead init.val r a (r.read (liveWord s.f init.val a)) (s.f.eavesWord init.val (a + 4))
    wordRead s init tenant secure a = { s with f := { s.f with e := readEffect read.1 init.val a } } := by
  have host : ¬ init.val < 8 := by omega
  simp only [wordRead, may, host, Bool.false_eq_true, if_false, readNow, inE, if_true,
    eavesRead_open (w := initiator init tenant secure) aligned row unguarded free]
  rfl

/-- The kind of a word whose row is known. -/
theorem snapKind_eq {f : Field} {a : Nat} {r : RegRow} (row : f.e.rowOf a = some r) : snapKind f a = r.snap := by
  rw [snapKind, row]
  rfl

/-- A read of a SNAP low word keeps the high word for its reader (R61). -/
theorem snapLowRead_latches {s : State} {init : Fin 11} (core : 8 ≤ init.val) (may : shutOut s init = false) (tenant : Fin 4096)
    (secure : Bool) {a : Fin 268435456} {r : RegRow} (inE : inEaves a.val = true) (aligned : a.val % 4 = 0)
    (row : s.f.e.rowOf a.val = some r) (unguarded : r.guard = false) (free : windowBusy s.f.e init.val a.val = false) (low : r.snap = 1) :
    Answers (.snapLowRead init tenant secure (Fin.ofNat _ a.val)) s (fun g =>
      tagged g.e.snaps init.val (a.val + 4) = some (s.f.eavesWord init.val (a.val + 4))) := by
  have val : (Fin.ofNat 536870912 a.val).val = a.val := Nat.mod_eq_of_lt (by omega)
  have run : exec (.snapLowRead init tenant secure (Fin.ofNat _ a.val)) s = .next (wordRead s init tenant secure a.val) := by
    show execSnapLowRead init tenant secure (Fin.ofNat _ a.val) s = _
    rw [execSnapLowRead, val, if_neg (by unfold addrSpan; omega), if_pos ((snapKind_eq row).trans low)]
  refine ⟨_, run.trans (congrArg Host.Outcome.next (wordRead_eaves core may tenant secure inE aligned row unguarded free)), ?_⟩
  dsimp only
  rw [(readEffect_leaves _ _ _).1, Eaves.snapRead, if_pos low]
  simp [tagged, Eaves.latch]

/-- A read of a SNAP high word without a held one is counted (R61). -/
theorem snapHighRead_misses {s : State} {init : Fin 11} (core : 8 ≤ init.val) (may : shutOut s init = false) (tenant : Fin 4096)
    (secure : Bool) {a : Fin 268435456} {r : RegRow} (inE : inEaves a.val = true) (aligned : a.val % 4 = 0)
    (row : s.f.e.rowOf a.val = some r) (unguarded : r.guard = false) (free : windowBusy s.f.e init.val a.val = false) (high : r.snap = 2)
    (none_held : tagged s.f.e.snaps init.val a.val = none) :
    Answers (.snapHighRead init tenant secure a) s (fun g =>
      Counted s.f.e.regs g.e.regs DEVICE_SNAPMISS_CNT 1 ∧ g.e.snaps = s.f.e.snaps) := by
  have run : exec (.snapHighRead init tenant secure a) s = .next (wordRead s init tenant secure a.val) :=
    if_pos ((snapKind_eq row).trans high)
  refine ⟨_, run.trans (congrArg Host.Outcome.next (wordRead_eaves core may tenant secure inE aligned row unguarded free)), ?_⟩
  have missed : ∀ v hi, s.f.e.snapRead init.val r a.val v hi = (s.f.e.onRegs (·.inc DEVICE_SNAPMISS_CNT), v) := by
    intro v hi
    rw [Eaves.snapRead, if_neg (by rw [high]; decide), if_pos high, Eaves.highRead, none_held]
  dsimp only
  rw [missed]
  obtain ⟨snaps, regs⟩ := readEffect_leaves (s.f.e.onRegs (·.inc DEVICE_SNAPMISS_CNT)) init.val a.val
  refine ⟨?_, snaps⟩
  unfold Counted
  rw [regs _ (by decide)]
  exact counted_inc _ _

/-! Posted writes (R56). -/

/-- A posted write of a core. -/
theorem exec_postedWrite {s : State} {init : Fin 11} {tenant : Fin 4096} {secure : Bool} {a : Fin 268435456} (v : Word) {r : RegRow}
    (row : s.f.e.rowOf a.val = some r) (pw : r.pw = true) :
    exec (.postedWrite init tenant secure a v) s = .next (wordWrite s init tenant secure a.val v) := by
  refine if_pos ?_
  rw [row]
  exact pw

theorem eavesWrite_posted {f : Field} {a : Nat} {r : RegRow} (w : Who) (v : Word) (aligned : a % 4 = 0) (row : f.e.rowOf a = some r)
    (pw : r.pw = true) (unguarded : r.guard = false) : eavesWrite f w a v = postWrite f (postBase a) a v := by
  unfold eavesWrite
  simp only [row, accessFault_none aligned, unguarded, Bool.false_eq_true, false_and, if_false, eavesApply, pw, if_true]

/-- A posted write waits (R56). -/
theorem postedWrite_waits {s : State} {init : Fin 11} (core : 8 ≤ init.val) (may : shutOut s init = false) (tenant : Fin 4096)
    (secure : Bool) {a : Fin 268435456} (v : Word) {r : RegRow} (inE : inEaves a.val = true) (aligned : a.val % 4 = 0)
    (row : s.f.e.rowOf a.val = some r) (pw : r.pw = true) (unguarded : r.guard = false) (free : s.f.e.postBusy (postBase a.val) = false) :
    Answers (.postedWrite init tenant secure a v) s (fun g =>
      sget (fun _ => none) g.e.posted (postBase a.val) = some (a.val, v) ∧ g.e.regs = s.f.e.regs) := by
  have done := eavesWrite_posted (initiator init tenant secure) v aligned row pw unguarded
  rw [postWrite, if_neg (by simp [free])] at done
  refine ⟨_, (exec_postedWrite v row pw).trans (congrArg Host.Outcome.next (wordWrite_eaves core may tenant secure v inE done)), ?_⟩
  dsimp only
  rw [if_pos rfl, Field.onRunning_e, Field.onE_e]
  exact ⟨sget_sput_same (fun _ => none) s.f.e.posted (postBase a.val) (some (a.val, v)), rfl⟩

/-- A second posted write of a block is a bus error (R56). -/
theorem postedWrite_busy {s : State} {init : Fin 11} (core : 8 ≤ init.val) (may : shutOut s init = false) (tenant : Fin 4096)
    (secure : Bool) {a : Fin 268435456} (v : Word) {r : RegRow} (inE : inEaves a.val = true) (aligned : a.val % 4 = 0)
    (row : s.f.e.rowOf a.val = some r) (pw : r.pw = true) (unguarded : r.guard = false) (busy : s.f.e.postBusy (postBase a.val) = true) :
    Answers (.postedWrite init tenant secure a v) s (fun g => Counted s.f.e.regs g.e.regs DEVICE_BUSERR_CNT 1 ∧
      g.e.regs.get 0 DEVICE_BUSERR_ADDR_CAUSE = 3 ∧ g.e.posted = s.f.e.posted) := by
  have done := eavesWrite_posted (initiator init tenant secure) v aligned row pw unguarded
  rw [postWrite, if_pos busy] at done
  have run := wordWrite_eaves core may tenant secure v inE done
  rw [if_neg (by decide)] at run
  exact ⟨_, (exec_postedWrite v row pw).trans (congrArg Host.Outcome.next run), countBusErr_counted _ _ _,
    countBusErr_cause _ _ (by decide), rfl⟩

/-! The 64-bit pair TRUSS_CUT_AT (R62). -/

/-- The planes that act on a write of one word: those that stand at the host's request for it, or for a core those in a running role. -/
def actingOn (s : State) (init : Fin 11) (tenant : Fin 4096) (a : Nat) (v : Word) : List PlaneId :=
  if init.val < 8 then
    (wordTag s.f init.val tenant.val (saysMgmt a 1 (some [v]))).elim []
      (fun tag => s.f.actors init.val tenant.val clsMgmtReq tag (saysMgmt a 1 (some [v])))
  else if shutOut s init then [] else runners s.f

/-- A host's guarded access is one of its TENANT (R58). -/
theorem initiator_host {init : Fin 11} (host : init.val < 8) (tenant : Fin 4096) (secure : Bool) :
    initiator init tenant secure = ⟨init.val, tenant.val, false⟩ := by
  have core : ¬ 8 ≤ init.val := by omega
  have ball : ¬ init.val = 10 := by omega
  simp [initiator, core, ball]

/-- The held words of a pair do not touch the roles. -/
theorem pairWritten_leader (r : RegRow) (init a : Nat) (v : Word) (e : Eaves) : (pairWritten r init a v e).leader = e.leader := by
  unfold pairWritten
  split
  · split
    · rfl
    · split <;> rfl
  · rfl

/-- The planes `acting` have changed their registers by `regs` and Eaves has become `e`; no other register of a plane has changed. -/
def ChangesRegs (s : State) (acting : List PlaneId) (regs : Regs → Regs) (e : Eaves) (t : State) : Prop :=
  ∃ g : Field, t = { s with f := g } ∧ g.e = e ∧
    ∀ x, (g.plane x).regs = if x ∈ acting then regs (s.f.plane x).regs else (s.f.plane x).regs

section

variable {s : State} {init : Fin 11} {tenant : Fin 4096} {secure : Bool} {a : Nat} {v : Word} {p : PlaneId} {r : RegRow}
  {regs : Regs → Regs} (h : p ∈ actingOn s init tenant a v) (lead : s.f.e.leader = some p) (quiet : nextJob (s.f.plane p) init.val = none)
  (session : (s.f.plane p).hasSession (initiator init tenant secure).guardAs = true) (fits : a < addrSpan) (down : inEaves a = false)
  (aligned : a % 4 = 0) (within : a ∉ beyondRegs) (row : ∀ q : Plane, q.rowOf a = some r)
  (takes : ∀ (q : Plane) (banked : Bool) (w : Who), q.applyWrite banked w r (s.f.e.heldLow init.val a) a v = (q.onRegs regs, stOk))

include h lead session down aligned within row takes

/-- A core's write that each acting plane takes as a change of its registers. -/
theorem wordWrite_acting_core (core : 8 ≤ init.val) :
    ChangesRegs s (actingOn s init tenant a v) regs (pairWritten r init.val a v s.f.e) (wordWrite s init tenant secure a v) := by
  have host : ¬ init.val < 8 := by omega
  have may : shutOut s init = false := by
    by_contra no
    simp [actingOn, host, no] at h
  have acting : actingOn s init tenant a v = runners s.f := by simp [actingOn, host, may]
  rw [acting] at h ⊢
  have acts := actsWith_runners h
  have done := planeWrite_takes (initiator init tenant secure) v acts lead (row _) aligned (fun _ => session) within
  have reader : (initiator init tenant secure).init = init.val := rfl
  simp only [reader, takes] at done
  refine ⟨(onActing (runners s.f) (fun q => q.onRegs regs) s.f).onE (pairWritten r init.val a v),
    (wordWrite_core core may tenant secure a v).trans ?_, ?_, fun x => ?_⟩
  · simp only [writeNow, down, acts.ne_nil, Bool.false_eq_true, if_false, done]
  · rw [Field.onE_e, onActing_e]
  · rw [Field.plane_onE, plane_onActing acts]
    split <;> rfl

include quiet fits

/-- A host's write that each plane at its request takes as a change of its registers: the request is answered beside. -/
theorem wordWrite_acting_host (host : init.val < 8) :
    ChangesRegs s (actingOn s init tenant a v) regs (pairWritten r init.val a v s.f.e) (wordWrite s init tenant secure a v) := by
  cases found : wordTag s.f init.val tenant.val (saysMgmt a 1 (some [v])) with
  | none => simp [actingOn, host, found] at h
  | some tag =>
    have acting : actingOn s init tenant a v = s.f.actors init.val tenant.val clsMgmtReq tag (saysMgmt a 1 (some [v])) := by
      simp [actingOn, host, found]
    rw [acting] at h ⊢
    have acts := actsWith_actors h
    rw [initiator_host host] at session
    let f := taken s.f (s.f.actors init.val tenant.val clsMgmtReq tag (saysMgmt a 1 (some [v])))
    have fe : f.e = s.f.e := taken_e _ _
    have done := planeWrite_takes (s := { s with f := f }) ⟨init.val, tenant.val, false⟩ v acts (by rw [fe]; exact lead) (row _) aligned
      (fun _ => by rw [taken_plane acts]; exact session) within
    simp only [fe, takes] at done
    have run : wordWrite s init tenant secure a v = mgmtReq s init.val tenant.val tag a 1 (some [v]) := by
      have ball : ¬ init.val = 10 := by omega
      simp [wordWrite, shutOut, ball, host, hostWord, found]
    refine ⟨_, run.trans (mgmtReq_write fits down h lead quiet done ?_ ?_), ?_, fun x => ?_⟩
    · rw [Field.onE_e, pairWritten_leader, onActing_e, fe]; exact lead
    · rw [Field.plane_onE, plane_onActing_mem acts acts.mem, taken_plane acts]; exact ⟨rfl, rfl, rfl⟩
    · rw [endJob_e, Field.onE_e, onActing_e, fe]
    · rw [endJob_regs acts, Field.plane_onE, plane_onActing acts]
      have same : (f.plane x).regs = (s.f.plane x).regs := onActing_regs acts (g := (·.takeAdmitted)) (fun _ => rfl) s.f x
      split
      · exact congrArg regs same
      · exact same

theorem wordWrite_acting :
    ChangesRegs s (actingOn s init tenant a v) regs (pairWritten r init.val a v s.f.e) (wordWrite s init tenant secure a v) := by
  by_cases host : init.val < 8
  · exact wordWrite_acting_host h lead quiet session fits down aligned within row takes host
  · exact wordWrite_acting_core h lead session down aligned within row takes (by omega)

end

/-- The rows of TRUSS_CUT_AT. -/
def rowCutLow : RegRow := ⟨0x900024, 1, 0x0, 1, 0x0, 0xFFFFFFFF, 0x0, 0x0, 0x0, true, false, 1, .device, 0x0⟩

@[inherit_doc rowCutLow]
def rowCutHigh : RegRow := ⟨0x900028, 1, 0x0, 1, 0x0, 0xFFFFFFFF, 0x0, 0x0, 0x0, true, false, 2, .device, 0x0⟩

theorem rowOf_cutLow (q : Plane) : q.rowOf TRUSS_CUT_AT_LO = some rowCutLow := (rowOf_unselected (by decide) q).trans (by decide)

theorem rowOf_cutHigh (q : Plane) : q.rowOf (TRUSS_CUT_AT_LO + 4) = some rowCutHigh := (rowOf_unselected (by decide) q).trans (by decide)

/-- Every bit of a register whose bits are all RW takes the value written. -/
theorem write_full {r : RegRow} (old v : Word) (full : BitVec.ofNat 32 r.rw = BitVec.allOnes 32) (w1c : r.w1c = 0) (ctr : r.ctr = 0) :
    r.write old v = v := by
  rw [write_of_no_w1c _ _ w1c ctr, full, BitVec.not_allOnes, BitVec.and_zero, BitVec.and_allOnes, BitVec.zero_or]

/-- A write of such a register that stands behind no selector. -/
theorem baseWrite_full {a : Nat} (plain : unselected a = true) {r : RegRow} (full : BitVec.ofNat 32 r.rw = BitVec.allOnes 32)
    (w1c : r.w1c = 0) (ctr : r.ctr = 0) (q : Plane) (v : Word) : q.baseWrite r a v = q.onRegs (·.wr a v) := by
  rw [Plane.baseWrite, keyOf_unselected plain]
  simp only [write_full _ v full w1c ctr]

/-- Both halves of TRUSS_CUT_AT, with the held low word where there is one (R62). -/
def putCut (low : Option Word) (v : Word) (m : Regs) : Regs := (low.elim m (m.wr TRUSS_CUT_AT_LO ·)).wr (TRUSS_CUT_AT_LO + 4) v

theorem putCut_rd64 (low : Option Word) (v : Word) (m : Regs) :
    (putCut low v m).rd64 TRUSS_CUT_AT_LO = (low.getD (m.rd TRUSS_CUT_AT_LO)).toNat + 2 ^ 32 * v.toNat := by
  unfold Regs.rd64 putCut
  rw [Regs.rd_wr_same, Regs.rd_wr_other _ _ (by decide)]
  cases low with
  | none => rfl
  | some x => exact congrArg (fun w : Word => w.toNat + 2 ^ 32 * v.toNat) (Regs.rd_wr_same m TRUSS_CUT_AT_LO x)

/-- A write of the low word changes no plane: it is held (R62). -/
theorem applyWrite_cutLow (q : Plane) (banked : Bool) (w : Who) (low : Option Word) (v : Word) :
    q.applyWrite banked w rowCutLow low TRUSS_CUT_AT_LO v = (q.onRegs id, stOk) := by
  have live : q.deadQueue TRUSS_CUT_AT_LO = false := rfl
  unfold Plane.applyWrite
  rw [live]
  rfl

/-- Both halves are registers of their own. -/
theorem writeHigh_cut (q : Plane) (low : Option Word) (v : Word) :
    q.writeHigh rowCutHigh (TRUSS_CUT_AT_LO + 4) low v = q.onRegs (putCut low v) := by
  have full : BitVec.ofNat 32 rowCutHigh.rw = BitVec.allOnes 32 := rfl
  cases low with
  | none => exact baseWrite_full (by decide) full rfl rfl q v
  | some x =>
    have first : q.baseWrite { rowCutHigh with off := TRUSS_CUT_AT_LO } TRUSS_CUT_AT_LO x = q.onRegs (·.wr TRUSS_CUT_AT_LO x) :=
      baseWrite_full (by decide) full rfl rfl q x
    exact (congrArg (Plane.baseWrite · rowCutHigh (TRUSS_CUT_AT_LO + 4) v) first).trans (baseWrite_full (by decide) full rfl rfl _ v)

/-- A write of the high word applies both halves in one update (R62). -/
theorem applyWrite_cutHigh (q : Plane) (banked : Bool) (w : Who) (low : Option Word) (v : Word) :
    q.applyWrite banked w rowCutHigh low (TRUSS_CUT_AT_LO + 4) v = (q.onRegs (putCut low v), stOk) := by
  have live : q.deadQueue (TRUSS_CUT_AT_LO + 4) = false := rfl
  rw [← writeHigh_cut]
  unfold Plane.applyWrite
  rw [live]
  rfl

/-- Both halves have their rows under every FLUE_SEL. -/
theorem rowOf_cut (e : Eaves) : e.rowOf TRUSS_CUT_AT_LO = some rowCutLow ∧ e.rowOf (TRUSS_CUT_AT_LO + 4) = some rowCutHigh := by
  unfold Eaves.rowOf
  rw [if_neg (by decide), if_neg (fun h => absurd h.2.1 (by decide)), if_neg (by decide), if_neg (fun h => absurd h.2.1 (by decide))]
  decide

theorem exec_snapLowWrite {s : State} {init : Fin 11} {tenant : Fin 4096} {secure : Bool} {a : Fin 268435456} (v : Word)
    (low : snapKind s.f a.val = 1) :
    exec (.snapLowWrite init tenant secure a v) s = .next (wordWrite s init tenant secure a.val v) := if_pos low

theorem exec_snapHighWrite {s : State} {init : Fin 11} {tenant : Fin 4096} {secure : Bool} {a : Fin 268435456} (v : Word)
    (high : snapKind s.f a.val = 2) :
    exec (.snapHighWrite init tenant secure a v) s = .next (wordWrite s init tenant secure a.val v) := if_pos high

/-- The low word written is held for the initiator, and no register changes (R62). -/
theorem snapLowWrite_holds {s : State} {init : Fin 11} {tenant : Fin 4096} {secure : Bool} {v : Word} {p : PlaneId}
    (h : p ∈ actingOn s init tenant TRUSS_CUT_AT_LO v) (lead : s.f.e.leader = some p) (quiet : nextJob (s.f.plane p) init.val = none)
    (session : (s.f.plane p).hasSession (initiator init tenant secure).guardAs = true) :
    Answers (.snapLowWrite init tenant secure (Fin.ofNat _ TRUSS_CUT_AT_LO) v) s (fun g =>
      tagged g.e.holds init.val TRUSS_CUT_AT_LO = some v ∧ ∀ x, (g.plane x).regs = (s.f.plane x).regs) := by
  obtain ⟨g, done, e, regs⟩ := wordWrite_acting (regs := id) h lead quiet session (by decide) (by decide) (by decide) (by decide) rowOf_cutLow
    (fun q banked w => applyWrite_cutLow q banked w _ v)
  have run := exec_snapLowWrite (init := init) (tenant := tenant) (secure := secure) (a := Fin.ofNat _ TRUSS_CUT_AT_LO) v
    (snapKind_eq (rowOf_cut s.f.e).1)
  refine ⟨g, run.trans (congrArg Host.Outcome.next done), ?_, fun x => (regs x).trans (ite_self _)⟩
  have held : g.e = s.f.e.holdLow init.val TRUSS_CUT_AT_LO v := e
  simp [held, tagged, Eaves.holdLow]

/-- The write of the high word applies both halves in every plane that acts, and the held one is gone (R62). -/
theorem snapHighWrite_applies {s : State} {init : Fin 11} {tenant : Fin 4096} {secure : Bool} {v : Word} {p : PlaneId}
    (h : p ∈ actingOn s init tenant (TRUSS_CUT_AT_LO + 4) v) (lead : s.f.e.leader = some p)
    (quiet : nextJob (s.f.plane p) init.val = none)
    (session : (s.f.plane p).hasSession (initiator init tenant secure).guardAs = true) :
    Answers (.snapHighWrite init tenant secure (Fin.ofNat _ (TRUSS_CUT_AT_LO + 4)) v) s (fun g =>
      tagged g.e.holds init.val TRUSS_CUT_AT_LO = none ∧ ∀ x ∈ actingOn s init tenant (TRUSS_CUT_AT_LO + 4) v,
        (g.plane x).regs.rd64 TRUSS_CUT_AT_LO =
          ((tagged s.f.e.holds init.val TRUSS_CUT_AT_LO).getD ((s.f.plane x).regs.rd TRUSS_CUT_AT_LO)).toNat + 2 ^ 32 * v.toNat) := by
  obtain ⟨g, done, e, regs⟩ := wordWrite_acting h lead quiet session (by decide) (by decide) (by decide) (by decide) rowOf_cutHigh
    (fun q banked w => applyWrite_cutHigh q banked w _ v)
  have run := exec_snapHighWrite (init := init) (tenant := tenant) (secure := secure) (a := Fin.ofNat _ (TRUSS_CUT_AT_LO + 4)) v
    (snapKind_eq (rowOf_cut s.f.e).2)
  refine ⟨g, run.trans (congrArg Host.Outcome.next done), ?_, fun x acts => ?_⟩
  · have dropped : g.e = s.f.e.dropHeld init.val := e
    simp [dropped, tagged, Eaves.dropHeld]
  · rw [regs x, if_pos acts]
    exact putCut_rd64 _ v _

/-! A write at any address. -/

/-- A write above the management addresses is one of the host's own BARs (R307). -/
theorem registerWrite_bar {s : State} {init : Fin 11} (tenant : Fin 4096) (secure : Bool) {a : Fin 536870912} (v : Word)
    (above : addrSpan ≤ a.val) : Answers (.registerWrite init tenant secure a v) s (fun g =>
      g = if init.val < 8 then hostBar s.f init.val (a.val - addrSpan) v else s.f) := by
  have run : exec (.registerWrite init tenant secure a v) s =
      if init.val < 8 then s.ok (hostBar s.f init.val (a.val - addrSpan) v) else s.ok s.f := if_neg (by omega)
  rw [Answers, run]
  split
  · exact ⟨_, rfl, rfl⟩
  · exact ⟨_, rfl, rfl⟩

/-- Closed test balls write nothing (R509). -/
theorem registerWrite_shutOut {s : State} {init : Fin 11} (tenant : Fin 4096) (secure : Bool) {a : Fin 536870912} (v : Word)
    (fits : a.val < addrSpan) (shut : shutOut s init = true) : Answers (.registerWrite init tenant secure a v) s (fun g => g = s.f) :=
  ⟨s.f, (exec_registerWrite v fits).trans (congrArg Host.Outcome.next (if_pos shut)), rfl⟩

/-- A host's single write is the request that writes its word (R47). -/
theorem registerWrite_host {s : State} {init : Fin 11} {tenant : Fin 4096} {secure : Bool} {a : Fin 536870912} {v : Word} {ep : Fin 8}
    {tag : Nat} (fits : a.val < addrSpan) (host : init.val = ep.val)
    (found : wordTag s.f ep.val tenant.val (saysMgmt a.val 1 (some [v])) = some tag) :
    exec (.registerWrite init tenant secure a v) s = exec (.mgmtWrite ep tenant tag a.val [v]) s := by
  refine (exec_registerWrite v fits).trans (congrArg Host.Outcome.next ?_)
  have ball : ¬ ep.val = 10 := by omega
  simp [wordWrite, shutOut, hostWord, host, ball, found]

/-- The planes that the statement names are those that act. -/
theorem actingOn_eq (s : State) (init : Fin 11) (tenant : Fin 4096) (a : Nat) (v : Word) :
    actingOn s init tenant a v =
      if init.val < 8 then
        match wordTag s.f init.val tenant.val (saysMgmt a 1 (some [v])) with
        | some tag => s.f.actors init.val tenant.val clsMgmtReq tag (saysMgmt a 1 (some [v]))
        | none => []
      else if shutOut s init then [] else runners s.f := by
  unfold actingOn
  cases wordTag s.f init.val tenant.val (saysMgmt a 1 (some [v])) <;> rfl

/-- Settles O28: each single access is that of its word: the write of one register, the read or write of one half of a SNAP pair, or the post. -/
theorem singleAccesses : Obligations.SingleAccesses := by
  intro s init tenant secure w
  refine ⟨fun a v => ⟨registerWrite_bar tenant secure v, registerWrite_shutOut tenant secure v,
    fun ep tag fits host found => registerWrite_host fits host found⟩, fun core may => ⟨?_, ?_, ?_, ?_, ?_⟩, ?_⟩
  · exact registerWrite_flueSel core may tenant secure
  · exact fun a v r inE aligned row guard shut => registerWrite_guarded core may v inE aligned row guard shut
  · exact fun a v inE bad => registerWrite_unaligned core may tenant secure v inE bad
  · exact fun a r inE aligned row unguarded free => ⟨snapLowRead_latches core may tenant secure inE aligned row unguarded free,
      snapHighRead_misses core may tenant secure inE aligned row unguarded free⟩
  · exact fun a v r inE aligned row pw unguarded => ⟨postedWrite_waits core may tenant secure v inE aligned row pw unguarded,
      postedWrite_busy core may tenant secure v inE aligned row pw unguarded⟩
  · intro acting p v lead session quiet
    have same : acting = actingOn s init tenant := funext fun a => funext fun v => (actingOn_eq s init tenant a v).symm
    rw [same]
    exact ⟨fun h => snapLowWrite_holds h lead quiet session, fun h => snapHighWrite_applies h lead quiet session⟩

end Sys2Proof.Management
end
